-- ==== Sys2Proof/Word.lean ====
section
/-! DEFINITION. Sys2Proof/Word.lean: the word types of the manual (R55, R80, R127). -/

namespace Sys2Proof

/-- A 32-bit lane or memory word. -/
abbrev Word := BitVec 32
/-- A 64-bit scalar register or address. -/
abbrev Dword := BitVec 64
/-- A 16-bit label handle (R80). -/
abbrev Handle := BitVec 16
/-- A byte of memory. -/
abbrev Byte := BitVec 8
/-- A word with its handle, written and read as one unit (R46). -/
abbrev LWord := Word × Handle

end Sys2Proof
end

