-- ==== Sys2Proof/Syntax.lean ====
section
/-! DEFINITION. Sys2Proof/Syntax.lean: every row of spec/opcode_table.json as a constructor of `Instr`: the 210 issued
instructions of R136 (a row split by a KIND, VERD, TX or MODE field is a constructor of its own) and the 89 steps that the
module takes between issues. An issued instruction carries its control field (R129) and exactly the fields its entry names. -/

namespace Sys2Proof

/-- The control field above OP and LEN (R129): WAIT, ALLOC, PB, PA, GAP, Y. -/
structure Ctl where
  wait : BitVec 7
  alloc : BitVec 3
  pb : BitVec 2
  pa : BitVec 2
  gap : BitVec 3
  y : BitVec 1
deriving DecidableEq, Repr, Inhabited

/-- The modifier subfields that F64 and F96 vector forms share (R132): MREG, ME, MU, BS, RM, TY. -/
structure VMod where
  mreg : BitVec 5
  me : BitVec 1
  mu : BitVec 1
  bs : BitVec 1
  rm : BitVec 2
  ty : BitVec 3
deriving DecidableEq, Repr, Inhabited

/-- A general register: scalar s0 to s31 or vector v0 to v31 (R104). -/
inductive RegRef where
  | s (n : BitVec 5)
  | v (n : BitVec 5)
deriving DecidableEq, Repr, Inhabited

/-- Where an uncorrectable error arises (R19, R363). -/
inductive ErrSite where
  /-- a 32-byte sector of memory, by physical address / 32 -/
  | sector (n : Nat)
  /-- a register-cache line -/
  | reg (core ctx : Nat) (r : RegRef)
  /-- a 32-bit word of a core's local memory -/
  | local (core word : Nat)
  /-- an accumulator word of a cluster -/
  | acc (cluster bank row col : Nat)
  /-- an operand word of a running matrix operation of a cluster, by member, operand, latched register and lane -/
  | operand (cluster op member : Nat) (isB : Bool) (reg lane : Nat)
deriving DecidableEq, Repr, Inhabited

/-- A copy of a firmware image as flash holds it (R394): the SHA3-256 digest of the public key that it carries, its own digest, whether
its ML-DSA-65 signature over that digest verifies under that key (entry 88), and its version. -/
structure FlashImage where
  key : List (BitVec 8)
  digest : List (BitVec 8)
  signed : Bool
  version : BitVec 32
deriving DecidableEq, Repr, Inhabited

/-- What the outside decides of bring-up (R393, R394): copies A and B of the five images in flash, the fatal step and die, if any other
step fails, and the PCI Express links that reach L0. -/
structure BringUp where
  flash : List (FlashImage × FlashImage)
  fail : Option (Nat × Nat)
  l0 : BitVec 4
deriving DecidableEq, Repr, Inhabited

/-- Host registers whose write has no further effect (R374 to R377, R382, R384, R385, R389, R395). -/
inductive HostReg where
  | queueBase (tenant queue : Nat)
  | ansPage (tenant : Nat)
  | nqBase (tenant : Nat)
  | nqCfg (tenant : Nat)
  | nqStat (tenant : Nat)
  | fbStat (tenant : Nat)
  | puba (tenant n : Nat)
  | spBase (tenant : Nat)
  | spCount (tenant : Nat)
  | wBase (tenant : Nat)
  | wCfg (tenant : Nat)
  | saveBase (tenant : Nat)
  | saveCnt (tenant : Nat)
  | rThresh (tenant : Nat)
  | aperOwner (die aperture : Nat)
  | inBase (link : Nat)
  | inCfg (link : Nat)
  | pwBase
  | nonce (word : Nat)
deriving DecidableEq, Repr, Inhabited

/-- A Nelrek flit (R387): header of 8 bytes, payload, and CRC-64. -/
structure Flit where
  header : BitVec 64
  payload : List (BitVec 8)
  crc : BitVec 64
deriving DecidableEq, Repr, Inhabited

/-- An access that a peer sends to this module's inbound window (R389, R391). The label travels environment by environment:
`void` is a VOID handle or 0, and `envs` the environments in this module's slots. `kind` is 0 a read, 1 a write, 2 a raise (R274),
3 CAS, 16 + OP4 an AMO, 32 + OP4 a RED. -/
structure RemoteAccess where
  kind : Nat
  off : Nat
  width : Nat
  data : BitVec 64
  cmp : BitVec 64
  envs : List (BitVec 64)
  void : BitVec 16
deriving DecidableEq, Repr, Inhabited

/-- The instructions and steps of the module, one constructor per row of the opcode table. -/
inductive Instr where
  /-- NOP (R181, OP 0x000): no effect. -/
  | nop (k : Ctl)
  /-- HALT (R180, OP 0x001): ends the control context. -/
  | halt (k : Ctl)
  /-- BR (R174, OP 0x002): transfer always. -/
  | br (k : Ctl) (off : BitVec 19)
  /-- BRC (R174, OP 0x003): compare and transfer. -/
  | brc (k : Ctl) (a b : BitVec 5) (cond : BitVec 3) (off : BitVec 32)
  /-- BRZ (R174, OP 0x004): transfer when zero. -/
  | brz (k : Ctl) (a : BitVec 5) (off : BitVec 19)
  /-- BRNZ (R174, OP 0x005): transfer when not zero. -/
  | brnz (k : Ctl) (a : BitVec 5) (off : BitVec 19)
  /-- BRV (R175, OP 0x006): transfer on a VOID label. -/
  | brv (k : Ctl) (a : BitVec 5) (off : BitVec 19)
  /-- CALL (R176, OP 0x007): call relative. -/
  | call (k : Ctl) (off : BitVec 19)
  /-- CALLR (R176, OP 0x008): call register. -/
  | callr (k : Ctl) (a : BitVec 5)
  /-- RET (R176, OP 0x009): return through s31. -/
  | ret (k : Ctl)
  /-- JMPR (R176, OP 0x00A): jump register. -/
  | jmpr (k : Ctl) (a : BitVec 5)
  /-- LOOP (R177, OP 0x00B): count down and transfer. -/
  | loop (k : Ctl) (d : BitVec 5) (off : BitVec 19)
  /-- HSTART (R178, OP 0x00C): start a helper. -/
  | hstart (k : Ctl) (d a b : BitVec 5) (off : BitVec 32)
  /-- HEND (R179, OP 0x00D): end the helper. -/
  | hend (k : Ctl)
  /-- HJOIN (R179, OP 0x00E): wait for a helper. -/
  | hjoin (k : Ctl) (a : BitVec 5)
  /-- YIELD (R181, OP 0x00F): not ready for n cycles. -/
  | yield (k : Ctl) (n : BitVec 19)
  /-- TRAP (R182, OP 0x010): fault TRAP after completion. -/
  | trap (k : Ctl) (n : BitVec 19)
  /-- BRK (R182, OP 0x011): fault BREAK after completion. -/
  | brk (k : Ctl) (n : BitVec 19)
  /-- ADD (R183, OP 0x040): a + b. -/
  | add (k : Ctl) (d a b : BitVec 5)
  /-- ADDI (R183, OP 0x041): a + imm. -/
  | addi (k : Ctl) (d a : BitVec 5) (imm : BitVec 19)
  /-- SUB (R183, OP 0x042): a - b. -/
  | sub (k : Ctl) (d a b : BitVec 5)
  /-- MUL (R183, OP 0x043): low product. -/
  | mul (k : Ctl) (d a b : BitVec 5)
  /-- MULH (R183, OP 0x044): high signed product. -/
  | mulh (k : Ctl) (d a b : BitVec 5)
  /-- MULHU (R183, OP 0x045): high unsigned product. -/
  | mulhu (k : Ctl) (d a b : BitVec 5)
  /-- DIV (R185, OP 0x046): signed quotient. -/
  | div (k : Ctl) (d a b : BitVec 5)
  /-- DIVU (R185, OP 0x047): unsigned quotient. -/
  | divu (k : Ctl) (d a b : BitVec 5)
  /-- REM (R185, OP 0x048): signed remainder. -/
  | rem (k : Ctl) (d a b : BitVec 5)
  /-- REMU (R185, OP 0x049): unsigned remainder. -/
  | remu (k : Ctl) (d a b : BitVec 5)
  /-- AND (R183, OP 0x04A): a AND b. -/
  | and (k : Ctl) (d a b : BitVec 5)
  /-- ANDI (R183, OP 0x04B): a AND imm. -/
  | andi (k : Ctl) (d a : BitVec 5) (imm : BitVec 19)
  /-- OR (R183, OP 0x04C): a OR b. -/
  | or (k : Ctl) (d a b : BitVec 5)
  /-- ORI (R183, OP 0x04D): a OR imm. -/
  | ori (k : Ctl) (d a : BitVec 5) (imm : BitVec 19)
  /-- XOR (R183, OP 0x04E): a XOR b. -/
  | xor (k : Ctl) (d a b : BitVec 5)
  /-- XORI (R183, OP 0x04F): a XOR imm. -/
  | xori (k : Ctl) (d a : BitVec 5) (imm : BitVec 19)
  /-- SHL (R184, OP 0x050): shift left. -/
  | shl (k : Ctl) (d a b : BitVec 5)
  /-- SHLI (R184, OP 0x051): shift left by n. -/
  | shli (k : Ctl) (d a : BitVec 5) (sh : BitVec 19)
  /-- SHR (R184, OP 0x052): shift right, zeros in. -/
  | shr (k : Ctl) (d a b : BitVec 5)
  /-- SHRI (R184, OP 0x053): shift right by n. -/
  | shri (k : Ctl) (d a : BitVec 5) (sh : BitVec 19)
  /-- SAR (R184, OP 0x054): shift right, sign in. -/
  | sar (k : Ctl) (d a b : BitVec 5)
  /-- SARI (R184, OP 0x055): shift right by n, sign in. -/
  | sari (k : Ctl) (d a : BitVec 5) (sh : BitVec 19)
  /-- MIN (R183, OP 0x056): signed minimum. -/
  | min (k : Ctl) (d a b : BitVec 5)
  /-- MAX (R183, OP 0x057): signed maximum. -/
  | max (k : Ctl) (d a b : BitVec 5)
  /-- MINU (R183, OP 0x058): unsigned minimum. -/
  | minu (k : Ctl) (d a b : BitVec 5)
  /-- MAXU (R183, OP 0x059): unsigned maximum. -/
  | maxu (k : Ctl) (d a b : BitVec 5)
  /-- SLT (R183, OP 0x05A): signed less. -/
  | slt (k : Ctl) (d a b : BitVec 5)
  /-- SLTU (R183, OP 0x05B): unsigned less. -/
  | sltu (k : Ctl) (d a b : BitVec 5)
  /-- SEQ (R183, OP 0x05C): equal. -/
  | seq (k : Ctl) (d a b : BitVec 5)
  /-- SEL (R183, OP 0x05D): c nonzero selects a, else b. -/
  | sel (k : Ctl) (d a b c : BitVec 5)
  /-- CLZ (R183, OP 0x05E): leading zeros. -/
  | clz (k : Ctl) (d a : BitVec 5)
  /-- POPC (R183, OP 0x05F): one bits. -/
  | popc (k : Ctl) (d a : BitVec 5)
  /-- BFX (R186, OP 0x060): bit-field extract. -/
  | bfx (k : Ctl) (d a : BitVec 5) (sx : BitVec 1) (width : BitVec 7) (pos : BitVec 6)
  /-- BFI (R186, OP 0x061): bit-field insert. -/
  | bfi (k : Ctl) (d a : BitVec 5) (width : BitVec 7) (pos : BitVec 6)
  /-- LI (R187, OP 0x062): load immediate. -/
  | li (k : Ctl) (d : BitVec 5) (imm : BitVec 32)
  /-- LIW (R187, OP 0x063): load long immediate. -/
  | liw (k : Ctl) (d : BitVec 5) (imm : BitVec 64)
  /-- LEA (R187, OP 0x064): a + (b << sh) + imm. -/
  | lea (k : Ctl) (d a b : BitVec 5) (sh : BitVec 3) (imm : BitVec 32)
  /-- SRD (R188, OP 0x065): read system register. -/
  | srd (k : Ctl) (d : BitVec 5) (n : BitVec 12)
  /-- SWR (R188, OP 0x066): write system register. -/
  | swr (k : Ctl) (a : BitVec 5) (n : BitVec 12)
  /-- LD (R191, OP 0x080): load. -/
  | ld (k : Ctl) (d a : BitVec 5) (off : BitVec 14) (w : BitVec 2) (z lc : BitVec 1)
  /-- ST (R191, OP 0x081): store. -/
  | st (k : Ctl) (a b : BitVec 5) (off : BitVec 14) (w : BitVec 2) (lc : BitVec 1)
  /-- LDACQ (R191, OP 0x082): load-acquire. -/
  | ldacq (k : Ctl) (d a : BitVec 5) (off : BitVec 14) (w : BitVec 2) (z lc : BitVec 1)
  /-- STREL (R191, OP 0x083): store-release. -/
  | strel (k : Ctl) (a b : BitVec 5) (off : BitVec 14) (w : BitVec 2) (lc : BitVec 1)
  /-- AMO (R193, OP 0x084): atomic read-modify-write. -/
  | amo (k : Ctl) (d a b : BitVec 5) (off : BitVec 12) (w : BitVec 2) (op : BitVec 4)
  /-- CAS (R194, OP 0x085): compare and swap. -/
  | cas (k : Ctl) (d a b c : BitVec 5) (w : BitVec 2) (off : BitVec 32)
  /-- RED (R193, OP 0x086): reduction. -/
  | red (k : Ctl) (a b : BitVec 5) (off : BitVec 12) (w : BitVec 2) (op : BitVec 4)
  /-- REDC (R195, OP 0x087): commutative contribution. -/
  | redc (k : Ctl) (a b : BitVec 5) (off : BitVec 12)
  /-- FENCE (R196, OP 0x088): wait for earlier stores. -/
  | fence (k : Ctl) (scope : BitVec 3)
  /-- PREF (R197, OP 0x089): prefetch. -/
  | pref (k : Ctl) (a : BitVec 5) (off : BitVec 14)
  /-- RINV (R198, OP 0x08A): drop lines. -/
  | rinv (k : Ctl) (a b : BitVec 5)
  /-- RWB (R198, OP 0x08B): write lines back. -/
  | rwb (k : Ctl) (a b : BitVec 5)
  /-- RFLUSH (R198, OP 0x08C): write back and drop. -/
  | rflush (k : Ctl) (a b : BitVec 5)
  /-- PUBLISH (R199, OP 0x08D): advance a host counter. -/
  | publish (k : Ctl) (d a : BitVec 5)
  /-- VADD (R206, OP 0x0C0): a + b. -/
  | vadd (k : Ctl) (d a b : BitVec 5) (vm : VMod)
  /-- VSUB (R206, OP 0x0C1): a - b. -/
  | vsub (k : Ctl) (d a b : BitVec 5) (vm : VMod)
  /-- VMUL (R206, OP 0x0C2): low product. -/
  | vmul (k : Ctl) (d a b : BitVec 5) (vm : VMod)
  /-- VMULH (R206, OP 0x0C3): high product. -/
  | vmulh (k : Ctl) (d a b : BitVec 5) (vm : VMod)
  /-- VAND (R206, OP 0x0C4): a AND b. -/
  | vand (k : Ctl) (d a b : BitVec 5) (vm : VMod)
  /-- VOR (R206, OP 0x0C5): a OR b. -/
  | vor (k : Ctl) (d a b : BitVec 5) (vm : VMod)
  /-- VXOR (R206, OP 0x0C6): a XOR b. -/
  | vxor (k : Ctl) (d a b : BitVec 5) (vm : VMod)
  /-- VNOT (R206, OP 0x0C7): NOT a. -/
  | vnot (k : Ctl) (d a : BitVec 5) (vm : VMod)
  /-- VSHL (R206, OP 0x0C8): shift left. -/
  | vshl (k : Ctl) (d a b : BitVec 5) (vm : VMod)
  /-- VSHR (R206, OP 0x0C9): shift right, zeros in. -/
  | vshr (k : Ctl) (d a b : BitVec 5) (vm : VMod)
  /-- VSAR (R206, OP 0x0CA): shift right, sign in. -/
  | vsar (k : Ctl) (d a b : BitVec 5) (vm : VMod)
  /-- VMIN (R206, OP 0x0CB): signed minimum. -/
  | vmin (k : Ctl) (d a b : BitVec 5) (vm : VMod)
  /-- VMAX (R206, OP 0x0CC): signed maximum. -/
  | vmax (k : Ctl) (d a b : BitVec 5) (vm : VMod)
  /-- VMINU (R206, OP 0x0CD): unsigned minimum. -/
  | vminu (k : Ctl) (d a b : BitVec 5) (vm : VMod)
  /-- VMAXU (R206, OP 0x0CE): unsigned maximum. -/
  | vmaxu (k : Ctl) (d a b : BitVec 5) (vm : VMod)
  /-- VCMP (R207, OP 0x0CF): integer compare. -/
  | vcmp (k : Ctl) (d a b : BitVec 5) (vm : VMod) (cond : BitVec 3)
  /-- VSEL (R208, OP 0x0D0): select by mask register. -/
  | vsel (k : Ctl) (d a b : BitVec 5) (vm : VMod) (svec : BitVec 5)
  /-- VIOTA (R209, OP 0x0D1): count of earlier mask bits. -/
  | viota (k : Ctl) (d a : BitVec 5) (vm : VMod)
  /-- VPOPM (R209, OP 0x0D2): mask population. -/
  | vpopm (k : Ctl) (d a : BitVec 5) (vm : VMod)
  /-- VFIRST (R209, OP 0x0D3): first mask lane. -/
  | vfirst (k : Ctl) (d a : BitVec 5) (vm : VMod)
  /-- VMV (R208, OP 0x0D4): copy. -/
  | vmv (k : Ctl) (d a : BitVec 5) (vm : VMod)
  /-- VBCAST (R208, OP 0x0D5): broadcast. -/
  | vbcast (k : Ctl) (d a : BitVec 5) (vm : VMod)
  /-- VEXT (R208, OP 0x0D6): extract lane. -/
  | vext (k : Ctl) (d a : BitVec 5) (vm : VMod) (n : BitVec 4)
  /-- VINS (R208, OP 0x0D7): insert lane. -/
  | vins (k : Ctl) (d a : BitVec 5) (vm : VMod) (n : BitVec 4)
  /-- VCLZ (R206, OP 0x0D8): leading zeros. -/
  | vclz (k : Ctl) (d a : BitVec 5) (vm : VMod)
  /-- VPOPC (R206, OP 0x0D9): one bits. -/
  | vpopc (k : Ctl) (d a : BitVec 5) (vm : VMod)
  /-- VMATCH (R211, OP 0x0DA): intersect index fibres. -/
  | vmatch (k : Ctl) (d a b : BitVec 5) (vm : VMod) (side : BitVec 1)
  /-- VRED (R210, OP 0x0DB): reduce. -/
  | vred (k : Ctl) (d a : BitVec 5) (vm : VMod) (op : BitVec 3)
  /-- VFADD (R212, OP 0x100): a + b. -/
  | vfadd (k : Ctl) (d a b : BitVec 5) (vm : VMod)
  /-- VFSUB (R212, OP 0x101): a - b. -/
  | vfsub (k : Ctl) (d a b : BitVec 5) (vm : VMod)
  /-- VFMUL (R212, OP 0x102): a * b. -/
  | vfmul (k : Ctl) (d a b : BitVec 5) (vm : VMod)
  /-- VFMA (R213, OP 0x103): a * b + c. -/
  | vfma (k : Ctl) (d a b c : BitVec 5) (vm : VMod)
  /-- VFMS (R213, OP 0x104): a * b - c. -/
  | vfms (k : Ctl) (d a b c : BitVec 5) (vm : VMod)
  /-- VFNMA (R213, OP 0x105): c - a * b. -/
  | vfnma (k : Ctl) (d a b c : BitVec 5) (vm : VMod)
  /-- VFMIN (R214, OP 0x106): minimum. -/
  | vfmin (k : Ctl) (d a b : BitVec 5) (vm : VMod)
  /-- VFMAX (R214, OP 0x107): maximum. -/
  | vfmax (k : Ctl) (d a b : BitVec 5) (vm : VMod)
  /-- VFABS (R216, OP 0x108): clear sign. -/
  | vfabs (k : Ctl) (d a : BitVec 5) (vm : VMod)
  /-- VFNEG (R216, OP 0x109): invert sign. -/
  | vfneg (k : Ctl) (d a : BitVec 5) (vm : VMod)
  /-- VFCMP (R215, OP 0x10A): float compare. -/
  | vfcmp (k : Ctl) (d a b : BitVec 5) (vm : VMod) (cond : BitVec 3)
  /-- VFCLASS (R215, OP 0x10B): classify. -/
  | vfclass (k : Ctl) (d a : BitVec 5) (vm : VMod)
  /-- VDIV (R217, OP 0x10C): a / b. -/
  | vdiv (k : Ctl) (d a b : BitVec 5) (vm : VMod)
  /-- VSQRT (R217, OP 0x10D): square root. -/
  | vsqrt (k : Ctl) (d a : BitVec 5) (vm : VMod)
  /-- VRSQRT (R217, OP 0x10E): reciprocal square root. -/
  | vrsqrt (k : Ctl) (d a : BitVec 5) (vm : VMod)
  /-- VRCP (R217, OP 0x10F): reciprocal. -/
  | vrcp (k : Ctl) (d a : BitVec 5) (vm : VMod)
  /-- VSQD (R218, OP 0x110): b over the root of a. -/
  | vsqd (k : Ctl) (d a b : BitVec 5) (vm : VMod)
  /-- VFRED (R219, OP 0x111): pairwise sum. -/
  | vfred (k : Ctl) (d a : BitVec 5) (vm : VMod)
  /-- VFDOT (R219, OP 0x112): pairwise dot product. -/
  | vfdot (k : Ctl) (d a b : BitVec 5) (vm : VMod)
  /-- VFSGN (R216, OP 0x113): set sign. -/
  | vfsgn (k : Ctl) (d a b : BitVec 5) (vm : VMod) (mode : BitVec 2)
  /-- VFRND (R216, OP 0x114): round to integral. -/
  | vfrnd (k : Ctl) (d a : BitVec 5) (vm : VMod)
  /-- VLD (R220, OP 0x140): load 16 words. -/
  | vld (k : Ctl) (d a : BitVec 5) (vm : VMod) (lc : BitVec 1) (off : BitVec 5)
  /-- VST (R222, OP 0x141): store 16 words. -/
  | vst (k : Ctl) (a b : BitVec 5) (vm : VMod) (lc : BitVec 1) (off : BitVec 5)
  /-- VLDS (R220, OP 0x142): strided load. -/
  | vlds (k : Ctl) (d a b : BitVec 5) (vm : VMod) (lc : BitVec 1)
  /-- VSTS (R220, OP 0x143): strided store. -/
  | vsts (k : Ctl) (d a b : BitVec 5) (vm : VMod) (lc : BitVec 1)
  /-- VLDX (R220, OP 0x144): gather. -/
  | vldx (k : Ctl) (d a b : BitVec 5) (vm : VMod) (lc : BitVec 1) (scale : BitVec 2)
  /-- VSTX (R223, OP 0x145): scatter. -/
  | vstx (k : Ctl) (d a b : BitVec 5) (vm : VMod) (lc : BitVec 1) (scale : BitVec 2)
  /-- VLDB (R222, OP 0x146): load and broadcast a word. -/
  | vldb (k : Ctl) (d a : BitVec 5) (vm : VMod) (lc : BitVec 1) (off : BitVec 5)
  /-- VPERM (R225, OP 0x147): permute. -/
  | vperm (k : Ctl) (d a b : BitVec 5) (vm : VMod)
  /-- VSLIDE (R225, OP 0x148): slide. -/
  | vslide (k : Ctl) (d a b : BitVec 5) (vm : VMod) (n : BitVec 4)
  /-- VZIP (R225, OP 0x149): interleave. -/
  | vzip (k : Ctl) (d a b : BitVec 5) (vm : VMod) (half : BitVec 1)
  /-- VUNZIP (R225, OP 0x14A): de-interleave. -/
  | vunzip (k : Ctl) (d a b : BitVec 5) (vm : VMod) (half : BitVec 1)
  /-- VCVT (R226, OP 0x14B): convert. -/
  | vcvt (k : Ctl) (d a : BitVec 5) (vm : VMod) (u : BitVec 3)
  /-- VPACK (R227, OP 0x14C): narrow pairs. -/
  | vpack (k : Ctl) (d a b : BitVec 5) (vm : VMod)
  /-- VUNPACK (R227, OP 0x14D): widen a half. -/
  | vunpack (k : Ctl) (d a : BitVec 5) (vm : VMod) (half : BitVec 1)
  /-- VQLD (R229, OP 0x14E): load codes and headers. -/
  | vqld (k : Ctl) (d a b : BitVec 5) (vm : VMod) (lc : BitVec 1)
  /-- VQDEC (R230, OP 0x14F): decode 16 elements. -/
  | vqdec (k : Ctl) (d a : BitVec 5) (vm : VMod) (part : BitVec 3)
  /-- VQST (R232, OP 0x150): quantise and store. -/
  | vqst (k : Ctl) (d a b c : BitVec 5) (vm : VMod) (mask : BitVec 4)
  /-- VQENC (R231, OP 0x151): quantise into a block. -/
  | vqenc (k : Ctl) (d a : BitVec 5) (vm : VMod) (mask : BitVec 4) (slot : BitVec 2)
  /-- VHDR (R233, OP 0x152): read a header. -/
  | vhdr (k : Ctl) (d a : BitVec 5) (vm : VMod) (slot : BitVec 2)
  /-- VHDRW (R233, OP 0x153): write a header. -/
  | vhdrw (k : Ctl) (d a : BitVec 5) (vm : VMod) (slot : BitVec 2)
  /-- MMA (R241, OP 0x180): gang multiply-accumulate. -/
  | mma (k : Ctl) (d a b c : BitVec 5) (tb ty : BitVec 3) (sp zc : BitVec 1)
  /-- MMAR (R243, OP 0x181): gang multiply-accumulate with rotation. -/
  | mmar (k : Ctl) (d a b c : BitVec 5) (tb ty : BitVec 3) (sp zc : BitVec 1)
  /-- MZERO (R245, OP 0x182): zero the slice. -/
  | mzero (k : Ctl) (d : BitVec 5)
  /-- MST (R247, OP 0x183): store the slice. -/
  | mst (k : Ctl) (a b c : BitVec 5) (off : BitVec 32)
  /-- MLD (R247, OP 0x184): load the slice. -/
  | mld (k : Ctl) (d b c : BitVec 5) (off : BitVec 32)
  /-- MRDV (R246, OP 0x185): read a slice vector. -/
  | mrdv (k : Ctl) (d a : BitVec 5) (vm : VMod) (r : BitVec 3)
  /-- MWRV (R246, OP 0x186): write a slice vector. -/
  | mwrv (k : Ctl) (d a : BitVec 5) (vm : VMod) (r : BitVec 3)
  /-- MSCALE (R245, OP 0x187): scale the slice. -/
  | mscale (k : Ctl) (d a : BitVec 5) (vm : VMod)
  /-- MQST (R248, OP 0x188): gang quantise. -/
  | mqst (k : Ctl) (a b c : BitVec 5) (ty : BitVec 3) (co : BitVec 1) (mask : BitVec 4)
  /-- MWAIT (R245, OP 0x189): wait for gang completion. -/
  | mwait (k : Ctl)
  /-- CPY (R251, OP 0x1C0): strided copy. -/
  | cpy (k : Ctl) (d a b : BitVec 5)
  /-- CPYT (R251, OP 0x1C1): transpose. -/
  | cpyt (k : Ctl) (d a b : BitVec 5)
  /-- CPYU (R251, OP 0x1C2): unfold. -/
  | cpyu (k : Ctl) (d a b : BitVec 5)
  /-- CPYG (R251, OP 0x1C3): gather. -/
  | cpyg (k : Ctl) (d a b : BitVec 5)
  /-- CPYS (R251, OP 0x1C4): scatter. -/
  | cpys (k : Ctl) (d a b : BitVec 5)
  /-- CPYF (R251, OP 0x1C5): fill. -/
  | cpyf (k : Ctl) (d a b : BitVec 5)
  /-- CPYQ (R251, OP 0x1C6): quantise. -/
  | cpyq (k : Ctl) (d a b : BitVec 5)
  /-- ACCSV (R256, OP 0x1C7): save a bank. -/
  | accsv (k : Ctl) (d a b evl : BitVec 5) (eve : BitVec 1) (weirn : BitVec 4) (wpe : BitVec 1)
  /-- ACCRS (R256, OP 0x1C8): restore a bank. -/
  | accrs (k : Ctl) (d a b evl : BitVec 5) (eve : BitVec 1) (weirn : BitVec 4) (wpe : BitVec 1)
  /-- XFER (R257, OP 0x1C9): millrace copy. -/
  | xfer (k : Ctl) (d a b : BitVec 5) (n : BitVec 6)
  /-- XFERQ (R257, OP 0x1CA): millrace quantising copy. -/
  | xferq (k : Ctl) (d a b : BitVec 5) (n : BitVec 6)
  /-- WEIR (R263, OP 0x200): arrive and wait. -/
  | weir (k : Ctl) (b : BitVec 5) (wn : BitVec 4)
  /-- WEIRA (R261, OP 0x201): arrive. -/
  | weira (k : Ctl) (b : BitVec 5) (wn : BitVec 4)
  /-- WEIRW (R263, OP 0x202): wait. -/
  | weirw (k : Ctl) (wn : BitVec 4)
  /-- WEIRX (R263, OP 0x203): withdraw. -/
  | weirx (k : Ctl) (wn : BitVec 4)
  /-- EVWAIT_LINE (R267, OP 0x204): consume a signal. -/
  | evwaitLine (k : Ctl) (idx : BitVec 5)
  /-- EVWAIT_MUTEX (R268, OP 0x204): take a mutex. -/
  | evwaitMutex (k : Ctl) (idx : BitVec 5)
  /-- EVWAIT_BARRIER (R269, OP 0x204): arrive at a barrier. -/
  | evwaitBarrier (k : Ctl) (idx : BitVec 5)
  /-- EVSIG_LINE (R267, OP 0x205): signal a line. -/
  | evsigLine (k : Ctl) (a : BitVec 5) (far : BitVec 1) (idx : BitVec 5)
  /-- EVSIG_MUTEX (R268, OP 0x205): free a mutex. -/
  | evsigMutex (k : Ctl) (idx : BitVec 5)
  /-- TLWAIT_MEM (R273, OP 0x206): wait on a memory timeline. -/
  | tlwaitMem (k : Ctl) (a b : BitVec 5)
  /-- TLWAIT_SLUICE (R273, OP 0x206): wait on the sluice timeline. -/
  | tlwaitSluice (k : Ctl) (b : BitVec 5)
  /-- TLWAIT_MILLRACE (R273, OP 0x206): wait on a millrace timeline. -/
  | tlwaitMillrace (k : Ctl) (b : BitVec 5) (idx : BitVec 6)
  /-- TLWAIT_UPDATE (R273, OP 0x206): wait on the UPDATE timeline. -/
  | tlwaitUpdate (k : Ctl) (b : BitVec 5)
  /-- TLSIG (R274, OP 0x207): raise a memory timeline. -/
  | tlsig (k : Ctl) (a b : BitVec 5)
  /-- COMM (R275, OP 0x208): arm a communication phase. -/
  | comm (k : Ctl)
  /-- SENDF (R276, OP 0x209): send along a flume. -/
  | sendf (k : Ctl) (b f : BitVec 5)
  /-- ANEW (R278, OP 0x240): open a slot. -/
  | anew (k : Ctl) (d : BitVec 5)
  /-- ANEW_TX (R278, OP 0x240): open a transaction slot. -/
  | anewTx (k : Ctl) (d : BitVec 5) (link : BitVec 4)
  /-- LAPPLY (R279, OP 0x241): place under an environment. -/
  | lapply (k : Ctl) (d a b : BitVec 5) (vm : VMod) (v : BitVec 1)
  /-- AMB (R279, OP 0x242): set AMBIENT. -/
  | amb (k : Ctl) (a : BitVec 5)
  /-- NOGOOD (R79, OP 0x243): record a nogood. -/
  | nogood (k : Ctl) (a : BitVec 5)
  /-- ASSERT (R281, OP 0x244): assert a slot. -/
  | assert (k : Ctl) (d a : BitVec 5)
  /-- RETRACT (R79, OP 0x245): retract a slot. -/
  | retract (k : Ctl) (a : BitVec 5)
  /-- VJOIN (R282, OP 0x246): join labels. -/
  | vjoin (k : Ctl) (d a b : BitVec 5) (vm : VMod)
  /-- LGET (R283, OP 0x247): label as a value. -/
  | lget (k : Ctl) (d a : BitVec 5) (vm : VMod) (v : BitVec 1)
  /-- LSTRIP (R284, OP 0x248): strip a label. -/
  | lstrip (k : Ctl) (d a : BitVec 5) (vm : VMod) (v : BitVec 1)
  /-- LREAD (R283, OP 0x249): read an environment. -/
  | lread (k : Ctl) (d a : BitVec 5) (n : BitVec 2)
  /-- LTEST (R283, OP 0x24A): test a label. -/
  | ltest (k : Ctl) (d a : BitVec 5) (vm : VMod) (v : BitVec 1) (cond : BitVec 3)
  /-- LFENCE (R285, OP 0x24B): wait for resolve slots. -/
  | lfence (k : Ctl)
  /-- SETTLE (R98, OP 0x24C): settle the domain. -/
  | settle (k : Ctl) (d : BitVec 5)
  /-- LSCRUB (R286, OP 0x24D): scrub a page. -/
  | lscrub (k : Ctl) (d a evl : BitVec 5) (eve : BitVec 1) (weirn : BitVec 4) (wpe : BitVec 1)
  /-- SRREG (R288, OP 0x280): register the routine. -/
  | srreg (k : Ctl) (a b : BitVec 5)
  /-- SRV_FINISH (R289, OP 0x281): finish. -/
  | srvFinish (k : Ctl) (n : BitVec 4)
  /-- SRV_SUMMARISE (R289, OP 0x281): summarise. -/
  | srvSummarise (k : Ctl)
  /-- SRV_REFUSE (R289, OP 0x281): refuse. -/
  | srvRefuse (k : Ctl)
  /-- RELEASE (R291, OP 0x282): give up the holding. -/
  | release (k : Ctl)
  /-- LEASE (R292, OP 0x283): ask for holdings. -/
  | lease (k : Ctl) (d a b : BitVec 5)
  /-- PLBSET (R295, OP 0x2C0): replace a lease range. -/
  | plbset (k : Ctl) (d a b : BitVec 5)
  /-- REPLAY (R296, OP 0x2C1): retry parked accesses. -/
  | replay (k : Ctl) (d : BitVec 5)
  /-- FLUSHCODE (R296, OP 0x2C2): invalidate instruction caches. -/
  | flushcode (k : Ctl) (d a : BitVec 5)
  /-- IDLE (R296, OP 0x2C3): wait for a packet. -/
  | idle (k : Ctl)
  /-- FPKT (R346, OP 0x2C4): take a packet. -/
  | fpkt (k : Ctl) (d a : BitVec 5)
  /-- RESUME (R350, OP 0x2C5): unfreeze a core. -/
  | resume (k : Ctl) (d a : BitVec 5)
  /-- KILL (R298, OP 0x2C6): end a launch. -/
  | kill (k : Ctl) (d a : BitVec 5)
  /-- QPRIO (R298, OP 0x2C7): set a queue priority. -/
  | qprio (k : Ctl) (a b : BitVec 5)
  /-- APERSET (R298, OP 0x2C8): write an aperture register. -/
  | aperset (k : Ctl) (d a b : BitVec 5)
  /-- SNAP (R299, OP 0x2C9): mark copy-on-write. -/
  | snap (k : Ctl) (d a b : BitVec 5)
  /-- MIGRATE_MOVE (R299, OP 0x2CA): move a page. -/
  | migrateMove (k : Ctl) (d a b : BitVec 5)
  /-- MIGRATE_FLUSH (R299, OP 0x2CA): flush a leaf. -/
  | migrateFlush (k : Ctl) (d a : BitVec 5)
  /-- REGISTER_CACHE_FILL (R110): a missing register line arrives. -/
  | registerCacheFill (core ctx : Nat) (reg : RegRef)
  /-- FLUME_DELIVERY (R123): a flume send lands. -/
  | flumeDelivery (src dst off : Nat) (words : List (BitVec 32 × BitVec 16))
  /-- HOST_BAR2_READ (R379): a host read through BAR 2. -/
  | hostBar2Read (tenant off width : Nat)
  /-- HOST_BAR2_WRITE (R379): a host write through BAR 2. -/
  | hostBar2Write (tenant off width : Nat) (data : BitVec 64)
  /-- PHYSICAL_WINDOW_ACCESS (R376): a host access through the physical window. -/
  | physicalWindowAccess (write : Bool) (off width : Nat) (data : BitVec 64)
  /-- TFLUSH_WRITE (R376): a host translation flush. -/
  | tflushWrite (va : BitVec 64)
  /-- QUEUE_DOORBELL (R321): a write of TAIL. -/
  | queueDoorbell (tenant queue : Nat) (tail : BitVec 64)
  /-- QUEUE_CFG_WRITE (R321): a write of CFG. -/
  | queueCfgWrite (tenant queue : Nat) (cfg : BitVec 64)
  /-- FAULT_BUFFER_HEAD_WRITE (R352): a write of HEAD. -/
  | faultBufferHeadWrite (tenant : Nat) (v : BitVec 64)
  /-- FAILURE_ANSWER (R356): a write of ANS_GEN. -/
  | failureAnswer (tenant : Nat) (gen : BitVec 64) (host : Bool)
  /-- NQHEAD_WRITE (R382): a write of NQHEAD. -/
  | nqheadWrite (tenant : Nat) (v : BitVec 64)
  /-- PUBV_UPDATE (R384): a published count becomes visible. -/
  | pubvUpdate (tenant : Nat) (addr count : BitVec 64)
  /-- DIRECTORY_WRITE (R375): a write of a directory entry. -/
  | directoryWrite (n : Nat) (entry : BitVec 64)
  /-- PCAP_WRITE (R392): a write of PCAP. -/
  | pcapWrite (v : BitVec 64)
  /-- REGISTER_WRITE (R374): a write of a plain host register. -/
  | registerWrite (reg : HostReg) (v : BitVec 64)
  /-- ATTEST_READ_PAGE (R395): CMD OP 2. -/
  | attestReadPage (page : BitVec 8)
  /-- POWER_UP (R393): power-up. -/
  | powerUp (outcome : BringUp)
  /-- MODULE_RESET (R393): module reset. -/
  | moduleReset (outcome : BringUp)
  /-- TELEMETRY_SAMPLE (R397): the controller samples each die's power in mW and hottest sensor in 0.125 °C; `rest` is the module's power in
  mW outside the dies' readings, and `calm` says that nothing has risen above R397's limits for a higher clock since the last sample. -/
  | telemetrySample (samples : List (Nat × Nat)) (rest : Nat) (calm : Bool)
  /-- FLIT_RECEIVE (R387): a flit is received. -/
  | flitReceive (link : Nat) (flit : Flit)
  /-- REMOTE_WINDOW_ACCESS (R389): a peer's window access arrives. -/
  | remoteWindowAccess (link : Nat) (acc : RemoteAccess)
  /-- REMOTE_SLOT_OPEN (R391): a peer asks for a paired slot. -/
  | remoteSlotOpen (link peerSlot : Nat)
  /-- REMOTE_ASSERT (R103): a carried ASSERT arrives. -/
  | remoteAssert (link slot : Nat)
  /-- ASSERT_ACK (R103): the acknowledgement of an ASSERT arrives. -/
  | assertAck (link slot : Nat)
  /-- HOST_READ_RESPONSE (R381): a device read of a host page completes. -/
  | hostReadResponse (id : Nat) (ok : Bool) (words : List (BitVec 32))
  /-- HOST_WRITE_THROUGH_COMPLETE (R381): a write-through completes. -/
  | hostWriteThroughComplete (id : Nat)
  /-- UNASSIGNED_ENCODING (R137): a word that is no instruction. -/
  | unassignedEncoding (word : BitVec 128)
  /-- PCIE_LINK_STATE_CHANGE (R373): a PCI Express link leaves or returns to L0. -/
  | pcieLinkStateChange (link : Nat) (up : Bool)
  /-- UNCORRECTABLE_ERROR (R363): an uncorrectable error arises. -/
  | uncorrectableError (site : ErrSite)
  /-- REMOTE_ACCESS_ANSWER (R389): a remote answer arrives. -/
  | remoteAccessAnswer (id : Nat) (ok : Bool) (words : List (BitVec 32 × List (BitVec 64) × BitVec 16))
  /-- REMOTE_SLOT_ANSWER (R391): the peer's slot answer arrives. -/
  | remoteSlotAnswer (link id : Nat) (ok : Bool) (peerSlot : Nat)
  /-- ICACHE_FILL (R118): a fetch block arrives at the core's cluster; subject: core, block. -/
  | icacheFill
  /-- RESULT_LANDING (R115): a fixed-latency result lands; subject: core, seq. -/
  | resultLanding
  /-- TAG_FREE (R114): the last write of a tagged producer lands; subject: core, seq. -/
  | tagFree
  /-- GAP_EXPIRY (R113): a gap count reaches zero; subject: core, ctx. -/
  | gapExpiry
  /-- HOME_ACCESS (R37): a request is performed at its home slice; subject: id. -/
  | homeAccess
  /-- PARTIAL_COMBINE (R41): a partial line is combined at its home; subject: id. -/
  | partialCombine
  /-- NEAR_CACHE_FILL (R42): a line is installed as a near-cache copy; subject: id. -/
  | nearCacheFill
  /-- TRANSLATION_WALK (R25): a walk request reaches a walk unit; subject: id. -/
  | translationWalk
  /-- LEAF_RETURN (R25): the leaf reaches the requesting slice; subject: id. -/
  | leafReturn
  /-- MEMORY_FILL (R19): a line arrives from the memory controller; subject: id. -/
  | memoryFill
  /-- WRITE_BACK (R29): a write-back reaches the memory controller; subject: line. -/
  | writeBack
  /-- FAULT_RECORD_ARRIVAL (R354): a fault record reaches the ring; subject: id. -/
  | faultRecordArrival
  /-- LABEL_RESOLVE (R93): a resolve slot resolves; subject: core, slot. -/
  | labelResolve
  /-- INTERN_PROBE (R92): an interning probe is served; subject: core, slot, probe. -/
  | internProbe
  /-- SLUICE_CAPTURE (R252): the sluice captures a descriptor; subject: id, reg, poison. -/
  | sluiceCapture
  /-- SLUICE_JOB_START (R48): the sluice starts a queued job; subject: cluster. -/
  | sluiceJobStart
  /-- SLUICE_WRITE_LANDING (R49): a job's writes land; subject: cluster, id. -/
  | sluiceWriteLanding
  /-- SLUICE_JOB_COMPLETE (R49): a timeline advances; subject: cluster, id. -/
  | sluiceJobComplete
  /-- MILLRACE_CAPTURE (R53): a millrace job is captured; subject: id, reg, poison. -/
  | millraceCapture
  /-- MILLRACE_JOB_END (R258): an engine ends a job; subject: id, tenant. -/
  | millraceJobEnd
  /-- GANG_START (R125): a joined gang operation starts; subject: cluster, id. -/
  | gangStart
  /-- GANG_COLUMN_COMPLETE (R241): a gang operation's columns become readable; subject: cluster, id. -/
  | gangColumnComplete
  /-- MMAR_INBOUND_LANDING (R243): rotated operands land; subject: cluster, id, dir. -/
  | mmarInboundLanding
  /-- WEIR_ARRIVAL_COUNTED (R261): an arrival is counted; subject: core, weir, addend, upto, withdraw. -/
  | weirArrivalCounted
  /-- WEIR_RELEASE (R262): a weir releases; subject: launch, weir. -/
  | weirRelease
  /-- HOLDING_DEPARTURE (R291): a released holding departs; subject: launch, holding. -/
  | holdingDeparture
  /-- EVENT_SIGNAL_EFFECT (R270): a signal takes effect; subject: core, cluster, mutex, idx, upto, remote. -/
  | eventSignalEffect
  /-- EVENT_WAKE (R267): a woken context becomes ready; subject: core, ctx. -/
  | eventWake
  /-- EVENT_LINE_STORE (R267): a store sets a line's count; subject: cluster, line, count. -/
  | eventLineStore
  /-- BARRIER_TARGET_STORE (R269): a store sets a barrier target; subject: cluster, barrier, target. -/
  | barrierTargetStore
  /-- DOMAIN_HOME_OPERATION (R280): a domain request is performed at the domain home; subject: id. -/
  | domainHomeOperation
  /-- DOMAIN_ANSWER (R280): the domain home's answer returns; subject: id. -/
  | domainAnswer
  /-- ERA_REWRITE_DONE (R100): the label-plane rewrite completes; subject: core. -/
  | eraRewriteDone
  /-- HELPER_RETIRE (R179): an ended helper stops being live; subject: core, ctx. -/
  | helperRetire
  /-- HALT_WAKE (R180): a sleeping HALT finds no helper live; subject: core. -/
  | haltWake
  /-- RECALL_DELIVERY (R336): a recall is delivered; subject: launch, holding. -/
  | recallDelivery
  /-- FINISH_DEADLINE (R338): a FINISH obligation is not met; subject: launch, holding. -/
  | finishDeadline
  /-- SURRENDER_OVERRUN (R290): a routine exceeds its bound; subject: core. -/
  | surrenderOverrun
  /-- FAULT_REPORT (R342): a core takes a fault report; subject: core. -/
  | faultReport
  /-- FAULT_PACKET_OFFER (R345): a frozen core offers its packet again; subject: core. -/
  | faultPacketOffer
  /-- DISTRIBUTOR_ROUND (R330): a round of the distributor. -/
  | distributorRound
  /-- LAUNCH_BIND (R329): a launch is bound; subject: tenant, queue. -/
  | launchBind
  /-- LAUNCH_END_SWEEP (R331): a reduction sweep; subject: launch. -/
  | launchEndSweep
  /-- PREEMPTION (R359): a launch is pre-empted; subject: launch. -/
  | preemption
  /-- RESTORE (R362): a launch is restored; subject: launch. -/
  | restore
  /-- SNAPSHOT_COPY (R385): a copy-on-write page is copied; subject: tenant, page. -/
  | snapshotCopy
  /-- MIGRATION_COPY_DONE (R299): a migration copy completes; subject: id. -/
  | migrationCopyDone
  /-- FAULT_BUFFER_FLUSH (R352): a write of FLUSH; subject: tenant. -/
  | faultBufferFlush
  /-- TENANT_RESET (R380): a write of RESET; subject: tenant. -/
  | tenantReset
  /-- ATTEST_MAKE_REPORT (R395): CMD OP 1. -/
  | attestMakeReport
  /-- ATTEST_FETCH_KEY (R395): CMD OP 4. -/
  | attestFetchKey
  /-- ATTEST_REPORT_READY (R395): the report is complete. -/
  | attestReportReady
  /-- CONFIG_REQUEST (R393): a configuration request; subject: link. -/
  | configRequest
  /-- PCIE_TRAIN_TIMEOUT (R393): a link does not reach L0 in time; subject: link. -/
  | pcieTrainTimeout
  /-- NELREK_STATE_ADVANCE (R386): a link advances; subject: link. -/
  | nelrekStateAdvance
  /-- NELREK_STATE_TIMEOUT (R386): a training state exceeds its limit; subject: link. -/
  | nelrekStateTimeout
  /-- NELREK_RETRY (R386): a DOWN link is retried; subject: link. -/
  | nelrekRetry
  /-- DIVIDE_UNIT_FREE (R205): the divide unit becomes free; subject: core. -/
  | divideUnitFree
deriving DecidableEq, Repr

end Sys2Proof
end

