-- ==== Sys2Proof/Config.lean ====
section
/-! DEFINITION. Sys2Proof/Config.lean: the constants the manual fixes for this module, and the free values, which it leaves
open. A free value is an opaque constant applied to the step counter `State.fresh` and an index within the step (entry 2), or to
plain data it depends on: nothing can evaluate it, so a claim holds whatever it is. -/

namespace Sys2Proof.Config

/-- Free natural numbers: extra cycles above a Minimum latency, replacement victims (R15, R36, R43; entries 2, 3). -/
opaque freeNat : Nat → Nat → Nat

/-- Free bits: old or new word between minimum and completion (R115; entry 4). -/
opaque freeBit : Nat → Nat → Bool

/-- The SHA3-256 digest of the vendor's public key in the fuses (R394; entry 88). -/
opaque fusedKey : List (BitVec 8)

/-- The minimum version of image `i` in the fuses (R394; entry 88). -/
opaque fusedMinimum : Nat → BitVec 32

/-- Byte `i` of the public identity key (R395; entry 15). -/
opaque keyByte : Nat → BitVec 8

/-- Byte `i` of the digest of the 48 dies' spare-column fuse words (R395; entry 15). -/
opaque fuseDigest : Nat → BitVec 8

/-- Byte `i` of the signature over a stream of bytes in the report of a number (R395; entry 15). -/
opaque signature : List (BitVec 8) → Nat → Nat → BitVec 8

/-- The module's identity, as its capability flits tell it (R386; entry 16). -/
opaque moduleIdentity : Nat

/-- The payload of a flit that carries a message, given by its fields as numbers: R387 does not lay it out (entry 16). -/
opaque flitPayload : List Nat → List (BitVec 8)

/-- What a payload that a peer sends says: a step that its message asks for here (R387; entry 16). -/
opaque readPayload : List (BitVec 8) → Option Instr

/-- What the payload of a capability flit says: identity, link number, inbound domain, feature mask (R386; entry 16). -/
opaque readCaps : List (BitVec 8) → Option (Nat × Nat × Nat × Nat)

/-- The index, modulo 1,024, of a line's set in its slice (R36 gives the sets and not the index; entry 10). -/
opaque sliceSet : Nat → Nat

/-- Do two sends of a route, each as (sending core, destination core, cycle), use one link in one cycle? The manual does not say which
links a send takes (R123; entry 94). -/
opaque linkClash : Nat × Nat × Nat → Nat × Nat × Nat → Bool

/-- The module has the labels (R7, R378; entry 76). -/
def hasLabels : Bool := true
/-- The module has the B4 formats (R7, R378; entry 76). -/
def hasB4 : Bool := true
/-- The module has the Nelrek links (R7, R378; entry 76). -/
def hasNelrek : Bool := true
/-- The module has snapshots (R7, R378; entry 76). -/
def hasSnapshots : Bool := true
/-- The module has the PACK transform (R7, R378; entry 76). -/
def hasPack : Bool := true
/-- Contexts in a core (R104). -/
def contexts : Nat := 11
/-- Bytes of a core's local memory (R13, R21). -/
def localSize : Nat := 0x6000
/-- Cluster columns of the grid (R11). -/
def gridW : Nat := 256
/-- Cluster rows of the grid (R11). -/
def gridH : Nat := 384
/-- Bytes of an HBM4E stack (R20). -/
def hbmSize : Nat := 0xEE6B28000
/-- Bytes of a perimeter die's LPDDR-6 (R20). -/
def lpddrSize : Nat := 0x7735940000
/-- Bytes of a context image (R109). -/
def imageSize : Nat := 0xEC0
/-- Bytes of a holding's save record (R360). -/
def saveSize : Nat := 0x4F000
/-- Bytes of an attestation report (R395). -/
def reportLength : Nat := 3553
/-- Bytes of the public identity key (R395). -/
def keyLength : Nat := 1952

end Sys2Proof.Config
end

