-- ==== Sys2Proof/WellFormed.lean ====
section
/-! DEFINITION. Sys2Proof/WellFormed.lean: the decode-class checks that an issued instruction must pass (R131 to R133, R137,
R138 class 2, and the ILLEGAL limits of each entry that depend on the encoding alone). What the encoding itself fixes (unused
fields zero) is checked by the decoder, which compares the whole word. -/

namespace Sys2Proof

/-- ALLOC must be 0: the instruction sets no tag (R129, R131, R189, R260, R266, R272, R277). -/
def noTag (k : Ctl) : Bool := k.alloc == 0#3

/-- ALLOC must name a tag: a variable-latency producer (R114). -/
def needTag (k : Ctl) : Bool := k.alloc != 0#3

/-- A load: Fixed with LC, a tagged producer otherwise (R114, R134, R220). -/
def loadTag (k : Ctl) (lc : BitVec 1) : Bool := lc == 1#1 || k.alloc != 0#3

/-- PA is zero when field A names no register read (R131). -/
def noA (k : Ctl) : Bool := k.pa == 0#2

/-- PB is zero when field B names no register read (R131). -/
def noB (k : Ctl) : Bool := k.pb == 0#2

/-- The modifier rules of R132 and R201: BS, ME and RM only where allowed, MREG and MU zero without a mask, MU zero where the
result is scalar or a block, TY among the permitted codes. -/
def vmOk (vm : VMod) (bs me muZero rm : Bool) (tys : List Nat) : Bool :=
  (bs || vm.bs == 0#1) && (me || vm.me == 0#1) && (vm.me == 1#1 || (vm.mreg == 0#5 && vm.mu == 0#1)) &&
  (!muZero || vm.mu == 0#1) && (rm || vm.rm == 0#2) && tys.contains vm.ty.toNat

/-- The modifiers of a label instruction (R277): all zero in the scalar form, a mask alone in the vector form. -/
def labelVm (vm : VMod) (v : BitVec 1) : Bool := vmOk vm false (v == 1#1) false false [0]

/-- The conversions VCVT permits (R226). -/
def cvtPair (ty u : BitVec 3) : Bool :=
  [(0, 2), (1, 2), (2, 0), (2, 1), (3, 4), (4, 3)].contains (ty.toNat, u.toNat)

/-- The operand types MMA combines (R73, R237): two block formats or two of BF16 and F16. -/
def mmaTypes (ty tb : BitVec 3) : Bool :=
  ([5, 6].contains ty.toNat && [5, 6].contains tb.toNat) || ([3, 4].contains ty.toNat && [3, 4].contains tb.toNat)

/-- The register rules of MMA (R237): an even register for a block operand; not 31 in scratchpad form. -/
def mmaRegs (ty tb : BitVec 3) (sp : BitVec 1) (a b : BitVec 5) : Bool :=
  if sp == 1#1 then a != 31#5 && b != 31#5
  else !(5 ≤ ty.toNat && a.getLsbD 0) && !(5 ≤ tb.toNat && b.getLsbD 0)

/-- The instruction passes every decode-class check that its fields alone decide. A step of the module is no encoding. -/
def Instr.wellFormed (i : Instr) : Bool :=
  match i with
  | .nop k => noTag k && noA k && noB k
  | .halt k => noTag k && noA k && noB k
  | .br k _ => noTag k && noA k && noB k
  | .brc k _ _ cond _ => noTag k && (cond.toNat < 6)
  | .brz k _ _ => noTag k && noB k
  | .brnz k _ _ => noTag k && noB k
  | .brv k _ _ => noTag k && noB k
  | .call k _ => noA k && noB k
  | .callr k _ => noB k
  | .ret k => noTag k && noA k && noB k
  | .jmpr k _ => noTag k && noB k
  | .loop k d _ => noA k && noB k && (d != 0#5)
  | .hstart _ _ _ _ _ => true
  | .hend k => noTag k && noA k && noB k
  | .hjoin k _ => noTag k && noB k
  | .yield k _ => noTag k && noA k && noB k
  | .trap k _ => noTag k && noA k && noB k
  | .brk k _ => noTag k && noA k && noB k
  | .add _ _ _ _ => true
  | .addi k _ _ _ => noB k
  | .sub _ _ _ _ => true
  | .mul _ _ _ _ => true
  | .mulh _ _ _ _ => true
  | .mulhu _ _ _ _ => true
  | .div k _ _ _ => needTag k
  | .divu k _ _ _ => needTag k
  | .rem k _ _ _ => needTag k
  | .remu k _ _ _ => needTag k
  | .and _ _ _ _ => true
  | .andi k _ _ _ => noB k
  | .or _ _ _ _ => true
  | .ori k _ _ _ => noB k
  | .xor _ _ _ _ => true
  | .xori k _ _ _ => noB k
  | .shl _ _ _ _ => true
  | .shli k _ _ sh => noB k && (sh.toNat < 64)
  | .shr _ _ _ _ => true
  | .shri k _ _ sh => noB k && (sh.toNat < 64)
  | .sar _ _ _ _ => true
  | .sari k _ _ sh => noB k && (sh.toNat < 64)
  | .min _ _ _ _ => true
  | .max _ _ _ _ => true
  | .minu _ _ _ _ => true
  | .maxu _ _ _ _ => true
  | .slt _ _ _ _ => true
  | .sltu _ _ _ _ => true
  | .seq _ _ _ _ => true
  | .sel _ _ _ _ _ => true
  | .clz k _ _ => noB k
  | .popc k _ _ => noB k
  | .bfx k _ _ _ width pos => noB k && (1 ≤ width.toNat) && (width.toNat ≤ 64) && (pos.toNat + width.toNat ≤ 64)
  | .bfi k _ _ width pos => noB k && (1 ≤ width.toNat) && (width.toNat ≤ 64) && (pos.toNat + width.toNat ≤ 64)
  | .li k _ _ => noA k && noB k
  | .liw k _ _ => noA k && noB k
  | .lea _ _ _ _ _ _ => true
  | .srd k _ _ => noA k && noB k
  | .swr k _ _ => noB k
  | .ld k _ _ _ w z lc => loadTag k lc && noB k && (!(w == 3#2 && z == 1#1))
  | .st k _ _ _ _ _ => noTag k
  | .ldacq k _ _ _ w z lc => loadTag k lc && noB k && (!(w == 3#2 && z == 1#1))
  | .strel k _ _ _ _ _ => noTag k
  | .amo k _ _ _ _ w op => needTag k && (2 ≤ w.toNat) && (op.toNat ≤ 9) && (!(op == 9#4 && w == 3#2))
  | .cas k _ _ _ _ w _ => needTag k && (2 ≤ w.toNat)
  | .red k _ _ _ w op => noTag k && (2 ≤ w.toNat) && (op.toNat ≤ 9) && (op != 8#4) && (!(op == 9#4 && w == 3#2))
  | .redc k _ _ _ => noTag k
  | .fence k scope => noTag k && noA k && noB k && (scope.toNat ≤ 4)
  | .pref k _ _ => noTag k && noB k
  | .rinv k _ _ => needTag k
  | .rwb k _ _ => needTag k
  | .rflush k _ _ => needTag k
  | .publish k _ _ => needTag k && noB k
  | .vadd _ _ _ _ vm => (vmOk vm true true false false [0, 1])
  | .vsub _ _ _ _ vm => (vmOk vm true true false false [0, 1])
  | .vmul _ _ _ _ vm => (vmOk vm true true false false [0, 1])
  | .vmulh _ _ _ _ vm => (vmOk vm true true false false [0, 1])
  | .vand _ _ _ _ vm => (vmOk vm true true false false [0, 1])
  | .vor _ _ _ _ vm => (vmOk vm true true false false [0, 1])
  | .vxor _ _ _ _ vm => (vmOk vm true true false false [0, 1])
  | .vnot k _ _ vm => noB k && (vmOk vm false true false false [0, 1])
  | .vshl _ _ _ _ vm => (vmOk vm true true false false [0, 1])
  | .vshr _ _ _ _ vm => (vmOk vm true true false false [0, 1])
  | .vsar _ _ _ _ vm => (vmOk vm true true false false [0, 1])
  | .vmin _ _ _ _ vm => (vmOk vm true true false false [0, 1])
  | .vmax _ _ _ _ vm => (vmOk vm true true false false [0, 1])
  | .vminu _ _ _ _ vm => (vmOk vm true true false false [0, 1])
  | .vmaxu _ _ _ _ vm => (vmOk vm true true false false [0, 1])
  | .vcmp _ _ _ _ vm cond => (vmOk vm true true false false [0, 1]) && (cond.toNat < 4)
  | .vsel _ _ _ _ vm _ => (vmOk vm true true false false [0, 1])
  | .viota k _ _ vm => noB k && (vmOk vm false true false false [0, 1])
  | .vpopm k _ _ vm => noB k && (vmOk vm false true true false [0, 1])
  | .vfirst k _ _ vm => noB k && (vmOk vm false true true false [0, 1])
  | .vmv k _ _ vm => noB k && (vmOk vm false true false false [0, 1])
  | .vbcast k _ _ vm => noB k && (vmOk vm false true false false [0, 1])
  | .vext k _ _ vm _ => noB k && (vmOk vm false false false false [0, 1])
  | .vins k _ _ vm _ => noB k && (vmOk vm false false false false [0, 1])
  | .vclz k _ _ vm => noB k && (vmOk vm false true false false [0, 1])
  | .vpopc k _ _ vm => noB k && (vmOk vm false true false false [0, 1])
  | .vmatch _ _ _ _ vm _ => (vmOk vm false false false false [1])
  | .vred k _ _ vm _ => noB k && (vmOk vm false true true false [0, 1])
  | .vfadd _ _ _ _ vm => (vmOk vm true true false true [2])
  | .vfsub _ _ _ _ vm => (vmOk vm true true false true [2])
  | .vfmul _ _ _ _ vm => (vmOk vm true true false true [2])
  | .vfma _ _ _ _ _ vm => (vmOk vm true true false true [2])
  | .vfms _ _ _ _ _ vm => (vmOk vm true true false true [2])
  | .vfnma _ _ _ _ _ vm => (vmOk vm true true false true [2])
  | .vfmin _ _ _ _ vm => (vmOk vm true true false false [2])
  | .vfmax _ _ _ _ vm => (vmOk vm true true false false [2])
  | .vfabs k _ _ vm => noB k && (vmOk vm false true false false [2])
  | .vfneg k _ _ vm => noB k && (vmOk vm false true false false [2])
  | .vfcmp _ _ _ _ vm cond => (vmOk vm true true false false [2]) && (cond.toNat < 5)
  | .vfclass k _ _ vm => noB k && (vmOk vm false true false false [2])
  | .vdiv _ _ _ _ vm => (vmOk vm true true false true [2])
  | .vsqrt k _ _ vm => noB k && (vmOk vm false true false true [2])
  | .vrsqrt k _ _ vm => noB k && (vmOk vm false true false true [2])
  | .vrcp k _ _ vm => noB k && (vmOk vm false true false true [2])
  | .vsqd _ _ _ _ vm => (vmOk vm true true false true [2])
  | .vfred k _ _ vm => noB k && (vmOk vm false true true true [2])
  | .vfdot _ _ _ _ vm => (vmOk vm false true true true [2])
  | .vfsgn _ _ _ _ vm mode => (vmOk vm true true false false [2]) && (mode != 3#2)
  | .vfrnd k _ _ vm => noB k && (vmOk vm false true false true [2])
  | .vld k _ _ vm lc _ => loadTag k lc && noB k && (vmOk vm false true false false [0])
  | .vst k _ _ vm _ _ => noTag k && (vmOk vm false true false false [0])
  | .vlds k _ _ _ vm lc => loadTag k lc && (vmOk vm false true false false [0])
  | .vsts k _ _ _ vm _ => noTag k && (vmOk vm false true false false [0])
  | .vldx k _ _ _ vm lc _ => loadTag k lc && (vmOk vm false true false false [0])
  | .vstx k _ _ _ vm _ _ => noTag k && (vmOk vm false true false false [0])
  | .vldb k _ _ vm lc _ => loadTag k lc && noB k && (vmOk vm false true false false [0])
  | .vperm _ _ _ _ vm => (vmOk vm false true false false [0])
  | .vslide _ _ _ _ vm _ => (vmOk vm false true false false [0])
  | .vzip _ _ _ _ vm _ => (vmOk vm false true false false [0])
  | .vunzip _ _ _ _ vm _ => (vmOk vm false true false false [0])
  | .vcvt k _ _ vm u => noB k && (vmOk vm false true false true [0, 1, 2, 3, 4]) && (cvtPair vm.ty u)
  | .vpack _ _ _ _ vm => (vmOk vm false true false true [3, 4])
  | .vunpack k _ _ vm _ => noB k && (vmOk vm false true false false [3, 4])
  | .vqld k _ _ _ vm lc => loadTag k lc && (vmOk vm false false false true [5, 6])
  | .vqdec k _ _ vm part => noB k && (vmOk vm false true false true [5, 6]) && (!(vm.ty == 5#3 && 4 ≤ part.toNat))
  | .vqst _ _ _ b _ vm mask => (vmOk vm false true true true [5, 6]) && (mask != 0#4) && (b.getLsbD 0 == false)
  | .vqenc k _ a vm mask slot => noB k && (vmOk vm false true true true [5, 6]) && (mask != 0#4) && (a.getLsbD 0 == false) && (!(vm.ty == 5#3 && 2 ≤ slot.toNat))
  | .vhdr k _ _ vm slot => noB k && (vmOk vm false false false true [5, 6]) && (!(vm.ty == 5#3 && 2 ≤ slot.toNat))
  | .vhdrw k _ _ vm slot => noB k && (vmOk vm false false false true [5, 6]) && (!(vm.ty == 5#3 && 2 ≤ slot.toNat))
  | .mma k d a b _ tb ty sp _ => needTag k && (d.toNat < 4) && (mmaTypes ty tb) && (mmaRegs ty tb sp a b)
  | .mmar k d a b _ tb ty sp _ => needTag k && (d.toNat < 4) && (mmaTypes ty tb) && (mmaRegs ty tb sp a b)
  | .mzero k d => noA k && noB k && (d.toNat < 4)
  | .mst k a _ _ _ => noTag k && (a.toNat < 4)
  | .mld k d _ _ _ => needTag k && noA k && (d.toNat < 4)
  | .mrdv k _ a vm _ => noB k && (vmOk vm false true false false [2]) && (a.toNat < 4)
  | .mwrv k d _ vm _ => noB k && (vmOk vm false true false false [2]) && (d.toNat < 4) && (!(vm.me == 1#1 && vm.mu == 0#1))
  | .mscale k d _ vm => noB k && (vmOk vm false false false true [2]) && (d.toNat < 4)
  | .mqst k a b _ ty _ mask => needTag k && (a.toNat < 4) && (ty == 5#3 || ty == 6#3) && (b != 31#5) && (mask != 0#4)
  | .mwait k => noTag k && noA k && noB k
  | .cpy k _ _ b => needTag k && (b != 0#5 || noB k)
  | .cpyt k _ _ b => needTag k && (b != 0#5 || noB k)
  | .cpyu k _ _ b => needTag k && (b != 0#5 || noB k)
  | .cpyg k _ _ b => needTag k && (b != 0#5 || noB k)
  | .cpys k _ _ b => needTag k && (b != 0#5 || noB k)
  | .cpyf k _ _ b => needTag k && (b != 0#5 || noB k)
  | .cpyq k _ _ b => needTag k && (b != 0#5 || noB k)
  | .accsv k _ a _ _ _ _ _ => needTag k && (a.toNat < 4)
  | .accrs k _ a _ _ _ _ _ => needTag k && noA k && (a.toNat < 4)
  | .xfer k _ _ b _ => needTag k && (b != 0#5 || noB k)
  | .xferq k _ _ b _ => needTag k && (b != 0#5 || noB k)
  | .weir k b _ => noTag k && noA k && (b != 0#5 || noB k)
  | .weira k b _ => noTag k && noA k && (b != 0#5 || noB k)
  | .weirw k _ => noTag k && noA k && noB k
  | .weirx k wn => noTag k && noA k && noB k && (wn != 0#4)
  | .evwaitLine k _ => noTag k && noA k && noB k
  | .evwaitMutex k idx => noTag k && noA k && noB k && (idx.toNat < 8)
  | .evwaitBarrier k idx => noTag k && noA k && noB k && (idx.toNat < 4)
  | .evsigLine k a far _ => noTag k && (far == 1#1 || noA k) && noB k && (far == 1#1 || a == 0#5)
  | .evsigMutex k idx => noTag k && noA k && noB k && (idx.toNat < 8)
  | .tlwaitMem k _ _ => noTag k
  | .tlwaitSluice k _ => noTag k && noA k
  | .tlwaitMillrace k _ _ => noTag k && noA k
  | .tlwaitUpdate k _ => noTag k && noA k
  | .tlsig k _ _ => noTag k
  | .comm k => noTag k && noA k && noB k
  | .sendf k _ _ => noTag k && noA k
  | .anew k _ => needTag k && noA k && noB k
  | .anewTx k _ _ => needTag k && noA k && noB k
  | .lapply _ _ _ _ vm v => (labelVm vm v)
  | .amb k _ => noTag k && noB k
  | .nogood k _ => noTag k && noB k
  | .assert k _ _ => needTag k && noB k
  | .retract k _ => noTag k && noB k
  | .vjoin _ _ _ _ vm => (vmOk vm true true false false [0])
  | .lget k _ _ vm v => noB k && (labelVm vm v)
  | .lstrip k _ _ vm v => noB k && (labelVm vm v)
  | .lread k _ _ _ => needTag k && noB k
  | .ltest k _ _ vm v cond => noB k && (labelVm vm v) && (cond.toNat < 7)
  | .lfence k => noTag k && noA k && noB k
  | .settle k _ => needTag k && noA k && noB k
  | .lscrub k _ _ _ _ _ _ => needTag k && noB k
  | .srreg _ _ _ => true
  | .srvFinish k n => noTag k && noA k && noB k && (n != 0#4)
  | .srvSummarise k => noTag k && noA k && noB k
  | .srvRefuse k => noTag k && noA k && noB k
  | .release k => noTag k && noA k && noB k
  | .lease k _ _ _ => needTag k
  | .plbset k _ _ _ => needTag k
  | .replay k _ => needTag k && noA k && noB k
  | .flushcode k _ _ => needTag k && noB k
  | .idle k => noTag k && noA k && noB k
  | .fpkt k _ _ => needTag k && noB k
  | .resume k _ _ => needTag k && noB k
  | .kill k _ _ => needTag k && noB k
  | .qprio _ _ _ => true
  | .aperset k _ _ _ => needTag k
  | .snap k _ _ _ => needTag k
  | .migrateMove k _ _ _ => needTag k
  | .migrateFlush k _ _ => needTag k && noB k
  | .registerCacheFill _ _ _ => false
  | .flumeDelivery _ _ _ _ => false
  | .hostBar2Read _ _ _ => false
  | .hostBar2Write _ _ _ _ => false
  | .physicalWindowAccess _ _ _ _ => false
  | .tflushWrite _ => false
  | .queueDoorbell _ _ _ => false
  | .queueCfgWrite _ _ _ => false
  | .faultBufferHeadWrite _ _ => false
  | .failureAnswer _ _ _ => false
  | .nqheadWrite _ _ => false
  | .pubvUpdate _ _ _ => false
  | .directoryWrite _ _ => false
  | .pcapWrite _ => false
  | .registerWrite _ _ => false
  | .attestReadPage _ => false
  | .powerUp _ => false
  | .moduleReset _ => false
  | .telemetrySample _ _ _ => false
  | .flitReceive _ _ => false
  | .remoteWindowAccess _ _ => false
  | .remoteSlotOpen _ _ => false
  | .remoteAssert _ _ => false
  | .assertAck _ _ => false
  | .hostReadResponse _ _ _ => false
  | .hostWriteThroughComplete _ => false
  | .unassignedEncoding _ => false
  | .pcieLinkStateChange _ _ => false
  | .uncorrectableError _ => false
  | .remoteAccessAnswer _ _ _ => false
  | .remoteSlotAnswer _ _ _ _ => false
  | .icacheFill => false
  | .resultLanding => false
  | .tagFree => false
  | .gapExpiry => false
  | .homeAccess => false
  | .partialCombine => false
  | .nearCacheFill => false
  | .translationWalk => false
  | .leafReturn => false
  | .memoryFill => false
  | .writeBack => false
  | .faultRecordArrival => false
  | .labelResolve => false
  | .internProbe => false
  | .sluiceCapture => false
  | .sluiceJobStart => false
  | .sluiceWriteLanding => false
  | .sluiceJobComplete => false
  | .millraceCapture => false
  | .millraceJobEnd => false
  | .gangStart => false
  | .gangColumnComplete => false
  | .mmarInboundLanding => false
  | .weirArrivalCounted => false
  | .weirRelease => false
  | .holdingDeparture => false
  | .eventSignalEffect => false
  | .eventWake => false
  | .eventLineStore => false
  | .barrierTargetStore => false
  | .domainHomeOperation => false
  | .domainAnswer => false
  | .eraRewriteDone => false
  | .helperRetire => false
  | .haltWake => false
  | .recallDelivery => false
  | .finishDeadline => false
  | .surrenderOverrun => false
  | .faultReport => false
  | .faultPacketOffer => false
  | .distributorRound => false
  | .launchBind => false
  | .launchEndSweep => false
  | .preemption => false
  | .restore => false
  | .snapshotCopy => false
  | .migrationCopyDone => false
  | .faultBufferFlush => false
  | .tenantReset => false
  | .attestMakeReport => false
  | .attestFetchKey => false
  | .attestReportReady => false
  | .configRequest => false
  | .pcieTrainTimeout => false
  | .nelrekStateAdvance => false
  | .nelrekStateTimeout => false
  | .nelrekRetry => false
  | .divideUnitFree => false

end Sys2Proof
end

