-- ==== Sys2Proof/Decode.lean ====
section
/-! DEFINITION. Sys2Proof/Decode.lean: the encoding tables of R128 to R137 read both ways. `Instr.bits` lays an instruction's
fields out as its 128 instruction bits (R127; bits above its length are zero), `decode` reads them back. The decoder accepts a
word only when laying its fields out again gives the same word, so that every unused field is zero (R131), and the instruction is
well-formed; everything else is UNASSIGNED_ENCODING, by name (R137). -/

namespace Sys2Proof

/-- The modifier bits [63:51] in order (R132). -/
def VMod.bits (m : VMod) : BitVec 13 := m.mreg ++ m.me ++ m.mu ++ m.bs ++ m.rm ++ m.ty

/-- The fields laid out from the high bit down (R129, R130). -/
def asm (hi : BitVec 64) (x : BitVec 19) (b a d : BitVec 5) (op : BitVec 10) (k : Ctl) (len : BitVec 2) : BitVec 128 :=
  hi ++ x ++ b ++ a ++ d ++ op ++ k.wait ++ k.alloc ++ k.pb ++ k.pa ++ k.gap ++ k.y ++ len

/-- The 128 instruction bits of an issued instruction (R127, R130, R136); zero, the illegal word, for a step of the module. -/
def Instr.bits (i : Instr) : BitVec 128 :=
  match i with
  | .nop k => asm 0#64 0#19 0#5 0#5 0#5 0x000#10 k 1#2
  | .halt k => asm 0#64 0#19 0#5 0#5 0#5 0x001#10 k 1#2
  | .br k off => asm 0#64 off 0#5 0#5 0#5 0x002#10 k 1#2
  | .brc k a b cond off => asm (0#32 ++ off) (0#11 ++ cond ++ 0#5) b a 0#5 0x003#10 k 2#2
  | .brz k a off => asm 0#64 off 0#5 a 0#5 0x004#10 k 1#2
  | .brnz k a off => asm 0#64 off 0#5 a 0#5 0x005#10 k 1#2
  | .brv k a off => asm 0#64 off 0#5 a 0#5 0x006#10 k 1#2
  | .call k off => asm 0#64 off 0#5 0#5 0#5 0x007#10 k 1#2
  | .callr k a => asm 0#64 0#19 0#5 a 0#5 0x008#10 k 1#2
  | .ret k => asm 0#64 0#19 0#5 0#5 0#5 0x009#10 k 1#2
  | .jmpr k a => asm 0#64 0#19 0#5 a 0#5 0x00A#10 k 1#2
  | .loop k d off => asm 0#64 off 0#5 0#5 d 0x00B#10 k 1#2
  | .hstart k d a b off => asm (0#32 ++ off) (0#14 ++ 0#5) b a d 0x00C#10 k 2#2
  | .hend k => asm 0#64 0#19 0#5 0#5 0#5 0x00D#10 k 1#2
  | .hjoin k a => asm 0#64 0#19 0#5 a 0#5 0x00E#10 k 1#2
  | .yield k n => asm 0#64 n 0#5 0#5 0#5 0x00F#10 k 1#2
  | .trap k n => asm 0#64 n 0#5 0#5 0#5 0x010#10 k 1#2
  | .brk k n => asm 0#64 n 0#5 0#5 0#5 0x011#10 k 1#2
  | .add k d a b => asm 0#64 0#19 b a d 0x040#10 k 1#2
  | .addi k d a imm => asm 0#64 imm 0#5 a d 0x041#10 k 1#2
  | .sub k d a b => asm 0#64 0#19 b a d 0x042#10 k 1#2
  | .mul k d a b => asm 0#64 0#19 b a d 0x043#10 k 1#2
  | .mulh k d a b => asm 0#64 0#19 b a d 0x044#10 k 1#2
  | .mulhu k d a b => asm 0#64 0#19 b a d 0x045#10 k 1#2
  | .div k d a b => asm 0#64 0#19 b a d 0x046#10 k 1#2
  | .divu k d a b => asm 0#64 0#19 b a d 0x047#10 k 1#2
  | .rem k d a b => asm 0#64 0#19 b a d 0x048#10 k 1#2
  | .remu k d a b => asm 0#64 0#19 b a d 0x049#10 k 1#2
  | .and k d a b => asm 0#64 0#19 b a d 0x04A#10 k 1#2
  | .andi k d a imm => asm 0#64 imm 0#5 a d 0x04B#10 k 1#2
  | .or k d a b => asm 0#64 0#19 b a d 0x04C#10 k 1#2
  | .ori k d a imm => asm 0#64 imm 0#5 a d 0x04D#10 k 1#2
  | .xor k d a b => asm 0#64 0#19 b a d 0x04E#10 k 1#2
  | .xori k d a imm => asm 0#64 imm 0#5 a d 0x04F#10 k 1#2
  | .shl k d a b => asm 0#64 0#19 b a d 0x050#10 k 1#2
  | .shli k d a sh => asm 0#64 sh 0#5 a d 0x051#10 k 1#2
  | .shr k d a b => asm 0#64 0#19 b a d 0x052#10 k 1#2
  | .shri k d a sh => asm 0#64 sh 0#5 a d 0x053#10 k 1#2
  | .sar k d a b => asm 0#64 0#19 b a d 0x054#10 k 1#2
  | .sari k d a sh => asm 0#64 sh 0#5 a d 0x055#10 k 1#2
  | .min k d a b => asm 0#64 0#19 b a d 0x056#10 k 1#2
  | .max k d a b => asm 0#64 0#19 b a d 0x057#10 k 1#2
  | .minu k d a b => asm 0#64 0#19 b a d 0x058#10 k 1#2
  | .maxu k d a b => asm 0#64 0#19 b a d 0x059#10 k 1#2
  | .slt k d a b => asm 0#64 0#19 b a d 0x05A#10 k 1#2
  | .sltu k d a b => asm 0#64 0#19 b a d 0x05B#10 k 1#2
  | .seq k d a b => asm 0#64 0#19 b a d 0x05C#10 k 1#2
  | .sel k d a b c => asm (0#32 ++ 0#32) (0#14 ++ c) b a d 0x05D#10 k 2#2
  | .clz k d a => asm 0#64 0#19 0#5 a d 0x05E#10 k 1#2
  | .popc k d a => asm 0#64 0#19 0#5 a d 0x05F#10 k 1#2
  | .bfx k d a sx width pos => asm 0#64 (0#5 ++ sx ++ width ++ pos) 0#5 a d 0x060#10 k 1#2
  | .bfi k d a width pos => asm 0#64 (0#6 ++ width ++ pos) 0#5 a d 0x061#10 k 1#2
  | .li k d imm => asm (0#32 ++ imm) (0#14 ++ 0#5) 0#5 0#5 d 0x062#10 k 2#2
  | .liw k d imm => asm imm 0#19 0#5 0#5 d 0x063#10 k 3#2
  | .lea k d a b sh imm => asm (0#32 ++ imm) (0#11 ++ sh ++ 0#5) b a d 0x064#10 k 2#2
  | .srd k d n => asm 0#64 (0#7 ++ n) 0#5 0#5 d 0x065#10 k 1#2
  | .swr k a n => asm 0#64 (0#7 ++ n) 0#5 a 0#5 0x066#10 k 1#2
  | .ld k d a off w z lc => asm 0#64 (off ++ w ++ z ++ lc ++ 0#1) 0#5 a d 0x080#10 k 1#2
  | .st k a b off w lc => asm 0#64 (off ++ w ++ 0#1 ++ lc ++ 0#1) b a 0#5 0x081#10 k 1#2
  | .ldacq k d a off w z lc => asm 0#64 (off ++ w ++ z ++ lc ++ 0#1) 0#5 a d 0x082#10 k 1#2
  | .strel k a b off w lc => asm 0#64 (off ++ w ++ 0#1 ++ lc ++ 0#1) b a 0#5 0x083#10 k 1#2
  | .amo k d a b off w op => asm 0#64 (off ++ w ++ op ++ 0#1) b a d 0x084#10 k 1#2
  | .cas k d a b c w off => asm (0#32 ++ off) (0#12 ++ w ++ c) b a d 0x085#10 k 2#2
  | .red k a b off w op => asm 0#64 (off ++ w ++ op ++ 0#1) b a 0#5 0x086#10 k 1#2
  | .redc k a b off => asm 0#64 (off ++ 2#2 ++ 0#4 ++ 0#1) b a 0#5 0x087#10 k 1#2
  | .fence k scope => asm 0#64 (0#16 ++ scope) 0#5 0#5 0#5 0x088#10 k 1#2
  | .pref k a off => asm 0#64 (off ++ 0#5) 0#5 a 0#5 0x089#10 k 1#2
  | .rinv k a b => asm 0#64 0#19 b a 0#5 0x08A#10 k 1#2
  | .rwb k a b => asm 0#64 0#19 b a 0#5 0x08B#10 k 1#2
  | .rflush k a b => asm 0#64 0#19 b a 0#5 0x08C#10 k 1#2
  | .publish k d a => asm 0#64 0#19 0#5 a d 0x08D#10 k 1#2
  | .vadd k d a b vm => asm 0#64 (vm.bits ++ 0#6) b a d 0x0C0#10 k 1#2
  | .vsub k d a b vm => asm 0#64 (vm.bits ++ 0#6) b a d 0x0C1#10 k 1#2
  | .vmul k d a b vm => asm 0#64 (vm.bits ++ 0#6) b a d 0x0C2#10 k 1#2
  | .vmulh k d a b vm => asm 0#64 (vm.bits ++ 0#6) b a d 0x0C3#10 k 1#2
  | .vand k d a b vm => asm 0#64 (vm.bits ++ 0#6) b a d 0x0C4#10 k 1#2
  | .vor k d a b vm => asm 0#64 (vm.bits ++ 0#6) b a d 0x0C5#10 k 1#2
  | .vxor k d a b vm => asm 0#64 (vm.bits ++ 0#6) b a d 0x0C6#10 k 1#2
  | .vnot k d a vm => asm 0#64 (vm.bits ++ 0#6) 0#5 a d 0x0C7#10 k 1#2
  | .vshl k d a b vm => asm 0#64 (vm.bits ++ 0#6) b a d 0x0C8#10 k 1#2
  | .vshr k d a b vm => asm 0#64 (vm.bits ++ 0#6) b a d 0x0C9#10 k 1#2
  | .vsar k d a b vm => asm 0#64 (vm.bits ++ 0#6) b a d 0x0CA#10 k 1#2
  | .vmin k d a b vm => asm 0#64 (vm.bits ++ 0#6) b a d 0x0CB#10 k 1#2
  | .vmax k d a b vm => asm 0#64 (vm.bits ++ 0#6) b a d 0x0CC#10 k 1#2
  | .vminu k d a b vm => asm 0#64 (vm.bits ++ 0#6) b a d 0x0CD#10 k 1#2
  | .vmaxu k d a b vm => asm 0#64 (vm.bits ++ 0#6) b a d 0x0CE#10 k 1#2
  | .vcmp k d a b vm cond => asm 0#64 (vm.bits ++ 0#3 ++ cond) b a d 0x0CF#10 k 1#2
  | .vsel k d a b vm svec => asm 0#64 (vm.bits ++ 0#1 ++ svec) b a d 0x0D0#10 k 1#2
  | .viota k d a vm => asm 0#64 (vm.bits ++ 0#6) 0#5 a d 0x0D1#10 k 1#2
  | .vpopm k d a vm => asm 0#64 (vm.bits ++ 0#6) 0#5 a d 0x0D2#10 k 1#2
  | .vfirst k d a vm => asm 0#64 (vm.bits ++ 0#6) 0#5 a d 0x0D3#10 k 1#2
  | .vmv k d a vm => asm 0#64 (vm.bits ++ 0#6) 0#5 a d 0x0D4#10 k 1#2
  | .vbcast k d a vm => asm 0#64 (vm.bits ++ 0#6) 0#5 a d 0x0D5#10 k 1#2
  | .vext k d a vm n => asm 0#64 (vm.bits ++ 0#2 ++ n) 0#5 a d 0x0D6#10 k 1#2
  | .vins k d a vm n => asm 0#64 (vm.bits ++ 0#2 ++ n) 0#5 a d 0x0D7#10 k 1#2
  | .vclz k d a vm => asm 0#64 (vm.bits ++ 0#6) 0#5 a d 0x0D8#10 k 1#2
  | .vpopc k d a vm => asm 0#64 (vm.bits ++ 0#6) 0#5 a d 0x0D9#10 k 1#2
  | .vmatch k d a b vm side => asm 0#64 (vm.bits ++ 0#5 ++ side) b a d 0x0DA#10 k 1#2
  | .vred k d a vm op => asm 0#64 (vm.bits ++ 0#3 ++ op) 0#5 a d 0x0DB#10 k 1#2
  | .vfadd k d a b vm => asm 0#64 (vm.bits ++ 0#6) b a d 0x100#10 k 1#2
  | .vfsub k d a b vm => asm 0#64 (vm.bits ++ 0#6) b a d 0x101#10 k 1#2
  | .vfmul k d a b vm => asm 0#64 (vm.bits ++ 0#6) b a d 0x102#10 k 1#2
  | .vfma k d a b c vm => asm (0#32 ++ 0#32) (vm.bits ++ 0#1 ++ c) b a d 0x103#10 k 2#2
  | .vfms k d a b c vm => asm (0#32 ++ 0#32) (vm.bits ++ 0#1 ++ c) b a d 0x104#10 k 2#2
  | .vfnma k d a b c vm => asm (0#32 ++ 0#32) (vm.bits ++ 0#1 ++ c) b a d 0x105#10 k 2#2
  | .vfmin k d a b vm => asm 0#64 (vm.bits ++ 0#6) b a d 0x106#10 k 1#2
  | .vfmax k d a b vm => asm 0#64 (vm.bits ++ 0#6) b a d 0x107#10 k 1#2
  | .vfabs k d a vm => asm 0#64 (vm.bits ++ 0#6) 0#5 a d 0x108#10 k 1#2
  | .vfneg k d a vm => asm 0#64 (vm.bits ++ 0#6) 0#5 a d 0x109#10 k 1#2
  | .vfcmp k d a b vm cond => asm 0#64 (vm.bits ++ 0#3 ++ cond) b a d 0x10A#10 k 1#2
  | .vfclass k d a vm => asm 0#64 (vm.bits ++ 0#6) 0#5 a d 0x10B#10 k 1#2
  | .vdiv k d a b vm => asm 0#64 (vm.bits ++ 0#6) b a d 0x10C#10 k 1#2
  | .vsqrt k d a vm => asm 0#64 (vm.bits ++ 0#6) 0#5 a d 0x10D#10 k 1#2
  | .vrsqrt k d a vm => asm 0#64 (vm.bits ++ 0#6) 0#5 a d 0x10E#10 k 1#2
  | .vrcp k d a vm => asm 0#64 (vm.bits ++ 0#6) 0#5 a d 0x10F#10 k 1#2
  | .vsqd k d a b vm => asm 0#64 (vm.bits ++ 0#6) b a d 0x110#10 k 1#2
  | .vfred k d a vm => asm 0#64 (vm.bits ++ 0#6) 0#5 a d 0x111#10 k 1#2
  | .vfdot k d a b vm => asm 0#64 (vm.bits ++ 0#6) b a d 0x112#10 k 1#2
  | .vfsgn k d a b vm mode => asm 0#64 (vm.bits ++ 0#4 ++ mode) b a d 0x113#10 k 1#2
  | .vfrnd k d a vm => asm 0#64 (vm.bits ++ 0#6) 0#5 a d 0x114#10 k 1#2
  | .vld k d a vm lc off => asm 0#64 (vm.bits ++ lc ++ off) 0#5 a d 0x140#10 k 1#2
  | .vst k a b vm lc off => asm 0#64 (vm.bits ++ lc ++ off) b a 0#5 0x141#10 k 1#2
  | .vlds k d a b vm lc => asm 0#64 (vm.bits ++ lc ++ 0#5) b a d 0x142#10 k 1#2
  | .vsts k d a b vm lc => asm 0#64 (vm.bits ++ lc ++ 0#5) b a d 0x143#10 k 1#2
  | .vldx k d a b vm lc scale => asm 0#64 (vm.bits ++ lc ++ 0#3 ++ scale) b a d 0x144#10 k 1#2
  | .vstx k d a b vm lc scale => asm 0#64 (vm.bits ++ lc ++ 0#3 ++ scale) b a d 0x145#10 k 1#2
  | .vldb k d a vm lc off => asm 0#64 (vm.bits ++ lc ++ off) 0#5 a d 0x146#10 k 1#2
  | .vperm k d a b vm => asm 0#64 (vm.bits ++ 0#6) b a d 0x147#10 k 1#2
  | .vslide k d a b vm n => asm 0#64 (vm.bits ++ 0#2 ++ n) b a d 0x148#10 k 1#2
  | .vzip k d a b vm half => asm 0#64 (vm.bits ++ 0#5 ++ half) b a d 0x149#10 k 1#2
  | .vunzip k d a b vm half => asm 0#64 (vm.bits ++ 0#5 ++ half) b a d 0x14A#10 k 1#2
  | .vcvt k d a vm u => asm 0#64 (vm.bits ++ 0#3 ++ u) 0#5 a d 0x14B#10 k 1#2
  | .vpack k d a b vm => asm 0#64 (vm.bits ++ 0#6) b a d 0x14C#10 k 1#2
  | .vunpack k d a vm half => asm 0#64 (vm.bits ++ 0#5 ++ half) 0#5 a d 0x14D#10 k 1#2
  | .vqld k d a b vm lc => asm 0#64 (vm.bits ++ lc ++ 0#5) b a d 0x14E#10 k 1#2
  | .vqdec k d a vm part => asm 0#64 (vm.bits ++ 0#3 ++ part) 0#5 a d 0x14F#10 k 1#2
  | .vqst k d a b c vm mask => asm (0#32 ++ (0#28 ++ mask)) (vm.bits ++ 0#1 ++ c) b a d 0x150#10 k 2#2
  | .vqenc k d a vm mask slot => asm 0#64 (vm.bits ++ mask ++ slot) 0#5 a d 0x151#10 k 1#2
  | .vhdr k d a vm slot => asm 0#64 (vm.bits ++ 0#4 ++ slot) 0#5 a d 0x152#10 k 1#2
  | .vhdrw k d a vm slot => asm 0#64 (vm.bits ++ 0#4 ++ slot) 0#5 a d 0x153#10 k 1#2
  | .mma k d a b c tb ty sp zc => asm (0#32 ++ (0#31 ++ zc)) (0#5 ++ tb ++ 0#2 ++ ty ++ sp ++ c) b a d 0x180#10 k 2#2
  | .mmar k d a b c tb ty sp zc => asm (0#32 ++ (0#31 ++ zc)) (0#5 ++ tb ++ 0#2 ++ ty ++ sp ++ c) b a d 0x181#10 k 2#2
  | .mzero k d => asm 0#64 0#19 0#5 0#5 d 0x182#10 k 1#2
  | .mst k a b c off => asm (0#32 ++ off) (0#10 ++ 2#3 ++ 0#1 ++ c) b a 0#5 0x183#10 k 2#2
  | .mld k d b c off => asm (0#32 ++ off) (0#10 ++ 2#3 ++ 0#1 ++ c) b 0#5 d 0x184#10 k 2#2
  | .mrdv k d a vm r => asm 0#64 (vm.bits ++ 0#3 ++ r) 0#5 a d 0x185#10 k 1#2
  | .mwrv k d a vm r => asm 0#64 (vm.bits ++ 0#3 ++ r) 0#5 a d 0x186#10 k 1#2
  | .mscale k d a vm => asm 0#64 (vm.bits ++ 0#6) 0#5 a d 0x187#10 k 1#2
  | .mqst k a b c ty co mask => asm (0#32 ++ (0#28 ++ mask)) (0#10 ++ ty ++ co ++ c) b a 0#5 0x188#10 k 2#2
  | .mwait k => asm 0#64 0#19 0#5 0#5 0#5 0x189#10 k 1#2
  | .cpy k d a b => asm 0#64 0#19 b a d 0x1C0#10 k 1#2
  | .cpyt k d a b => asm 0#64 0#19 b a d 0x1C1#10 k 1#2
  | .cpyu k d a b => asm 0#64 0#19 b a d 0x1C2#10 k 1#2
  | .cpyg k d a b => asm 0#64 0#19 b a d 0x1C3#10 k 1#2
  | .cpys k d a b => asm 0#64 0#19 b a d 0x1C4#10 k 1#2
  | .cpyf k d a b => asm 0#64 0#19 b a d 0x1C5#10 k 1#2
  | .cpyq k d a b => asm 0#64 0#19 b a d 0x1C6#10 k 1#2
  | .accsv k d a b evl eve weirn wpe => asm 0#64 (evl ++ eve ++ weirn ++ wpe ++ 0#8) b a d 0x1C7#10 k 1#2
  | .accrs k d a b evl eve weirn wpe => asm 0#64 (evl ++ eve ++ weirn ++ wpe ++ 0#8) b a d 0x1C8#10 k 1#2
  | .xfer k d a b n => asm 0#64 (0#13 ++ n) b a d 0x1C9#10 k 1#2
  | .xferq k d a b n => asm 0#64 (0#13 ++ n) b a d 0x1CA#10 k 1#2
  | .weir k b wn => asm 0#64 (0#15 ++ wn) b 0#5 0#5 0x200#10 k 1#2
  | .weira k b wn => asm 0#64 (0#15 ++ wn) b 0#5 0#5 0x201#10 k 1#2
  | .weirw k wn => asm 0#64 (0#15 ++ wn) 0#5 0#5 0#5 0x202#10 k 1#2
  | .weirx k wn => asm 0#64 (0#15 ++ wn) 0#5 0#5 0#5 0x203#10 k 1#2
  | .evwaitLine k idx => asm 0#64 (0#11 ++ 0#2 ++ 0#1 ++ idx) 0#5 0#5 0#5 0x204#10 k 1#2
  | .evwaitMutex k idx => asm 0#64 (0#11 ++ 1#2 ++ 0#1 ++ idx) 0#5 0#5 0#5 0x204#10 k 1#2
  | .evwaitBarrier k idx => asm 0#64 (0#11 ++ 2#2 ++ 0#1 ++ idx) 0#5 0#5 0#5 0x204#10 k 1#2
  | .evsigLine k a far idx => asm 0#64 (0#11 ++ 0#2 ++ far ++ idx) 0#5 a 0#5 0x205#10 k 1#2
  | .evsigMutex k idx => asm 0#64 (0#11 ++ 1#2 ++ 0#1 ++ idx) 0#5 0#5 0#5 0x205#10 k 1#2
  | .tlwaitMem k a b => asm 0#64 (0#11 ++ 0#2 ++ 0#6) b a 0#5 0x206#10 k 1#2
  | .tlwaitSluice k b => asm 0#64 (0#11 ++ 1#2 ++ 0#6) b 0#5 0#5 0x206#10 k 1#2
  | .tlwaitMillrace k b idx => asm 0#64 (0#11 ++ 2#2 ++ idx) b 0#5 0#5 0x206#10 k 1#2
  | .tlwaitUpdate k b => asm 0#64 (0#11 ++ 3#2 ++ 0#6) b 0#5 0#5 0x206#10 k 1#2
  | .tlsig k a b => asm 0#64 (0#11 ++ 0#2 ++ 0#6) b a 0#5 0x207#10 k 1#2
  | .comm k => asm 0#64 0#19 0#5 0#5 0#5 0x208#10 k 1#2
  | .sendf k b f => asm 0#64 (0#14 ++ f) b 0#5 0#5 0x209#10 k 1#2
  | .anew k d => asm 0#64 (0#13 ++ 0#1 ++ 0#5) 0#5 0#5 d 0x240#10 k 1#2
  | .anewTx k d link => asm 0#64 (0#13 ++ 1#1 ++ link ++ 0#1) 0#5 0#5 d 0x240#10 k 1#2
  | .lapply k d a b vm v => asm 0#64 (vm.bits ++ v ++ 0#5) b a d 0x241#10 k 1#2
  | .amb k a => asm 0#64 0#19 0#5 a 0#5 0x242#10 k 1#2
  | .nogood k a => asm 0#64 0#19 0#5 a 0#5 0x243#10 k 1#2
  | .assert k d a => asm 0#64 0#19 0#5 a d 0x244#10 k 1#2
  | .retract k a => asm 0#64 0#19 0#5 a 0#5 0x245#10 k 1#2
  | .vjoin k d a b vm => asm 0#64 (vm.bits ++ 0#6) b a d 0x246#10 k 1#2
  | .lget k d a vm v => asm 0#64 (vm.bits ++ v ++ 0#5) 0#5 a d 0x247#10 k 1#2
  | .lstrip k d a vm v => asm 0#64 (vm.bits ++ v ++ 0#5) 0#5 a d 0x248#10 k 1#2
  | .lread k d a n => asm 0#64 (0#17 ++ n) 0#5 a d 0x249#10 k 1#2
  | .ltest k d a vm v cond => asm 0#64 (vm.bits ++ v ++ 0#2 ++ cond) 0#5 a d 0x24A#10 k 1#2
  | .lfence k => asm 0#64 0#19 0#5 0#5 0#5 0x24B#10 k 1#2
  | .settle k d => asm 0#64 0#19 0#5 0#5 d 0x24C#10 k 1#2
  | .lscrub k d a evl eve weirn wpe => asm 0#64 (evl ++ eve ++ weirn ++ wpe ++ 0#8) 0#5 a d 0x24D#10 k 1#2
  | .srreg k a b => asm 0#64 0#19 b a 0#5 0x280#10 k 1#2
  | .srvFinish k n => asm 0#64 (0#13 ++ n ++ 0#2) 0#5 0#5 0#5 0x281#10 k 1#2
  | .srvSummarise k => asm 0#64 (0#17 ++ 1#2) 0#5 0#5 0#5 0x281#10 k 1#2
  | .srvRefuse k => asm 0#64 (0#17 ++ 2#2) 0#5 0#5 0#5 0x281#10 k 1#2
  | .release k => asm 0#64 0#19 0#5 0#5 0#5 0x282#10 k 1#2
  | .lease k d a b => asm 0#64 0#19 b a d 0x283#10 k 1#2
  | .plbset k d a b => asm 0#64 0#19 b a d 0x2C0#10 k 1#2
  | .replay k d => asm 0#64 0#19 0#5 0#5 d 0x2C1#10 k 1#2
  | .flushcode k d a => asm 0#64 0#19 0#5 a d 0x2C2#10 k 1#2
  | .idle k => asm 0#64 0#19 0#5 0#5 0#5 0x2C3#10 k 1#2
  | .fpkt k d a => asm 0#64 0#19 0#5 a d 0x2C4#10 k 1#2
  | .resume k d a => asm 0#64 0#19 0#5 a d 0x2C5#10 k 1#2
  | .kill k d a => asm 0#64 0#19 0#5 a d 0x2C6#10 k 1#2
  | .qprio k a b => asm 0#64 0#19 b a 0#5 0x2C7#10 k 1#2
  | .aperset k d a b => asm 0#64 0#19 b a d 0x2C8#10 k 1#2
  | .snap k d a b => asm 0#64 0#19 b a d 0x2C9#10 k 1#2
  | .migrateMove k d a b => asm 0#64 (0#18 ++ 0#1) b a d 0x2CA#10 k 1#2
  | .migrateFlush k d a => asm 0#64 (0#18 ++ 1#1) 0#5 a d 0x2CA#10 k 1#2
  | .registerCacheFill _ _ _ => 0#128
  | .flumeDelivery _ _ _ _ => 0#128
  | .hostBar2Read _ _ _ => 0#128
  | .hostBar2Write _ _ _ _ => 0#128
  | .physicalWindowAccess _ _ _ _ => 0#128
  | .tflushWrite _ => 0#128
  | .queueDoorbell _ _ _ => 0#128
  | .queueCfgWrite _ _ _ => 0#128
  | .faultBufferHeadWrite _ _ => 0#128
  | .failureAnswer _ _ _ => 0#128
  | .nqheadWrite _ _ => 0#128
  | .pubvUpdate _ _ _ => 0#128
  | .directoryWrite _ _ => 0#128
  | .pcapWrite _ => 0#128
  | .registerWrite _ _ => 0#128
  | .attestReadPage _ => 0#128
  | .powerUp _ => 0#128
  | .moduleReset _ => 0#128
  | .telemetrySample _ _ _ => 0#128
  | .flitReceive _ _ => 0#128
  | .remoteWindowAccess _ _ => 0#128
  | .remoteSlotOpen _ _ => 0#128
  | .remoteAssert _ _ => 0#128
  | .assertAck _ _ => 0#128
  | .hostReadResponse _ _ _ => 0#128
  | .hostWriteThroughComplete _ => 0#128
  | .unassignedEncoding _ => 0#128
  | .pcieLinkStateChange _ _ => 0#128
  | .uncorrectableError _ => 0#128
  | .remoteAccessAnswer _ _ _ => 0#128
  | .remoteSlotAnswer _ _ _ _ => 0#128
  | .icacheFill => 0#128
  | .resultLanding => 0#128
  | .tagFree => 0#128
  | .gapExpiry => 0#128
  | .homeAccess => 0#128
  | .partialCombine => 0#128
  | .nearCacheFill => 0#128
  | .translationWalk => 0#128
  | .leafReturn => 0#128
  | .memoryFill => 0#128
  | .writeBack => 0#128
  | .faultRecordArrival => 0#128
  | .labelResolve => 0#128
  | .internProbe => 0#128
  | .sluiceCapture => 0#128
  | .sluiceJobStart => 0#128
  | .sluiceWriteLanding => 0#128
  | .sluiceJobComplete => 0#128
  | .millraceCapture => 0#128
  | .millraceJobEnd => 0#128
  | .gangStart => 0#128
  | .gangColumnComplete => 0#128
  | .mmarInboundLanding => 0#128
  | .weirArrivalCounted => 0#128
  | .weirRelease => 0#128
  | .holdingDeparture => 0#128
  | .eventSignalEffect => 0#128
  | .eventWake => 0#128
  | .eventLineStore => 0#128
  | .barrierTargetStore => 0#128
  | .domainHomeOperation => 0#128
  | .domainAnswer => 0#128
  | .eraRewriteDone => 0#128
  | .helperRetire => 0#128
  | .haltWake => 0#128
  | .recallDelivery => 0#128
  | .finishDeadline => 0#128
  | .surrenderOverrun => 0#128
  | .faultReport => 0#128
  | .faultPacketOffer => 0#128
  | .distributorRound => 0#128
  | .launchBind => 0#128
  | .launchEndSweep => 0#128
  | .preemption => 0#128
  | .restore => 0#128
  | .snapshotCopy => 0#128
  | .migrationCopyDone => 0#128
  | .faultBufferFlush => 0#128
  | .tenantReset => 0#128
  | .attestMakeReport => 0#128
  | .attestFetchKey => 0#128
  | .attestReportReady => 0#128
  | .configRequest => 0#128
  | .pcieTrainTimeout => 0#128
  | .nelrekStateAdvance => 0#128
  | .nelrekStateTimeout => 0#128
  | .nelrekRetry => 0#128
  | .divideUnitFree => 0#128

/-- The control field of a word (R129). -/
def ctlOf (w : BitVec 128) : Ctl :=
  { wait := w.extractLsb' 13 7, alloc := w.extractLsb' 10 3, pb := w.extractLsb' 8 2, pa := w.extractLsb' 6 2,
    gap := w.extractLsb' 3 3, y := w.extractLsb' 2 1 }

/-- The vector modifiers of a word (R132). -/
def vmOf (w : BitVec 128) : VMod :=
  { mreg := w.extractLsb' 59 5, me := w.extractLsb' 58 1, mu := w.extractLsb' 57 1, bs := w.extractLsb' 56 1,
    rm := w.extractLsb' 54 2, ty := w.extractLsb' 51 3 }

/-- The reading of a word's fields under its OP (R136), before any check. Where one opcode serves several rows, the KIND, TX,
VERD or MODE bits choose (R266, R272, R277, R287, R293). -/
def build (w : BitVec 128) : Option Instr :=
  let k := ctlOf w
  let d : BitVec 5 := w.extractLsb' 30 5
  let a : BitVec 5 := w.extractLsb' 35 5
  let b : BitVec 5 := w.extractLsb' 40 5
  let c : BitVec 5 := w.extractLsb' 45 5
  let vm := vmOf w
  match (w.extractLsb' 20 10).toNat with
  | 0x000 => some (.nop k)
  | 0x001 => some (.halt k)
  | 0x002 => some (.br k (w.extractLsb' 45 19))
  | 0x003 => some (.brc k a b (w.extractLsb' 50 3) (w.extractLsb' 64 32))
  | 0x004 => some (.brz k a (w.extractLsb' 45 19))
  | 0x005 => some (.brnz k a (w.extractLsb' 45 19))
  | 0x006 => some (.brv k a (w.extractLsb' 45 19))
  | 0x007 => some (.call k (w.extractLsb' 45 19))
  | 0x008 => some (.callr k a)
  | 0x009 => some (.ret k)
  | 0x00A => some (.jmpr k a)
  | 0x00B => some (.loop k d (w.extractLsb' 45 19))
  | 0x00C => some (.hstart k d a b (w.extractLsb' 64 32))
  | 0x00D => some (.hend k)
  | 0x00E => some (.hjoin k a)
  | 0x00F => some (.yield k (w.extractLsb' 45 19))
  | 0x010 => some (.trap k (w.extractLsb' 45 19))
  | 0x011 => some (.brk k (w.extractLsb' 45 19))
  | 0x040 => some (.add k d a b)
  | 0x041 => some (.addi k d a (w.extractLsb' 45 19))
  | 0x042 => some (.sub k d a b)
  | 0x043 => some (.mul k d a b)
  | 0x044 => some (.mulh k d a b)
  | 0x045 => some (.mulhu k d a b)
  | 0x046 => some (.div k d a b)
  | 0x047 => some (.divu k d a b)
  | 0x048 => some (.rem k d a b)
  | 0x049 => some (.remu k d a b)
  | 0x04A => some (.and k d a b)
  | 0x04B => some (.andi k d a (w.extractLsb' 45 19))
  | 0x04C => some (.or k d a b)
  | 0x04D => some (.ori k d a (w.extractLsb' 45 19))
  | 0x04E => some (.xor k d a b)
  | 0x04F => some (.xori k d a (w.extractLsb' 45 19))
  | 0x050 => some (.shl k d a b)
  | 0x051 => some (.shli k d a (w.extractLsb' 45 19))
  | 0x052 => some (.shr k d a b)
  | 0x053 => some (.shri k d a (w.extractLsb' 45 19))
  | 0x054 => some (.sar k d a b)
  | 0x055 => some (.sari k d a (w.extractLsb' 45 19))
  | 0x056 => some (.min k d a b)
  | 0x057 => some (.max k d a b)
  | 0x058 => some (.minu k d a b)
  | 0x059 => some (.maxu k d a b)
  | 0x05A => some (.slt k d a b)
  | 0x05B => some (.sltu k d a b)
  | 0x05C => some (.seq k d a b)
  | 0x05D => some (.sel k d a b c)
  | 0x05E => some (.clz k d a)
  | 0x05F => some (.popc k d a)
  | 0x060 => some (.bfx k d a (w.extractLsb' 58 1) (w.extractLsb' 51 7) (w.extractLsb' 45 6))
  | 0x061 => some (.bfi k d a (w.extractLsb' 51 7) (w.extractLsb' 45 6))
  | 0x062 => some (.li k d (w.extractLsb' 64 32))
  | 0x063 => some (.liw k d (w.extractLsb' 64 64))
  | 0x064 => some (.lea k d a b (w.extractLsb' 50 3) (w.extractLsb' 64 32))
  | 0x065 => some (.srd k d (w.extractLsb' 45 12))
  | 0x066 => some (.swr k a (w.extractLsb' 45 12))
  | 0x080 => some (.ld k d a (w.extractLsb' 50 14) (w.extractLsb' 48 2) (w.extractLsb' 47 1) (w.extractLsb' 46 1))
  | 0x081 => some (.st k a b (w.extractLsb' 50 14) (w.extractLsb' 48 2) (w.extractLsb' 46 1))
  | 0x082 => some (.ldacq k d a (w.extractLsb' 50 14) (w.extractLsb' 48 2) (w.extractLsb' 47 1) (w.extractLsb' 46 1))
  | 0x083 => some (.strel k a b (w.extractLsb' 50 14) (w.extractLsb' 48 2) (w.extractLsb' 46 1))
  | 0x084 => some (.amo k d a b (w.extractLsb' 52 12) (w.extractLsb' 50 2) (w.extractLsb' 46 4))
  | 0x085 => some (.cas k d a b c (w.extractLsb' 50 2) (w.extractLsb' 64 32))
  | 0x086 => some (.red k a b (w.extractLsb' 52 12) (w.extractLsb' 50 2) (w.extractLsb' 46 4))
  | 0x087 => some (.redc k a b (w.extractLsb' 52 12))
  | 0x088 => some (.fence k (w.extractLsb' 45 3))
  | 0x089 => some (.pref k a (w.extractLsb' 50 14))
  | 0x08A => some (.rinv k a b)
  | 0x08B => some (.rwb k a b)
  | 0x08C => some (.rflush k a b)
  | 0x08D => some (.publish k d a)
  | 0x0C0 => some (.vadd k d a b vm)
  | 0x0C1 => some (.vsub k d a b vm)
  | 0x0C2 => some (.vmul k d a b vm)
  | 0x0C3 => some (.vmulh k d a b vm)
  | 0x0C4 => some (.vand k d a b vm)
  | 0x0C5 => some (.vor k d a b vm)
  | 0x0C6 => some (.vxor k d a b vm)
  | 0x0C7 => some (.vnot k d a vm)
  | 0x0C8 => some (.vshl k d a b vm)
  | 0x0C9 => some (.vshr k d a b vm)
  | 0x0CA => some (.vsar k d a b vm)
  | 0x0CB => some (.vmin k d a b vm)
  | 0x0CC => some (.vmax k d a b vm)
  | 0x0CD => some (.vminu k d a b vm)
  | 0x0CE => some (.vmaxu k d a b vm)
  | 0x0CF => some (.vcmp k d a b vm (w.extractLsb' 45 3))
  | 0x0D0 => some (.vsel k d a b vm (w.extractLsb' 45 5))
  | 0x0D1 => some (.viota k d a vm)
  | 0x0D2 => some (.vpopm k d a vm)
  | 0x0D3 => some (.vfirst k d a vm)
  | 0x0D4 => some (.vmv k d a vm)
  | 0x0D5 => some (.vbcast k d a vm)
  | 0x0D6 => some (.vext k d a vm (w.extractLsb' 45 4))
  | 0x0D7 => some (.vins k d a vm (w.extractLsb' 45 4))
  | 0x0D8 => some (.vclz k d a vm)
  | 0x0D9 => some (.vpopc k d a vm)
  | 0x0DA => some (.vmatch k d a b vm (w.extractLsb' 45 1))
  | 0x0DB => some (.vred k d a vm (w.extractLsb' 45 3))
  | 0x100 => some (.vfadd k d a b vm)
  | 0x101 => some (.vfsub k d a b vm)
  | 0x102 => some (.vfmul k d a b vm)
  | 0x103 => some (.vfma k d a b c vm)
  | 0x104 => some (.vfms k d a b c vm)
  | 0x105 => some (.vfnma k d a b c vm)
  | 0x106 => some (.vfmin k d a b vm)
  | 0x107 => some (.vfmax k d a b vm)
  | 0x108 => some (.vfabs k d a vm)
  | 0x109 => some (.vfneg k d a vm)
  | 0x10A => some (.vfcmp k d a b vm (w.extractLsb' 45 3))
  | 0x10B => some (.vfclass k d a vm)
  | 0x10C => some (.vdiv k d a b vm)
  | 0x10D => some (.vsqrt k d a vm)
  | 0x10E => some (.vrsqrt k d a vm)
  | 0x10F => some (.vrcp k d a vm)
  | 0x110 => some (.vsqd k d a b vm)
  | 0x111 => some (.vfred k d a vm)
  | 0x112 => some (.vfdot k d a b vm)
  | 0x113 => some (.vfsgn k d a b vm (w.extractLsb' 45 2))
  | 0x114 => some (.vfrnd k d a vm)
  | 0x140 => some (.vld k d a vm (w.extractLsb' 50 1) (w.extractLsb' 45 5))
  | 0x141 => some (.vst k a b vm (w.extractLsb' 50 1) (w.extractLsb' 45 5))
  | 0x142 => some (.vlds k d a b vm (w.extractLsb' 50 1))
  | 0x143 => some (.vsts k d a b vm (w.extractLsb' 50 1))
  | 0x144 => some (.vldx k d a b vm (w.extractLsb' 50 1) (w.extractLsb' 45 2))
  | 0x145 => some (.vstx k d a b vm (w.extractLsb' 50 1) (w.extractLsb' 45 2))
  | 0x146 => some (.vldb k d a vm (w.extractLsb' 50 1) (w.extractLsb' 45 5))
  | 0x147 => some (.vperm k d a b vm)
  | 0x148 => some (.vslide k d a b vm (w.extractLsb' 45 4))
  | 0x149 => some (.vzip k d a b vm (w.extractLsb' 45 1))
  | 0x14A => some (.vunzip k d a b vm (w.extractLsb' 45 1))
  | 0x14B => some (.vcvt k d a vm (w.extractLsb' 45 3))
  | 0x14C => some (.vpack k d a b vm)
  | 0x14D => some (.vunpack k d a vm (w.extractLsb' 45 1))
  | 0x14E => some (.vqld k d a b vm (w.extractLsb' 50 1))
  | 0x14F => some (.vqdec k d a vm (w.extractLsb' 45 3))
  | 0x150 => some (.vqst k d a b c vm (w.extractLsb' 64 4))
  | 0x151 => some (.vqenc k d a vm (w.extractLsb' 47 4) (w.extractLsb' 45 2))
  | 0x152 => some (.vhdr k d a vm (w.extractLsb' 45 2))
  | 0x153 => some (.vhdrw k d a vm (w.extractLsb' 45 2))
  | 0x180 => some (.mma k d a b c (w.extractLsb' 56 3) (w.extractLsb' 51 3) (w.extractLsb' 50 1) (w.extractLsb' 64 1))
  | 0x181 => some (.mmar k d a b c (w.extractLsb' 56 3) (w.extractLsb' 51 3) (w.extractLsb' 50 1) (w.extractLsb' 64 1))
  | 0x182 => some (.mzero k d)
  | 0x183 => some (.mst k a b c (w.extractLsb' 64 32))
  | 0x184 => some (.mld k d b c (w.extractLsb' 64 32))
  | 0x185 => some (.mrdv k d a vm (w.extractLsb' 45 3))
  | 0x186 => some (.mwrv k d a vm (w.extractLsb' 45 3))
  | 0x187 => some (.mscale k d a vm)
  | 0x188 => some (.mqst k a b c (w.extractLsb' 51 3) (w.extractLsb' 50 1) (w.extractLsb' 64 4))
  | 0x189 => some (.mwait k)
  | 0x1C0 => some (.cpy k d a b)
  | 0x1C1 => some (.cpyt k d a b)
  | 0x1C2 => some (.cpyu k d a b)
  | 0x1C3 => some (.cpyg k d a b)
  | 0x1C4 => some (.cpys k d a b)
  | 0x1C5 => some (.cpyf k d a b)
  | 0x1C6 => some (.cpyq k d a b)
  | 0x1C7 => some (.accsv k d a b (w.extractLsb' 59 5) (w.extractLsb' 58 1) (w.extractLsb' 54 4) (w.extractLsb' 53 1))
  | 0x1C8 => some (.accrs k d a b (w.extractLsb' 59 5) (w.extractLsb' 58 1) (w.extractLsb' 54 4) (w.extractLsb' 53 1))
  | 0x1C9 => some (.xfer k d a b (w.extractLsb' 45 6))
  | 0x1CA => some (.xferq k d a b (w.extractLsb' 45 6))
  | 0x200 => some (.weir k b (w.extractLsb' 45 4))
  | 0x201 => some (.weira k b (w.extractLsb' 45 4))
  | 0x202 => some (.weirw k (w.extractLsb' 45 4))
  | 0x203 => some (.weirx k (w.extractLsb' 45 4))
  | 0x204 =>
    match (w.extractLsb' 51 2).toNat with
    | 0 => some (.evwaitLine k (w.extractLsb' 45 5))
    | 1 => some (.evwaitMutex k (w.extractLsb' 45 5))
    | 2 => some (.evwaitBarrier k (w.extractLsb' 45 5))
    | _ => none
  | 0x205 =>
    match (w.extractLsb' 51 2).toNat with
    | 0 => some (.evsigLine k a (w.extractLsb' 50 1) (w.extractLsb' 45 5))
    | 1 => some (.evsigMutex k (w.extractLsb' 45 5))
    | _ => none
  | 0x206 =>
    match (w.extractLsb' 51 2).toNat with
    | 0 => some (.tlwaitMem k a b)
    | 1 => some (.tlwaitSluice k b)
    | 2 => some (.tlwaitMillrace k b (w.extractLsb' 45 6))
    | 3 => some (.tlwaitUpdate k b)
    | _ => none
  | 0x207 => some (.tlsig k a b)
  | 0x208 => some (.comm k)
  | 0x209 => some (.sendf k b (w.extractLsb' 45 5))
  | 0x240 =>
    match (w.extractLsb' 50 1).toNat with
    | 0 => some (.anew k d)
    | 1 => some (.anewTx k d (w.extractLsb' 46 4))
    | _ => none
  | 0x241 => some (.lapply k d a b vm (w.extractLsb' 50 1))
  | 0x242 => some (.amb k a)
  | 0x243 => some (.nogood k a)
  | 0x244 => some (.assert k d a)
  | 0x245 => some (.retract k a)
  | 0x246 => some (.vjoin k d a b vm)
  | 0x247 => some (.lget k d a vm (w.extractLsb' 50 1))
  | 0x248 => some (.lstrip k d a vm (w.extractLsb' 50 1))
  | 0x249 => some (.lread k d a (w.extractLsb' 45 2))
  | 0x24A => some (.ltest k d a vm (w.extractLsb' 50 1) (w.extractLsb' 45 3))
  | 0x24B => some (.lfence k)
  | 0x24C => some (.settle k d)
  | 0x24D => some (.lscrub k d a (w.extractLsb' 59 5) (w.extractLsb' 58 1) (w.extractLsb' 54 4) (w.extractLsb' 53 1))
  | 0x280 => some (.srreg k a b)
  | 0x281 =>
    match (w.extractLsb' 45 2).toNat with
    | 0 => some (.srvFinish k (w.extractLsb' 47 4))
    | 1 => some (.srvSummarise k)
    | 2 => some (.srvRefuse k)
    | _ => none
  | 0x282 => some (.release k)
  | 0x283 => some (.lease k d a b)
  | 0x2C0 => some (.plbset k d a b)
  | 0x2C1 => some (.replay k d)
  | 0x2C2 => some (.flushcode k d a)
  | 0x2C3 => some (.idle k)
  | 0x2C4 => some (.fpkt k d a)
  | 0x2C5 => some (.resume k d a)
  | 0x2C6 => some (.kill k d a)
  | 0x2C7 => some (.qprio k a b)
  | 0x2C8 => some (.aperset k d a b)
  | 0x2C9 => some (.snap k d a b)
  | 0x2CA =>
    match (w.extractLsb' 45 1).toNat with
    | 0 => some (.migrateMove k d a b)
    | 1 => some (.migrateFlush k d a)
    | _ => none
  | _ => none

/-- The length in bytes that bits [1:0] of a first word give (R128); 0 for code 00. -/
def lenBytes (w : BitVec 128) : Nat :=
  match (w.extractLsb' 0 2).toNat with
  | 0 => 0
  | 1 => 8
  | 2 => 12
  | _ => 16

/-- The instruction that a word whose bits above its length are zero encodes, if it is one. -/
def decodeBits (w : BitVec 128) : Option Instr :=
  match build w with
  | some i => if i.bits = w ∧ i.wellFormed = true then some i else none
  | none => none

/-- The decoder is total: a word that is no instruction is the step UNASSIGNED_ENCODING (R117, R128, R137). -/
def decode (w : BitVec 128) : Instr :=
  match decodeBits w with
  | some i => i
  | none => .unassignedEncoding w

/-- A 128-bit word from instruction words in memory order, low word first (R127). -/
def ofWords : List (BitVec 32) → BitVec 128
  | [] => 0#128
  | x :: xs => (ofWords xs <<< 32) ||| x.setWidth 128

/-- The words an instruction occupies (R127): the encoder. -/
def encode (i : Instr) : List (BitVec 32) :=
  let w := i.bits
  let all := [w.extractLsb' 0 32, w.extractLsb' 32 32, w.extractLsb' 64 32, w.extractLsb' 96 32]
  all.take (lenBytes w / 4)

/-- The words that a first word's length code makes an instruction of, the rest left out (R127, R128). -/
def clip (w : BitVec 128) : BitVec 128 :=
  if lenBytes w = 8 then w &&& 0xFFFFFFFFFFFFFFFF#128
  else if lenBytes w = 12 then w &&& 0xFFFFFFFFFFFFFFFFFFFFFFFF#128
  else if lenBytes w = 0 then w &&& 0xFFFFFFFF#128
  else w

/-- The decoder's reading of instruction words in memory order. -/
def decodeWords (ws : List (BitVec 32)) : Instr := decode (clip (ofWords (ws.take 4)))

/-- The instruction whose bits are `w`, numbered as the opcode table numbers them: the words are laid out little-endian, first
word lowest, and given to the decoder. -/
def decodeTableWord (nbits w : Nat) : Option Instr :=
  let v : BitVec 128 := BitVec.ofNat 128 (w % 2 ^ nbits)
  decodeBits (clip (ofWords [v.extractLsb' 0 32, v.extractLsb' 32 32, v.extractLsb' 64 32, v.extractLsb' 96 32]))

end Sys2Proof
end

