-- ==== Sys2Proof/Machine/Meta.lean ====
section
/-! DEFINITION. Sys2Proof/Machine/Meta.lean: what issue needs to know of an instruction before its entry runs: its control
field, its length, whether it is privileged (R136, R293), the registers that fields A and B name (R116, R131), the registers it
reads and writes (R110; its destination comes last, and twice where the instruction reads it too), and the one register that enters the result history (R116). -/

namespace Sys2Proof

/-- What issue reads of an instruction. -/
structure Meta where
  ctl : Ctl
  len : Nat
  priv : Bool
  aReg : Option RegRef
  bReg : Option RegRef
  regs : List RegRef
  dst : Option RegRef
deriving DecidableEq, Repr

/-- Field B under BS: a scalar register when set, a vector register otherwise (R132). -/
def xReg (vm : VMod) (b : BitVec 5) : RegRef := if vm.bs == 1#1 then .s b else .v b

/-- The mask register, when ME is set (R107). -/
def maskReg (vm : VMod) : List RegRef := if vm.me == 1#1 then [.v vm.mreg] else []

/-- A field of a label instruction: vector under V, else scalar (R277). -/
def lReg (v : BitVec 1) (n : BitVec 5) : RegRef := if v == 1#1 then .v n else .s n

/-- A destination that enters the history: any register but s0 (R116). -/
def histReg (r : RegRef) : Option RegRef := if r = .s 0#5 then none else some r

/-- The registers of a gang operand of type `ty` beside one of type `other`: B4 fills a pair only where both operands are B4 (R237,
R238, R239). -/
def gangRegs (sp : BitVec 1) (ty other : BitVec 3) (n : BitVec 5) : List RegRef :=
  if sp == 1#1 then [.s n, .s (n + 1#5)]
  else if ty = 5#3 || (ty = 6#3 && other = 6#3) then [.v n, .v (n + 1#5)] else [.v n]

/-- The registers that core `k` reads for a gang instruction: the address and valid-count registers are core 0's alone (R239, R240). -/
def gangReads (k : Nat) (rs : List RegRef) : List RegRef :=
  if k % 8 = 0 then rs else rs.filter (fun r => match r with | .s _ => false | .v _ => true)

/-- A gang operand's field register. -/
def gangReg (sp : BitVec 1) (n : BitVec 5) : RegRef := if sp == 1#1 then .s n else .v n

/-- An optional operand that field 0 leaves out (R251, R260). -/
def optReg (n : BitVec 5) : Option RegRef := if n == 0#5 then none else some (.s n)

/-- The accumulator bank that an instruction reads, if it reads one (R343). -/
def Instr.bankRead (i : Instr) : Option Nat :=
  match i with
  | .mma _ d _ _ _ _ _ _ zc | .mmar _ d _ _ _ _ _ _ zc => if zc == 1#1 then none else some d.toNat
  | .mrdv _ _ a _ _ | .mst _ a _ _ _ | .mqst _ a _ _ _ _ _ => some a.toNat
  | .mscale _ d _ _ | .accsv _ _ d _ _ _ _ _ => some d.toNat
  | _ => none

/-- The issue-time description of an instruction; a step of the module has none. -/
def Instr.info (i : Instr) : Option Meta :=
  match i with
  | .nop k => some ⟨k, 8, false, none, none, [], none⟩
  | .halt k => some ⟨k, 8, false, none, none, [], none⟩
  | .br k _ => some ⟨k, 8, false, none, none, [], none⟩
  | .brc k a b _ _ => some ⟨k, 12, false, some (.s a), some (.s b), [.s a] ++ [.s b], none⟩
  | .brz k a _ => some ⟨k, 8, false, some (.s a), none, [.s a], none⟩
  | .brnz k a _ => some ⟨k, 8, false, some (.s a), none, [.s a], none⟩
  | .brv k a _ => some ⟨k, 8, false, some (.s a), none, [.s a], none⟩
  | .call k _ => some ⟨k, 8, false, none, none, [.s 31#5], some (.s 31#5)⟩
  | .callr k a => some ⟨k, 8, false, some (.s a), none, [.s a] ++ [.s 31#5], some (.s 31#5)⟩
  | .ret k => some ⟨k, 8, false, none, none, [.s 31#5], none⟩
  | .jmpr k a => some ⟨k, 8, false, some (.s a), none, [.s a], none⟩
  | .loop k d _ => some ⟨k, 8, false, none, none, [.s d] ++ [.s d], histReg (.s d)⟩
  | .hstart k d a b _ => some ⟨k, 12, false, some (.s a), some (.s b), [.s a] ++ [.s b] ++ [.s d], histReg (.s d)⟩
  | .hend k => some ⟨k, 8, false, none, none, [], none⟩
  | .hjoin k a => some ⟨k, 8, false, some (.s a), none, [.s a], none⟩
  | .yield k _ => some ⟨k, 8, false, none, none, [], none⟩
  | .trap k _ => some ⟨k, 8, false, none, none, [], none⟩
  | .brk k _ => some ⟨k, 8, false, none, none, [], none⟩
  | .add k d a b => some ⟨k, 8, false, some (.s a), some (.s b), [.s a] ++ [.s b] ++ [.s d], histReg (.s d)⟩
  | .addi k d a _ => some ⟨k, 8, false, some (.s a), none, [.s a] ++ [.s d], histReg (.s d)⟩
  | .sub k d a b => some ⟨k, 8, false, some (.s a), some (.s b), [.s a] ++ [.s b] ++ [.s d], histReg (.s d)⟩
  | .mul k d a b => some ⟨k, 8, false, some (.s a), some (.s b), [.s a] ++ [.s b] ++ [.s d], histReg (.s d)⟩
  | .mulh k d a b => some ⟨k, 8, false, some (.s a), some (.s b), [.s a] ++ [.s b] ++ [.s d], histReg (.s d)⟩
  | .mulhu k d a b => some ⟨k, 8, false, some (.s a), some (.s b), [.s a] ++ [.s b] ++ [.s d], histReg (.s d)⟩
  | .div k d a b => some ⟨k, 8, false, some (.s a), some (.s b), [.s a] ++ [.s b] ++ [.s d], histReg (.s d)⟩
  | .divu k d a b => some ⟨k, 8, false, some (.s a), some (.s b), [.s a] ++ [.s b] ++ [.s d], histReg (.s d)⟩
  | .rem k d a b => some ⟨k, 8, false, some (.s a), some (.s b), [.s a] ++ [.s b] ++ [.s d], histReg (.s d)⟩
  | .remu k d a b => some ⟨k, 8, false, some (.s a), some (.s b), [.s a] ++ [.s b] ++ [.s d], histReg (.s d)⟩
  | .and k d a b => some ⟨k, 8, false, some (.s a), some (.s b), [.s a] ++ [.s b] ++ [.s d], histReg (.s d)⟩
  | .andi k d a _ => some ⟨k, 8, false, some (.s a), none, [.s a] ++ [.s d], histReg (.s d)⟩
  | .or k d a b => some ⟨k, 8, false, some (.s a), some (.s b), [.s a] ++ [.s b] ++ [.s d], histReg (.s d)⟩
  | .ori k d a _ => some ⟨k, 8, false, some (.s a), none, [.s a] ++ [.s d], histReg (.s d)⟩
  | .xor k d a b => some ⟨k, 8, false, some (.s a), some (.s b), [.s a] ++ [.s b] ++ [.s d], histReg (.s d)⟩
  | .xori k d a _ => some ⟨k, 8, false, some (.s a), none, [.s a] ++ [.s d], histReg (.s d)⟩
  | .shl k d a b => some ⟨k, 8, false, some (.s a), some (.s b), [.s a] ++ [.s b] ++ [.s d], histReg (.s d)⟩
  | .shli k d a _ => some ⟨k, 8, false, some (.s a), none, [.s a] ++ [.s d], histReg (.s d)⟩
  | .shr k d a b => some ⟨k, 8, false, some (.s a), some (.s b), [.s a] ++ [.s b] ++ [.s d], histReg (.s d)⟩
  | .shri k d a _ => some ⟨k, 8, false, some (.s a), none, [.s a] ++ [.s d], histReg (.s d)⟩
  | .sar k d a b => some ⟨k, 8, false, some (.s a), some (.s b), [.s a] ++ [.s b] ++ [.s d], histReg (.s d)⟩
  | .sari k d a _ => some ⟨k, 8, false, some (.s a), none, [.s a] ++ [.s d], histReg (.s d)⟩
  | .min k d a b => some ⟨k, 8, false, some (.s a), some (.s b), [.s a] ++ [.s b] ++ [.s d], histReg (.s d)⟩
  | .max k d a b => some ⟨k, 8, false, some (.s a), some (.s b), [.s a] ++ [.s b] ++ [.s d], histReg (.s d)⟩
  | .minu k d a b => some ⟨k, 8, false, some (.s a), some (.s b), [.s a] ++ [.s b] ++ [.s d], histReg (.s d)⟩
  | .maxu k d a b => some ⟨k, 8, false, some (.s a), some (.s b), [.s a] ++ [.s b] ++ [.s d], histReg (.s d)⟩
  | .slt k d a b => some ⟨k, 8, false, some (.s a), some (.s b), [.s a] ++ [.s b] ++ [.s d], histReg (.s d)⟩
  | .sltu k d a b => some ⟨k, 8, false, some (.s a), some (.s b), [.s a] ++ [.s b] ++ [.s d], histReg (.s d)⟩
  | .seq k d a b => some ⟨k, 8, false, some (.s a), some (.s b), [.s a] ++ [.s b] ++ [.s d], histReg (.s d)⟩
  | .sel k d a b c => some ⟨k, 12, false, some (.s a), some (.s b), [.s a] ++ [.s b] ++ [.s c] ++ [.s d], histReg (.s d)⟩
  | .clz k d a => some ⟨k, 8, false, some (.s a), none, [.s a] ++ [.s d], histReg (.s d)⟩
  | .popc k d a => some ⟨k, 8, false, some (.s a), none, [.s a] ++ [.s d], histReg (.s d)⟩
  | .bfx k d a _ _ _ => some ⟨k, 8, false, some (.s a), none, [.s a] ++ [.s d], histReg (.s d)⟩
  | .bfi k d a _ _ => some ⟨k, 8, false, some (.s a), none, [.s a] ++ [.s d] ++ [.s d], histReg (.s d)⟩
  | .li k d _ => some ⟨k, 12, false, none, none, [.s d], histReg (.s d)⟩
  | .liw k d _ => some ⟨k, 16, false, none, none, [.s d], histReg (.s d)⟩
  | .lea k d a b _ _ => some ⟨k, 12, false, some (.s a), some (.s b), [.s a] ++ [.s b] ++ [.s d], histReg (.s d)⟩
  | .srd k d _ => some ⟨k, 8, false, none, none, [.s d], histReg (.s d)⟩
  | .swr k a _ => some ⟨k, 8, false, some (.s a), none, [.s a], none⟩
  | .ld k d a _ _ _ _ => some ⟨k, 8, false, some (.s a), none, [.s a] ++ [.s d], histReg (.s d)⟩
  | .st k a b _ _ _ => some ⟨k, 8, false, some (.s a), some (.s b), [.s a] ++ [.s b], none⟩
  | .ldacq k d a _ _ _ _ => some ⟨k, 8, false, some (.s a), none, [.s a] ++ [.s d], histReg (.s d)⟩
  | .strel k a b _ _ _ => some ⟨k, 8, false, some (.s a), some (.s b), [.s a] ++ [.s b], none⟩
  | .amo k d a b _ _ _ => some ⟨k, 8, false, some (.s a), some (.s b), [.s a] ++ [.s b] ++ [.s d], histReg (.s d)⟩
  | .cas k d a b c _ _ => some ⟨k, 12, false, some (.s a), some (.s b), [.s a] ++ [.s b] ++ [.s c] ++ [.s d], histReg (.s d)⟩
  | .red k a b _ _ _ => some ⟨k, 8, false, some (.s a), some (.s b), [.s a] ++ [.s b], none⟩
  | .redc k a b _ => some ⟨k, 8, false, some (.s a), some (.s b), [.s a] ++ [.s b], none⟩
  | .fence k _ => some ⟨k, 8, false, none, none, [], none⟩
  | .pref k a _ => some ⟨k, 8, false, some (.s a), none, [.s a], none⟩
  | .rinv k a b => some ⟨k, 8, false, some (.s a), some (.s b), [.s a] ++ [.s b], none⟩
  | .rwb k a b => some ⟨k, 8, false, some (.s a), some (.s b), [.s a] ++ [.s b], none⟩
  | .rflush k a b => some ⟨k, 8, false, some (.s a), some (.s b), [.s a] ++ [.s b], none⟩
  | .publish k d a => some ⟨k, 8, false, some (.s a), none, [.s a] ++ [.s d], histReg (.s d)⟩
  | .vadd k d a b vm => some ⟨k, 8, false, some (.v a), some (xReg vm b), [.v a] ++ [xReg vm b] ++ maskReg vm ++ [.v d], some (.v d)⟩
  | .vsub k d a b vm => some ⟨k, 8, false, some (.v a), some (xReg vm b), [.v a] ++ [xReg vm b] ++ maskReg vm ++ [.v d], some (.v d)⟩
  | .vmul k d a b vm => some ⟨k, 8, false, some (.v a), some (xReg vm b), [.v a] ++ [xReg vm b] ++ maskReg vm ++ [.v d], some (.v d)⟩
  | .vmulh k d a b vm => some ⟨k, 8, false, some (.v a), some (xReg vm b), [.v a] ++ [xReg vm b] ++ maskReg vm ++ [.v d], some (.v d)⟩
  | .vand k d a b vm => some ⟨k, 8, false, some (.v a), some (xReg vm b), [.v a] ++ [xReg vm b] ++ maskReg vm ++ [.v d], some (.v d)⟩
  | .vor k d a b vm => some ⟨k, 8, false, some (.v a), some (xReg vm b), [.v a] ++ [xReg vm b] ++ maskReg vm ++ [.v d], some (.v d)⟩
  | .vxor k d a b vm => some ⟨k, 8, false, some (.v a), some (xReg vm b), [.v a] ++ [xReg vm b] ++ maskReg vm ++ [.v d], some (.v d)⟩
  | .vnot k d a vm => some ⟨k, 8, false, some (.v a), none, [.v a] ++ maskReg vm ++ [.v d], some (.v d)⟩
  | .vshl k d a b vm => some ⟨k, 8, false, some (.v a), some (xReg vm b), [.v a] ++ [xReg vm b] ++ maskReg vm ++ [.v d], some (.v d)⟩
  | .vshr k d a b vm => some ⟨k, 8, false, some (.v a), some (xReg vm b), [.v a] ++ [xReg vm b] ++ maskReg vm ++ [.v d], some (.v d)⟩
  | .vsar k d a b vm => some ⟨k, 8, false, some (.v a), some (xReg vm b), [.v a] ++ [xReg vm b] ++ maskReg vm ++ [.v d], some (.v d)⟩
  | .vmin k d a b vm => some ⟨k, 8, false, some (.v a), some (xReg vm b), [.v a] ++ [xReg vm b] ++ maskReg vm ++ [.v d], some (.v d)⟩
  | .vmax k d a b vm => some ⟨k, 8, false, some (.v a), some (xReg vm b), [.v a] ++ [xReg vm b] ++ maskReg vm ++ [.v d], some (.v d)⟩
  | .vminu k d a b vm => some ⟨k, 8, false, some (.v a), some (xReg vm b), [.v a] ++ [xReg vm b] ++ maskReg vm ++ [.v d], some (.v d)⟩
  | .vmaxu k d a b vm => some ⟨k, 8, false, some (.v a), some (xReg vm b), [.v a] ++ [xReg vm b] ++ maskReg vm ++ [.v d], some (.v d)⟩
  | .vcmp k d a b vm _ => some ⟨k, 8, false, some (.v a), some (xReg vm b), [.v a] ++ [xReg vm b] ++ maskReg vm ++ [.v d], some (.v d)⟩
  | .vsel k d a b vm svec => some ⟨k, 8, false, some (.v a), some (xReg vm b), [.v a] ++ [xReg vm b] ++ [.v svec] ++ maskReg vm ++ [.v d], some (.v d)⟩
  | .viota k d a vm => some ⟨k, 8, false, some (.v a), none, [.v a] ++ maskReg vm ++ [.v d], some (.v d)⟩
  | .vpopm k d a vm => some ⟨k, 8, false, some (.v a), none, [.v a] ++ maskReg vm ++ [.s d], histReg (.s d)⟩
  | .vfirst k d a vm => some ⟨k, 8, false, some (.v a), none, [.v a] ++ maskReg vm ++ [.s d], histReg (.s d)⟩
  | .vmv k d a vm => some ⟨k, 8, false, some (.v a), none, [.v a] ++ maskReg vm ++ [.v d], some (.v d)⟩
  | .vbcast k d a vm => some ⟨k, 8, false, some (.s a), none, [.s a] ++ maskReg vm ++ [.v d], some (.v d)⟩
  | .vext k d a _ _ => some ⟨k, 8, false, some (.v a), none, [.v a] ++ [.s d], histReg (.s d)⟩
  | .vins k d a _ _ => some ⟨k, 8, false, some (.s a), none, [.s a] ++ [.v d] ++ [.v d], some (.v d)⟩
  | .vclz k d a vm => some ⟨k, 8, false, some (.v a), none, [.v a] ++ maskReg vm ++ [.v d], some (.v d)⟩
  | .vpopc k d a vm => some ⟨k, 8, false, some (.v a), none, [.v a] ++ maskReg vm ++ [.v d], some (.v d)⟩
  | .vmatch k d a b _ _ => some ⟨k, 8, false, some (.v a), some (.v b), [.v a] ++ [.v b] ++ [.v d], some (.v d)⟩
  | .vred k d a vm _ => some ⟨k, 8, false, some (.v a), none, [.v a] ++ maskReg vm ++ [.s d], histReg (.s d)⟩
  | .vfadd k d a b vm => some ⟨k, 8, false, some (.v a), some (xReg vm b), [.v a] ++ [xReg vm b] ++ maskReg vm ++ [.v d], some (.v d)⟩
  | .vfsub k d a b vm => some ⟨k, 8, false, some (.v a), some (xReg vm b), [.v a] ++ [xReg vm b] ++ maskReg vm ++ [.v d], some (.v d)⟩
  | .vfmul k d a b vm => some ⟨k, 8, false, some (.v a), some (xReg vm b), [.v a] ++ [xReg vm b] ++ maskReg vm ++ [.v d], some (.v d)⟩
  | .vfma k d a b c vm => some ⟨k, 12, false, some (.v a), some (xReg vm b), [.v a] ++ [xReg vm b] ++ [.v c] ++ maskReg vm ++ [.v d], some (.v d)⟩
  | .vfms k d a b c vm => some ⟨k, 12, false, some (.v a), some (xReg vm b), [.v a] ++ [xReg vm b] ++ [.v c] ++ maskReg vm ++ [.v d], some (.v d)⟩
  | .vfnma k d a b c vm => some ⟨k, 12, false, some (.v a), some (xReg vm b), [.v a] ++ [xReg vm b] ++ [.v c] ++ maskReg vm ++ [.v d], some (.v d)⟩
  | .vfmin k d a b vm => some ⟨k, 8, false, some (.v a), some (xReg vm b), [.v a] ++ [xReg vm b] ++ maskReg vm ++ [.v d], some (.v d)⟩
  | .vfmax k d a b vm => some ⟨k, 8, false, some (.v a), some (xReg vm b), [.v a] ++ [xReg vm b] ++ maskReg vm ++ [.v d], some (.v d)⟩
  | .vfabs k d a vm => some ⟨k, 8, false, some (.v a), none, [.v a] ++ maskReg vm ++ [.v d], some (.v d)⟩
  | .vfneg k d a vm => some ⟨k, 8, false, some (.v a), none, [.v a] ++ maskReg vm ++ [.v d], some (.v d)⟩
  | .vfcmp k d a b vm _ => some ⟨k, 8, false, some (.v a), some (xReg vm b), [.v a] ++ [xReg vm b] ++ maskReg vm ++ [.v d], some (.v d)⟩
  | .vfclass k d a vm => some ⟨k, 8, false, some (.v a), none, [.v a] ++ maskReg vm ++ [.v d], some (.v d)⟩
  | .vdiv k d a b vm => some ⟨k, 8, false, some (.v a), some (xReg vm b), [.v a] ++ [xReg vm b] ++ maskReg vm ++ [.v d], some (.v d)⟩
  | .vsqrt k d a vm => some ⟨k, 8, false, some (.v a), none, [.v a] ++ maskReg vm ++ [.v d], some (.v d)⟩
  | .vrsqrt k d a vm => some ⟨k, 8, false, some (.v a), none, [.v a] ++ maskReg vm ++ [.v d], some (.v d)⟩
  | .vrcp k d a vm => some ⟨k, 8, false, some (.v a), none, [.v a] ++ maskReg vm ++ [.v d], some (.v d)⟩
  | .vsqd k d a b vm => some ⟨k, 8, false, some (.v a), some (xReg vm b), [.v a] ++ [xReg vm b] ++ maskReg vm ++ [.v d], some (.v d)⟩
  | .vfred k d a vm => some ⟨k, 8, false, some (.v a), none, [.v a] ++ maskReg vm ++ [.s d], histReg (.s d)⟩
  | .vfdot k d a b vm => some ⟨k, 8, false, some (.v a), some (.v b), [.v a] ++ [.v b] ++ maskReg vm ++ [.s d], histReg (.s d)⟩
  | .vfsgn k d a b vm _ => some ⟨k, 8, false, some (.v a), some (xReg vm b), [.v a] ++ [xReg vm b] ++ maskReg vm ++ [.v d], some (.v d)⟩
  | .vfrnd k d a vm => some ⟨k, 8, false, some (.v a), none, [.v a] ++ maskReg vm ++ [.v d], some (.v d)⟩
  | .vld k d a vm _ _ => some ⟨k, 8, false, some (.s a), none, [.s a] ++ maskReg vm ++ [.v d], some (.v d)⟩
  | .vst k a b vm _ _ => some ⟨k, 8, false, some (.s a), some (.v b), [.s a] ++ [.v b] ++ maskReg vm, none⟩
  | .vlds k d a b vm _ => some ⟨k, 8, false, some (.s a), some (.s b), [.s a] ++ [.s b] ++ maskReg vm ++ [.v d], some (.v d)⟩
  | .vsts k d a b vm _ => some ⟨k, 8, false, some (.s a), some (.s b), [.s a] ++ [.s b] ++ [.v d] ++ maskReg vm, none⟩
  | .vldx k d a b vm _ _ => some ⟨k, 8, false, some (.s a), some (.v b), [.s a] ++ [.v b] ++ maskReg vm ++ [.v d], some (.v d)⟩
  | .vstx k d a b vm _ _ => some ⟨k, 8, false, some (.s a), some (.v b), [.s a] ++ [.v b] ++ [.v d] ++ maskReg vm, none⟩
  | .vldb k d a vm _ _ => some ⟨k, 8, false, some (.s a), none, [.s a] ++ maskReg vm ++ [.v d], some (.v d)⟩
  | .vperm k d a b vm => some ⟨k, 8, false, some (.v a), some (.v b), [.v a] ++ [.v b] ++ maskReg vm ++ [.v d], some (.v d)⟩
  | .vslide k d a b vm _ => some ⟨k, 8, false, some (.v a), some (.v b), [.v a] ++ [.v b] ++ maskReg vm ++ [.v d], some (.v d)⟩
  | .vzip k d a b vm _ => some ⟨k, 8, false, some (.v a), some (.v b), [.v a] ++ [.v b] ++ maskReg vm ++ [.v d], some (.v d)⟩
  | .vunzip k d a b vm _ => some ⟨k, 8, false, some (.v a), some (.v b), [.v a] ++ [.v b] ++ maskReg vm ++ [.v d], some (.v d)⟩
  | .vcvt k d a vm _ => some ⟨k, 8, false, some (.v a), none, [.v a] ++ maskReg vm ++ [.v d], some (.v d)⟩
  | .vpack k d a b vm => some ⟨k, 8, false, some (.v a), some (.v b), [.v a] ++ [.v b] ++ maskReg vm ++ [.v d], some (.v d)⟩
  | .vunpack k d a vm _ => some ⟨k, 8, false, some (.v a), none, [.v a] ++ maskReg vm ++ [.v d], some (.v d)⟩
  | .vqld k d a b _ _ => some ⟨k, 8, false, some (.s a), some (.s b), [.s a] ++ [.s b] ++ [.v d], some (.v d)⟩
  | .vqdec k d a vm _ => some ⟨k, 8, false, some (.v a), none, [.v a] ++ maskReg vm ++ [.v d], some (.v d)⟩
  | .vqst k d a b c vm _ => some ⟨k, 12, false, some (.s a), some (.v b), [.s a] ++ [.v b, .v (b + 1#5)] ++ [.s c] ++ maskReg vm ++ [.s d], histReg (.s d)⟩
  | .vqenc k d a vm _ _ => some ⟨k, 8, false, some (.v a), none, [.v a, .v (a + 1#5)] ++ [.v d] ++ maskReg vm ++ [.v d], some (.v d)⟩
  | .vhdr k d a _ _ => some ⟨k, 8, false, some (.v a), none, [.v a] ++ [.s d], histReg (.s d)⟩
  | .vhdrw k d a _ _ => some ⟨k, 8, false, some (.s a), none, [.s a] ++ [.v d] ++ [.v d], some (.v d)⟩
  | .mma k _ a b c tb ty sp _ => some ⟨k, 12, false, some (gangReg sp a), some (gangReg sp b), gangRegs sp ty tb a ++ gangRegs sp tb ty b ++ [.s c], none⟩
  | .mmar k _ a b c tb ty sp _ => some ⟨k, 12, false, some (gangReg sp a), some (gangReg sp b), gangRegs sp ty tb a ++ gangRegs sp tb ty b ++ [.s c], none⟩
  | .mzero k _ => some ⟨k, 8, false, none, none, [], none⟩
  | .mst k _ b c _ => some ⟨k, 12, false, none, some (.s b), [.s b] ++ [.s c], none⟩
  | .mld k _ b c _ => some ⟨k, 12, false, none, some (.s b), [.s b] ++ [.s c], none⟩
  | .mrdv k d _ vm _ => some ⟨k, 8, false, none, none, maskReg vm ++ [.v d], some (.v d)⟩
  | .mwrv k _ a vm _ => some ⟨k, 8, false, some (.v a), none, [.v a] ++ maskReg vm, none⟩
  | .mscale k _ a _ => some ⟨k, 8, false, some (.s a), none, [.s a], none⟩
  | .mqst k _ b c _ _ _ => some ⟨k, 12, false, none, some (.s b), [.s b, .s (b + 1#5)] ++ [.s c], none⟩
  | .mwait k => some ⟨k, 8, false, none, none, [], none⟩
  | .cpy k d a b => some ⟨k, 8, false, some (.s a), optReg b, [.s a] ++ (optReg b).toList ++ [.s d], histReg (.s d)⟩
  | .cpyt k d a b => some ⟨k, 8, false, some (.s a), optReg b, [.s a] ++ (optReg b).toList ++ [.s d], histReg (.s d)⟩
  | .cpyu k d a b => some ⟨k, 8, false, some (.s a), optReg b, [.s a] ++ (optReg b).toList ++ [.s d], histReg (.s d)⟩
  | .cpyg k d a b => some ⟨k, 8, false, some (.s a), optReg b, [.s a] ++ (optReg b).toList ++ [.s d], histReg (.s d)⟩
  | .cpys k d a b => some ⟨k, 8, false, some (.s a), optReg b, [.s a] ++ (optReg b).toList ++ [.s d], histReg (.s d)⟩
  | .cpyf k d a b => some ⟨k, 8, false, some (.s a), optReg b, [.s a] ++ (optReg b).toList ++ [.s d], histReg (.s d)⟩
  | .cpyq k d a b => some ⟨k, 8, false, some (.s a), optReg b, [.s a] ++ (optReg b).toList ++ [.s d], histReg (.s d)⟩
  | .accsv k d _ b _ _ _ _ => some ⟨k, 8, false, none, some (.s b), [.s b] ++ [.s d], histReg (.s d)⟩
  | .accrs k d _ b _ _ _ _ => some ⟨k, 8, false, none, some (.s b), [.s b] ++ [.s d], histReg (.s d)⟩
  | .xfer k d a b _ => some ⟨k, 8, false, some (.s a), optReg b, [.s a] ++ (optReg b).toList ++ [.s d], histReg (.s d)⟩
  | .xferq k d a b _ => some ⟨k, 8, false, some (.s a), optReg b, [.s a] ++ (optReg b).toList ++ [.s d], histReg (.s d)⟩
  | .weir k b _ => some ⟨k, 8, false, none, optReg b, (optReg b).toList, none⟩
  | .weira k b _ => some ⟨k, 8, false, none, optReg b, (optReg b).toList, none⟩
  | .weirw k _ => some ⟨k, 8, false, none, none, [], none⟩
  | .weirx k _ => some ⟨k, 8, false, none, none, [], none⟩
  | .evwaitLine k _ => some ⟨k, 8, false, none, none, [], none⟩
  | .evwaitMutex k _ => some ⟨k, 8, false, none, none, [], none⟩
  | .evwaitBarrier k _ => some ⟨k, 8, false, none, none, [], none⟩
  | .evsigLine k a far _ => some ⟨k, 8, false, if far == 1#1 then some (.s a) else none, none, (if far == 1#1 then [.s a] else []), none⟩
  | .evsigMutex k _ => some ⟨k, 8, false, none, none, [], none⟩
  | .tlwaitMem k a b => some ⟨k, 8, false, some (.s a), some (.s b), [.s a] ++ [.s b], none⟩
  | .tlwaitSluice k b => some ⟨k, 8, false, none, some (.s b), [.s b], none⟩
  | .tlwaitMillrace k b _ => some ⟨k, 8, false, none, some (.s b), [.s b], none⟩
  | .tlwaitUpdate k b => some ⟨k, 8, false, none, some (.s b), [.s b], none⟩
  | .tlsig k a b => some ⟨k, 8, false, some (.s a), some (.s b), [.s a] ++ [.s b], none⟩
  | .comm k => some ⟨k, 8, false, none, none, [], none⟩
  | .sendf k b _ => some ⟨k, 8, false, none, some (.v b), [.v b], none⟩
  | .anew k d => some ⟨k, 8, false, none, none, [.s d], histReg (.s d)⟩
  | .anewTx k d _ => some ⟨k, 8, false, none, none, [.s d], histReg (.s d)⟩
  | .lapply k d a b vm v => some ⟨k, 8, false, some (lReg v a), some (.s b), [lReg v a] ++ [.s b] ++ maskReg vm ++ [lReg v d], histReg (lReg v d)⟩
  | .amb k a => some ⟨k, 8, false, some (.s a), none, [.s a], none⟩
  | .nogood k a => some ⟨k, 8, false, some (.s a), none, [.s a], none⟩
  | .assert k d a => some ⟨k, 8, false, some (.s a), none, [.s a] ++ [.s d], histReg (.s d)⟩
  | .retract k a => some ⟨k, 8, false, some (.s a), none, [.s a], none⟩
  | .vjoin k d a b vm => some ⟨k, 8, false, some (.v a), some (xReg vm b), [.v a] ++ [xReg vm b] ++ maskReg vm ++ [.v d], some (.v d)⟩
  | .lget k d a vm v => some ⟨k, 8, false, some (lReg v a), none, [lReg v a] ++ maskReg vm ++ [lReg v d], histReg (lReg v d)⟩
  | .lstrip k d a vm v => some ⟨k, 8, false, some (lReg v a), none, [lReg v a] ++ maskReg vm ++ [lReg v d], histReg (lReg v d)⟩
  | .lread k d a _ => some ⟨k, 8, false, some (.s a), none, [.s a] ++ [.s d], histReg (.s d)⟩
  | .ltest k d a vm v _ => some ⟨k, 8, false, some (lReg v a), none, [lReg v a] ++ maskReg vm ++ [lReg v d], histReg (lReg v d)⟩
  | .lfence k => some ⟨k, 8, false, none, none, [], none⟩
  | .settle k d => some ⟨k, 8, false, none, none, [.s d], histReg (.s d)⟩
  | .lscrub k d a _ _ _ _ => some ⟨k, 8, false, some (.s a), none, [.s a] ++ [.s d], histReg (.s d)⟩
  | .srreg k a b => some ⟨k, 8, false, some (.s a), some (.s b), [.s a] ++ [.s b], none⟩
  | .srvFinish k _ => some ⟨k, 8, false, none, none, [], none⟩
  | .srvSummarise k => some ⟨k, 8, false, none, none, [], none⟩
  | .srvRefuse k => some ⟨k, 8, false, none, none, [], none⟩
  | .release k => some ⟨k, 8, false, none, none, [], none⟩
  | .lease k d a b => some ⟨k, 8, false, some (.s a), some (.s b), [.s a] ++ [.s b] ++ [.s d], histReg (.s d)⟩
  | .plbset k d a b => some ⟨k, 8, true, some (.s a), some (.s b), [.s a] ++ [.s b] ++ [.s d], histReg (.s d)⟩
  | .replay k d => some ⟨k, 8, true, none, none, [.s d], histReg (.s d)⟩
  | .flushcode k d a => some ⟨k, 8, true, some (.s a), none, [.s a] ++ [.s d], histReg (.s d)⟩
  | .idle k => some ⟨k, 8, true, none, none, [], none⟩
  | .fpkt k d a => some ⟨k, 8, true, some (.s a), none, [.s a] ++ [.s d], histReg (.s d)⟩
  | .resume k d a => some ⟨k, 8, true, some (.s a), none, [.s a] ++ [.s d], histReg (.s d)⟩
  | .kill k d a => some ⟨k, 8, true, some (.s a), none, [.s a] ++ [.s d], histReg (.s d)⟩
  | .qprio k a b => some ⟨k, 8, true, some (.s a), some (.s b), [.s a] ++ [.s b], none⟩
  | .aperset k d a b => some ⟨k, 8, true, some (.s a), some (.s b), [.s a] ++ [.s b] ++ [.s d], histReg (.s d)⟩
  | .snap k d a b => some ⟨k, 8, true, some (.s a), some (.s b), [.s a] ++ [.s b] ++ [.s d], histReg (.s d)⟩
  | .migrateMove k d a b => some ⟨k, 8, true, some (.s a), some (.s b), [.s a] ++ [.s b] ++ [.s d], histReg (.s d)⟩
  | .migrateFlush k d a => some ⟨k, 8, true, some (.s a), none, [.s a] ++ [.s d], histReg (.s d)⟩
  | .registerCacheFill _ _ _ => none
  | .flumeDelivery _ _ _ _ => none
  | .hostBar2Read _ _ _ => none
  | .hostBar2Write _ _ _ _ => none
  | .physicalWindowAccess _ _ _ _ => none
  | .tflushWrite _ => none
  | .queueDoorbell _ _ _ => none
  | .queueCfgWrite _ _ _ => none
  | .faultBufferHeadWrite _ _ => none
  | .failureAnswer _ _ _ => none
  | .nqheadWrite _ _ => none
  | .pubvUpdate _ _ _ => none
  | .directoryWrite _ _ => none
  | .pcapWrite _ => none
  | .registerWrite _ _ => none
  | .attestReadPage _ => none
  | .powerUp _ => none
  | .moduleReset _ => none
  | .telemetrySample _ _ _ => none
  | .flitReceive _ _ => none
  | .remoteWindowAccess _ _ => none
  | .remoteSlotOpen _ _ => none
  | .remoteAssert _ _ => none
  | .assertAck _ _ => none
  | .hostReadResponse _ _ _ => none
  | .hostWriteThroughComplete _ => none
  | .unassignedEncoding _ => none
  | .pcieLinkStateChange _ _ => none
  | .uncorrectableError _ => none
  | .remoteAccessAnswer _ _ _ => none
  | .remoteSlotAnswer _ _ _ _ => none
  | .icacheFill => none
  | .resultLanding => none
  | .tagFree => none
  | .gapExpiry => none
  | .homeAccess => none
  | .partialCombine => none
  | .nearCacheFill => none
  | .translationWalk => none
  | .leafReturn => none
  | .memoryFill => none
  | .writeBack => none
  | .faultRecordArrival => none
  | .labelResolve => none
  | .internProbe => none
  | .sluiceCapture => none
  | .sluiceJobStart => none
  | .sluiceWriteLanding => none
  | .sluiceJobComplete => none
  | .millraceCapture => none
  | .millraceJobEnd => none
  | .gangStart => none
  | .gangColumnComplete => none
  | .mmarInboundLanding => none
  | .weirArrivalCounted => none
  | .weirRelease => none
  | .holdingDeparture => none
  | .eventSignalEffect => none
  | .eventWake => none
  | .eventLineStore => none
  | .barrierTargetStore => none
  | .domainHomeOperation => none
  | .domainAnswer => none
  | .eraRewriteDone => none
  | .helperRetire => none
  | .haltWake => none
  | .recallDelivery => none
  | .finishDeadline => none
  | .surrenderOverrun => none
  | .faultReport => none
  | .faultPacketOffer => none
  | .distributorRound => none
  | .launchBind => none
  | .launchEndSweep => none
  | .preemption => none
  | .restore => none
  | .snapshotCopy => none
  | .migrationCopyDone => none
  | .faultBufferFlush => none
  | .tenantReset => none
  | .attestMakeReport => none
  | .attestFetchKey => none
  | .attestReportReady => none
  | .configRequest => none
  | .pcieTrainTimeout => none
  | .nelrekStateAdvance => none
  | .nelrekStateTimeout => none
  | .nelrekRetry => none
  | .divideUnitFree => none

/-- The registers that an instruction needs in core `k` (R110, R239, R240). -/
def Instr.regsAt (i : Instr) (m : Meta) (k : Nat) : List RegRef :=
  match i with
  | .mma _ _ _ _ _ _ _ _ _ | .mmar _ _ _ _ _ _ _ _ _ | .mqst _ _ _ _ _ _ _ => gangReads k m.regs
  | _ => m.regs

/-- The module has every optional feature that an instruction belongs to, or names in a field; without it the instruction is ILLEGAL
(R7, R378; entry 76). -/
def Instr.supported (i : Instr) : Bool :=
  match i with
  | .anew _ _ | .lapply _ _ _ _ _ _ | .amb _ _ | .nogood _ _ | .assert _ _ _ | .retract _ _ | .vjoin _ _ _ _ _ | .lget _ _ _ _ _
  | .lstrip _ _ _ _ _ | .lread _ _ _ _ | .ltest _ _ _ _ _ _ | .lfence _ | .settle _ _ | .lscrub _ _ _ _ _ _ _ => Config.hasLabels
  | .anewTx _ _ _ => Config.hasLabels && Config.hasNelrek
  | .vqld _ _ _ _ vm _ | .vqdec _ _ _ vm _ | .vqst _ _ _ _ _ vm _ | .vqenc _ _ _ vm _ _ | .vhdr _ _ _ vm _
  | .vhdrw _ _ _ vm _ => vm.ty != 6#3 || Config.hasB4
  | .mma _ _ _ _ _ tb ty _ _ | .mmar _ _ _ _ _ tb ty _ _ => (tb != 6#3 && ty != 6#3) || Config.hasB4
  | .mqst _ _ _ _ ty _ _ => ty != 6#3 || Config.hasB4
  | .snap _ _ _ _ => Config.hasSnapshots
  | _ => true

end Sys2Proof
end

