-- ==== Sys2Proof/Machine/State.lean ====
section
/-! DEFINITION. Sys2Proof/Machine/State.lean: everything the manual gives the module, as plain data. The model is one whole
module (R13): cores, clusters, launches and tenants are held in lists by number, and one not listed is in its reset state. The
steps still to come are the agenda; the environment's inputs are agenda entries too (entry 13). -/

namespace Sys2Proof.Machine

/-- Why the model stops with a fault. -/
inductive Fault where
  /-- Raised by the meaning of an issued instruction when no live context is issuing, which `step` never does. Safe: the machine
  has no such step. -/
  | noContext
deriving DecidableEq, Repr

/-- Why the model refuses. -/
inductive Refusal where
  /-- Raised by `exec` for an instruction that has no meaning yet. Safe: the machine would go on. -/
  | notModelled (mnemonic : String)
deriving DecidableEq, Repr

/-- A sparse store of `n`-bit cells. Canonical: keys strictly rising, no zero cell; an unlisted cell reads as zero. -/
abbrev Sparse (n : Nat) := List (Nat × BitVec n)

/-- A list of records by number. -/
abbrev NMap (α : Type) := List (Nat × α)

/-- The operands of a step of the module that its constructor does not carry. -/
structure Subj where
  a : Nat := 0
  b : Nat := 0
  c : Nat := 0
  d : Nat := 0
  e : Nat := 0
  f : Nat := 0
  g : Nat := 0
deriving DecidableEq, Repr, Inhabited

/-- A step to come: `key` is 4 * cycle + phase, where phase 0 precedes issue in a cycle and phase 2 follows it (R45). -/
structure Todo where
  key : Nat
  what : Instr
  who : Subj
deriving DecidableEq, Repr

/-- A vector register with lane labels and sideband (R104). -/
structure VReg where
  lanes : Vector Word 16
  labels : Vector Handle 16
  side : Vector (BitVec 16) 4
deriving DecidableEq, Repr

/-- The contents of a register line (R110). -/
inductive RegVal where
  | s (v : Dword) (l : Handle)
  | v (x : VReg)
deriving DecidableEq, Repr

/-- A register line of a pre-empted launch that nothing has displaced yet (R359, R362). -/
structure OldReg where
  launch : Nat
  ctx : Nat
  ref : RegRef
  val : RegVal
deriving DecidableEq, Repr

/-- What a context sleeps on or is held by (R112). -/
inductive Wait where
  | none
  /-- WEIR or WEIRW, until the weir releases (R263). -/
  | weir (n : Nat)
  | line (n : Nat)
  | mutex (n : Nat)
  | barrier (n : Nat)
  | tlMem (va : Nat) (value : Nat)
  | tlSluice (value : Nat)
  | tlMill (timeline value : Nat)
  | tlUpdate (value : Nat)
  | hjoin (ctx : Nat)
  | halt
  | mwait
  | idle
  /-- FENCE: until the core's stores numbered below `upto` are performed (R196). -/
  | fence (upto : Nat) (scope : Nat)
  | lfence
  /-- NOGOOD, ASSERT, RETRACT, SETTLE: until the home answers (R280). -/
  | domain
  /-- an unjoined gang instruction (R125). -/
  | gang
  /-- a register line is being fetched (R110). -/
  | regMiss
  /-- a fetch block is being filled (R118). -/
  | fetch
  /-- lanes beyond the eighth resolve slot (R319). -/
  | lanes
  /-- RELEASE under way (R291). -/
  | releasing
deriving DecidableEq, Repr, Inhabited

/-- A change of a domain (R96): its UPDATE number and what it is. -/
inductive Change where
  | nogood (upd : Nat) (n : Dword)
  | assert (upd : Nat) (k : Nat)
  | settle (upd : Nat) (era : BitVec 4)
deriving DecidableEq, Repr

/-- A context (R104, R108, R109). -/
structure Ctx where
  live : Bool
  ending : Bool
  pc : Dword
  sv : Vector Dword 32
  sl : Vector Handle 32
  vr : Vector VReg 32
  ambient : Handle
  fpctl : Dword
  sticky : Dword
  era : BitVec 4
  weirN : BitVec 4
  ap : Bool
  sr : Bool
  tags : BitVec 8
  hist : List (Option RegRef)
  shadow : List (Option RegRef)
  jobLast : Nat
  timeline : Nat
  srLink : Dword
  srCause : Dword
  savAmb : Handle
  srIssued : Nat
  srVerdict : Bool
  gapUntil : Nat
  stalled : Nat
  waited : Nat
  wait : Wait
  /-- a weir at which this context's arrival still waits for its release (R261, R264). -/
  arriving : Option Nat
  /-- the PC of a wait that was interrupted and has not issued again (R264). -/
  waitPc : Option Dword
  /-- the weir that the interrupted wait waits for (R264). -/
  waitWeir : Option Nat
  overlay : List Change
deriving DecidableEq, Repr

/-- A destination word of a result in flight (R115). -/
inductive RegWrite where
  | s (r : BitVec 5) (v : Dword) (l : Handle)
  | lane (r : BitVec 5) (i : Nat) (v : Word) (l : Handle)
  | side (r : BitVec 5) (j : Nat) (h : BitVec 16)
  | acc (bank row col : Nat) (v : Word) (l : Handle)
deriving DecidableEq, Repr

/-- What remains to be done when a tagged VQLD has its words (R229): destination, type, header address. -/
structure VqFin where
  r : BitVec 5
  ty : BitVec 3
  hdrVa : Nat
deriving DecidableEq, Repr

/-- A result in flight (R114, R115): `left` words still to arrive, `minDue` the issue cycle plus the least latency, `due` the
cycle in which it lands once known. -/
structure Pend where
  seq : Nat
  ctx : Nat
  tag : Nat
  pc : Dword
  minDue : Nat
  due : Nat
  left : Nat
  writes : List RegWrite
  raw : List (Nat × LWord)
  fin : Option VqFin
  flags : Dword
  acquire : Bool
  dst : List RegRef
  /-- destination words that a later producer has already written (R115). -/
  dead : List Nat
  /-- a fault found where the access was performed, precise at the consumer (R200, R343). -/
  bad : Option (Nat × Dword)
  /-- the words whose label an extra slot forms: their context is not ready until they are written (R319). -/
  lanes : Bool
  /-- the accumulator bank that an MLD loads (R343). -/
  bank : Option Nat
deriving DecidableEq, Repr

/-- A protection range (R120, R295). -/
structure Plb where
  valid : Bool
  base : BitVec 40
  last : BitVec 40
  r : Bool
  w : Bool
  x : Bool
  l : Bool
  c : Bool
  cop : BitVec 2
deriving DecidableEq, Repr, Inhabited

/-- The inputs of one combine (R83, R84, R279): handles, an environment {e}, a join. -/
structure LabelIn where
  hs : List Handle
  env : Option Dword
  join : Option (Handle × Handle)
deriving DecidableEq, Repr

/-- Where the label of a combine beyond the eighth goes (R319): a result in flight or a buffered store. -/
inductive Fill where
  | pend (seq : Nat)
  | req (id : Nat)
deriving DecidableEq, Repr

/-- A core's view of its domain (R96). -/
structure View where
  era : BitVec 4
  asserted : Dword
  nogoods : List Dword
  update : Nat
deriving DecidableEq, Repr, Inhabited

/-- A busy resolve slot (R93, R94): the list to intern, once it is known, and the handle, once that is. -/
structure Slot where
  ctx : Nat
  fill : Option Fill
  inp : LabelIn
  ready : Nat
  started : Bool
  /-- the cycle in which its last pending input resolved, or its issue cycle (R319). -/
  began : Nat
  /-- the place of its instruction in the core's issue order (R319). -/
  order : Nat
  /-- the view in which its list was formed (R92, R96). -/
  seen : View
  todo : List (List Dword)
  got : Option Handle
  /-- its label belongs to an era that the core or context has left (R100). -/
  lost : Bool
deriving DecidableEq, Repr

/-- A fault report (R342 to R344). `resume` is the image PC of the faulting context. -/
structure Report where
  arrived : Nat
  cause : Nat
  ctx : Nat
  pc : Dword
  addr : Dword
  resume : Option Dword
deriving DecidableEq, Repr

/-- A fault packet (R297). -/
structure Packet where
  core : Dword
  launch : Dword
  pc : Dword
  addr : Dword
  info : Dword
  gen : Dword
deriving DecidableEq, Repr, Inhabited

/-- A flume (R123, R327): destination core number, ring base, depth, sends in this phase. -/
structure Flume where
  f : Nat
  dst : Nat
  base : Nat
  depth : Nat
  sent : Nat
deriving DecidableEq, Repr

/-- A commutative partial line (R40): line number, operation, elements; `era` is its domain's era at the latest contribution (R100). -/
structure Partial where
  era : BitVec 4
  line : Nat
  cop : BitVec 2
  words : List LWord
  age : Nat
  pc : Dword
  ctx : Nat
deriving DecidableEq, Repr

/-- A core (R13, R104, R112, R120 to R123, R139). -/
structure Core where
  ctxs : Vector Ctx 11
  lastCtx : Nat
  yielded : Bool
  issuedAt : Nat
  partials : List Partial
  viewStamp : Nat
  plb : Vector Plb 16
  slots : Vector (Option Slot) 8
  /-- combines beyond the eighth of one instruction (R319), numbered from 8. -/
  extra : NMap Slot
  combCache : List (LabelIn × Handle)
  view : View
  divFree : Nat
  sdivFree : Nat
  pk : Bool
  arm : Bool
  phaseStart : Nat
  flumes : List Flume
  slotTab : List (Nat × Nat)
  cnt : Vector Dword 12
  frozen : Bool
  dbgCtx : Nat
  dbgCause : Nat
  held : List Report
  packet : Option Packet
  lmem : Sparse 8
  lplane : Sparse 16
  eraTodo : Bool
  /-- register lines present, by context, oldest first (R110). -/
  regCache : List (Nat × RegRef)
  /-- dirty lines evicted in this cycle, on their way to the images (R110). -/
  regOut : List (Nat × RegRef)
  /-- lines of pre-empted launches that nothing has displaced yet (R359, R362). -/
  regOld : List OldReg
  pend : List Pend
  arr : BitVec 16
  gone : BitVec 16
  evOut : Nat
  evIn : Nat
  gangBusy : Bool
  launch : Option Nat
  holding : Nat
deriving DecidableEq, Repr

/-- The encoded operation of a gang instruction (R125, R236, R248): kind 0 MMA, 1 MMAR, 2 MQST. -/
structure GangOp where
  kind : Nat
  d : BitVec 5
  a : BitVec 5
  b : BitVec 5
  c : BitVec 5
  ty : BitVec 3
  tb : BitVec 3
  flag : BitVec 1
  zc : BitVec 1
  mask : BitVec 4
deriving DecidableEq, Repr

/-- A member of a gang: its latched operands (R238), for a scratchpad operand the labels of the words that hold its headers, and its
ambient label. -/
structure Member where
  core : Nat
  ctx : Nat
  seq : Nat
  pc : Dword
  op : GangOp
  amb : Handle
  va : List VReg
  vb : List VReg
  ha : List Handle
  hb : List Handle
deriving DecidableEq, Repr

/-- A joined gang operation (R125, R240 to R243): the valid counts and core 0's address registers at the join; for an MMAR its
number and which inbound tiles have landed. `lost` when it completed without starting (R244). -/
structure MatOp where
  id : Nat
  op : GangOp
  members : List Member
  rows : Nat
  cols : Nat
  addrs : List Dword
  fmt : Bool
  start : Nat
  begun : Bool
  colsDone : Bool
  num : Nat
  gotA : Bool
  gotB : Bool
  lost : Bool
deriving DecidableEq, Repr

/-- A leaf entry, both words (R24). -/
structure Leaf where
  w0 : Dword
  w1 : Dword
deriving DecidableEq, Repr, Inhabited

/-- A translation-cache entry of a home slice (R25): slice number, page base, page size. -/
structure TEntry where
  slice : Nat
  page : Nat
  size : Nat
  leaf : Leaf
deriving DecidableEq, Repr

/-- A near-cache copy (R42). `id` is the model's own number of the copy: two copies of a line may have one stamp. `page` is the page of the line as the fill found it, whose header the handles were written under (R35). -/
structure Copy where
  id : Nat
  line : Nat
  words : List LWord
  stamp : Nat
  readers : BitVec 8
  writers : BitVec 8
  used : Nat
  page : Option TEntry
  /-- words of a DECODE view whose block header was corrupt (R30). -/
  corrupt : Bool
deriving DecidableEq, Repr

/-- An instruction-cache block (R117, R118): its eight words. -/
structure IBlock where
  block : Nat
  words : List Word
deriving DecidableEq, Repr

/-- An event line (R265, R267). -/
structure EvLine where
  count : Nat
  sleepers : List (Nat × Nat)
deriving DecidableEq, Repr, Inhabited

/-- A mutex (R265, R268). -/
structure EvMutex where
  owner : Option (Nat × Nat)
  sleepers : List (Nat × Nat)
deriving DecidableEq, Repr, Inhabited

/-- A barrier (R265, R269). -/
structure EvBarrier where
  target : Nat
  waiting : List (Nat × Nat)
deriving DecidableEq, Repr, Inhabited

/-- A sluice or millrace job (R48, R249, R251, R256, R257, R286). `desc` is the captured descriptor; `mode` 0 CPY, 1 CPYT,
2 CPYU, 3 CPYG, 4 CPYS, 5 CPYF, 6 CPYQ, 7 ACCSV, 8 ACCRS, 9 LSCRUB. -/
structure Job where
  id : Nat
  core : Nat
  ctx : Nat
  launch : Nat
  pc : Dword
  seq : Nat
  mode : Nat
  num : Nat
  bank : Nat
  addr : Dword
  amend : Option Word
  timeline : Option Nat
  desc : List Word
  amb : Handle
  captured : Bool
  started : Bool
  landed : Bool
  stopped : Bool
  stat : Nat
  flags : Dword
  moved : Nat
  evl : Option Nat
  weir : Option Nat
  /-- how many of its elements are done (R253), and the bytes of the next one that it has written already (R49). -/
  done : Nat
  part : Nat
  /-- the next access's number at the capture: earlier stores to cluster memory are seen (R253, R316). -/
  mark : Nat
  /-- an answer of the host or a peer that it waits for, with the address. -/
  away : Option Nat
  /-- the last line or word that came over a link. -/
  got : List (Nat × LWord)
  /-- the context's result history before the submission, which a precise capture fault restores (R116, R343). -/
  hist : List (Option RegRef)
deriving DecidableEq, Repr

/-- Operands that a neighbour's MMAR has sent and that have not landed (R243): the MMAR's number, `dir` 0 for A from the east and 1 for B
from the south, the sending cluster and the cycle of its start, and for each core registers and header labels. -/
structure Inbound where
  num : Nat
  dir : Nat
  src : Nat
  start : Nat
  ops : List (List VReg × List Handle)
deriving DecidableEq, Repr

/-- A cluster (R13). -/
structure Cluster where
  accv : Sparse 32
  accl : Sparse 16
  gang : List Member
  mats : List MatOp
  lastStart : Nat
  mmarDone : Nat
  /-- the inbound buffer of the rotation (R243). -/
  inbound : List Inbound
  near : List Copy
  icache : List IBlock
  lines : Vector EvLine 32
  mutexes : Vector EvMutex 8
  barriers : Vector EvBarrier 4
  jobs : List Job
  /-- stage records: the jobs that staged a region, with VALID as applied (R52). -/
  stages : List Job
deriving DecidableEq, Repr

/-- A home-slice line (R36): VA line number, words with handles, dirty. -/
structure Line where
  line : Nat
  words : List LWord
  dirty : Bool
  used : Nat
  /-- lines of a DECODE view whose block header was corrupt (R30). -/
  corrupt : Bool
deriving DecidableEq, Repr

/-- What a request does at its home (R37, R193, R274). -/
inductive ReqOp where
  | load
  | pref
  /-- an instruction block for a cluster (R118) -/
  | fetch
  /-- a memory timeline that a context waits on (R273) -/
  | watch
  | store
  | strel
  | tlsig
  | amo (op : Nat)
  | cas
  | red (op : Nat)
  | part (cop : BitVec 2)
  | publish
  /-- a system instruction on its way: 0 REPLAY, 1 RESUME, 2 APERSET, 3 SNAP, 4 MIGRATE flush, 5 MIGRATE move, 6 FLUSHCODE
  (R293 to R299, R350, R355), 7 the copy of a copy-on-write page whose words are not on this module (R385); `away` while a move, such a
  copy or a FLUSHCODE is under way -/
  | sys (kind : Nat)
  /-- an access that a peer makes through a link's inbound window (R389) -/
  | peer (link : Nat) (acc : RemoteAccess)
  /-- a word of a page of the host or behind a link that the distributor looks at (R330) -/
  | probe
  /-- an access of the host through BAR 2 (R379): `va`, `width` and `data` are what is still to be done -/
  | bar (write : Bool)
deriving DecidableEq, Repr

/-- Where a loaded word goes. -/
inductive ReqDst where
  | none
  | s (r : BitVec 5) (zext : Bool)
  | lane (r : BitVec 5) (i : Nat)
  | bcast (r : BitVec 5) (lanes : List Nat)
  | acc (bank row col : Nat)
  | raw (i : Nat)
deriving DecidableEq, Repr

/-- A request in flight to a home (R37, R44): a buffered store is one with `op` store, RED or STREL. -/
structure Req where
  id : Nat
  core : Nat
  ctx : Nat
  launch : Nat
  pc : Dword
  op : ReqOp
  va : Nat
  width : Nat
  data : Dword
  cmp : Dword
  lbl : Handle
  /-- further labels that the home combines (R88). -/
  more : List Handle
  dst : ReqDst
  seq : Nat
  words : List LWord
  /-- a device write-through or a remote access waiting for its answer (R381, R389). -/
  away : Bool
  /-- the page that the walk unit returned (R25), or under which its line was read (R35). -/
  leaf : Option TEntry
  /-- the Nelrek link over which it is outstanding (R390). -/
  link : Option Nat
  /-- the two words of a load over which buffered stores of its core were merged when it was performed (R44). -/
  fwd : List (Word × List Handle)
  /-- a value that waits for a free resolve slot before it is delivered (R93). -/
  value : Option (Nat × List Handle)
  /-- the small gather that it belongs to, or 0 (R38). -/
  grp : Nat
  /-- the core whose instruction sent it, which its fault report goes to (R200). -/
  sender : Nat
deriving DecidableEq, Repr

/-- A parked access (R351): request number, or an engine job; tenant, page by its base / 64 KiB, page size, KIND, ACCESS, generation. -/
structure Park where
  id : Nat
  isJob : Bool
  tenant : Nat
  page : Nat
  size : Nat
  va : Nat
  kind : Nat
  acc : Nat
  gen : Nat
  launch : Dword
deriving DecidableEq, Repr

/-- A fault record (R353). -/
structure FRec where
  va : Dword
  info : Dword
  gen : Dword
  launch : Dword
deriving DecidableEq, Repr, Inhabited

/-- A record on its way to a tenant's ring (R354). -/
structure FFlight where
  id : Nat
  tenant : Nat
  page : Nat
  rcd : FRec
deriving DecidableEq, Repr

/-- The three registers of an aperture (R28). -/
structure Aper where
  ctl : Dword
  base : Dword
  hdr : Dword
deriving DecidableEq, Repr, Inhabited

/-- A recall (R334, R335): requester's tenant, launch number, priority, KIND, and the queue and selection it came from (R330). -/
structure Recall where
  tenant : Nat
  launch : Nat
  prio : Nat
  kind : Nat
  queue : Nat
  sel : Nat
deriving DecidableEq, Repr

/-- A holding of a launch (R324, R334 to R340). -/
structure Holding where
  present : Bool
  departing : Bool
  refusals : Nat
  recalls : List Recall
  serving : Option Recall
  finish : Option Nat
  summarised : Bool
  routine : Dword
  bound : Nat
  byRecall : Option Nat
  granted : Bool
deriving DecidableEq, Repr, Inhabited

/-- A weir of a launch (R259, R325): rectangle, cores, pending bytes, and the cycle for which its release is scheduled, or 0. -/
structure Weir where
  defined : Bool
  x : Nat
  y : Nat
  w : Nat
  h : Nat
  cmask : BitVec 8
  pending : BitVec 40
  due : Nat
deriving DecidableEq, Repr, Inhabited

/-- The life of a launch. -/
inductive LState where
  | bound
  | preempting
  | preempted
  | restoring
  | ended
deriving DecidableEq, Repr, Inhabited

/-- A LEASE request waiting for weir-0 completions (R292, R341). -/
structure LeaseReq where
  count : Nat
  named : Nat
deriving DecidableEq, Repr

/-- A launch (R322 to R329). -/
structure Launch where
  number : Nat
  tenant : Nat
  queue : Nat
  prio : Nat
  recAddr : Nat
  rcd : List Dword
  x : Nat
  y : Nat
  w : Nat
  h : Nat
  firm : Nat
  phased : Bool
  sup : Bool
  deferred : Bool
  domain : Option Nat
  state : LState
  leases : List Plb
  holdings : List Holding
  weirs : Vector Weir 16
  rot : Option (Nat × Nat × Nat × Nat)
  rotLost : Bool
  version : Nat
  asks : List LeaseReq
  /-- FLUSHCODE requests that wait for a weir-0 completion (R296). -/
  flush : List Nat
  sweep : Option (Nat × Nat)
  saves : List Nat
  heldFx : List (Nat × Option Nat × Option Nat × Nat)
  /-- events issued and received by cores that have left (R291, R331). -/
  outGone : Nat
  inGone : Nat
  /-- LEASE requests made (R292). -/
  leaseNum : Nat
  /-- stopped at a weir-0 completion by a FLUSHCODE (R296). -/
  stopped : Bool
  /-- forced recalls: each a holding, and who receives its cluster (R338, R339). -/
  forced : List (Nat × Option Recall)
  /-- flumes and slot table of each core, by holding * 8 + core, as the route table gave them at binding (R327, R329). -/
  routes : List (Nat × List Flume × List (Nat × Nat))
  /-- while pre-empted: MMARs each holding has done, joined MMARs that have not started, and accesses that met a fault which no
  instruction has consumed yet, by cluster and core (R243, R200). -/
  mmars : NMap Nat
  keptMats : List (Nat × MatOp)
  keptInbound : List (Nat × Inbound)
  keptPends : List (Nat × Pend)
  /-- while pre-empted: stage records by holding, and the domain view of each core by holding * 8 + core. -/
  keptStages : List (Nat × Job)
  keptViews : NMap View
  /-- while pre-empted: fault reports that each core holds, by holding * 8 + core (R200, R344). -/
  keptHeld : List (Nat × Report)
  /-- while pre-empted: interrupted waits at weirs, by holding * 8 + core and context: PC and weir (R264). -/
  keptWaits : List (Nat × Nat × Dword × Nat)
deriving DecidableEq, Repr

/-- A selected record (R330): the selection's number, its words, region origin, priority, the clusters held for it and those still awaited. -/
structure Select where
  num : Nat
  rcd : List Dword
  x : Nat
  y : Nat
  prio : Nat
  got : List Nat
  want : List Nat
  recalled : List Nat
deriving DecidableEq, Repr, Inhabited

/-- A queue control block (R321) and its selection under way (R330). -/
structure Queue where
  base : Dword
  cfg : Dword
  head : Dword
  tail : Dword
  skips : Dword
  selected : Option Select
deriving DecidableEq, Repr, Inhabited

/-- A tenant (R320, R345, R352, R374, R377). -/
structure Tenant where
  queues : NMap Queue
  mill : NMap Nat
  millLast : NMap Nat
  gen : Nat
  fbHead : Nat
  fbTail : Nat
  fbOvf : Bool
  ansPage : Dword
  ring : NMap FRec
  packets : List Packet
  /-- packets of cores that are not frozen, while the queue is full (R345). -/
  offers : List Packet
  nqBase : Dword
  nqCfg : Dword
  nqHead : Nat
  nqTail : Nat
  nqOvf : Bool
  puba : NMap Dword
  pubv : NMap Dword
  spBase : Dword
  spCount : Nat
  wBase : Dword
  wCfg : Dword
  saveBase : Dword
  saveCnt : Dword
  resetBusy : Bool
  rThresh : Dword
  saveUsed : List Nat
  /-- pages that have a fault record of the current generation (R354). -/
  recorded : List Nat
deriving DecidableEq, Repr

/-- The states of a Nelrek link (R386), in LSTAT order. -/
inductive NState where
  | detect
  | equalise
  | deskew
  | exchange
  | active
  | down
deriving DecidableEq, Repr, Inhabited

/-- An operation of a context on its domain, on its way to the domain home or back (R278, R280, R391): `kind` 0 ANEW, 1 ANEW in its
transaction form, 2 NOGOOD, 3 ASSERT, 4 RETRACT, 5 SETTLE. `slot` is the slot of one that waits for its link. -/
structure DomOp where
  id : Nat
  core : Nat
  ctx : Nat
  launch : Nat
  dom : Nat
  kind : Nat
  val : Dword
  link : Nat
  slot : Option Nat
  reg : BitVec 5
  seq : Nat
  lbl : Handle
  pc : Dword
  hist : List (Option RegRef)
  res : Dword
  fault : Option (Nat × Dword)
  change : List Change
deriving DecidableEq, Repr

/-- What a link's capability flit tells (R386): module identity, link number, inbound domain, feature mask. -/
structure LinkCaps where
  identity : Nat
  number : Nat
  domain : Nat
  features : Nat
deriving DecidableEq, Repr, Inhabited

/-- A message to a peer (R386 to R391, R103); `eng` marks an access of a millrace engine. -/
inductive LinkMsg where
  | caps (c : LinkCaps)
  | access (link id : Nat) (eng : Bool) (acc : RemoteAccess)
  | answer (link : Nat) (ok : Bool) (words : List (Word × List Dword × Handle))
  | slotOpen (link id slot : Nat)
  | slotAnswer (link peerSlot : Nat) (ok : Bool) (slot : Nat)
  | assertSlot (link slot : Nat)
  | assertAck (link slot : Nat)
deriving DecidableEq, Repr

/-- A flit sent over a link (R387), with the message in its payload, if it carries one. -/
structure LinkFlit where
  link : Nat
  flit : Flit
  msg : Option LinkMsg
deriving DecidableEq, Repr

/-- A Nelrek link (R386 to R391). -/
structure NLink where
  state : NState
  /-- the cycle in which the link entered its state. -/
  entered : Nat
  downs : Nat
  inBase : Dword
  inCfg : Dword
  /-- the inbound domain that EXCHANGE has fixed, and what the peer's capability flit told (R386, R391). -/
  domain : Nat
  peer : Option LinkCaps
  /-- pairing table: domain, own slot, peer slot. -/
  pairs : List (Nat × Nat × Nat)
  /-- sequence numbers of the next flit received and sent. -/
  rxSeq : Nat
  txSeq : Nat
  /-- flits sent and not acknowledged, each with its sequence number; how often the first of them has been sent again in a row. -/
  replayBuf : List (Nat × LinkMsg)
  replays : Nat
  /-- STOP as this receiver has set it, and as the peer has. -/
  stop : BitVec 8
  stopIn : BitVec 8
  /-- flits that the receiver holds, by lane. -/
  rxCount : Vector Nat 8
  /-- messages that wait for their lane or for the replay buffer. -/
  sendq : List LinkMsg
deriving DecidableEq, Repr

/-- A message to the host (R373, R379, R381, R393). -/
inductive HostMsg where
  | read (tenant id hpa : Nat)
  | write (tenant id hpa width : Nat) (data : Dword)
  | data (tenant : Nat) (word : Dword)
  | abort (tenant : Nat)
  | window (word : Dword)
  | config (link : Nat) (retry : Bool)
deriving DecidableEq, Repr

/-- The attestation mailbox (R395): what the current output is: 0 none, 1 report, 2 key; and the five images that the controller has
accepted, which a report names (R394). -/
structure Mailbox where
  nonce : List Byte
  status : Nat
  output : Nat
  used : List Byte
  /-- the nonce of the report that is being built. -/
  building : List Byte
  /-- which report the current one is: two over one stream need not have one signature. -/
  made : Nat
  page : Nat
  images : List FlashImage
deriving DecidableEq, Repr

/-- A page move under way (R299, R385); `snap` is the companion frame that the copy of a copy-on-write page has taken. -/
structure Move where
  id : Nat
  tenant : Nat
  page : Nat
  frame : Nat
  snap : Option Nat
  copied : Bool
deriving DecidableEq, Repr

/-- The module. -/
structure State where
  now : Nat
  fresh : Nat
  curCore : Nat
  curCtx : Nat
  subj : Subj
  agenda : List Todo
  nextId : Nat
  cores : NMap Core
  clusters : NMap Cluster
  launches : NMap Launch
  tenants : NMap Tenant
  mem : Sparse 8
  ecc : List Nat
  lines : List Line
  tcache : List TEntry
  root : NMap Nat
  apers : NMap Aper
  aperOwner : NMap Byte
  reqs : List Req
  /-- accesses to cluster memory that are ready to land, by port: 0 owner, 1 landing, and of the shared port 2 another core, 3 the
  sluice, 4 the matrix array (R45). -/
  late : List (Nat × Req)
  /-- the core, 0 to 7, that a sub-bank's shared port granted last, by bank * 8 + sub-bank (R45). -/
  turns : NMap Nat
  parked : List Park
  recording : List FFlight
  directory : NMap Dword
  domOps : List DomOp
  /-- slots that a link die retracted, by domain, until SETTLE: their ASSERT answers 1 (R103, R281). -/
  aborted : List (Nat × Nat)
  nextLaunch : Nat
  lastBound : NMap (Nat × Nat)
  mill : List Job
  moves : List Move
  links : Vector NLink 16
  pcie : BitVec 4
  pwBase : Dword
  tflushBusy : Bool
  ready : Bool
  fatal : Bool
  linksL0 : BitVec 4
  mDie : Nat
  mStep : Nat
  watts : Nat
  pstate : Nat
  telemetry : List (Nat × Nat)
  /-- the module's power in the samples of the last 1 ms, the latest first, and how many samples in a row it and every die have been
  low (R397). -/
  powers : List Nat
  calm : Nat
  mailbox : Mailbox
  caps : List (Nat × Dword)
  remoteReads : NMap Nat
  msix : List (Nat × Nat)
  /-- host pages, by tenant and page, that a link die has reserved a 64 KiB staging page for (R356). -/
  staging : List (Nat × Nat)
  hostOut : List HostMsg
  linkOut : List LinkFlit
deriving DecidableEq, Repr

/-- A vector register of zeros labelled TRUE, sideband 0x0000 (R106). -/
def VReg.zero : VReg :=
  { lanes := Vector.replicate 16 0#32, labels := Vector.replicate 16 0#16, side := Vector.replicate 4 0#16 }

/-- A context at reset: every field as R106 starts it, and not live. -/
def Ctx.zero : Ctx :=
  { live := false, ending := false, pc := 0#64, sv := Vector.replicate 32 0#64, sl := Vector.replicate 32 0#16,
    vr := Vector.replicate 32 VReg.zero, ambient := 0#16, fpctl := 0#64, sticky := 0#64, era := 0#4, weirN := 0#4,
    ap := false, sr := false, tags := 0#8, hist := [none, none, none], shadow := [none, none, none], jobLast := 0,
    timeline := 0, srLink := 0#64, srCause := 0#64, savAmb := 0#16, srIssued := 0, srVerdict := false, gapUntil := 0,
    stalled := 0, waited := 0, wait := .none, arriving := none, waitPc := none, waitWeir := none, overlay := [] }

/-- An empty protection range. -/
def Plb.empty : Plb :=
  { valid := false, base := 0#40, last := 0#40, r := false, w := false, x := false, l := false, c := false, cop := 0#2 }

/-- A domain view before any change. -/
def View.zero : View := { era := 0#4, asserted := 0#64, nogoods := [], update := 0 }

/-- A core at reset. -/
def Core.zero : Core :=
  { ctxs := Vector.replicate 11 Ctx.zero, lastCtx := 0, yielded := false, issuedAt := 0, partials := [], viewStamp := 0,
    plb := Vector.replicate 16 Plb.empty, slots := Vector.replicate 8 none, extra := [], combCache := [], view := View.zero,
    divFree := 0, sdivFree := 0, pk := false, arm := false, phaseStart := 0, flumes := [], slotTab := [],
    cnt := Vector.replicate 12 0#64, frozen := false, dbgCtx := 0, dbgCause := 0, held := [], packet := none, lmem := [],
    lplane := [], eraTodo := false, regCache := [], regOut := [], regOld := [], pend := [], arr := 0#16, gone := 0#16, evOut := 0,
    evIn := 0, gangBusy := false, launch := none, holding := 0 }

/-- A cluster at reset. -/
def Cluster.zero : Cluster :=
  { accv := [], accl := [], gang := [], mats := [], lastStart := 0, mmarDone := 0, inbound := [], near := [], icache := [],
    lines := Vector.replicate 32 ⟨0, []⟩, mutexes := Vector.replicate 8 ⟨none, []⟩, barriers := Vector.replicate 4 ⟨0, []⟩,
    jobs := [], stages := [] }

/-- A queue at reset (R321). -/
def Queue.zero : Queue :=
  { base := 0#64, cfg := 0#64, head := 0#64, tail := 0#64, skips := 0#64, selected := none }

/-- A tenant at reset. -/
def Tenant.zero : Tenant :=
  { queues := [], mill := [], millLast := [], gen := 0, fbHead := 0, fbTail := 0, fbOvf := false, ansPage := 0#64, ring := [],
    packets := [], offers := [], nqBase := 0#64, nqCfg := 0#64, nqHead := 0, nqTail := 0, nqOvf := false, puba := [], pubv := [],
    spBase := 0#64, spCount := 0, wBase := 0#64, wCfg := 0#64, saveBase := 0#64, saveCnt := 0#64, resetBusy := false,
    rThresh := 0#64, saveUsed := [], recorded := [] }

/-- A Nelrek link at reset (R386). -/
def NLink.zero : NLink :=
  { state := .detect, entered := 0, downs := 0, inBase := 0#64, inCfg := 0#64, domain := 0, peer := none, pairs := [], rxSeq := 0, txSeq := 0,
    replayBuf := [], replays := 0, stop := 0#8, stopIn := 0#8, rxCount := Vector.replicate 8 0, sendq := [] }

/-- The module right after reset, before bring-up runs (R392, R393; entries 5, 6). -/
def State.reset : State :=
  { now := 0, fresh := 0, curCore := 0, curCtx := 0, subj := {}, agenda := [], nextId := 0, cores := [], clusters := [],
    launches := [], tenants := [], mem := [], ecc := [], lines := [], tcache := [], root := [], apers := [],
    aperOwner := [], reqs := [], late := [], turns := [], parked := [], recording := [], directory := [], domOps := [], aborted := [], nextLaunch := 1,
    lastBound := [], mill := [], moves := [], links := Vector.replicate 16 NLink.zero, pcie := 0#4, pwBase := 0#64,
    tflushBusy := false, ready := false, fatal := false, linksL0 := 0#4, mDie := 0, mStep := 0, watts := 24000,
    pstate := 0, telemetry := [], powers := [], calm := 0,
    mailbox := { nonce := List.replicate 32 0#8, status := 0, output := 0, used := [], building := [], made := 0, page := 0, images := [] }, caps := [],
    remoteReads := [], msix := [], staging := [], hostOut := [], linkOut := [] }

end Sys2Proof.Machine
end

