-- ==== Sys2Proof/Machine/Base.lean ====
section
/-! DEFINITION. Sys2Proof/Machine/Base.lean: numbered lists and sparse stores, the parts of the state by number, the agenda, and
the module's geometry (R8 to R13, R17, R22). -/

namespace Sys2Proof.Machine

/-- The record numbered `k`, or `z`, the reset record. -/
def NMap.get {α : Type} (m : NMap α) (k : Nat) (z : α) : α :=
  match m with
  | [] => z
  | (j, x) :: r => if j = k then x else NMap.get r k z

/-- The record numbered `k`, if listed. -/
def NMap.find {α : Type} (m : NMap α) (k : Nat) : Option α :=
  match m with
  | [] => none
  | (j, x) :: r => if j = k then some x else NMap.find r k

/-- Numbers `k` with `x`; numbers stay in rising order. -/
def NMap.put {α : Type} (m : NMap α) (k : Nat) (x : α) : NMap α :=
  match m with
  | [] => [(k, x)]
  | (j, y) :: r => if k < j then (k, x) :: (j, y) :: r else if k = j then (k, x) :: r else (j, y) :: NMap.put r k x

/-- Takes number `k` away. -/
def NMap.del {α : Type} (m : NMap α) (k : Nat) : NMap α := m.filter (fun p => p.1 != k)

/-- The cell at key `k`; zero where none is listed. -/
def Sparse.get {n : Nat} (m : Sparse n) (k : Nat) : BitVec n :=
  match m with
  | [] => 0#n
  | (j, x) :: r => if j = k then x else if k < j then 0#n else Sparse.get r k

/-- Writes a cell and keeps the canonical form: a zero cell is not listed. -/
def Sparse.put {n : Nat} (m : Sparse n) (k : Nat) (x : BitVec n) : Sparse n :=
  match m with
  | [] => if x = 0#n then [] else [(k, x)]
  | (j, y) :: r =>
    if k < j then (if x = 0#n then (j, y) :: r else (k, x) :: (j, y) :: r)
    else if k = j then (if x = 0#n then r else (k, x) :: r)
    else (j, y) :: Sparse.put r k x

/-- The canonical form of a sparse store: keys strictly rising from `lo`, no zero cell. -/
def Sparse.wfFrom {n : Nat} (lo : Nat) (m : Sparse n) : Bool :=
  match m with
  | [] => true
  | (j, x) :: r => decide (lo ≤ j) && x != 0#n && Sparse.wfFrom (j + 1) r

/-- A sparse store in canonical form. -/
def Sparse.wf {n : Nat} (m : Sparse n) : Bool := Sparse.wfFrom 0 m

/-- The memory's canonical form (R19; entry 7). -/
def Memory.wf (m : Sparse 8) : Bool := Sparse.wf m

/-- Little-endian bytes from a sparse store (R2). -/
def Sparse.bytes (m : Sparse 8) (a : Nat) : Nat → List Byte
  | 0 => []
  | n + 1 => Sparse.get m a :: Sparse.bytes m (a + 1) n

/-- The number that little-endian bytes spell (R2). -/
def leNat : List Byte → Nat
  | [] => 0
  | b :: r => b.toNat + 256 * leNat r

/-- `n` little-endian bytes of a number (R2). -/
def leBytes (n v : Nat) : List Byte :=
  match n with
  | 0 => []
  | n + 1 => BitVec.ofNat 8 v :: leBytes n (v / 256)

/-- Stores bytes at rising addresses. -/
def Sparse.putBytes (m : Sparse 8) (a : Nat) : List Byte → Sparse 8
  | [] => m
  | b :: r => Sparse.putBytes (Sparse.put m a b) (a + 1) r

/-- Lane or slot `i` of a vector, or `z`. -/
def vget {α : Type} {n : Nat} (v : Vector α n) (i : Nat) (z : α) : α := (v[i]?).getD z

/-- A vector with slot `i` replaced. -/
def vset {α : Type} {n : Nat} (v : Vector α n) (i : Nat) (x : α) : Vector α n := v.setIfInBounds i x

/-- Bits `hi` down to `lo` of a number. -/
def bits (v hi lo : Nat) : Nat := v / 2 ^ lo % 2 ^ (hi + 1 - lo)

/-- Bit `i` of a number. -/
def bitAt (v i : Nat) : Bool := v / 2 ^ i % 2 == 1

/-- A core by number. -/
def State.core (s : State) (k : Nat) : Core := s.cores.get k Core.zero

/-- The state with a core replaced. -/
def State.setCore (s : State) (k : Nat) (c : Core) : State := { s with cores := s.cores.put k c }

/-- The state with a core changed. -/
def State.onCore (s : State) (k : Nat) (f : Core → Core) : State := s.setCore k (f (s.core k))

/-- A context of a core. -/
def Core.ctx (c : Core) (t : Nat) : Ctx := vget c.ctxs t Ctx.zero

/-- A core with a context replaced. -/
def Core.setCtx (c : Core) (t : Nat) (x : Ctx) : Core := { c with ctxs := vset c.ctxs t x }

/-- A context by core and number. -/
def State.ctxAt (s : State) (k t : Nat) : Ctx := (s.core k).ctx t

/-- The state with a context changed. -/
def State.onCtx (s : State) (k t : Nat) (f : Ctx → Ctx) : State := s.onCore k (fun c => c.setCtx t (f (c.ctx t)))

/-- The context that is issuing. -/
def State.me (s : State) : Ctx := s.ctxAt s.curCore s.curCtx

/-- The core that is issuing. -/
def State.here (s : State) : Core := s.core s.curCore

/-- The state with the issuing core changed. -/
def State.onHere (s : State) (f : Core → Core) : State := s.onCore s.curCore f

/-- The state with the issuing context changed. -/
def State.onMe (s : State) (f : Ctx → Ctx) : State := s.onCtx s.curCore s.curCtx f

/-- A cluster by number (a core's number divided by 8). -/
def State.cluster (s : State) (k : Nat) : Cluster := s.clusters.get k Cluster.zero

/-- The state with a cluster changed. -/
def State.onCluster (s : State) (k : Nat) (f : Cluster → Cluster) : State :=
  { s with clusters := s.clusters.put k (f (s.cluster k)) }

/-- A launch by number, if there is one. -/
def State.launch (s : State) (n : Nat) : Option Launch := s.launches.find n

/-- The state with a launch changed. -/
def State.onLaunch (s : State) (n : Nat) (f : Launch → Launch) : State :=
  match s.launch n with
  | none => s
  | some l => { s with launches := s.launches.put n (f l) }

/-- A tenant by number. -/
def State.tenant (s : State) (t : Nat) : Tenant := s.tenants.get t Tenant.zero

/-- The state with a tenant changed. -/
def State.onTenant (s : State) (t : Nat) (f : Tenant → Tenant) : State :=
  { s with tenants := s.tenants.put t (f (s.tenant t)) }

/-- The launch a core is bound to. -/
def State.launchOf (s : State) (k : Nat) : Option Launch :=
  match (s.core k).launch with
  | none => none
  | some n => s.launch n

/-- Does a core belong to a supervisor launch (R137, R323)? -/
def State.supervised (s : State) (k : Nat) : Bool :=
  match s.launchOf k with
  | none => false
  | some l => l.sup

/-- The tenant of a core's launch. -/
def State.tenantOf (s : State) (k : Nat) : Nat :=
  match s.launchOf k with
  | none => 0
  | some l => l.tenant

/-- A free natural number of this step (entry 2). -/
def State.freeN (s : State) (i : Nat) : Nat := Config.freeNat s.fresh i

/-- The core number under which an access from outside the cores acts for tenant `t`: no core has it. -/
def outsideCore (t : Nat) : Nat := 2 ^ 20 + t

/-- A request that no core makes, for tenant `t` (R330, R332, R379, R385, R389). -/
def State.outsideReq (s : State) (t : Nat) (op : ReqOp) (va width : Nat) (data : Dword) : Req :=
  { id := s.nextId, core := outsideCore t, ctx := 0, launch := 0, pc := 0#64, op := op, va := va, width := width, data := data,
    cmp := 0#64, lbl := 0#16, more := [], dst := .none, seq := 0, words := [], away := false, leaf := none, link := none, fwd := [],
    value := none, grp := 0, sender := outsideCore t }

/-- Puts a step after every step that is not later. -/
def agendaInsert (l : List Todo) (x : Todo) : List Todo :=
  match l with
  | [] => [x]
  | y :: r => if y.key ≤ x.key then y :: agendaInsert r x else x :: y :: r

/-- Plans a step `n` cycles from now, in a phase of that cycle: 0 before issue, 1 after phase 0 and before issue, 2 after issue. -/
def State.plan (s : State) (n phase : Nat) (i : Instr) (who : Subj) : State :=
  { s with agenda := agendaInsert s.agenda { key := 4 * (s.now + n) + phase, what := i, who := who } }

/-- A fresh request number. -/
def State.bump (s : State) : State := { s with nextId := s.nextId + 1 }

/-- A request from outside the cores on its way to its home. -/
def State.sendOut (s : State) (r : Req) : State :=
  { s.bump.plan (1 + s.freeN r.va % 64) 0 .homeAccess { a := r.id } with reqs := s.reqs ++ [r] }

/-- Cluster column of a core (R140). -/
def coreX (k : Nat) : Nat := k / 8 % 256
/-- Cluster row of a core (R140). -/
def coreY (k : Nat) : Nat := k / 8 / 256
/-- Number of core `c` of cluster (x, y). -/
def coreKey (x y c : Nat) : Nat := (y * 256 + x) * 8 + c
/-- The die of cluster (x, y) (R8, R11). -/
def dieAt (x y : Nat) : Nat := y / 64 * 8 + x / 32
/-- The sector of cluster (x, y) within the module (R11). -/
def sectorAt (x y : Nat) : Nat := y / 4 * 64 + x / 4
/-- CORE_ID (R140). -/
def coreId (k : Nat) : Nat := dieAt (coreX k) (coreY k) * 2 ^ 20 + coreX k * 2 ^ 12 + coreY k * 8 + k % 8
/-- The core that a word in CORE_ID layout names. -/
def coreOfId (v : Nat) : Nat := coreKey (bits v 19 12) (bits v 11 3) (bits v 2 0)

/-- |a - b|. -/
def dist (a b : Nat) : Nat := if a ≤ b then b - a else a - b

/-- Hops between clusters plus 2 for each die boundary (R17). -/
def pathCost (x y x' y' : Nat) : Nat :=
  dist x x' + dist y y' + 2 * (dist (x / 32) (x' / 32) + dist (y / 64) (y' / 64))

/-- The nearest coordinate of the 4-wide span that starts at `b`. -/
def nearest (a b : Nat) : Nat := if a < b then b else if b + 3 < a then b + 3 else a

/-- The die-local sector number of an address (R22). -/
def sectorOf (va : Nat) : Nat :=
  bits va 12 6 ^^^ bits va 19 13 ^^^ bits va 26 20 ^^^ bits va 33 27 ^^^ bits va 40 34 ^^^ bits va 47 41 ^^^ bits va 49 48

/-- The home die of a global address (R21). -/
def homeDie (va : Nat) : Nat := bits va 55 50

/-- The dies that carry the Nelrek links 0 to 15 (R10). -/
def nelrekDies : List Nat := [0, 2, 3, 4, 5, 7, 16, 23, 24, 31, 40, 42, 43, 44, 45, 47]

/-- The dies that carry the PCI Express links 0 to 3 (R10, R371). -/
def pcieDies : List Nat := [0, 7, 40, 47]

/-- The link engine of Nelrek link `n`'s die: engines 0 to 47 are the dies' own, 48 to 63 the link engines (R9). -/
def linkEngine (n : Nat) : Nat := 48 + n

/-- The engine that serves tenant `t`'s host traffic: the link engine of the die that carries its PCI Express link (R9, R53, R373). -/
def hostEngine (t : Nat) : Nat := linkEngine (nelrekDies.findIdx (· == pcieDies.getD (t % 4) 0))

/-- The home slice of an address, numbered over the module (R22). -/
def homeSlice (va : Nat) : Nat := homeDie va * 128 + sectorOf va

/-- Hops and boundaries from a core to the home of an address (R17). -/
def homePath (k va : Nat) : Nat :=
  let bx := homeDie va % 8 * 32 + sectorOf va % 8 * 4
  let bY := homeDie va / 8 * 64 + sectorOf va / 8 * 4
  pathCost (coreX k) (coreY k) (nearest (coreX k) bx) (nearest (coreY k) bY)

/-- Is an address global memory (R21)? -/
def isGlobal (va : Nat) : Bool := decide (va < 0xC0000000000000)

/-- LAUNCH_ID (R142). -/
def Launch.id (l : Launch) : Dword := BitVec.ofNat 64 (l.tenant * 2 ^ 32 + l.number)

/-- Cluster number of holding `h` of a launch, in row-major order (R324). -/
def Launch.cluster (l : Launch) (h : Nat) : Nat := (l.y + h / l.w) * 256 + (l.x + h % l.w)

/-- A record word of a launch (R322). -/
def Launch.word (l : Launch) (n : Nat) : Nat := (l.rcd.getD n 0#64).toNat

/-- The present holdings of a launch, as indexes. -/
def Launch.here (l : Launch) : List Nat :=
  (List.range l.holdings.length).filter (fun h => (l.holdings.getD h default).present)

/-- The cores of the present holdings of a launch. -/
def Launch.cores (l : Launch) : List Nat :=
  l.here.flatMap (fun h => (List.range 8).map (fun c => l.cluster h * 8 + c))

/-- The launch with a holding changed. -/
def Launch.onHolding (l : Launch) (h : Nat) (f : Holding → Holding) : Launch :=
  { l with holdings := l.holdings.set h (f (l.holdings.getD h default)) }

/-- The live supervisor launch of a tenant. -/
def State.supOf (s : State) (t : Nat) : Option Launch :=
  (s.launches.find? (fun p => p.2.sup && p.2.tenant == t && (p.2.state == .bound))).map (·.2)

/-- The supervisor core of a tenant (R329): holder core of holding 0 of its supervisor launch. -/
def State.supCore (s : State) (t : Nat) : Option Nat := (s.supOf t).map (fun l => l.cluster 0 * 8)

end Sys2Proof.Machine
end

