-- ==== Sys2Proof/Machine/Float.lean ====
section
/-! DEFINITION. Sys2Proof/Machine/Float.lean: floating-point arithmetic, exact in unbounded integers and rounded once (R57 to R64,
R73 to R75, R206 to R219). A flag word has FP_NV, FP_DZ, FP_OF, FP_UF, FP_NX in its bits 0 to 4 (R64). -/

namespace Sys2Proof.Machine

/-- A binary format: fraction bits, exponent bias, exponent bits (R57, R60). -/
structure Fmt where
  frac : Nat
  bias : Nat
  ebits : Nat
deriving DecidableEq, Repr

def Fmt.f32 : Fmt := { frac := 23, bias := 127, ebits := 8 }
def Fmt.bf16 : Fmt := { frac := 7, bias := 127, ebits := 8 }
def Fmt.f16 : Fmt := { frac := 10, bias := 15, ebits := 5 }

/-- Position of the sign bit. -/
def Fmt.sgn (f : Fmt) : Nat := f.frac + f.ebits

/-- Flags of R64. -/
def fNV : Nat := 1
def fDZ : Nat := 2
def fOF : Nat := 4
def fUF : Nat := 8
def fNX : Nat := 16

/-- Is a flag word's flag set, then keep it: the union of two flag words. -/
def flagOr (a b : Nat) : Nat := a ||| b

/-- Sign, exponent field and fraction of an encoding. -/
def Fmt.neg (f : Fmt) (x : Nat) : Bool := x / 2 ^ f.sgn % 2 == 1
def Fmt.exp (f : Fmt) (x : Nat) : Nat := x / 2 ^ f.frac % 2 ^ f.ebits
def Fmt.man (f : Fmt) (x : Nat) : Nat := x % 2 ^ f.frac

def Fmt.isNaN (f : Fmt) (x : Nat) : Bool := f.exp x == 2 ^ f.ebits - 1 && f.man x != 0
def Fmt.isInf (f : Fmt) (x : Nat) : Bool := f.exp x == 2 ^ f.ebits - 1 && f.man x == 0
def Fmt.isZero (f : Fmt) (x : Nat) : Bool := f.exp x == 0 && f.man x == 0
def Fmt.isSNaN (f : Fmt) (x : Nat) : Bool := f.isNaN x && (f.man x / 2 ^ (f.frac - 1) == 0)

/-- A finite encoding's magnitude as m * 2^e. -/
def Fmt.dyadic (f : Fmt) (x : Nat) : Nat × Int :=
  if f.exp x = 0 then (f.man x, 1 - (f.bias : Int) - f.frac)
  else (2 ^ f.frac + f.man x, (f.exp x : Int) - f.bias - f.frac)

def Fmt.signBit (f : Fmt) (neg : Bool) : Nat := if neg then 2 ^ f.sgn else 0
def Fmt.inf (f : Fmt) (neg : Bool) : Nat := f.signBit neg + (2 ^ f.ebits - 1) * 2 ^ f.frac
def Fmt.zero (f : Fmt) (neg : Bool) : Nat := f.signBit neg
def Fmt.maxFin (f : Fmt) (neg : Bool) : Nat := f.signBit neg + ((2 ^ f.ebits - 1) * 2 ^ f.frac - 1)

/-- Does rounding go away from zero (R57)? Modes 0 RNE, 1 RTZ, 2 RDN, 3 RUP; `cmp` 0, 1, 2 says below, at, above half. -/
def roundUp (mode : Nat) (neg odd : Bool) (cmp : Nat) (inexact : Bool) : Bool :=
  match mode with
  | 0 => cmp == 2 || (cmp == 1 && odd)
  | 1 => false
  | 2 => neg && inexact
  | _ => !neg && inexact

/-- m * 2^e, with a little more when `sticky`, cut to a multiple of 2^t and rounded: the multiple, and whether it differs. -/
def cutTo (mode : Nat) (neg : Bool) (m : Nat) (e t : Int) (sticky : Bool) : Nat × Bool :=
  if t ≤ e then
    let q := m * 2 ^ (e - t).toNat
    (if roundUp mode neg (q % 2 == 1) 0 sticky then q + 1 else q, sticky)
  else
    let sh := (t - e).toNat
    let q := m / 2 ^ sh
    let r := m % 2 ^ sh
    let half := 2 ^ (sh - 1)
    let cmp := if r < half then 0 else if r = half && !sticky then 1 else 2
    let inexact := r != 0 || sticky
    (if roundUp mode neg (q % 2 == 1) cmp inexact then q + 1 else q, inexact)

/-- The rounded encoding of ±m * 2^e (m ≠ 0), and its flags (R57, R58). -/
def Fmt.round (f : Fmt) (mode : Nat) (neg : Bool) (m : Nat) (e : Int) (sticky : Bool) : Nat × Nat :=
  let top : Int := e + Nat.log2 m
  let emin : Int := 1 - (f.bias : Int)
  let t := max (top - f.frac) (emin - f.frac)
  let (q, inexact) := cutTo mode neg m e t sticky
  let body := ((t + f.frac + f.bias).toNat) * 2 ^ f.frac + q - 2 ^ f.frac
  let lim := (2 ^ f.ebits - 1) * 2 ^ f.frac
  if lim ≤ body then
    let toInf := mode == 0 || (mode == 2 && neg) || (mode == 3 && !neg)
    (if toInf then f.inf neg else f.maxFin neg, fOF + fNX)
  else
    let free := (cutTo mode neg m e (top - f.frac) sticky).1
    let tiny := decide (top < emin) && !(decide (top + 1 = emin) && free == 2 ^ (f.frac + 1))
    (f.signBit neg + body, (if inexact then fNX else 0) + (if inexact && tiny then fUF else 0))

/-- The exact signed value s * 2^e rounded; an exact zero is -0.0 under RDN, else +0.0 (R213). -/
def Fmt.roundInt (f : Fmt) (mode : Nat) (s : Int) (e : Int) : Nat × Nat :=
  if s = 0 then (f.zero (mode == 2), 0) else f.round mode (decide (s < 0)) s.natAbs e false

/-- A NaN that the module generates (R59). -/
def genNaN (cause : Nat) : Nat := 0x7FC00000 + cause

/-- A NaN with bit 22 set (R59). -/
def quiet (x : Nat) : Nat := x ||| 0x400000

/-- FP_NV when an operand is a signalling NaN (R58, R59). -/
def snanFlag (xs : List Nat) : Nat := if xs.any Fmt.f32.isSNaN then fNV else 0

/-- The first NaN operand quieted, if there is one (R59). -/
def firstNaN (xs : List Nat) : Option Nat := (xs.find? Fmt.f32.isNaN).map quiet

/-- A finite F32 as a signed multiple of 2^e. -/
def f32Int (x : Nat) (e : Int) : Int :=
  let (m, ex) := Fmt.f32.dyadic x
  let v : Int := (m * 2 ^ (ex - e).toNat : Nat)
  if Fmt.f32.neg x then -v else v

/-- a + b, rounded (R57 to R59). -/
def fAdd (mode a b : Nat) : Nat × Nat :=
  let f := Fmt.f32
  match firstNaN [a, b] with
  | some n => (n, snanFlag [a, b])
  | none =>
    if f.isInf a then
      if f.isInf b && f.neg a != f.neg b then (genNaN 3, fNV) else (a, 0)
    else if f.isInf b then (b, 0)
    else if f.isZero a && f.isZero b && f.neg a == f.neg b then (a, 0)
    else f.roundInt mode (f32Int a (-149) + f32Int b (-149)) (-149)

/-- x with its sign inverted (R216). -/
def fNeg (x : Nat) : Nat := x ^^^ 0x80000000

/-- a - b: b's sign is inverted only when b is a number, since a NaN operand keeps its sign (R59). -/
def fSub (mode a b : Nat) : Nat × Nat := fAdd mode a (if Fmt.f32.isNaN b then b else fNeg b)

/-- a * b, rounded (R57 to R59). -/
def fMul (mode a b : Nat) : Nat × Nat :=
  let f := Fmt.f32
  match firstNaN [a, b] with
  | some n => (n, snanFlag [a, b])
  | none =>
    let neg := f.neg a != f.neg b
    if (f.isInf a && f.isZero b) || (f.isZero a && f.isInf b) then (genNaN 4, fNV)
    else if f.isInf a || f.isInf b then (f.inf neg, 0)
    else if f.isZero a || f.isZero b then (f.zero neg, 0)
    else f.round mode neg ((f.dyadic a).1 * (f.dyadic b).1) ((f.dyadic a).2 + (f.dyadic b).2) false

/-- ±(a * b) ± c, exact and rounded once (R213). -/
def fFma (mode : Nat) (negProd negC : Bool) (a b c : Nat) : Nat × Nat :=
  let f := Fmt.f32
  match firstNaN [a, b, c] with
  | some n => (n, snanFlag [a, b, c])
  | none =>
    let np := (f.neg a != f.neg b) != negProd
    let nc := f.neg c != negC
    if (f.isInf a && f.isZero b) || (f.isZero a && f.isInf b) then (genNaN 4, fNV)
    else if f.isInf a || f.isInf b then
      if f.isInf c && nc != np then (genNaN 3, fNV) else (f.inf np, 0)
    else if f.isInf c then (f.inf nc, 0)
    else
      let pz := f.isZero a || f.isZero b
      if pz && f.isZero c && np == nc then (f.zero np, 0)
      else
        let (ma, ea) := f.dyadic a
        let (mb, eb) := f.dyadic b
        let (mc, ec) := f.dyadic c
        let p : Int := (ma * mb * 2 ^ (ea + eb + 298).toNat : Nat)
        let cc : Int := (mc * 2 ^ (ec + 298).toNat : Nat)
        f.roundInt mode ((if np then -p else p) + (if nc then -cc else cc)) (-298)

/-- a / b, rounded (R217). -/
def fDiv (mode a b : Nat) : Nat × Nat :=
  let f := Fmt.f32
  match firstNaN [a, b] with
  | some n => (n, snanFlag [a, b])
  | none =>
    let neg := f.neg a != f.neg b
    if (f.isZero a && f.isZero b) || (f.isInf a && f.isInf b) then (genNaN 5, fNV)
    else if f.isInf a then (f.inf neg, 0)
    else if f.isInf b || f.isZero a then (f.zero neg, 0)
    else if f.isZero b then (f.inf neg, fDZ)
    else
      let (ma, ea) := f.dyadic a
      let (mb, eb) := f.dyadic b
      let n := ma * 2 ^ 64
      f.round mode neg (n / mb) (ea - eb - 64) (n % mb != 0)

/-- The integer square root of n, below 2^(k+1), bit by bit. -/
def isqrt (n : Nat) (k : Nat) (r : Nat) : Nat :=
  match k with
  | 0 => if (r + 1) * (r + 1) ≤ n then r + 1 else r
  | j + 1 => isqrt n j (if (r + 2 ^ (j + 1)) * (r + 2 ^ (j + 1)) ≤ n then r + 2 ^ (j + 1) else r)

/-- A finite F32 as m * 2^(2 h), h rounded down. -/
def evenDyadic (a : Nat) : Nat × Int :=
  let (m, e) := Fmt.f32.dyadic a
  if e % 2 = 0 then (m, e / 2) else (2 * m, (e - 1) / 2)

/-- The square root of a, rounded (R217). -/
def fSqrt (mode a : Nat) : Nat × Nat :=
  let f := Fmt.f32
  if f.isNaN a then (quiet a, snanFlag [a])
  else if f.isZero a then (a, 0)
  else if f.neg a then (genNaN 5, fNV)
  else if f.isInf a then (a, 0)
  else
    let (m, h) := evenDyadic a
    let n := m * 2 ^ 64
    let r := isqrt n 48 0
    f.round mode false r (h - 32) (r * r != n)

/-- 1 over the square root of a, rounded once (R217). -/
def fRsqrt (mode a : Nat) : Nat × Nat :=
  let f := Fmt.f32
  if f.isNaN a then (quiet a, snanFlag [a])
  else if f.isZero a then (f.inf (f.neg a), fDZ)
  else if f.neg a then (genNaN 5, fNV)
  else if f.isInf a then (f.zero false, 0)
  else
    let (m, h) := evenDyadic a
    let r := isqrt (2 ^ 120 / m) 60 0
    f.round mode false r (-h - 60) (r * r * m != 2 ^ 120)

/-- 1 / a, rounded (R217). -/
def fRcp (mode a : Nat) : Nat × Nat :=
  if Fmt.f32.isNaN a then (quiet a, snanFlag [a]) else fDiv mode 0x3F800000 a

/-- b over the square root of a, both steps rounded (R218). -/
def fSqd (mode a b : Nat) : Nat × Nat :=
  match firstNaN [a, b] with
  | some n => (n, snanFlag [a, b])
  | none =>
    let (r, fl) := fSqrt mode a
    if Fmt.f32.isNaN r then (r, fl)
    else
      let (d, fl') := fDiv mode b r
      (d, flagOr fl fl')

/-- A number that orders F32 values, with -0.0 below +0.0 (R214). -/
def fKey (x : Nat) : Int := if Fmt.f32.neg x then -((x % 2 ^ 31 : Nat) : Int) - 1 else (x : Int)

/-- a < b as numbers, -0.0 = +0.0 (R215). -/
def fLt (a b : Nat) : Bool :=
  if Fmt.f32.isZero a && Fmt.f32.isZero b then false else decide (fKey a < fKey b)

/-- a = b as numbers (R215). -/
def fEq (a b : Nat) : Bool := (Fmt.f32.isZero a && Fmt.f32.isZero b) || a == b

/-- VFMIN and VFMAX (R214). -/
def fMinMax (wantMax : Bool) (a b : Nat) : Nat × Nat :=
  let f := Fmt.f32
  let fl := snanFlag [a, b]
  if f.isNaN a && f.isNaN b then (quiet a, fl)
  else if f.isNaN a then (b, fl)
  else if f.isNaN b then (a, fl)
  else if wantMax then (if fKey a < fKey b then b else a, fl)
  else (if fKey b < fKey a then b else a, fl)

/-- VFCMP conditions 0 eq, 1 ne, 2 lt, 3 le, 4 un, and FP_NV (R215). -/
def fCmp (cond a b : Nat) : Bool × Nat :=
  let f := Fmt.f32
  if f.isNaN a || f.isNaN b then
    (cond == 1 || cond == 4, if cond == 2 || cond == 3 then fNV else snanFlag [a, b])
  else
    match cond with
    | 0 => (fEq a b, 0)
    | 1 => (!fEq a b, 0)
    | 2 => (fLt a b, 0)
    | 3 => (fLt a b || fEq a b, 0)
    | _ => (false, 0)

/-- ±m * 2^e rounded to an integer: its magnitude, and whether it changed (R62). -/
def intRound (mode : Nat) (neg : Bool) (m : Nat) (e : Int) : Nat × Bool := cutTo mode neg m e 0 false

/-- To I32 or N32 from a format (R62). -/
def fToInt (f : Fmt) (mode : Nat) (signed : Bool) (x : Nat) : Nat × Nat :=
  let hi : Int := if signed then 2 ^ 31 - 1 else 2 ^ 32 - 1
  let lo : Int := if signed then -(2 ^ 31) else 0
  let hiBits := if signed then 0x7FFFFFFF else 0xFFFFFFFF
  let loBits := if signed then 0x80000000 else 0
  if f.isNaN x then (0, fNV)
  else if f.isInf x then (if f.neg x then loBits else hiBits, fNV)
  else
    let (m, e) := f.dyadic x
    let (q, inexact) := intRound mode (f.neg x) m e
    let v : Int := if f.neg x then -(q : Int) else q
    if v < lo then (loBits, fNV)
    else if hi < v then (hiBits, fNV)
    else ((v % 2 ^ 32).toNat, if inexact then fNX else 0)

/-- From an integer to F32 (R62). -/
def fOfInt (mode : Nat) (v : Int) : Nat × Nat := if v = 0 then (0, 0) else Fmt.f32.roundInt mode v 0

/-- F32 narrowed to BF16 or F16 (R61). -/
def fNarrow (f : Fmt) (mode x : Nat) : Nat × Nat :=
  let g := Fmt.f32
  if g.isNaN x then (f.inf (g.neg x) + 2 ^ (f.frac - 1) + 6, snanFlag [x])
  else if g.isInf x then (f.inf (g.neg x), 0)
  else if g.isZero x then (f.zero (g.neg x), 0)
  else f.round mode (g.neg x) (g.dyadic x).1 (g.dyadic x).2 false

/-- BF16 or F16 widened to F32, exactly; a NaN keeps its sign, quiet bit and payload bits [2:0] (R61). -/
def fWiden (f : Fmt) (x : Nat) : Nat :=
  let g := Fmt.f32
  if f.isNaN x then
    let q := f.man x / 2 ^ (f.frac - 1)
    let low := f.man x % 8
    g.inf (f.neg x) + q * 2 ^ 22 + (if q = 0 && low = 0 then 1 else low)
  else if f.isInf x then g.inf (f.neg x)
  else if f.isZero x then g.zero (f.neg x)
  else (g.round 0 (f.neg x) (f.dyadic x).1 (f.dyadic x).2 false).1

/-- VFRND: rounded to an integral F32 (R216). -/
def fRnd (mode x : Nat) : Nat × Nat :=
  let f := Fmt.f32
  if f.isNaN x then (quiet x, snanFlag [x])
  else if f.isInf x || f.isZero x then (x, 0)
  else
    let (m, e) := f.dyadic x
    let (q, inexact) := intRound mode (f.neg x) m e
    let r := if q = 0 then f.zero (f.neg x) else (f.round 0 (f.neg x) q 0 false).1
    (r, if inexact then fNX else 0)

/-- VFCLASS: one bit for the class, negative infinity to quiet NaN (R215). -/
def fClass (x : Nat) : Nat :=
  let f := Fmt.f32
  if f.isNaN x then (if f.isSNaN x then 2 ^ 8 else 2 ^ 9)
  else if f.neg x then
    if f.isInf x then 2 ^ 0 else if f.isZero x then 2 ^ 3 else if f.exp x = 0 then 2 ^ 2 else 2 ^ 1
  else
    if f.isZero x then 2 ^ 4 else if f.exp x = 0 then 2 ^ 5 else if f.isInf x then 2 ^ 7 else 2 ^ 6

/-- One level of the tree of R75: neighbours added with RNE, flags united. -/
def pairSum : List Nat → List Nat × Nat
  | a :: b :: r =>
    let (x, fl) := fAdd 0 a b
    let (xs, fl') := pairSum r
    (x :: xs, flagOr fl fl')
  | xs => (xs, 0)

/-- The whole tree over 16 values (R75). -/
def treeSum (xs : List Nat) : Nat × Nat :=
  let (a, f1) := pairSum xs
  let (b, f2) := pairSum a
  let (c, f3) := pairSum b
  let (d, f4) := pairSum c
  (d.getD 0 0, flagOr (flagOr f1 f2) (flagOr f3 f4))

/-- A matrix operand or decoded element: a NaN by cause, an infinity, or ±m * 2^e (R70, R74). -/
inductive Elem where
  | nan (cause : Nat) (sig : Bool)
  | inf (neg : Bool)
  | fin (neg : Bool) (m : Nat) (e : Int)
deriving DecidableEq, Repr

/-- Is an element zero (R54)? -/
def Elem.isZero : Elem → Bool
  | .fin _ m _ => m == 0
  | _ => false

/-- A BF16 or F16 element (R73, R74). -/
def Elem.ofFmt (f : Fmt) (x : Nat) : Elem :=
  if f.isNaN x then .nan 1 (f.isSNaN x) else if f.isInf x then .inf (f.neg x) else .fin (f.neg x) (f.dyadic x).1 (f.dyadic x).2

/-- An element as F32, rounded with RNE, with its flags (R70). -/
def Elem.toF32 : Elem → Nat × Nat
  | .nan c _ => (genNaN c, fNV)
  | .inf n => (Fmt.f32.inf n, 0)
  | .fin n m e => if m = 0 then (Fmt.f32.zero n, 0) else Fmt.f32.round 0 n m e false

/-- An element as BF16, rounded once with RNE (R70). -/
def Elem.toBf16 : Elem → Nat × Nat
  | .nan c _ => (0x7FC0 + c, fNV)
  | .inf n => (Fmt.bf16.inf n, 0)
  | .fin n m e => if m = 0 then (Fmt.bf16.zero n, 0) else Fmt.bf16.round 0 n m e false

/-- The NaN cause of one product: A's element first, then B's, then 0 × ∞ (R74). -/
def prodNaN (a b : Elem) : Option Nat :=
  match a, b with
  | .nan c _, _ => some c
  | _, .nan c _ => some c
  | .inf _, y => if y.isZero then some 4 else none
  | x, .inf _ => if x.isZero then some 4 else none
  | _, _ => none

/-- The sign of an infinite product. -/
def prodInf (a b : Elem) : Option Bool :=
  match a, b with
  | .inf n, .inf m => some (n != m)
  | .inf n, .fin m _ _ => some (n != m)
  | .fin n _ _, .inf m => some (n != m)
  | _, _ => none

/-- A finite product as a multiple of 2^-300, and whether it is -0.0. -/
def prodFin (a b : Elem) : Int × Bool :=
  match a, b with
  | .fin n m e, .fin n' m' e' =>
    let v : Int := (m * m' * 2 ^ (e + e' + 300).toNat : Nat)
    (if n != n' then -v else v, (n != n') && (m * m' == 0))
  | _, _ => (0, false)

/-- Is an element a signalling NaN (R58)? -/
def Elem.signals : Elem → Bool
  | .nan _ s => s
  | _ => false

/-- One matrix output: C_old plus the products, one RNE rounding (R73, R74). A signalling NaN among the operands sets FP_NV, whichever
source the result comes from (R58). -/
def macChunk (c : Nat) (ps : List (Elem × Elem)) : Nat × Nat :=
  let f := Fmt.f32
  if f.isNaN c then (quiet c, if ps.any (fun p => p.1.signals || p.2.signals) then fNV else snanFlag [c])
  else match ps.findSome? (fun p => prodNaN p.1 p.2) with
  | some cause => (genNaN cause, fNV)
  | none =>
    let infs := (if f.isInf c then [f.neg c] else []) ++ ps.filterMap (fun p => prodInf p.1 p.2)
    if infs.any id && infs.any (fun b => !b) then (genNaN 3, fNV)
    else match infs with
    | n :: _ => (f.inf n, 0)
    | [] =>
      let prods := ps.map (fun p => prodFin p.1 p.2)
      let total := prods.foldl (fun acc p => acc + p.1) (f32Int c (-300))
      if total = 0 then
        (f.zero (f.isZero c && f.neg c && prods.all (fun p => p.2)), 0)
      else f.roundInt 0 total (-300)

end Sys2Proof.Machine
end

