-- ==== Sys2Proof/Machine/Blocks.lean ====
section
/-! DEFINITION. Sys2Proof/Machine/Blocks.lean: block headers, the eight selectors and the quantising rule (R65 to R72). -/

namespace Sys2Proof.Machine

/-- XOR of the header bits lo, lo+2, ... , lo+12 (R66). -/
def headerParity (h lo : Nat) : Nat := (List.range 7).foldl (fun acc i => (acc + h / 2 ^ (lo + 2 * i)) % 2) 0

/-- A header from E and SEL, with its check bits (R66, R71). -/
def mkHeader (e sel : Nat) : BitVec 16 :=
  let h := sel * 256 + e
  BitVec.ofNat 16 (h + headerParity h 0 * 2 ^ 14 + headerParity h 1 * 2 ^ 15)

/-- Is a header corrupt (R67)? -/
def headerBad (h : BitVec 16) : Bool :=
  let v := h.toNat
  bits v 13 10 != 0 || bits v 14 14 != headerParity v 0 || bits v 15 15 != headerParity v 1

/-- The value of a B8 code in units of 2^-11; none for a NaN code (R68). The second part is the sign of a -0.0. -/
def codeVal8 (sel q : Nat) : Option (Int × Bool) :=
  let m := q % 128
  let neg := decide (128 ≤ q)
  let sg : Nat → Int × Bool := fun v => (if neg then -(v : Int) else v, neg && v == 0)
  match sel with
  | 0 => if q = 128 then none else some ((if neg then (q : Int) - 256 else q) * 32, false)
  | 1 =>
    if m = 127 then none
    else
      let e := m / 8
      let fr := m % 8
      some (sg (if e = 0 then fr * 4 else (8 + fr) * 2 ^ (e - 1 + 2)))
  | 2 =>
    if q = 128 then none
    else if m = 0 then some (sg 0)
    else
      let top := Nat.log2 m
      some (sg (m * 2 ^ (11 - top) / 2 ^ (6 - top)))
  | _ =>
    if q = 128 then none
    else
      let a := m / 16
      let b := m % 16
      some (sg (if a = 0 then b else (16 + b) * 2 ^ (a - 1)))

/-- The value of a B4 code in units of 2^-11 (R69). -/
def codeVal4 (sel q : Nat) : Int :=
  if sel = 0 then (if q < 8 then (q : Int) else (q : Int) - 16) * 512
  else
    let m := q % 8
    let v : Nat := match sel with
      | 1 => [0, 1024, 2048, 3072, 4096, 6144, 8192, 12288].getD m 0
      | 2 => m * 512
      | _ => [0, 128, 256, 384, 640, 1024, 1536, 2048].getD m 0
    if q < 8 then v else -(v : Int)

/-- A code's value in units of 2^-11, by width: `w4` for B4. -/
def codeVal (w4 : Bool) (sel q : Nat) : Option (Int × Bool) :=
  if w4 then some (codeVal4 sel q, false) else codeVal8 sel q

/-- The element that a code and its header decode to (R70). -/
def decodeElem (w4 : Bool) (h : BitVec 16) (q : Nat) : Elem :=
  let e := bits h.toNat 7 0
  if headerBad h || e == 255 then .nan 2 false
  else match codeVal w4 (bits h.toNat 9 8) q with
  | none => .nan 1 false
  | some (v, nz) => .fin (decide (v < 0) || nz) v.natAbs ((e : Int) - 127 - 11)

/-- Greatest magnitude exponents of the selectors (R68, R69, R71). -/
def selEmax (w4 : Bool) (sel : Nat) : Int :=
  if w4 then (match sel with | 0 => 1 | 1 => 2 | _ => 0)
  else (match sel with | 0 => 0 | 1 => 8 | 2 => 0 | _ => -1)

/-- A finite F32 in units of 2^-149. -/
def fixed (x : Nat) : Int := f32Int x (-149)

/-- The codes that NearestCode may choose: no NaN code, and zero only as code 0 (R72). -/
def codes (w4 : Bool) (sel : Nat) : List (Nat × Int) :=
  (List.range (if w4 then 16 else 256)).filterMap (fun q =>
    match codeVal w4 sel q with
    | none => none
    | some (v, _) => if v = 0 && q != 0 then none else some (q, v))

/-- NearestCode for an input in units of 2^-149 at scale Es, and the code's value in the same units (R71, R72). -/
def nearestCode (cs : List (Nat × Int)) (es : Nat) (x : Int) : Nat × Int :=
  let scale : Int := (2 ^ (es + 11) : Nat)
  cs.foldl (fun best c =>
    let v := c.2 * scale
    let db := (best.2 - x).natAbs
    let dc := (v - x).natAbs
    if dc < db || (dc == db && c.1 % 2 == 0 && best.1 % 2 == 1) then (c.1, v) else best) (0, 0)

/-- One block quantised: header, codes, and whether it held a NaN or infinity (R71). Inactive inputs are `none`. -/
def quantise (xs : List (Option Nat)) (mask : Nat) (w4 : Bool) : BitVec 16 × List Nat × Bool :=
  let live := xs.filterMap id
  let zeros := xs.map (fun _ => 0)
  if live.any (fun x => Fmt.f32.isNaN x || Fmt.f32.isInf x) then (mkHeader 255 0, zeros, true)
  else
    let amax := live.foldl (fun m x => max m (fixed x).natAbs) 0
    if amax = 0 then (mkHeader 0 0, zeros, false)
    else
      let best := [0, 1, 2, 3].foldl (fun (acc : Option (Nat × Nat × List Nat × Nat)) s =>
        if bitAt mask s then
          let esI : Int := (Nat.log2 amax : Int) - 149 - selEmax w4 s + 127
          let es := if esI < 1 then 1 else if 254 < esI then 254 else esI.toNat
          let cs := codes w4 s
          let coded := xs.map (fun x => match x with
            | none => (0, 0)
            | some v =>
              let r := nearestCode cs es (fixed v)
              (r.1, (r.2 - fixed v).natAbs * (r.2 - fixed v).natAbs))
          let err := coded.foldl (fun a p => a + p.2) 0
          match acc with
          | none => some (s, es, coded.map (·.1), err)
          | some b => if err < b.2.2.2 then some (s, es, coded.map (·.1), err) else acc
        else acc) none
      match best with
      | none => (mkHeader 0 0, zeros, false)
      | some (s, es, q, _) => (mkHeader es s, q, false)

/-- The code byte or nibble `k` of a block register or buffer (R65). -/
def codeAt (w4 : Bool) (bytes : List Byte) (k : Nat) : Nat :=
  if w4 then
    let b := (bytes.getD (k / 2) 0#8).toNat
    if k % 2 = 0 then b % 16 else b / 16
  else (bytes.getD k 0#8).toNat

/-- Codes laid out as bytes (R65). -/
def packCodes (w4 : Bool) : List Nat → List Byte
  | [] => []
  | [a] => [BitVec.ofNat 8 a]
  | a :: b :: r =>
    if w4 then BitVec.ofNat 8 (a + 16 * b) :: packCodes w4 r
    else BitVec.ofNat 8 a :: BitVec.ofNat 8 b :: packCodes w4 r

end Sys2Proof.Machine
end

