-- ==== Sys2Proof/Machine/Paging.lean ====
section
/-! DEFINITION. Sys2Proof/Machine/Paging.lean: physical memory and its tiers (R19, R20), the page table and translation (R22 to
R27), apertures and their transforms (R28 to R31), label pages (R33), and a line's contents at its home slice (R36). -/

namespace Sys2Proof.Machine

/-- Does a die carry LPDDR-6 (R9)? -/
def perimeter (d : Nat) : Bool := d / 8 == 0 || d / 8 == 5 || d % 8 == 0 || d % 8 == 7

/-- An aperture of a die (R28). -/
def State.aper (s : State) (die n : Nat) : Aper := s.apers.get (die * 16 + n) default

/-- Aperture transform: 0 IDENT, 1 PACK, 2 DECODE; none while disabled (R28), or where the module has no PACK (R378). -/
def Aper.xf (a : Aper) : Option Nat :=
  let x := bits a.ctl.toNat 62 61
  if bits a.ctl.toNat 63 63 = 1 && x != 3 && (x != 1 || Config.hasPack) then some x else none

/-- The view size of an aperture in bytes (R28). -/
def Aper.size (a : Aper) : Nat := bits a.ctl.toNat 23 0 * 4096

/-- Does a range lie wholly within HBM4E or LPDDR-6 that its die has (R20)? -/
def tierOk (pa size : Nat) : Bool :=
  let die := bits pa 47 42
  let off := bits pa 39 0
  if bits pa 49 48 != 0 || decide (48 ≤ die) then false
  else match bits pa 41 40 with
  | 0 => decide (off + size ≤ Config.hbmSize)
  | 1 => perimeter die && decide (off + size ≤ Config.lpddrSize)
  | _ => false

/-- Does a frame lie wholly within its tier (R20)? -/
def State.frameOk (s : State) (pa size : Nat) : Bool :=
  let die := bits pa 47 42
  let off := bits pa 39 0
  if bits pa 49 48 != 0 then false
  else if 48 ≤ die then bits pa 41 40 == 0
  else match bits pa 41 40 with
  | 3 =>
    let a := s.aper die (bits off 39 36)
    a.xf.isSome && decide (bits off 35 0 + size ≤ a.size)
  | _ => tierOk pa size

/-- The two words of a page-table entry at a physical address, read past every cache (R23). An uncorrectable error in a sector that holds
a node does not affect the walk: R19 speaks of the 32-bit words that a sector delivers and of their labels, and says that the stored bits
are not changed; the manual names no effect on a walk unit, which takes the bits as stored (DESIGN CHOICE; entry 98). -/
def State.entryAt (s : State) (pa : Nat) : Leaf :=
  { w0 := BitVec.ofNat 64 (leNat (Sparse.bytes s.mem pa 8)), w1 := BitVec.ofNat 64 (leNat (Sparse.bytes s.mem (pa + 8) 8)) }

def Leaf.v (l : Leaf) : Bool := bitAt l.w0.toNat 63
def Leaf.lg (l : Leaf) : Bool := bitAt l.w0.toNat 62
def Leaf.labelled (l : Leaf) : Bool := bitAt l.w0.toNat 61
def Leaf.hl (l : Leaf) : Bool := bitAt l.w0.toNat 60
def Leaf.owned (l : Leaf) : Bool := bitAt l.w0.toNat 59
def Leaf.wb (l : Leaf) : Bool := bitAt l.w0.toNat 58
def Leaf.cw (l : Leaf) : Bool := bitAt l.w0.toNat 57
/-- The frame's physical, or host physical, address (R24). -/
def Leaf.frame (l : Leaf) : Nat := bits l.w0.toNat 49 16 * 65536
def Leaf.hv (l : Leaf) : Bool := bitAt l.w1.toNat 63
def Leaf.era (l : Leaf) : Nat := bits l.w1.toNat 59 56
def Leaf.dom (l : Leaf) : Nat := bits l.w1.toNat 9 0
def Leaf.lpage (l : Leaf) : Nat := bits l.w1.toNat 49 15 * 32768

/-- The DIE of a leaf's frame when it is not host memory. -/
def Leaf.die (l : Leaf) : Nat := bits l.frame 47 42

/-- Is a leaf's frame in the remote window of a Nelrek link (R20, R389)? -/
def Leaf.remote (l : Leaf) : Bool := !l.hl && decide (48 ≤ l.die)

/-- Does a leaf map a DECODE view (R30, R31)? -/
def State.isDecode (s : State) (l : Leaf) : Bool :=
  !l.hl && decide (l.die < 48) && bits l.frame 41 40 == 3 && (s.aper l.die (bits l.frame 39 36)).xf == some 2

/-- A leaf whose reserved bits are zero and whose HOME is the address's (R24, R31). -/
def State.leafOk (s : State) (l : Leaf) (va : Nat) : Bool :=
  bits l.w0.toNat 56 56 == 0 && bits l.w0.toNat 15 0 == 0 && bits l.w0.toNat 55 50 == homeDie va &&
  (!l.labelled || (bits l.w1.toNat 62 60 == 0 && bits l.w1.toNat 55 50 == 0 && bits l.w1.toNat 14 10 == 0)) &&
  !(l.labelled && s.isDecode l)

/-- The end of a walk: a leaf with its page size, or the KIND of the fault record (R26, R353). -/
inductive Walk where
  | leaf (l : Leaf) (size : Nat)
  | park (kind : Nat)
deriving DecidableEq, Repr

/-- Bytes of a large page and of a page (R22). -/
def largePage : Nat := 2 ^ 25
def smallPage : Nat := 2 ^ 16

/-- A walk from a node: the levels still to go, as (index of the entry, page size where a leaf is allowed) (R23, R25, R26). A table
entry whose FRAME names an aperture view or a remote window passes R20; the manual does not say what such a node reads as. The model
reads no aperture and no link for a node: it holds zeros, and the walk ends there with KIND 1 (DESIGN CHOICE; entry 77). Of a table entry
the model looks at V, LG and FRAME alone: no rule says what HL, L, WB, CW, HOME or a reserved bit do in one, or its second word
(DESIGN CHOICE; entry 99). Its FRAME is tested for the 8 KiB of a node, not for a 64 KiB frame, so that a node in the top 32 KiB of a
stack is walked (DESIGN CHOICE; entry 100). -/
def State.walkFrom (s : State) (va node : Nat) : List (Nat × Option Nat) → Walk
  | [] => .park 1
  | (idx, leafSize) :: rest =>
    let e := s.entryAt (node + 16 * idx)
    if !e.v then .park 1
    else match leafSize with
    | none => if e.lg then .park 1 else if s.frameOk e.frame 8192 then s.walkFrom va e.frame rest else .park 2
    | some size =>
      if e.lg then
        if !s.leafOk e va then .park 1
        else if e.hl || s.frameOk e.frame size then .leaf e size else .park 2
      else match rest with
        | [] => .park 1
        | _ => if s.frameOk e.frame 8192 then s.walkFrom va e.frame rest else .park 2

/-- The whole walk of an address (R23, R25). -/
def State.walk (s : State) (va : Nat) : Walk :=
  s.walkFrom va (s.root.get (homeDie va) 0)
    [(bits va 49 43, none), (bits va 42 34, none), (bits va 33 25, some largePage), (bits va 24 16, some smallPage)]

/-- A cached leaf of the home slice (R25). -/
def State.cachedLeaf (s : State) (va : Nat) : Option TEntry :=
  s.tcache.find? (fun e => e.slice == homeSlice va && e.page == va / e.size)

/-- Translation at the home slice: its cache first, then a walk (R25). -/
def State.translate (s : State) (va : Nat) : Walk :=
  match s.cachedLeaf va with
  | some e => .leaf e.leaf e.size
  | none => s.walk va

/-- The leaf kept in the slice's translation cache, 4,096 entries per slice, the oldest leaving first (R25; entry 10). -/
def State.keepLeaf (s : State) (va : Nat) (l : Leaf) (size : Nat) : State :=
  let sl := homeSlice va
  let e : TEntry := { slice := sl, page := va / size, size := size, leaf := l }
  let rest := s.tcache.filter (fun t => !(t.slice == sl && t.page == e.page && t.size == size))
  let mine := rest.filter (fun t => t.slice == sl)
  let cut := if 4096 ≤ mine.length then (match mine with | o :: _ => rest.erase o | [] => rest) else rest
  { s with tcache := cut ++ [e] }

/-- Translation of an address that a slice or a copy holds (R35): the page its leaf names, if it has one. -/
def State.pageOf (s : State) (va : Nat) : Option TEntry :=
  match s.translate va with
  | .park _ => none
  | .leaf l size => some { slice := homeSlice va, page := va / size, size := size, leaf := l }

/-- Bytes of an address range that no aperture stands before. -/
def State.ram (s : State) (pa n : Nat) : Nat := leNat (Sparse.bytes s.mem pa n)

/-- Does a sector hold an uncorrectable error (R19)? -/
def State.poisoned (s : State) (pa : Nat) : Bool := s.ecc.contains (pa / 32)

/-- The buffer address behind an aperture offset (R28). -/
def Aper.buf (a : Aper) (die off : Nat) : Nat :=
  die * 2 ^ 42 + bits a.ctl.toNat 60 60 * 2 ^ 40 + bits a.base.toNat 39 12 * 4096 + off

/-- The header's address of element `k` of a DECODE view (R30). -/
def Aper.hdrAt (a : Aper) (die k : Nat) : Nat :=
  die * 2 ^ 42 + bits a.ctl.toNat 60 60 * 2 ^ 40 + bits a.hdr.toNat 39 1 * 2 + 2 * (k / 32)

/-- Do the bytes behind `n` bytes of an enabled view lie in memory that its die has (R20, R28, R30)? A DECODE view needs its codes and
its headers. -/
def Aper.backed (a : Aper) (die off n : Nat) : Bool :=
  match a.xf with
  | none => false
  | some 2 =>
    let e := if bitAt a.ctl.toNat 58 then 2 else 4
    let per := if bitAt a.ctl.toNat 59 then 2 else 1
    let k := off / e
    let last := (off + n - 1) / e
    tierOk (a.buf die (k / per)) (last / per - k / per + 1) && tierOk (a.hdrAt die k) (2 * (last / 32 - k / 32) + 2)
  | some _ => tierOk (a.buf die off) n

/-- Can the memory controller perform an access of `n` bytes at a physical address (R20)? A reserved tier, an absent one, an offset past
its end or a disabled aperture is a mapping error. -/
def State.mcOk (s : State) (pa n : Nat) : Bool :=
  s.frameOk pa n && decide (bits pa 47 42 < 48) &&
  (bits pa 41 40 != 3 || (s.aper (bits pa 47 42) (bits pa 39 36)).backed (bits pa 47 42) (bits pa 35 0) n)

/-- Element `k` of a DECODE view, and whether its header is corrupt or its bytes in error (R30). -/
def State.decodeAt (s : State) (a : Aper) (die k : Nat) : Elem × Bool × Bool :=
  let w4 := bitAt a.ctl.toNat 59
  let hp := a.hdrAt die k
  let h := BitVec.ofNat 16 (s.ram hp 2)
  let cp := a.buf die (if w4 then k / 2 else k)
  let b := s.ram cp 1
  let q := if w4 then (if k % 2 = 0 then b % 16 else b / 16) else b
  (decodeElem w4 h q, headerBad h, s.poisoned hp || s.poisoned cp)

/-- A word that the memory controller delivers: value, poisoned by an error, and under a corrupt block header (R19, R29, R30). -/
def State.mcWord (s : State) (pa : Nat) : Word × Bool × Bool :=
  if bits pa 41 40 = 3 then
    let die := bits pa 47 42
    let a := s.aper die (bits pa 39 36)
    let off := bits pa 35 0
    match a.xf with
    | none => (0#32, false, false)
    | some 2 =>
      if bitAt a.ctl.toNat 58 then
        let (x, bad, err) := s.decodeAt a die (off / 2)
        let (y, bad', err') := s.decodeAt a die (off / 2 + 1)
        (BitVec.ofNat 32 (x.toBf16.1 + y.toBf16.1 * 65536), err || err', bad || bad')
      else
        let (x, bad, err) := s.decodeAt a die (off / 4)
        (BitVec.ofNat 32 x.toF32.1, err, bad)
    | some _ => (BitVec.ofNat 32 (s.ram (a.buf die off) 4), s.poisoned (a.buf die off), false)
  else (BitVec.ofNat 32 (s.ram pa 4), s.poisoned pa, false)

/-- The physical address of an address in a page. The manual states no alignment of a 32 MiB leaf's FRAME or LPAGE to its page's
size; the model takes one that is not aligned and adds the offset in the page (DESIGN CHOICE; entry 78). -/
def Leaf.phys (l : Leaf) (size va : Nat) : Nat := l.frame + va % size

/-- The physical address of a word's handle in the companion page (R33). -/
def Leaf.labelAt (l : Leaf) (size va : Nat) : Nat := l.lpage + va % size / 2 / 2 * 2

/-- The stored handle of a word in a labelled page (R33), through an aperture where LPAGE names a view. An uncorrectable error in a
sector of a companion page changes no handle: R19 speaks of the 32-bit words a sector delivers, and the manual does not say what
becomes of the handles in it (DESIGN CHOICE; entry 79). -/
def State.storedLabel (s : State) (l : Leaf) (size va : Nat) : Handle :=
  let pa := l.labelAt size va
  if l.labelled then BitVec.ofNat 16 ((s.mcWord (pa / 4 * 4)).1.toNat / 2 ^ (8 * (pa % 4))) else 0#16

/-- Can the memory controllers serve a line of a page, with its handles where the page is labelled (R20, R33)? Of a host page only the
companion is module memory. A companion in a remote window is a mapping error (DESIGN CHOICE; entry 79). -/
def State.lineOk (s : State) (l : Leaf) (size va : Nat) : Bool :=
  (l.hl || s.mcOk (l.phys size (va / 64 * 64)) 64) && (!l.labelled || s.mcOk (l.labelAt size (va / 64 * 64)) 32)

/-- One word of a line with its handle, and whether its block header is corrupt (R19, R30, R33). -/
def State.fillWord (s : State) (l : Leaf) (size va : Nat) : LWord × Bool :=
  let (w, err, bad) := s.mcWord (l.phys size va)
  ((w, if err || bad then 0xFFFA#16 else s.storedLabel l size va), bad)

/-- A whole line as the memory controller delivers it (R19). -/
def State.fillLine (s : State) (l : Leaf) (size va : Nat) : List LWord × Bool :=
  let ws := (List.range 16).map (fun i => s.fillWord l size (va / 64 * 64 + 4 * i))
  (ws.map (·.1), ws.any (·.2))

/-- A line of a home slice (R36). -/
def State.line (s : State) (n : Nat) : Option Line := s.lines.find? (fun l => l.line == n)

/-- A line replaced or added. -/
def State.putLine (s : State) (x : Line) : State :=
  if s.lines.any (fun l => l.line == x.line) then { s with lines := s.lines.map (fun l => if l.line == x.line then x else l) }
  else { s with lines := s.lines ++ [x] }

/-- Bytes of a word and of its handle put into memory, past the caches; an overwritten sector holds no error any more
(R29, R33; entry 19). -/
def State.putRam (s : State) (pa : Nat) (bs : List Byte) : State :=
  { s with
    mem := Sparse.putBytes s.mem pa bs
    ecc := s.ecc.filter (fun e => decide (e < pa / 32) || decide ((pa + bs.length - 1) / 32 < e)) }

/-- Does a physical address lie in a DECODE view (R30)? -/
def State.decodePlace (s : State) (pa : Nat) : Bool :=
  bits pa 41 40 == 3 && (s.aper (bits pa 47 42) (bits pa 39 36)).xf == some 2

/-- Does the memory controller take a write-back of `n` bytes (R20, R29)? Not at a place that R20 refuses, a disabled aperture with it,
nor at an aperture that has been made a DECODE view, where the manual names no effect (DESIGN CHOICE; entry 80). -/
def State.mcTakes (s : State) (pa n : Nat) : Bool := s.mcOk pa n && !s.decodePlace pa

/-- Bytes that a write-back brings to the memory controller (R29). -/
def State.mcPut (s : State) (pa : Nat) (bs : List Byte) : State :=
  if bits pa 41 40 = 3 then s.putRam ((s.aper (bits pa 47 42) (bits pa 39 36)).buf (bits pa 47 42) (bits pa 35 0)) bs
  else s.putRam pa bs

/-- Do the memory controllers take a line with its handles (R20, R29, R33)? Of a host page the data has been written through already
(R381), so only its companion page takes a write. -/
def State.lineTakes (s : State) (l : Leaf) (size va : Nat) : Bool :=
  (l.hl || s.mcTakes (l.phys size va) 64) && (!l.labelled || s.mcTakes (l.labelAt size va) 32)

/-- A dirty line written back through the memory controllers with its handles, as one unit: where the place of either is refused, the
write-back is discarded and neither changes (R29, R33, R36; entry 80). -/
def State.writeLine (s : State) (l : Leaf) (size : Nat) (x : Line) : State :=
  if !s.lineTakes l size (x.line * 64) then s
  else
    let s1 := if l.hl then s else s.mcPut (l.phys size (x.line * 64)) (x.words.flatMap (fun w => leBytes 4 w.1.toNat))
    if l.labelled then s1.mcPut (l.labelAt size (x.line * 64)) (x.words.flatMap (fun w => leBytes 2 w.2.toNat)) else s1

/-- A leaf with bit `i` of its first word set or clear. -/
def Leaf.setBit (l : Leaf) (i : Nat) (b : Bool) : Leaf :=
  { l with w0 := if b then l.w0 ||| (1#64 <<< i) else l.w0 &&& ~~~(1#64 <<< i) }

/-- A leaf with another frame (R24). -/
def Leaf.setFrame (l : Leaf) (pa : Nat) : Leaf :=
  { l with w0 := BitVec.ofNat 64 (l.w0.toNat / 2 ^ 50 * 2 ^ 50 + pa % 2 ^ 50 / 65536 * 65536 + l.w0.toNat % 65536) }

/-- The leaf that a page under move will have: the new frame, and HL, DO and WB clear (R299, R383). -/
def Leaf.moved (l : Leaf) (frame : Nat) : Leaf := (((l.setFrame frame).setBit 60 false).setBit 59 false).setBit 58 false

/-- A leaf with another companion page (R24, R33). -/
def Leaf.setLpage (l : Leaf) (pa : Nat) : Leaf :=
  { l with w1 := BitVec.ofNat 64 (l.w1.toNat / 2 ^ 50 * 2 ^ 50 + pa % 2 ^ 50 / 32768 * 32768 + l.w1.toNat % 32768) }

/-- The leaf that a copied copy-on-write page gets: the new frame and companion, which are device memory, and CW clear (R24, R385;
entry 108). -/
def Leaf.copied (l : Leaf) (frame lpage : Nat) : Leaf :=
  let x := (((l.setFrame frame).setBit 60 false).setBit 59 false).setBit 57 false
  if l.labelled then x.setLpage lpage else x

/-- The leaf that the page of a move under way will have (R299, R385). -/
def Move.leaf (m : Move) (l : Leaf) : Leaf :=
  match m.snap with
  | none => l.moved m.frame
  | some lpage => l.copied m.frame lpage

/-- A line written back and marked clean (R198). While its page waits for the change of FRAME after its copy, the new frame takes the
line too (R299). A dirty line whose page no longer translates is marked clean and its data dropped: the manual names no place for it
(DESIGN CHOICE; entry 81). -/
def State.cleanLine (s : State) (n : Nat) : State :=
  match s.line n with
  | none => s
  | some x =>
    if !x.dirty then s
    else match s.translate (n * 64) with
    | .park _ => s.putLine { x with dirty := false }
    | .leaf l size =>
      let s1 := s.moves.foldl (fun s m =>
        if m.copied && m.page / size == n * 64 / size then s.writeLine (m.leaf l) size x else s) (s.writeLine l size x)
      s1.putLine { x with dirty := false }

/-- A line dropped from its slice. -/
def State.dropLine (s : State) (n : Nat) : State := { s with lines := s.lines.filter (fun l => l.line != n) }

/-- The set of its slice that a line belongs to, of 1,024 (R36); the manual does not give the index. -/
def lineSet (line : Nat) : Nat := Config.sliceSet line % 1024

/-- A line made present in its slice; a full set of 16 lines gives up a victim, written back when dirty (R36; entry 10). -/
def State.addLine (s : State) (x : Line) : State :=
  let mine := s.lines.filter (fun l =>
    l.line != x.line && homeSlice (l.line * 64) == homeSlice (x.line * 64) && lineSet l.line == lineSet x.line)
  if decide (16 ≤ s.lines.length) && decide (16 ≤ mine.length) then
    match mine[s.freeN x.line % mine.length]? with
    | some v => ((s.cleanLine v.line).dropLine v.line).putLine x
    | none => s.putLine x
  else s.putLine x

/-- The line of an address at its home, fetched where it is absent and its page resident on this module. -/
def State.homeLine (s : State) (va : Nat) : Option Line :=
  match s.line (va / 64) with
  | some l => some l
  | none =>
    match s.translate va with
    | .park _ => none
    | .leaf l size =>
      if l.hl || l.remote || !s.lineOk l size va then none
      else
        let (ws, bad) := s.fillLine l size va
        some { line := va / 64, words := ws, dirty := false, used := s.now, corrupt := bad }

/-- The word at an address as its home holds it; none where no page is resident. -/
def State.homeWord (s : State) (va : Nat) : Option LWord :=
  (s.homeLine va).map (fun l => l.words.getD (va / 4 % 16) (0#32, 0#16))

/-- Bytes of a word replaced: `n` bytes at byte `o` from the low bytes of `v`. -/
def mergeWord (w : Word) (o n v : Nat) : Word :=
  BitVec.ofNat 32 (w.toNat % 2 ^ (8 * o) + v % 2 ^ (8 * n) * 2 ^ (8 * o) + w.toNat / 2 ^ (8 * (o + n)) * 2 ^ (8 * (o + n)))

/-- Does an address translate to a page of the host or one behind a link (R24, R389)? -/
def State.farPage (s : State) (va : Nat) : Bool :=
  match s.translate va with
  | .park _ => false
  | .leaf l _ => l.hl || l.remote

/-- Writes a word with its handle at its home; nothing where no page is resident. -/
def State.homePoke (s : State) (va : Nat) (w : Word) (h : Handle) : State :=
  match s.homeLine va with
  | none => s
  | some l => s.addLine { l with words := l.words.set (va / 4 % 16) (w, h), dirty := true, used := s.now }

/-- A 64-bit value at its home; zero where no page is resident. -/
def State.home64 (s : State) (va : Nat) : Nat :=
  match s.homeWord va, s.homeWord (va + 4) with
  | some lo, some hi => lo.1.toNat + hi.1.toNat * 2 ^ 32
  | _, _ => 0

/-- A 32-bit value at its home; zero where no page is resident. -/
def State.home32 (s : State) (va : Nat) : Nat := ((s.homeWord va).map (·.1.toNat)).getD 0

/-- Writes a 64-bit value with label TRUE at its home. -/
def State.put64 (s : State) (va v : Nat) : State :=
  (s.homePoke va (BitVec.ofNat 32 v) 0#16).homePoke (va + 4) (BitVec.ofNat 32 (v / 2 ^ 32)) 0#16

/-- Writes a 32-bit value with label TRUE at its home. -/
def State.put32 (s : State) (va v : Nat) : State := s.homePoke va (BitVec.ofNat 32 v) 0#16

end Sys2Proof.Machine
end

