-- ==== Sys2Proof/Machine/Labels.lean ====
section
/-! DEFINITION. Sys2Proof/Machine/Labels.lean: assumption domains, views, Check, Combine, Join, interning and resolve slots
(R76 to R100, R319). Every change of a domain object is made at the home of its lines (R77). -/

namespace Sys2Proof.Machine

def hTrue : Handle := 0x0000#16
def hHidden : Handle := 0xFFF8#16
def hOver : Handle := 0xFFF9#16
def hPoison : Handle := 0xFFFA#16
def hLost : Handle := 0xFFFB#16

/-- PEND(k) (R80). -/
def isPend (h : Handle) : Bool := h.toNat / 8 == 0x1FFE
/-- A VOID handle (R80). -/
def isVoid (h : Handle) : Bool := decide (0xFFF8 ≤ h.toNat) && decide (h.toNat ≤ 0xFFFB)
/-- A reserved handle (R80). -/
def isReserved (h : Handle) : Bool := decide (0xFFFC ≤ h.toNat)
/-- A label-table handle (R80). -/
def isTable (h : Handle) : Bool := decide (1 ≤ h.toNat) && decide (h.toNat ≤ 0xFFEF)

/-- Precedence of VOID handles: POISON, LOST, HIDDEN, OVER (R81). -/
def voidRank (h : Handle) : Nat :=
  if h = hPoison then 4 else if h = hLost then 3 else if h = hHidden then 2 else if h = hOver then 1 else 0

/-- The VOID handle of highest precedence in a list, if any is VOID (R81). -/
def worstVoid (hs : List Handle) : Option Handle :=
  hs.foldl (fun acc h =>
    if isVoid h then (match acc with | none => some h | some g => if voidRank g < voidRank h then some h else some g) else acc) none

/-- Directory entry of a domain (R76). -/
def State.dirEntry (s : State) (n : Nat) : Nat := (s.directory.get n 0#64).toNat
/-- Address of a domain's object (R76). -/
def State.domBase (s : State) (n : Nat) : Nat := bits (s.dirEntry n) 55 16 * 65536

def State.domEra (s : State) (n : Nat) : Nat := bits (s.home64 (s.domBase n)) 3 0
def State.domUpdate (s : State) (n : Nat) : Nat := s.home64 (s.domBase n + 8)
def State.domAsserted (s : State) (n : Nat) : Nat := s.home64 (s.domBase n + 0x10)
def State.domRetracted (s : State) (n : Nat) : Nat := s.home64 (s.domBase n + 0x18)
def State.domOpen (s : State) (n : Nat) : Nat := s.home64 (s.domBase n + 0x20)
def State.domNgCount (s : State) (n : Nat) : Nat := s.home64 (s.domBase n + 0x28)
def State.domLive (s : State) (n era : Nat) : Nat := s.home32 (s.domBase n + 0x40 + 4 * (era % 16))

/-- The nogood list of a domain (R77). -/
def State.domNogoods (s : State) (n : Nat) : List Dword :=
  (List.range (min 64 (s.domNgCount n))).map (fun i => BitVec.ofNat 64 (s.home64 (s.domBase n + 0x100 + 8 * i)))

/-- Slots that are neither open, asserted nor retracted (R77). -/
def State.domFree (s : State) (n : Nat) : Dword :=
  ~~~(BitVec.ofNat 64 (s.domOpen n) ||| BitVec.ofNat 64 (s.domAsserted n) ||| BitVec.ofNat 64 (s.domRetracted n))

/-- Entry `h` of a domain's label table, unused environments left out; empty where the entry is free (R91). -/
def State.tableEntry (s : State) (n h : Nat) : List Dword :=
  let at_ := s.domBase n + 0x10000 + 32 * h
  if s.home64 at_ = 0 then []
  else ((List.range 4).map (fun i => BitVec.ofNat 64 (s.home64 (at_ + 8 * i)))).filter (fun e => e != 0#64)

/-- Writes a domain's nogood list with its count (R77). -/
def State.putNogoods (s : State) (n : Nat) (l : List Dword) : State :=
  let s1 := s.put64 (s.domBase n + 0x28) l.length
  (l.zipIdx).foldl (fun s p => s.put64 (s.domBase n + 0x100 + 8 * p.2) p.1.toNat) s1

/-- x contained in y, as slot sets. -/
def subset (x y : Dword) : Bool := x &&& y == x

/-- Is an environment refuted by a nogood (R79)? -/
def refuted (ngs : List Dword) (e : Dword) : Bool := ngs.any (fun g => subset g e)

/-- A sorted list of environments with one inserted, duplicates merged (R80). -/
def insertSorted (e : Dword) : List Dword → List Dword
  | [] => [e]
  | x :: r => if e.toNat < x.toNat then e :: x :: r else if e = x then x :: r else x :: insertSorted e r

/-- A set of environments sorted ascending, with no environment containing another (R80, R83). -/
def minimal (l : List Dword) : List Dword :=
  let u := l.foldl (fun acc e => insertSorted e acc) []
  u.filter (fun e => !u.any (fun f => f != e && subset f e))

/-- The nogood list with N recorded: unchanged where N is refuted already, else the lists that contain N make way (R79). -/
def recordNogood (ngs : List Dword) (n : Dword) : List Dword :=
  if refuted ngs n then ngs else insertSorted n (ngs.filter (fun g => !subset n g))

/-- The UPDATE number of a change (R78). -/
def Change.upd : Change → Nat
  | .nogood u _ | .assert u _ | .settle u _ => u

/-- A view after one change of its domain (R96, R97, R98). -/
def View.apply (v : View) (c : Change) : View :=
  match c with
  | .nogood u n =>
    let m := n &&& ~~~v.asserted
    { v with update := max v.update u, nogoods := if m = 0#64 then v.nogoods else recordNogood v.nogoods m }
  | .assert u k => { v with update := max v.update u, asserted := v.asserted ||| (1#64 <<< k) }
  | .settle u era => { era := era, asserted := 0#64, nogoods := [], update := max v.update u }

/-- The view a context combines and checks with: the core's view and the context's overlay (R96). -/
def viewOf (c : Core) (x : Ctx) : View := x.overlay.foldl View.apply c.view

/-- The domain's state at its home, as a view (R96). -/
def State.homeView (s : State) (n : Nat) : View :=
  { era := BitVec.ofNat 4 (s.domEra n), asserted := BitVec.ofNat 64 (s.domAsserted n), nogoods := s.domNogoods n,
    update := s.domUpdate n }

/-- The domain of a core's launch (R82). -/
def State.domainOf (s : State) (k : Nat) : Option Nat :=
  match s.launchOf k with
  | none => none
  | some l => l.domain

/-- Check with a given view, for a launch bound to a domain or to none (R85). -/
def State.checkIn (s : State) (dom : Option Nat) (v : View) (h : Handle) : Handle :=
  if h = hTrue || isPend h then h
  else if isReserved h then hPoison
  else match dom with
  | none => if h = hPoison || h = hLost then h else hLost
  | some n =>
    if h = hPoison || h = hLost then h
    else if v.era.toNat != s.domEra n then hLost
    else if isVoid h then h
    else match s.tableEntry n h.toNat with
    | [] => hLost
    | es => if es.all (fun e => refuted v.nogoods (e &&& ~~~v.asserted)) then hHidden else h

/-- A handle as a load of a labelled page reads it (R35): `dom` is the loading launch's domain, and a page that the manual's rule finds
stale gives VOID.LOST. Without a page, or with no header, the handle is as stored. -/
def State.readHandle (s : State) (dom : Option Nat) (e : Option TEntry) (h : Handle) : Handle :=
  match e with
  | none => h
  | some e =>
    if !e.leaf.labelled then h
    else if !e.leaf.hv then h
    else if dom = some e.leaf.dom && e.leaf.era = s.domEra e.leaf.dom then h
    else if h = hTrue || h = hPoison || h = hLost then h
    else if isReserved h then hPoison
    else hLost

/-- Check of a label read by context `t` of core `k` (R85). -/
def State.check (s : State) (k t : Nat) (h : Handle) : Handle :=
  s.checkIn (s.domainOf k) (viewOf (s.core k) (s.ctxAt k t)) h

/-- The environments of a handle that is not VOID: TRUE has the empty one (R83). -/
def State.envs (s : State) (n : Nat) (h : Handle) : List Dword := if h = hTrue then [0#64] else s.tableEntry n h.toNat

/-- Unions of environments, one from each list, refuted ones and supersets left out as they arise (R83). -/
def unions (ngs : List Dword) (lists : List (List Dword)) : List Dword :=
  lists.foldl (fun acc l =>
    minimal ((acc.flatMap (fun e => l.map (fun f => e ||| f))).filter (fun e => !refuted ngs e))) [0#64]

/-- What a combine or join comes to before interning: a handle, or a list to intern, and LBL_OVER (R83). -/
inductive Formed where
  | known (x : Handle) (lost : Bool)
  | list (l : List Dword)
deriving DecidableEq, Repr

/-- The last steps of R83: nogood filter, asserted bits cleared, minimisation, count. -/
def finishSet (v : View) (l : List Dword) : Formed :=
  let u := minimal (((l.filter (fun e => !refuted v.nogoods e))).map (fun e => e &&& ~~~v.asserted))
  match u with
  | [] => .known hHidden false
  | [e] => if e = 0#64 then .known hTrue false else .list [e]
  | _ => if 4 < u.length then .known hOver true else .list u

/-- Combine of handles that have passed Check (R83). -/
def State.combineSet (s : State) (n : Nat) (v : View) (hs : List Handle) : Formed :=
  match worstVoid hs with
  | some w => .known w false
  | none => finishSet v (unions v.nogoods (hs.map (s.envs n)))

/-- Join of two handles that have passed Check (R84). -/
def State.joinSet (s : State) (n : Nat) (v : View) (a b : Handle) : Formed :=
  if a = hHidden then .known b false
  else if b = hHidden then .known a false
  else match worstVoid [a, b] with
  | some w => .known w false
  | none => finishSet v (s.envs n a ++ s.envs n b)

/-- The entry at which the search for a list begins (R91). -/
def internStart (l : List Dword) : Nat :=
  let x := (l.zipIdx).foldl (fun acc p => acc ^^^ p.1.rotateLeft (13 * p.2)) 0#64
  let h := (bits x.toNat 15 0) ^^^ (bits x.toNat 31 16) ^^^ (bits x.toNat 47 32) ^^^ (bits x.toNat 63 48)
  1 + h % 65519

/-- Entry number `i` of a search from `p`: after 0xFFEF comes 0x0001 (R91). -/
def probeAt (p i : Nat) : Nat := (p - 1 + i) % 65519 + 1

/-- The first of 32 probed entries equal to the list (R91). -/
def State.internFind (s : State) (n : Nat) (l : List Dword) : Option Nat :=
  ((List.range 32).map (probeAt (internStart l))).find? (fun q => s.tableEntry n q == l)

/-- The first free of 32 probed entries (R91). -/
def State.internFree (s : State) (n : Nat) (l : List Dword) : Option Nat :=
  ((List.range 32).map (probeAt (internStart l))).find? (fun q => s.tableEntry n q == [])

/-- Intern at the homes of the probed entries: the handle, or VOID.OVER with LBL_TABLE_FULL (R91, R92). -/
def State.intern (s : State) (n : Nat) (l : List Dword) : State × Handle × Bool :=
  match s.internFind n l with
  | some q => (s, BitVec.ofNat 16 q, false)
  | none =>
    match s.internFree n l with
    | none => (s, hOver, true)
    | some q =>
      let s' := (List.range 4).foldl (fun s i =>
        s.put64 (s.domBase n + 0x10000 + 32 * q + 8 * i) ((l.getD i 0#64).toNat)) s
      (s', BitVec.ofNat 16 q, false)

/-- STICKY flags of labels (R64). -/
def stLblOver : Dword := 0x100#64
def stLblFull : Dword := 0x200#64
def stFmt : Dword := 0x800#64
def stQuant : Dword := 0x400#64
def stDiv0 : Dword := 0x20#64
def stRotLost : Dword := 0x1000#64

/-- Sets flags of a context's STICKY (R64). -/
def State.flag (s : State) (k t : Nat) (f : Dword) : State := s.onCtx k t (fun x => { x with sticky := x.sticky ||| f })

/-- A formed set as a handle, interned where it must be. -/
def State.settleForm (s : State) (k t n : Nat) (f : Formed) : State × Handle :=
  match f with
  | .known x o => (if o then s.flag k t stLblOver else s, x)
  | .list l =>
    let (s', h, full) := s.intern n l
    (if full then s'.flag k t stLblFull else s', h)

/-- Combine of one handle with nothing but TRUE, in the view of context `t` of core `k`: the nogood filter and the asserted slots apply
(R83), as far as the label table has the list that is left; where it has none the handle itself stands for it, which names the same
environments in that view, since R93 resolves the combine at once and leaves no time to intern (DEDUCED; entry 20). -/
def State.refined (s : State) (k t : Nat) (h : Handle) : Handle :=
  if !isTable h then h
  else match s.domainOf k with
  | none => h
  | some n =>
    match finishSet (viewOf (s.core k) (s.ctxAt k t)) (s.tableEntry n h.toNat) with
    | .known x _ => x
    | .list l => if l = s.tableEntry n h.toNat then h else ((s.internFind n l).map (BitVec.ofNat 16)).getD h

/-- The same at a home or bank, which interns what is left (R83, R85). -/
def State.refine (s : State) (k t : Nat) (h : Handle) : State × Handle :=
  if !isTable h then (s, h)
  else match s.domainOf k with
  | none => (s, h)
  | some n =>
    match finishSet (viewOf (s.core k) (s.ctxAt k t)) (s.tableEntry n h.toNat) with
    | .list l => if l = s.tableEntry n h.toNat then (s, h) else s.settleForm k t n (.list l)
    | f => s.settleForm k t n f

/-- Combine at a home or bank, formed at once in the view of context `t` of core `k` (R34, R41, R88). -/
def State.combineNow (s : State) (k t : Nat) (hs : List Handle) : State × Handle :=
  match s.domainOf k with
  | none => (s, (worstVoid (hs.map (s.checkIn none View.zero))).getD hTrue)
  | some n =>
    let v := viewOf (s.core k) (s.ctxAt k t)
    let cs := (hs.map (s.check k t)).eraseDups
    match cs.filter (fun h => h != hTrue) with
    | [] => (s, hTrue)
    | [h] => s.refine k t h
    | _ => s.settleForm k t n (s.combineSet n v cs)

/-- The pending slots that a handle list waits on. -/
def pendsOf (i : LabelIn) : List Handle :=
  (i.hs ++ (match i.join with | none => [] | some (a, b) => [a, b])).filter isPend

/-- The handle that a combine has at once without the combine cache, if R93 or R94 gives one: a POISON input; a VOID input with no
pending input; or one handle beside TRUE, which `State.shape` then forms (entry 20). -/
def fastHandle (hs : List Handle) : Option Handle :=
  let rest := (hs.filter (fun h => h != hTrue)).eraseDups
  if rest.contains hPoison then some hPoison
  else if !rest.any isPend && rest.any isVoid then worstVoid rest
  else match rest with
  | [] => some hTrue
  | [h] => some h
  | _ => none

/-- A join of one set: an equal pair, a TRUE side, or a VOID side, with no pending input (R84, R93; entry 20). The combine with AMBIENT
that follows forms it (R282). -/
def joinFast (a b : Handle) : Option Handle :=
  if isPend a || isPend b then none
  else if a = hHidden then some b
  else if b = hHidden then some a
  else match worstVoid [a, b] with
  | some w => some w
  | none => if a = b || a = hTrue then some a else if b = hTrue then some b else none

/-- How a label comes about. -/
inductive Shape where
  | fast (h : Handle)
  | cached (h : Handle)
  | slot
deriving DecidableEq, Repr

/-- The combine cache's answer: its entries belong to the view they were formed in, and a view change empties it (R92). -/
def Core.cacheHit (c : Core) (i : LabelIn) : Option Handle := (c.combCache.find? (fun p => p.1 == i)).map (·.2)

/-- Is a context's overlay empty, so that its combines may use the core's combine cache (R92, R96)? -/
def cacheable (x : Ctx) : Bool := x.overlay.isEmpty

/-- The combine cache's answer to a combine, or a slot (R92, R93). -/
def cacheShape (c : Core) (x : Ctx) (i : LabelIn) : Shape :=
  if !(pendsOf i).isEmpty || !cacheable x then .slot
  else match c.cacheHit i with
  | some h => .cached h
  | none => .slot

/-- How R93 and R94 resolve a combine whose inputs have passed Check. -/
def shapeOf (c : Core) (x : Ctx) (i : LabelIn) : Shape :=
  match i.env with
  | some _ => if i.hs.contains hPoison then .fast hPoison else cacheShape c x i
  | none =>
    match i.join with
    | none => (match fastHandle i.hs with | some h => .fast h | none => cacheShape c x i)
    | some (a, b) =>
      match joinFast a b with
      | some j => (match fastHandle (j :: i.hs) with | some h => .fast h | none => cacheShape c x i)
      | none => if i.hs.contains hPoison || a = hPoison || b = hPoison then .fast hPoison else cacheShape c x i

/-- How a combine of context `t` of core `k` resolves: R93's cases at once, as `State.refined` gives them (R83, R93; entry 20). -/
def State.shape (s : State) (k t : Nat) (i : LabelIn) : Shape :=
  match shapeOf (s.core k) (s.ctxAt k t) i with
  | .fast h => .fast (s.refined k t h)
  | r => r

/-- The lowest free resolve slot (R93). -/
def Core.freeSlot (c : Core) : Option Nat := (List.range 8).find? (fun i => (vget c.slots i none).isNone)

/-- How many resolve slots are free. -/
def Core.freeSlots (c : Core) : Nat := ((List.range 8).filter (fun i => (vget c.slots i none).isNone)).length

/-- A resolve slot, regular below 8 and extra from 8 (R319). -/
def Core.slotAt (c : Core) (i : Nat) : Option Slot := if i < 8 then vget c.slots i none else c.extra.find i

/-- A core with a resolve slot set or freed. -/
def Core.setSlot (c : Core) (i : Nat) (x : Option Slot) : Core :=
  if i < 8 then { c with slots := vset c.slots i x }
  else match x with
  | some y => { c with extra := c.extra.put i y }
  | none => { c with extra := c.extra.del i }

/-- A slot taken at issue: with no pending input its probes start now (R93, R94, R319). -/
def newSlot (now t order : Nat) (i : LabelIn) (fill : Option Fill) : Slot :=
  { ctx := t, fill := fill, inp := i, ready := now + 24, started := (pendsOf i).isEmpty, began := now, order := order,
    seen := View.zero, todo := [], got := none, lost := false }

/-- The busy slots of a core by number. -/
def Core.busySlots (c : Core) : List (Nat × Slot) :=
  (List.range 8).filterMap (fun i => (vget c.slots i none).map (fun x => (i, x))) ++ c.extra

/-- The handle PEND(k) of a busy slot that an instruction has taken for a combine: its lanes with identical tuples share it (R319). -/
def Core.sharedSlot (c : Core) (order : Nat) (i : LabelIn) : Option Handle :=
  (c.busySlots.find? (fun p => decide (p.1 < 8) && p.2.order == order && p.2.inp == i)).map (fun p => BitVec.ofNat 16 (0xFFF0 + p.1))

/-- What a label is at issue: a handle, or the number of an extra slot that will fill it (R319). -/
inductive Label where
  | now (h : Handle)
  | later (slot : Nat)
deriving DecidableEq, Repr

/-- Adds to a core counter (R139): 0 ISSUED to 11 WEIR_WAIT_CYC. -/
def Core.count (c : Core) (i n : Nat) : Core :=
  { c with cnt := vset c.cnt i (vget c.cnt i 0#64 + BitVec.ofNat 64 n) }

/-- The distinct combines of an instruction in order of their lowest lane (R319). -/
def distinct (l : List LabelIn) : List LabelIn := l.eraseDups

/-- The slot a combine takes: a regular one while any is free, else an extra one, which fills the result or the buffered store of
its own number (R319). -/
def State.takeSlot (s : State) (k t order : Nat) (i : LabelIn) (store : Bool) : State × Label :=
  let c := s.core k
  match c.freeSlot with
  | some n =>
    let s1 := s.onCore k (fun c => (c.setSlot n (some (newSlot s.now t order i none))).count 7 1)
    let s2 := if (pendsOf i).isEmpty then s1.plan 1 0 .internProbe { a := k, b := n, c := 0, d := s.now + 24 } else s1
    (s2, .now (BitVec.ofNat 16 (0xFFF0 + n)))
  | none =>
    let n := 8 + s.nextId
    let fill : Fill := if store then .req n else .pend n
    let s0 := s.onCore k (fun c => (c.setSlot n (some (newSlot s.now t order i (some fill)))).count 7 1)
    let s1 := { s0 with nextId := n + 1 }
    let s2 := if (pendsOf i).isEmpty then s1.plan 1 0 .internProbe { a := k, b := n, c := 0, d := s.now + 24 } else s1
    (s2, .later n)

/-- Labels for the distinct combines of one instruction, which has the place `order` in issue order; none where the slots they need are
not free (R93, R319). -/
def State.formAll (s : State) (k t order : Nat) (ins : List LabelIn) (store : Bool) : Option (State × List (LabelIn × Label)) :=
  let c := s.core k
  let ds := distinct ins
  let need := (ds.filter (fun i => s.shape k t i == .slot)).length
  if c.freeSlots < need && (need ≤ 8 || c.freeSlots < 8) then none
  else
    some (ds.foldl (fun acc i =>
      match s.shape k t i with
      | .fast h => (acc.1.onCore k (fun c => c.count 5 1), acc.2 ++ [(i, Label.now h)])
      | .cached h => (acc.1.onCore k (fun c => c.count 6 1), acc.2 ++ [(i, Label.now h)])
      | .slot =>
        let r := acc.1.takeSlot k t order i store
        (r.1, acc.2 ++ [(i, r.2)])) (s, []))

/-- The label that `formAll` gave to a combine. -/
def labelIn (l : List (LabelIn × Label)) (i : LabelIn) : Label := ((l.find? (fun p => p.1 == i)).map (·.2)).getD (.now hTrue)

/-- A plain combine of handles. -/
def plainIn (hs : List Handle) : LabelIn := { hs := hs, env := none, join := none }

/-- Operand labels after Check, and how many read as VOID (R85, R139). -/
def State.checkAll (s : State) (k t : Nat) (hs : List Handle) : List Handle × Nat :=
  let cs := hs.map (s.check k t)
  (cs, (cs.filter isVoid).length)

/-- The labels of a request of its own core changed: those it stores or combines, a partial line's, and those a load has taken from
the store buffer (R40, R44, R93). Handles read from a page keep that page's header instead (R35). -/
def Req.relabel (q : Req) (f : Handle → Handle) : Req :=
  let isPart := match q.op with | .part _ => true | _ => false
  { q with
    lbl := f q.lbl, more := q.more.map f,
    words := if isPart then q.words.map (fun w => (w.1, f w.2)) else q.words,
    fwd := q.fwd.map (fun w => (w.1, w.2.map f)), value := q.value.map (fun v => (v.1, v.2.map f)) }

/-- The latched operands of a gang's member with their labels changed (R100, R125). -/
def Member.relabel (m : Member) (f : Handle → Handle) : Member :=
  let g : VReg → VReg := fun v => { v with labels := v.labels.map f }
  { m with amb := f m.amb, va := m.va.map g, vb := m.vb.map g, ha := m.ha.map f, hb := m.hb.map f }

/-- Every label of a core changed: registers, AMBIENT, results in flight, accumulator columns, buffered accesses, partial lines,
latched gang operands, slots that wait on it (R93, R100). -/
def State.relabel (s : State) (k : Nat) (f : Handle → Handle) : State :=
  let ctxf : Ctx → Ctx := fun x =>
    { x with
      sl := x.sl.map f, ambient := f x.ambient, savAmb := f x.savAmb,
      vr := x.vr.map (fun v => { v with labels := v.labels.map f }) }
  let wf : RegWrite → RegWrite := fun w =>
    match w with
    | .s r v l => .s r v (f l)
    | .lane r i v l => .lane r i v (f l)
    | .side r j h => .side r j h
    | .acc b r c v l => .acc b r c v (f l)
  let inf : LabelIn → LabelIn := fun i =>
    { i with hs := i.hs.map f, join := i.join.map (fun p => (f p.1, f p.2)) }
  let slf : Slot → Slot := fun x => { x with inp := inf x.inp }
  let s1 := s.onCore k (fun c =>
    { c with
      ctxs := c.ctxs.map ctxf,
      pend := c.pend.map (fun p => { p with writes := p.writes.map wf, raw := p.raw.map (fun w => (w.1, (w.2.1, f w.2.2))) }),
      partials := c.partials.map (fun p => { p with words := p.words.map (fun w => (w.1, f w.2)) }),
      slots := c.slots.map (fun o => o.map slf), extra := c.extra.map (fun p => (p.1, slf p.2)) })
  let accf : Nat × Handle → Option (Nat × Handle) := fun p =>
    let h := if p.1 / 4 % 8 = k % 8 then f p.2 else p.2
    if h = hTrue then none else some (p.1, h)
  let memf : Member → Member := fun m => if m.core = k then m.relabel f else m
  let s2 := s1.onCluster (k / 8) (fun c =>
    { c with
      accl := c.accl.filterMap accf, gang := c.gang.map memf, mats := c.mats.map (fun o => { o with members := o.members.map memf }),
      inbound := c.inbound.map (fun t => { t with ops := t.ops.modify (k % 8) (fun x =>
        (x.1.map (fun v => { v with labels := v.labels.map f }), x.2.map f)) }) })
  { s2 with
    reqs := s2.reqs.map (fun q => if q.core = k then q.relabel f else q),
    late := s2.late.map (fun p => if p.2.core = k then (p.1, p.2.relabel f) else p),
    domOps := s2.domOps.map (fun o => if o.core = k then { o with lbl := f o.lbl } else o) }

/-- A label under a new era: every label but TRUE and VOID.POISON becomes VOID.LOST (R100). -/
def lostIn (h : Handle) : Handle := if h = hTrue || h = hPoison then h else hLost

/-- The same for a label that may be pending: it becomes VOID.LOST when its slot resolves (R93, R100). -/
def eraIn (h : Handle) : Handle := if isPend h then h else lostIn h

/-- A domain's current era, as a bit vector. -/
def State.eraOf (s : State) (n : Nat) : BitVec 4 := BitVec.ofNat 4 (s.domEra n)

/-- The label of a store as it is performed: one of an older era of the domain writes VOID.LOST (R100). -/
def State.storeHandle (s : State) (k t : Nat) (h : Handle) : Handle :=
  match s.domainOf k with
  | none => h
  | some n => if (s.ctxAt k t).era = s.eraOf n then h else lostIn h

/-- The domain's era at its home, for the contributions that a core makes now (R40, R100). -/
def State.eraNow (s : State) (k : Nat) : BitVec 4 :=
  match s.domainOf k with
  | none => 0#4
  | some n => s.eraOf n

/-- A partial line as the contributions of era `era` find it: what an earlier era left in it is of the past (R100). -/
def Partial.inEra (p : Partial) (era : BitVec 4) : Partial :=
  if p.era = era then p else { p with era := era, words := p.words.map (fun w => (w.1, eraIn w.2)) }

/-- The busy slots of a core marked as of a past era. -/
def Core.loseSlots (c : Core) (f : Slot → Bool) : Core :=
  let g : Slot → Slot := fun x => if f x then { x with lost := true } else x
  { c with slots := c.slots.map (fun o => o.map g), extra := c.extra.map (fun p => (p.1, g p.2)) }

end Sys2Proof.Machine
end

