-- ==== Sys2Proof/Machine/Ops.lean ====
section
/-! DEFINITION. Sys2Proof/Machine/Ops.lean: the operations every meaning shares: registers and results in flight (R104, R114 to
R116), waits and wakes, acquires (R42), taking a fault (R342 to R346), ending a launch (R331 to R333), and issue (R112, R113,
R137, R138). -/

namespace Sys2Proof.Machine

/-! ## Registers and results in flight -/

/-- A scalar register of the register file: s0 reads zero with label TRUE (R105). -/
def Ctx.sreg (x : Ctx) (r : BitVec 5) : Dword × Handle :=
  if r = 0#5 then (0#64, hTrue) else (x.sv[r.toNat]'r.isLt, x.sl[r.toNat]'r.isLt)

/-- A scalar register written; s0 discards it (R105). -/
def Ctx.setS (x : Ctx) (r : BitVec 5) (v : Dword) (h : Handle) : Ctx :=
  if r = 0#5 then x else { x with sv := x.sv.set r.toNat v r.isLt, sl := x.sl.set r.toNat h r.isLt }

/-- A vector register of the register file. -/
def Ctx.vreg (x : Ctx) (r : BitVec 5) : VReg := x.vr[r.toNat]'r.isLt

/-- A vector register changed. -/
def Ctx.onV (x : Ctx) (r : BitVec 5) (f : VReg → VReg) : Ctx := { x with vr := x.vr.set r.toNat (f (x.vreg r)) r.isLt }

/-- Lane `i` of a vector register, with its label. -/
def VReg.lane (v : VReg) (i : Nat) : LWord := (vget v.lanes i 0#32, vget v.labels i 0#16)

/-- Lane `i` written. -/
def VReg.setLane (v : VReg) (i : Nat) (w : Word) (h : Handle) : VReg :=
  { v with lanes := vset v.lanes i w, labels := vset v.labels i h }

/-- A header slot written (R104). -/
def VReg.setSide (v : VReg) (j : Nat) (h : BitVec 16) : VReg := { v with side := vset v.side j h }

/-- A number for each destination word of a context (R115). -/
def RegWrite.key : RegWrite → Nat
  | .s r _ _ => r.toNat
  | .lane r i _ _ => 32 + r.toNat * 16 + i
  | .side r j _ => 1024 + r.toNat * 4 + j
  | .acc b i j _ _ => 2048 + (b * 32 + i) * 32 + j

/-- The bit that decides whether a read in the open window sees the new word (R115; entry 4). -/
def State.newBit (s : State) (seq key part : Nat) : Bool := Config.freeBit s.fresh ((seq * 8192 + key) * 4 + part)

/-- A scalar as one write in flight lets it be seen (R115): the earlier value before the minimum, each 32-bit word old or new after it.
The one label goes with the words; where one word is old and one new it is either. -/
def State.seeS (s : State) (p : Pend) (r : BitVec 5) (cur : Dword × Handle) (w : RegWrite) : Dword × Handle :=
  match w with
  | .s q v l =>
    if q = r && !p.dead.contains w.key && decide (p.minDue ≤ s.now) then
      let hi := s.newBit p.seq w.key 1
      let lo := s.newBit p.seq w.key 0
      ((if hi then v.extractLsb' 32 32 else cur.1.extractLsb' 32 32) ++ (if lo then v.extractLsb' 0 32 else cur.1.extractLsb' 0 32),
       if (if hi == lo then lo else s.newBit p.seq w.key 2) then l else cur.2)
    else cur
  | _ => cur

/-- A vector register as one write in flight lets it be seen (R115). -/
def State.seeV (s : State) (p : Pend) (r : BitVec 5) (cur : VReg) (w : RegWrite) : VReg :=
  match w with
  | .lane q i v l =>
    if q = r && !p.dead.contains w.key && decide (p.minDue ≤ s.now) && s.newBit p.seq w.key 0 then cur.setLane i v l else cur
  | .side q j h =>
    if q = r && !p.dead.contains w.key && decide (p.minDue ≤ s.now) && s.newBit p.seq w.key 0 then cur.setSide j h else cur
  | _ => cur

/-- A scalar register as context `t` of core `k` reads it in this cycle (R115). -/
def State.readS (s : State) (k t : Nat) (r : BitVec 5) : Dword × Handle :=
  if r = 0#5 then (0#64, hTrue)
  else (s.core k).pend.foldl (fun cur p => if p.ctx = t then p.writes.foldl (s.seeS p r) cur else cur) ((s.ctxAt k t).sreg r)

/-- A vector register as context `t` of core `k` reads it in this cycle (R115). -/
def State.readV (s : State) (k t : Nat) (r : BitVec 5) : VReg :=
  (s.core k).pend.foldl (fun cur p => if p.ctx = t then p.writes.foldl (s.seeV p r) cur else cur) ((s.ctxAt k t).vreg r)

/-- A scalar operand of the issuing context. -/
def State.srcS (s : State) (r : BitVec 5) : Dword × Handle := s.readS s.curCore s.curCtx r

/-- A vector operand of the issuing context. -/
def State.srcV (s : State) (r : BitVec 5) : VReg := s.readV s.curCore s.curCtx r

/-- One destination word written to a context. -/
def Ctx.write (x : Ctx) (w : RegWrite) : Ctx :=
  match w with
  | .s r v l => x.setS r v l
  | .lane r i v l => x.onV r (fun q => q.setLane i v l)
  | .side r j h => x.onV r (fun q => q.setSide j h)
  | .acc _ _ _ _ _ => x

/-- Key of an accumulator word in its cluster (R124). -/
def accKey (b i j : Nat) : Nat := (b * 32 + i) * 32 + j

/-- An accumulator word written (R124). -/
def Cluster.setAcc (c : Cluster) (b i j : Nat) (v : Word) (h : Handle) : Cluster :=
  { c with accv := c.accv.put (accKey b i j) v, accl := c.accl.put (accKey b i j) h }

/-- An accumulator word with its label. -/
def Cluster.acc (c : Cluster) (b i j : Nat) : LWord := (c.accv.get (accKey b i j), c.accl.get (accKey b i j))

/-- The accumulator words of a write list put into the cluster. -/
def Cluster.writeAcc (c : Cluster) (ws : List RegWrite) : Cluster :=
  ws.foldl (fun c w => match w with | .acc b i j v h => c.setAcc b i j v h | _ => c) c

/-- A tag marked busy or free (R114). -/
def Ctx.setTag (x : Ctx) (t : Nat) (b : Bool) : Ctx :=
  { x with tags := if b then x.tags ||| (1#8 <<< t) else x.tags &&& ~~~(1#8 <<< t) }

/-- The result of an instruction, in flight (R114, R115): its tag is busy until it lands. -/
def State.launchPend (s : State) (p : Pend) : State :=
  let s1 := s.onCore s.curCore (fun c => { c with pend := c.pend ++ [p] })
  if p.tag = 0 then s1 else s1.onMe (fun x => x.setTag p.tag true)

/-- A result whose value is known: readable from `least` cycles after issue, complete after `total` (R114, R115). -/
def State.produceIn (s : State) (tag least total : Nat) (ws : List RegWrite) (flags : Nat) (acq : Bool) (dst : List RegRef) : State :=
  let p : Pend :=
    { seq := s.nextId, ctx := s.curCtx, tag := tag, pc := s.me.pc, minDue := s.now + least, due := s.now + total, left := 0,
      writes := ws, raw := [], fin := none, flags := BitVec.ofNat 64 flags, acquire := acq, dst := dst, dead := [], bad := none,
      lanes := false, bank := none }
  (s.bump.launchPend p).plan total 0 (if tag = 0 then .resultLanding else .tagFree) { a := s.curCore, b := p.seq }

/-- A result of Fixed latency `lat` (R114). -/
def State.produce (s : State) (tag lat : Nat) (ws : List RegWrite) (flags : Nat) (dst : List RegRef) : State :=
  s.produceIn tag lat lat ws flags false dst

/-- A result whose words still have to come: Minimum latency `lat`, `left` words (R114). -/
def State.await (s : State) (tag lat left : Nat) (ws : List RegWrite) (fin : Option VqFin) (acq : Bool) (dst : List RegRef) : State :=
  let p : Pend :=
    { seq := s.nextId, ctx := s.curCtx, tag := tag, pc := s.me.pc, minDue := s.now + lat, due := 0, left := left, writes := ws,
      raw := [], fin := fin, flags := 0#64, acquire := acq, dst := dst, dead := [], bad := none,
      lanes := false, bank := none }
  s.bump.launchPend p

/-- A result in flight by number. -/
def State.pendAt (s : State) (k seq : Nat) : Option Pend := (s.core k).pend.find? (fun p => p.seq == seq)

/-- A result in flight changed. -/
def State.onPend (s : State) (k seq : Nat) (f : Pend → Pend) : State :=
  s.onCore k (fun c => { c with pend := c.pend.map (fun p => if p.seq = seq then f p else p) })

/-- Plans the landing of a result no sooner than `n` cycles from now and no sooner than its Minimum latency (R114). -/
def State.planLanding (s : State) (k seq n : Nat) : State :=
  match s.pendAt k seq with
  | none => s
  | some p =>
    let d := max n (p.minDue - s.now)
    (s.onPend k seq (fun p => { p with due := s.now + d })).plan d 0 (if p.tag = 0 then .resultLanding else .tagFree)
      { a := k, b := seq }

/-- An acquire of a core at CLUSTER or wider scope: its view stamp is set, its reader and writer bits are cleared (R42). -/
def State.acquire (s : State) (k : Nat) : State :=
  let off : BitVec 8 := ~~~(1#8 <<< (k % 8))
  (s.onCore k (fun c => { c with viewStamp := s.now })).onCluster (k / 8) (fun c =>
    { c with near := c.near.map (fun q => { q with readers := q.readers &&& off, writers := q.writers &&& off }) })

/-- A context that waits for lanes beyond the eighth combine goes on once none of them is left to form or to write (R319). -/
def State.lanesWritten (s : State) (k t : Nat) : State :=
  let c := s.core k
  if c.extra.any (fun p => p.2.ctx == t) || c.pend.any (fun p => p.ctx == t && p.lanes) then s
  else s.onCtx k t (fun y => if y.wait = .lanes then { y with wait := .none } else y)

/-- A result lands (R114, R115): its words are written unless a later producer has written them, one of any context of the core where
they are the accumulator's (R247), flags are set, the tag frees, an LDACQ acquires. A result that met a fault leaves its destination unchanged and stays until its consumer (R200, R343). -/
def State.land (s : State) (k seq : Nat) : State :=
  match s.pendAt k seq with
  | none => s
  | some p =>
    let freeTag : State → State := fun s => if p.tag = 0 then s else s.onCtx k p.ctx (fun x => x.setTag p.tag false)
    if p.bad.isSome then freeTag (s.onPend k seq (fun p => { p with writes := [], due := s.now, left := 0 }))
    else
      let ws := p.writes.filter (fun w => !p.dead.contains w.key)
      let keys := p.writes.map RegWrite.key
      let s1 := s.onCore k (fun c =>
        { c with pend := (c.pend.filter (fun q => q.seq != seq)).map (fun q =>
            if decide (q.seq < seq) then
              { q with dead := q.dead ++ (if q.ctx = p.ctx then keys else keys.filter (fun n => decide (2048 ≤ n))) }
            else q) })
      let s2 := s1.onCtx k p.ctx (fun x => { ws.foldl Ctx.write x with sticky := x.sticky ||| p.flags })
      let s3 := if ws.any (fun w => match w with | .acc _ _ _ _ _ => true | _ => false)
        then s2.onCluster (k / 8) (fun c => c.writeAcc ws) else s2
      let s4 := freeTag s3
      let s5 := if p.lanes then s4.lanesWritten k p.ctx else s4
      if p.acquire then s5.acquire k else s5

/-- An event that core `k` issued for launch `ln` counts as received, by its launch where the core has left (R291, R331). -/
def State.received (s : State) (k ln : Nat) : State :=
  if (s.core k).launch = some ln then s.onCore k (fun c => { c with evIn := c.evIn + 1 })
  else s.onLaunch ln (fun l => { l with inGone := l.inGone + 1 })

/-! ## Memory timelines and watchers -/

/-- A sleeping context made ready: its PC moves past the wait (R264). Every wait is an 8-byte instruction. -/
def Ctx.woken (x : Ctx) : Ctx := { x with wait := .none, pc := x.pc + 8#64 }

/-- Every context of the module that sleeps in a wait of interest. -/
def State.sleepers (s : State) (f : Wait → Bool) : List (Nat × Nat) :=
  s.cores.flatMap (fun p => ((List.range 11).filter (fun t => f (s.ctxAt p.1 t).wait)).map (fun t => (p.1, t)))

/-- A value that TLWAIT watches: the home re-evaluates its watchers at every write (R273). -/
def State.wakeMem (s : State) (va : Nat) : State :=
  let now := s.home64 (va / 8 * 8)
  (s.sleepers (fun w => match w with | .tlMem a v => a / 8 == va / 8 && decide (v ≤ now) | _ => false)).foldl
    (fun s p => (s.acquire p.1).onCtx p.1 p.2 Ctx.woken) s

/-- M ← max(M, v), unsigned, label TRUE, for tenant `t` (R274, R332). In a page of the host or behind a link the home performs it as it
does a TLSIG: written through, parked, or sent over the link (R381, R389). -/
def State.raise (s : State) (t va v : Nat) : State :=
  if isGlobal va && s.farPage va then s.sendOut (s.outsideReq t .tlsig va 8 (BitVec.ofNat 64 v))
  else (s.put64 va (max (s.home64 va) v)).wakeMem va

/-- An MSI-X vector of a tenant's virtual function (R372). -/
def State.msi (s : State) (tenant vector : Nat) : State := { s with msix := s.msix ++ [(tenant, vector)] }

/-! ## Ending a launch -/

/-- STATUS and DONE of a launch record written, with the MSI-X vector (R332, R372). -/
def State.finishRecord (s : State) (tenant recAddr : Nat) (rcd : List Dword) (number detail outcome : Nat) : State :=
  let s1 := s.put64 (recAddr + 0x98) (number * 2 ^ 32 + detail * 256 + outcome)
  let s2 := s1.msi tenant 2
  s2.raise tenant (rcd.getD 16 0#64).toNat (rcd.getD 17 0#64).toNat

/-- A core taken from its launch: contexts discarded, cluster memory zero with label TRUE (R291, R331). Lines of other, pre-empted launches
stay in its register cache (R359). -/
def State.scrubCore (s : State) (k : Nat) : State :=
  { s.setCore k { Core.zero with regOld := (s.core k).regOld } with
    agenda := s.agenda.filter (fun x => match x.what with | .registerCacheFill c _ _ => c != k | _ => true) }

/-- A cluster's event unit reset and its engines emptied (R265, R331). A read by an engine or a core that is still outstanding completes
with value 0 and label VOID.LOST where it is performed (R364). -/
def State.scrubCluster (s : State) (q : Nat) : State :=
  s.onCluster q (fun c => { Cluster.zero with icache := c.icache })

/-- A launch leaves the module: cores and clusters scrubbed, its accesses, parked accesses and jobs discarded, STATUS and DONE
written, save records freed (R331 to R333, R361, R364). -/
def State.retire (s : State) (n detail outcome : Nat) : State :=
  match s.launch n with
  | none => s
  | some l =>
    let s1 := if l.state != .preempted then
        (l.here.map l.cluster).foldl (fun s q =>
          ((List.range 8).foldl (fun s c => s.scrubCore (q * 8 + c)) s).scrubCluster q) s
      else s
    let gone := s.parked.filter (fun p => p.launch = l.id)
    let begun := gone.filter (fun p => s.reqs.any (fun r => r.id == p.id && r.op == ReqOp.sys 5))
    let s2 := { s1 with
      reqs := s1.reqs.filter (fun r => r.launch != n || (r.op == ReqOp.sys 5 && r.away)), late := s1.late.filter (fun r => r.2.launch != n),
      domOps := s1.domOps.filter (fun o => o.launch != n),
      parked := s1.parked.filter (fun p => !gone.contains p), mill := s1.mill.filter (fun j => j.launch != n),
      launches := s1.launches.del n
      cores := s1.cores.map (fun (p : Nat × Core) => (p.1, { p.2 with regOld := p.2.regOld.filter (fun r => r.launch != n) })) }
    let s3 := s2.onTenant l.tenant (fun t => { t with saveUsed := t.saveUsed.filter (fun r => !l.saves.contains r) })
    let s4 := begun.foldl (fun s p => s.plan 64 0 .homeAccess { a := p.id }) (s3.plan 0 0 .millraceJobEnd { a := s.nextId, b := l.tenant })
    s4.finishRecord l.tenant l.recAddr l.rcd l.number detail outcome

/-- A new generation of a tenant's fault buffer: no page has a record of it yet (R354, R356). -/
def Tenant.advance (t : Tenant) : Tenant := { t with gen := t.gen + 1, recorded := [] }

/-- An end at once: KILL, OUT_OF_LEASE, the controller, a tenant reset; it advances the fault buffer's GEN (R333, R356). -/
def State.endNow (s : State) (n detail outcome : Nat) : State :=
  match s.launch n with
  | none => s
  | some l => (s.retire n detail outcome).onTenant l.tenant Tenant.advance

/-! ## Fault reports -/

/-- Restartable waits: a recall, a freeze or a pre-emption interrupts them (R264, R179, R180, R245, R296). -/
def Wait.restartable : Wait → Bool
  | .weir _ | .line _ | .mutex _ | .barrier _ | .tlMem _ _ | .tlSluice _ | .tlMill _ _ | .tlUpdate _ | .hjoin _ | .halt
  | .mwait | .idle => true
  | _ => false

/-- Is a step of the agenda the arrival of a wait at a weir or a barrier that has not been counted yet (R261, R270)? -/
def Todo.arrival (x : Todo) (k t : Nat) : Bool :=
  match x.what with
  | .weirArrivalCounted => x.who.a == k && x.who.f == t + 1
  | .eventSignalEffect => x.who.a == k && x.who.c == 101 + t
  | _ => false

/-- A context's restartable wait interrupted: it leaves the event unit's queues; an arrival not yet counted is made anew when the wait
issues again (R261, R264, R270, R271). A barrier arrival is withdrawn at the end of the cycle, unless the barrier releases in it (R271).
A wait inside a surrender routine is no weir's, and the wait that the recall interrupted stands beneath it (R290). -/
def State.interrupt (s : State) (k t : Nat) : State :=
  let w := (s.ctxAt k t).wait
  if !w.restartable then s
  else
    let s0 := { s with agenda := s.agenda.filter (fun x => !x.arrival k t) }
    let s1 := s0.onCtx k t (fun x =>
      { x with
        wait := .none, waitPc := if x.sr then x.waitPc else some x.pc, arriving := none,
        waitWeir := if x.sr then x.waitWeir else match w with | .weir n => if x.arriving = some n then none else some n | _ => none })
    let drop : List (Nat × Nat) → List (Nat × Nat) := fun l => l.filter (fun p => p != (k, t))
    match w with
    | .line n => s1.onCluster (k / 8) (fun c =>
        let e := vget c.lines n default
        { c with lines := vset c.lines n { e with sleepers := drop e.sleepers } })
    | .mutex n => s1.onCluster (k / 8) (fun c =>
        let e := vget c.mutexes n default
        { c with mutexes := vset c.mutexes n { e with sleepers := drop e.sleepers } })
    | .barrier n => s1.plan 0 3 .eventSignalEffect { a := k, b := k / 8, c := 201 + t, d := n, f := ((s.core k).launch.getD 0) * 2 }
    | _ => s1

/-- All restartable waits of a core interrupted (R342). -/
def State.interruptAll (s : State) (k : Nat) : State := (List.range 11).foldl (fun s t => s.interrupt k t) s

/-- The packet of a report (R297). -/
def State.packetOf (s : State) (k : Nat) (r : Report) : Packet :=
  { core := BitVec.ofNat 64 (coreId k),
    launch := match s.launchOf k with | none => 0#64 | some l => l.id,
    pc := r.pc, addr := r.addr, info := BitVec.ofNat 64 (r.ctx * 256 + r.cause),
    gen := BitVec.ofNat 64 (s.tenant (s.tenantOf k)).gen }

/-- A packet put into a tenant's queue; IDLE sleepers of the supervisor wake (R296, R345). -/
def State.queuePacket (s : State) (t : Nat) (p : Packet) : State :=
  let s0 := if (s.tenant t).packets.isEmpty then s.msi t 1 else s
  let s1 := s0.onTenant t (fun x => { x with packets := x.packets ++ [p] })
  (s1.sleepers (fun w => w == .idle)).foldl
    (fun s q => if s.tenantOf q.1 = t then s.onCtx q.1 q.2 Ctx.woken else s) s1

/-- A frozen core offers its packet: queued while the queue has room, offered again next round while it is full; with no live
supervisor, or from the supervisor core's control context, the controller kills the launch (R345). -/
def State.offer (s : State) (k : Nat) : State :=
  match (s.core k).packet with
  | none => s
  | some p =>
    let t := s.tenantOf k
    let n := ((s.core k).launch).getD 0
    match s.supCore t with
    | none => s.endNow n (bits p.info.toNat 7 0) 4
    | some c =>
      if c = k && bits p.info.toNat 11 8 == 0 then s.endNow n (bits p.info.toNat 7 0) 4
      else if (s.tenant t).packets.length < 256 then
        (s.onCore k (fun c => { c with packet := none })).queuePacket t p
      else s.plan (64 - s.now % 64) 0 .faultPacketOffer { a := k }

/-- A packet of a core that is not frozen: queued, or kept until the queue has room, behind those kept before it (R345). -/
def State.inform (s : State) (t : Nat) (p : Packet) : State :=
  if (s.supOf t).isNone then s
  else if (s.tenant t).offers.isEmpty && decide ((s.tenant t).packets.length < 256) then s.queuePacket t p
  else (s.onTenant t (fun x => { x with offers := x.offers ++ [p] })).plan (64 - s.now % 64) 0 .faultPacketOffer { b := t + 1 }

/-- The packets that a tenant's queue had no room for, offered again in a round (R345). -/
def State.reoffer (s : State) (t : Nat) : State :=
  let x := s.tenant t
  let n := 256 - x.packets.length
  let s1 := (x.offers.take n).foldl (fun s p => s.queuePacket t p) (s.onTenant t (fun x => { x with offers := x.offers.drop n }))
  if (s1.tenant t).offers.isEmpty || s1.agenda.any (fun y => y.what == .faultPacketOffer && y.who.b == t + 1) then s1
  else s1.plan (64 - s.now % 64) 0 .faultPacketOffer { b := t + 1 }

/-- A core takes a fault report: it freezes, its restartable waits are interrupted, the faulting context's image PC is set, and the
packet is offered (R342 to R345). -/
def State.takeReport (s : State) (k : Nat) (r : Report) : State :=
  let s1 := s.onCtx k r.ctx (fun x => match r.resume with | none => x | some p => { x with pc := p })
  let s2 := s1.interruptAll k
  (s2.onCore k (fun c =>
    { c with frozen := true, dbgCtx := r.ctx, dbgCause := r.cause, packet := some (s2.packetOf k r) })).offer k

/-- Held reports in order of arrival, a lower context first among those of one cycle (R344). -/
def holdReport (l : List Report) (r : Report) : List Report :=
  match l with
  | [] => [r]
  | x :: rest => if x.arrived < r.arrived || (x.arrived == r.arrived && decide (x.ctx ≤ r.ctx)) then x :: holdReport rest r
    else r :: x :: rest

/-- A report found away from issue reaches its core: it is held, and taken before the next issue unless the core is frozen
(R200, R344). -/
def State.report (s : State) (k t cause : Nat) (pc addr : Dword) : State :=
  let r : Report := { arrived := s.now, cause := cause, ctx := t, pc := pc, addr := addr, resume := none }
  (s.onCore k (fun c => { c with held := holdReport c.held r })).plan 0 1 .faultReport { a := k }

/-- TAKING AN EXCEPTION: a precise fault at issue freezes the core at once; the packet carries the instruction's PC, and RESUME
continues at `resume` (R342 to R345). -/
def State.takeFault (s : State) (k t cause : Nat) (pc addr : Dword) (resume : Dword) : State :=
  s.takeReport k { arrived := s.now, cause := cause, ctx := t, pc := pc, addr := addr, resume := some resume }

/-- THE RETURN FROM AN EXCEPTION: RESUME unfreezes the core, which acquires and then takes any held report at once, before any
context issues (R344, R350). -/
def State.resumeCore (s : State) (k : Nat) : State :=
  let s1 := (s.onCore k (fun c => { c with frozen := false, dbgCtx := 0, dbgCause := 0 })).acquire k
  match (s1.core k).held with
  | [] => s1
  | r :: rest => (s1.onCore k (fun c => { c with held := rest })).takeReport k r

/-- OUT_OF_LEASE: the launch ends at once, and a packet is queued for information (R345, R357). -/
def State.outOfLease (s : State) (n : Nat) (k t : Nat) (pc addr : Dword) : State :=
  match s.launch n with
  | none => s
  | some l =>
    let p : Packet :=
      { core := BitVec.ofNat 64 (coreId k), launch := l.id, pc := pc, addr := addr, info := BitVec.ofNat 64 (t * 256 + 5),
        gen := BitVec.ofNat 64 (s.tenant l.tenant).gen }
    let s1 := s.endNow n 5 5
    s1.inform l.tenant p

/-! ## Fault causes (R143) -/

def cIllegal : Nat := 0x01
def cForward : Nat := 0x02
def cMisplaced : Nat := 0x03
def cAlign : Nat := 0x04
def cRights : Nat := 0x06
def cPageFail : Nat := 0x08
def cLabelDrop : Nat := 0x09
def cNogoodFull : Nat := 0x0A
def cSlot : Nat := 0x0B
def cPhase : Nat := 0x0C
def cFormat : Nat := 0x0D
def cPoison : Nat := 0x0E
def cTrap : Nat := 0x0F
def cBreak : Nat := 0x10
def cMisuse : Nat := 0x11
def cGang : Nat := 0x12
def cHelper : Nat := 0x13
def cPriv : Nat := 0x16
def cCode : Nat := 0x17
def cOverrun : Nat := 0x18

/-! ## Issue -/

/-- What an instruction's entry does at issue. -/
inductive Eff where
  /-- it cannot issue in this cycle (R112) -/
  | stall
  /-- a precise fault with its address, nothing performed (R343) -/
  | fault (cause : Nat) (addr : Dword)
  /-- the precise fault of an earlier access, the result in flight numbered `seq`, that this instruction consumes (R200, R343) -/
  | met (seq cause : Nat) (addr : Dword)
  /-- OUT_OF_LEASE (R357) -/
  | lease (addr : Dword)
  /-- it issues; the context continues with the next instruction -/
  | go (s : State)
  /-- it issues; the context continues elsewhere, not ready for `extra` cycles beyond GAP (R173) -/
  | jump (s : State) (pc : Dword) (extra : Nat)
  /-- it issues; the context is not ready for max(GAP, n) cycles, and the core moves on as if Y were set (R181) -/
  | rest (s : State) (n : Nat)
  /-- it issues and sleeps; the PC stays (R264) -/
  | sleep (s : State) (w : Wait)
  /-- it completes and then faults (R182) -/
  | trap (s : State) (cause : Nat) (n : Dword)
deriving DecidableEq, Repr

/-- May a field name its register through history entry `p` (R116)? -/
def histOk (hist : List (Option RegRef)) (p : Nat) (r : Option RegRef) : Bool :=
  if p = 0 then true
  else hist.getD (p - 1) none == r && r.isSome && !(hist.take (p - 1)).any (fun h => h == r)

/-- Instructions at which a fault of an earlier access is met at the latest: release points, HEND and HALT (R343). -/
def meetsFaults (i : Instr) : Bool :=
  match i with
  | .weir _ _ _ | .weira _ _ _ | .weirx _ _ | .halt _ | .hend _ | .strel _ _ _ _ _ _ | .tlsig _ _ _ | .evsigLine _ _ _ _
  | .evsigMutex _ _ | .evwaitBarrier _ _ | .publish _ _ _ | .replay _ _ | .release _ => true
  | _ => false

/-- The registers an instruction reads: its registers but for the destination, which comes last (R343). -/
def metaReads (m : Meta) : List RegRef :=
  match m.dst with
  | none => m.regs
  | some d => if m.regs.getLast? = some d then m.regs.dropLast else m.regs

/-- An access of the context that met a fault and that this instruction consumes (R200, R343). -/
def State.metFault (s : State) (i : Instr) (m : Meta) : Option Pend :=
  s.here.pend.find? (fun p =>
    p.ctx == s.curCtx && p.bad.isSome && p.due != 0 && decide (p.due ≤ s.now) &&
    (meetsFaults i || (p.tag != 0 && m.ctl.wait.toNat / 2 ^ (p.tag - 1) % 2 == 1) || (metaReads { m with regs := i.regsAt m s.curCore }).any (fun r => p.dst.contains r) ||
     (p.bank.isSome && i.bankRead == p.bank)))

/-- The checks made before an entry's own (R116, R137, R138, R200, R378). -/
def State.precheck (s : State) (i : Instr) (m : Meta) : Option Eff :=
  let x := s.me
  if !i.supported then some (.fault cIllegal 0#64)
  else if m.priv && !s.supervised s.curCore then some (.fault cPriv 0#64)
  else if !(histOk x.hist m.ctl.pa.toNat m.aReg && histOk x.hist m.ctl.pb.toNat m.bReg) then some (.fault cForward 0#64)
  else match s.metFault i m with
  | some p => some (.met p.seq (p.bad.getD (0, 0#64)).1 (p.bad.getD (0, 0#64)).2)
  | none => none

/-- A newly written register enters the history (R116). -/
def pushHist (h : List (Option RegRef)) (d : Option RegRef) : List (Option RegRef) :=
  match d with
  | none => h
  | some r => (some r :: h).take 3

/-- What every issued instruction leaves behind: ISSUED, history, PC, the routine's count, and who issued last (R112, R113, R116,
R139, R290). An interrupted wait is forgotten unless the context is in its routine or returns to it (R264). -/
def State.issued (s : State) (m : Meta) (pc : Dword) (hold : Nat) (y : Bool) : State :=
  let s1 := s.onHere (fun c =>
    { (c.count 0 1) with lastCtx := s.curCtx, yielded := y, issuedAt := s.now + 1 })
  let s2 := s1.onMe (fun x =>
    let kept := x.sr || (pc != x.pc && some pc == x.waitPc)
    { x with pc := pc, hist := pushHist x.hist m.dst, waited := 0, waitPc := if kept then x.waitPc else none,
             waitWeir := if kept then x.waitWeir else none,
             srIssued := if x.sr then x.srIssued + 1 else x.srIssued,
             gapUntil := if hold = 0 then 0 else s.now + 1 + hold })
  if hold = 0 then s2 else s2.plan (1 + hold) 0 .gapExpiry { a := s.curCore, b := s.curCtx }

/-- An effect carried out. -/
def State.conclude (s : State) (m : Meta) (e : Eff) : State :=
  let pc := s.me.pc
  let next := pc + BitVec.ofNat 64 m.len
  let gap := m.ctl.gap.toNat
  let y := m.ctl.y == 1#1
  match e with
  | .stall => s.onMe (fun x => { x with stalled := s.now + 1, waited := 0 })
  | .fault c a => s.takeFault s.curCore s.curCtx c pc a pc
  | .met n c a => (s.onHere (fun q => { q with pend := q.pend.filter (fun p => p.seq != n) })).takeFault s.curCore s.curCtx c pc a pc
  | .lease a => s.outOfLease (s.here.launch.getD 0) s.curCore s.curCtx pc a
  | .go s' => s'.issued m next gap y
  | .jump s' p extra => s'.issued m p (gap + extra) y
  | .rest s' n => s'.issued m next (max gap n) true
  | .sleep s' w => (s'.issued m pc gap y).onMe (fun x => { x with wait := w })
  | .trap s' c n => (s'.issued m next 0 false).takeFault s.curCore s.curCtx c pc n next

/-- The issue of one instruction of the current context: the checks in the order of R138, then the entry's effect. -/
def issue (i : Instr) (s : State) (f : State → Eff) : Host.Outcome State Fault Refusal :=
  match i.info with
  | none => .fault .noContext
  | some m =>
    if !s.me.live then .fault .noContext
    else match s.precheck i m with
    | some e => .next (s.conclude m e)
    | none => .next (s.conclude m (f s))

end Sys2Proof.Machine
end

