-- ==== Sys2Proof/Machine/Flags.lean ====
section
/-! DEFINITION. Sys2Proof/Machine/Flags.lean: rounding modes (R57, R63) and STICKY (R64). The FP flags of Machine/Float.lean stand
in the bit positions of STICKY. -/

namespace Sys2Proof.Machine

/-- The rounding mode of an instruction that carries an RM field: FPCTL.RM under FPCTL.RMO, else the field (R57, R63). -/
def State.mode (s : State) (rm : BitVec 2) : Nat :=
  let f := s.me.fpctl.toNat
  if bitAt f 2 then bits f 1 0 else rm.toNat

/-- FPCTL.FMTTRAP (R63, R67). -/
def State.fmtTrap (s : State) : Bool := bitAt s.me.fpctl.toNat 3

/-- The flags that a list of lane results has, united (R58). -/
def unite (l : List Nat) : Nat := l.foldl flagOr 0

/-- STICKY.INT_DIV0 as a flag word (R64, R185). -/
def fDiv0 : Nat := 0x20

/-- STICKY after a write: a 1 clears its flag, a 0 leaves it (R64, R188). -/
def stickyWrite (old v : Dword) : Dword := old &&& ~~~v

/-- FPCTL after a write: reserved bits stay zero (R63, R188). -/
def fpctlWrite (v : Dword) : Dword := v &&& 0xF#64

end Sys2Proof.Machine
end

