-- ==== Sys2Proof/Machine/Operands.lean ====
section
/-! DEFINITION. Sys2Proof/Machine/Operands.lean: the operand forms of R105, R107 and R132, and the one way in which scalar and
vector results are labelled and set in flight (R87, R88, R93, R114, R319). -/

namespace Sys2Proof.Machine

/-- AMBIENT after Check (R87). -/
def State.ambientNow (s : State) : Handle := s.check s.curCore s.curCtx s.me.ambient

/-- Is lane `i` active (R107)? -/
def State.active (s : State) (vm : VMod) (i : Nat) : Bool :=
  if vm.me == 1#1 then ((s.srcV vm.mreg).lane i).1.toNat % 2 == 1 else true

/-- The label of mask lane `i`, where a mask is used (R107). -/
def State.maskLabel (s : State) (vm : VMod) (i : Nat) : List Handle :=
  if vm.me == 1#1 then [((s.srcV vm.mreg).lane i).2] else []

/-- Lane `i` of operand B: a lane of vB, or bits [31:0] of s[B] under BS (R132). -/
def State.laneB (s : State) (vm : VMod) (b : BitVec 5) (i : Nat) : LWord :=
  if vm.bs == 1#1 then ((s.srcS b).1.setWidth 32, (s.srcS b).2) else (s.srcV b).lane i

/-- The active lanes, ascending. -/
def State.lanes (s : State) (vm : VMod) : List Nat := (List.range 16).filter (s.active vm)

/-- The tag that an instruction allocates (R114). -/
def tagOf (k : Ctl) : Nat := k.alloc.toNat

/-- A combine's inputs after Check, with the ambient label added (R85, R87). -/
def State.checkedIn (s : State) (i : LabelIn) (amb : List Handle) : LabelIn :=
  let ck := s.check s.curCore s.curCtx
  { i with hs := i.hs.map ck ++ amb, join := i.join.map (fun p => (ck p.1, ck p.2)) }

/-- How many operand labels of a combine Check returns as VOID (R139). -/
def State.voidReads (s : State) (i : LabelIn) : Nat :=
  let ck := s.check s.curCore s.curCtx
  ((i.hs ++ (match i.join with | none => [] | some (a, b) => [a, b])).filter (fun h => isVoid (ck h))).length

/-- The VOID operand reads of an instruction counted (R139). -/
def State.countVoids (s : State) (l : List LabelIn) : State :=
  let n := (l.map s.voidReads).foldl (· + ·) 0
  if n = 0 then s else s.onHere (fun c => c.count 8 n)

/-- The operand reads of labels that enter no combine, an address register's or a value carried unchanged: those that Check returns as
VOID are counted (R92, R139). -/
def State.countReads (s : State) (hs : List Handle) : State := s.countVoids [plainIn hs]

/-- The state and handle of a scalar label: none where no slot is free (R93). -/
def State.formOne (s : State) (i : LabelIn) : Option (State × Handle) :=
  match s.formAll s.curCore s.curCtx s.nextId [i] false with
  | none => none
  | some (s', ls) =>
    match labelIn ls i with
    | .now h => some (s', h)
    | .later _ => none

/-- A scalar result of Fixed latency whose label is the combine `i` of operand labels with AMBIENT (R88, R114). -/
def State.resultOf (s : State) (k : Ctl) (lat : Nat) (d : BitVec 5) (v : Dword) (i : LabelIn) (flags : Nat) : Eff :=
  let s0 := s.countVoids [i]
  match s0.formOne (s.checkedIn i [s.ambientNow]) with
  | none => .stall
  | some (s', h) => .go (s'.produce (tagOf k) lat [.s d v h] flags [.s d])

/-- A scalar result of Fixed latency whose label combines the labels of the registers read with AMBIENT (R88). -/
def State.result (s : State) (k : Ctl) (lat : Nat) (d : BitVec 5) (v : Dword) (hs : List Handle) (flags : Nat) : Eff :=
  s.resultOf k lat d v (plainIn hs) flags

/-- A scalar result of Fixed latency with a label of its own (R87). -/
def State.resultAs (s : State) (k : Ctl) (lat : Nat) (d : BitVec 5) (v : Dword) (h : Handle) : Eff :=
  .go (s.produce (tagOf k) lat [.s d v h] 0 [.s d])

/-- Lanes that a result writes, each with its value and its combine. -/
abbrev LaneOut := Nat × Word × LabelIn

/-- Masked-off lanes: kept when MU = 1, else 0 with label TRUE (R107). -/
def State.offLanes (s : State) (vm : VMod) (d : BitVec 5) : List RegWrite :=
  if vm.mu == 1#1 then []
  else ((List.range 16).filter (fun i => !s.active vm i)).map (fun i => .lane d i 0#32 hTrue)

/-- The words of lanes whose labels are known now. -/
def nowLanes (d : BitVec 5) (ls : List (LabelIn × Label)) (outs : List LaneOut) : List RegWrite :=
  outs.filterMap (fun o => match labelIn ls o.2.2 with | .now h => some (.lane d o.1 o.2.1 h) | .later _ => none)

/-- The words of lanes that extra slot `n` fills (R319). -/
def laterLanes (d : BitVec 5) (ls : List (LabelIn × Label)) (n : Nat) (outs : List LaneOut) : List RegWrite :=
  outs.filterMap (fun o => match labelIn ls o.2.2 with | .later m => if m = n then some (.lane d o.1 o.2.1 hTrue) else none | .now _ => none)

/-- The extra slots of an instruction (R319). -/
def extrasOf (ls : List (LabelIn × Label)) : List Nat := ls.filterMap (fun p => match p.2 with | .later n => some n | .now _ => none)

/-- The lanes of an extra slot of context `t` of core `k`, in flight until the label unit produces their handle (R319). -/
def State.lanesInFlight (s : State) (k t : Nat) (pc : Dword) (lat : Nat) (d : BitVec 5) (ls : List (LabelIn × Label))
    (outs : List LaneOut) (n : Nat) : State :=
  let p : Pend :=
    { seq := n, ctx := t, tag := 0, pc := pc, minDue := s.now + lat, due := 0, left := 1,
      writes := laterLanes d ls n outs, raw := [], fin := none, flags := 0#64, acquire := false, dst := [.v d], dead := [],
      bad := none, lanes := true, bank := none }
  s.onCore k (fun c => { c with pend := c.pend ++ [p] })

/-- The same of the instruction that issues: its context is not ready until they are written (R319). -/
def State.laterPend (s : State) (lat : Nat) (d : BitVec 5) (ls : List (LabelIn × Label)) (outs : List LaneOut) (n : Nat) : State :=
  (s.lanesInFlight s.curCore s.curCtx s.me.pc lat d ls outs n).onMe (fun x => { x with wait := .lanes })

/-- A vector result: lanes below 8 land after `lo` cycles, the others after `hi` (R205); header slots land with the later group.
Lane labels are combines with AMBIENT (R88, R319). -/
def State.vresultAt (s : State) (k : Ctl) (lo hi : Nat) (d : BitVec 5) (vm : VMod) (outs : List LaneOut) (flags : Nat)
    (sides : List RegWrite) : Eff :=
  let amb := [s.ambientNow]
  let s0 := s.countVoids (outs.map (·.2.2))
  let outs' := outs.map (fun o => (o.1, o.2.1, s.checkedIn o.2.2 amb))
  match s0.formAll s.curCore s.curCtx s.nextId (outs'.map (·.2.2)) false with
  | none => .stall
  | some (s1, ls) =>
    let ws := nowLanes d ls outs' ++ s.offLanes vm d
    let first := ws.filter (fun w => match w with | .lane _ i _ _ => decide (i < 8) | _ => false)
    let rest := ws.filter (fun w => match w with | .lane _ i _ _ => !decide (i < 8) | _ => true)
    let s2 := (extrasOf ls).foldl (fun s n => s.laterPend hi d ls outs' n) s1
    if lo = hi then .go (s2.produce (tagOf k) hi (ws ++ sides) flags [.v d])
    else .go ((s2.produce 0 lo first 0 [.v d]).produce (tagOf k) hi (rest ++ sides) flags [.v d])

/-- A vector result of one Fixed latency. -/
def State.vresult (s : State) (k : Ctl) (lat : Nat) (d : BitVec 5) (vm : VMod) (outs : List LaneOut) (flags : Nat) : Eff :=
  s.vresultAt k lat lat d vm outs flags []

/-- Lane-wise outputs over the active lanes: value and operand labels, the mask lane's label added (R88, R107). -/
def State.laneOuts (s : State) (vm : VMod) (f : Nat → Word × List Handle) : List LaneOut :=
  (s.lanes vm).map (fun i => (i, (f i).1, plainIn ((f i).2 ++ s.maskLabel vm i)))

/-- A lane-wise instruction of one operand. -/
def State.lane1 (s : State) (a : BitVec 5) (f : Word → Word) : Nat → Word × List Handle :=
  fun i => let x := (s.srcV a).lane i; (f x.1, [x.2])

/-- A lane-wise instruction of two operands. -/
def State.lane2 (s : State) (vm : VMod) (a b : BitVec 5) (f : Word → Word → Word) : Nat → Word × List Handle :=
  fun i => let x := (s.srcV a).lane i; let y := s.laneB vm b i; (f x.1 y.1, [x.2, y.2])

/-- A scalar result of a reduction or count over the active lanes: Combine of their labels (R88, R202). -/
def State.reduceLabels (s : State) (vm : VMod) (vs : List (BitVec 5)) : List Handle :=
  (s.lanes vm).flatMap (fun i => vs.map (fun v => ((s.srcV v).lane i).2) ++ s.maskLabel vm i)

/-- A signed 19-bit immediate (R183). -/
def imm19 (x : BitVec 19) : Dword := x.signExtend 64
/-- A signed 32-bit immediate (R131). -/
def imm32 (x : BitVec 32) : Dword := x.signExtend 64

/-- A branch target: PC + 4 × offset (R135). -/
def State.target19 (s : State) (off : BitVec 19) : Dword := s.me.pc + (imm19 off <<< 2)
def State.target32 (s : State) (off : BitVec 32) : Dword := s.me.pc + (imm32 off <<< 2)

end Sys2Proof.Machine
end

