-- ==== Sys2Proof/Machine/Requests.lean ====
section
/-! DEFINITION. Sys2Proof/Machine/Requests.lean: where an address lies (R21), the checks of an access (R120, R122, R190), the
store buffer (R44), near-cache copies (R42, R43), partial lines (R40), releases (R306) and the delivery of loaded words (R105). -/

namespace Sys2Proof.Machine

/-- What an address names, seen from a core (R21). -/
inductive Place where
  | own (off : Nat)
  | bank (core off : Nat)
  | event (cluster off : Nat)
  | control (off : Nat)
  | global
  | hole
  | outside
deriving DecidableEq, Repr

/-- The place of an address for core `k` (R21). -/
def placeOf (k va : Nat) : Place :=
  if 2 ^ 56 ≤ va then .outside
  else if va < 0xC0000000000000 then .global
  else if va < 0xFE000000000000 then .outside
  else if va < 0xFF000000000000 then .control (va - 0xFE000000000000)
  else
    let o := va - 0xFF000000000000
    if o < 0x6000 then .own o
    else if 0x100000000 ≤ o && decide (o < 0x100040000) && decide ((o - 0x100000000) % 0x8000 < 0x6000) then
      .bank (k / 8 * 8 + (o - 0x100000000) / 0x8000) ((o - 0x100000000) % 0x8000)
    else if 0x200000000 ≤ o && decide (o < 0x200001000) then .event (k / 8) (o - 0x200000000)
    else if 0x400000000 ≤ o && decide (o < 0x400000000 + 98304 * 0x1000) then
      .event ((o - 0x400000000) / 0x1000) ((o - 0x400000000) % 0x1000)
    else .hole

/-- The bank and offset of an address in cluster memory. -/
def localOf (k va : Nat) : Option (Nat × Nat) :=
  match placeOf k va with
  | .own o => some (k, o)
  | .bank c o => some (c, o)
  | _ => none

/-- A word of cluster memory with its handle (R45). -/
def State.lword (s : State) (bank off : Nat) : LWord :=
  let c := s.core bank
  (BitVec.ofNat 32 (leNat (Sparse.bytes c.lmem (off / 4 * 4) 4)), c.lplane.get (off / 4))

/-- Kinds of access, by the rights they need (R120, R190). -/
inductive Acc where
  | load
  | store
  | atomic
  | red
  | redc
  | tlwait
  | tlsig
  | publish
deriving DecidableEq, Repr

/-- Does a kind of access need R? R120 and R190 speak of "a missing right" and do not list the rights of RED: it returns no value, and the
model asks for W alone (DESIGN CHOICE; entry 31). -/
def Acc.reads : Acc → Bool
  | .load | .atomic | .tlwait => true
  | _ => false
def Acc.writes : Acc → Bool
  | .load | .tlwait => false
  | _ => true

/-- Does a range hold an address (R120)? -/
def Plb.holds (p : Plb) (va : Nat) : Bool :=
  p.valid && decide (p.base.toNat ≤ va / 65536) && decide (va / 65536 ≤ p.last.toNat)

/-- The protection range that holds an address (R120). -/
def Core.range (c : Core) (va : Nat) : Option Plb := c.plb.toList.find? (fun p => p.holds va)

/-- Has a range the rights that an access needs (R120, R195)? -/
def Plb.allows (p : Plb) (a : Acc) : Bool :=
  (!a.reads || p.r) && (if a == .redc then p.c else !a.writes || p.w)

/-- Is a core's launch PHASED (R122)? -/
def State.phased (s : State) (k : Nat) : Bool :=
  match s.launchOf k with
  | none => false
  | some l => l.phased

/-- Does an address translate to a DECODE view (R31)? -/
def State.decodeView (s : State) (va : Nat) : Bool :=
  match s.translate va with
  | .leaf l _ => s.isDecode l
  | .park _ => false

/-- Does an address translate to a host page (R24)? -/
def State.hostPage (s : State) (va : Nat) : Bool :=
  match s.translate va with
  | .leaf l _ => l.hl
  | .park _ => false

/-- Does an address translate to a page of this module's own memory (R24)? A page that is not resident is neither; its accesses park at
the home (R200). -/
def State.devicePage (s : State) (va : Nat) : Bool :=
  match s.translate va with
  | .leaf l _ => !l.hl
  | .park _ => false

/-- Does an address translate to the window of a Nelrek link (R389)? -/
def State.remotePage (s : State) (va : Nat) : Bool :=
  match s.translate va with
  | .leaf l _ => l.remote
  | .park _ => false

/-- Does a launch count a holding as its own: present, or released and not yet out of the holding map (R291, R341)? -/
def Launch.counts (l : Launch) (h : Nat) : Bool := (l.holdings.getD h default).present || (l.holdings.getD h default).departing

/-- Is a cluster one of a launch's holdings, as its holding map has them (R341)? -/
def Launch.holds (l : Launch) (q : Nat) : Bool :=
  (List.range l.holdings.length).any (fun h => l.counts h && l.cluster h == q)

/-- Words of an event unit that an access may reach: lines, barriers, mutexes; only lines in another cluster of the launch; no
store to a mutex (R265). -/
def State.eventOk (s : State) (k q off : Nat) (a : Acc) : Bool :=
  let lineW := decide (off < 0x100)
  let barW := decide (0x400 ≤ off) && decide (off < 0x420)
  let mutW := decide (0x600 ≤ off) && decide (off < 0x640)
  (a == .load || a == .store) &&
  (if q = k / 8 then lineW || barW || (mutW && a == .load)
   else lineW && (match s.launchOf k with | none => false | some l => l.here.any (fun h => l.cluster h == q)))

/-- Offsets of the tenant control window that the window defines (R320, R347). -/
def controlOk (tenant off : Nat) (a : Acc) : Bool :=
  let t := off / 0x80000000000
  let o := off % 0x80000000000
  t == tenant && ((a == .load || a == .store) || a == .tlwait) &&
  (if o < 0x1000 then a != .tlwait
   else if o < 0x1200 then a != .store
   else if 0x10000 ≤ o && decide (o < 0x20000) then a != .tlwait
   else decide (0x10000000000 ≤ o) && decide (o < 0x10000000000 + 786432 * 0x20000) && a != .tlwait)

/-- The checks of R190 for an access of `width` bytes, in their order; none where it may be performed. A memory timeline is for open
launches only, whatever its address (R272). -/
def State.checkAccess (s : State) (a : Acc) (va width : Nat) (lc poison : Bool) : Option Eff :=
  let k := s.curCore
  let c := s.core k
  let p := placeOf k va
  let bad (cause : Nat) : Option Eff := some (.fault cause (BitVec.ofNat 64 va))
  if poison then bad cPoison
  else if lc && !(match p with | .own _ => true | _ => false) then bad cMisplaced
  else if va % width != 0 then bad cAlign
  else if s.phased k && (a == .tlwait || a == .tlsig || match p with | .global | .control _ => true | .event q _ => q != k / 8 | _ => false) then bad cPhase
  else match p with
  | .outside => some (.lease (BitVec.ofNat 64 va))
  | .hole => bad cRights
  | .own _ | .bank _ _ => if a == .redc || a == .tlwait || a == .tlsig || a == .publish then bad cRights else none
  | .event q o => if s.eventOk k q o a then none else bad cRights
  | .control o =>
    match c.range va with
    | none => bad cRights
    | some r => if r.allows a && s.supervised k && controlOk (s.tenantOf k) o a then none else bad cRights
  | .global =>
    match c.range va with
    | none => some (.lease (BitVec.ofNat 64 va))
    | some r =>
      if !r.allows a then bad cRights
      else if a.writes && s.decodeView va then bad cRights
      else if (a == .atomic || a == .red || a == .redc) && s.hostPage va then bad cRights
      else if a == .publish && s.devicePage va then bad cRights
      else none

/-! ## Requests and the store buffer -/

/-- Is a request a store, a RED or a partial line that a release waits for (R196, R306)? -/
def Req.isStore (r : Req) : Bool :=
  match r.op with
  | .store | .strel | .tlsig | .red _ | .part _ => true
  | _ => false

/-- The label of a buffered store; one that an extra slot will fill counts as pending (R319). -/
def Req.lblNow (r : Req) : Handle := if r.isStore && r.seq != 0 then 0xFFF0#16 else r.lbl

/-- Stores, REDs and partials of a core numbered below `upto` that are not yet performed at MODULE scope (R196). -/
def State.outstanding (s : State) (k upto : Nat) : Bool :=
  s.reqs.any (fun r => r.core == k && r.isStore && !r.away && decide (r.id < upto)) ||
  s.late.any (fun r => r.2.core == k && r.2.isStore && decide (r.2.id < upto))

/-- The same with stores to host pages that host reads do not see yet: SYSTEM scope (R196). -/
def State.outstandingSys (s : State) (k upto : Nat) : Bool :=
  s.outstanding k upto || s.reqs.any (fun r => r.core == k && r.isStore && decide (r.id < upto))

/-- Stores of a core to local and cluster memory that have not landed: CORE scope (R196). -/
def State.outstandingLocal (s : State) (k upto : Nat) : Bool :=
  s.late.any (fun r => r.2.core == k && r.2.isStore && decide (r.2.id < upto)) ||
  s.reqs.any (fun r => r.core == k && r.isStore && decide (r.id < upto) && decide (0xFF000000000000 ≤ r.va))

/-- Line numbers that a core's store buffer holds (R44). -/
def State.bufferLines (s : State) (k : Nat) : List Nat :=
  ((s.reqs.filter (fun r => r.core == k && !r.away && (r.op == .store || (match r.op with | .red _ => true | _ => false)) && isGlobal r.va)).map
    (fun r => r.va / 64)).eraseDups

/-- Would a store to these lines find the buffer full (R44)? -/
def State.bufferFull (s : State) (k : Nat) (ls : List Nat) : Bool :=
  decide (64 < ((s.bufferLines k) ++ ls).eraseDups.length)

/-- Does an access of the core to cluster memory that has not landed hold its later ones back (R191, R303)? One is a STREL, one whose
label is pending, or one behind such an access; it is held until the end of the cycle in which it lands, and so is one that its
sub-bank's shared port has not granted (R45). -/
def State.localHeld (s : State) (k : Nat) : Bool :=
  s.reqs.any (fun r => r.core == k && (localOf k r.va).isSome) || s.late.any (fun p => p.2.core == k && (p.1 == 0 || p.1 == 2))

/-- A request with every field at its default, from the issuing context. -/
def State.mkReq (s : State) (op : ReqOp) (va width : Nat) : Req :=
  { id := s.nextId, core := s.curCore, ctx := s.curCtx, launch := s.here.launch.getD 0, pc := s.me.pc, op := op, va := va,
    width := width, data := 0#64, cmp := 0#64, lbl := hTrue, more := [], dst := .none, seq := 0, words := [], away := false,
    leaf := none, link := none, fwd := [], value := none, grp := 0, sender := s.curCore }

/-- A request sent towards its home, to be performed no sooner than `n` cycles from now (R37; entry 11). -/
def State.send (s : State) (r : Req) (n : Nat) : State :=
  { (s.bump.plan n 0 (match r.op with | .part _ => .partialCombine | _ => .homeAccess) { a := r.id }) with
    reqs := s.reqs ++ [r] }

/-- Cycles from issue to the home of an address, with a free delay for relaxed stores (R17, R44; entry 11). -/
def State.storeDelay (s : State) (k va : Nat) : Nat := 1 + homePath k va + s.freeN va % 32

/-- The partial lines of a core sent to their homes (R40): its release does so, and the core that stops for a pre-emption (R315). -/
def State.sendPartials (s : State) (k : Nat) (t : Nat) (pc : Dword) : State :=
  let ps := (s.core k).partials
  let s1 := s.onCore k (fun c => { c with partials := [] })
  ps.foldl (fun s p =>
    let r : Req :=
      { s.mkReq (.part p.cop) (p.line * 64) 64 with
        core := k, ctx := t, launch := ((s.core k).launch).getD 0, pc := pc, words := p.words, data := p.era.setWidth 64, sender := k }
    s.send r (1 + homePath k (p.line * 64))) s1

/-- A release of the issuing context: its core's partial lines are sent (R40, R306). -/
def State.release (s : State) : State := s.sendPartials s.curCore s.curCtx s.me.pc

/-! ## Near cache -/

/-- The copy of a line that a load by core `k` uses (R42). Where several copies qualify and the core's reader bit is set in none, the
manual names none of them; the model takes the one installed last (DESIGN CHOICE; entry 102). -/
def State.nearCopy (s : State) (k line : Nat) : Option Copy :=
  let b := k % 8
  let ok : Copy → Bool := fun q =>
    q.line == line && !q.writers.getLsbD b && (q.readers.getLsbD b || decide ((s.core k).viewStamp ≤ q.stamp))
  let cs := ((s.cluster (k / 8)).near).filter ok
  match cs.find? (fun q => q.readers.getLsbD b) with
  | some q => some q
  | none => cs.getLast?

/-- A word of a copy as core `k` reads it: the handle under the page's rules for the core's domain in its current era (R35). -/
def State.copyWord (s : State) (k : Nat) (q : Copy) (va : Nat) : LWord :=
  let w := q.words.getD (va / 4 % 16) (0#32, hTrue)
  (w.1, s.readHandle (s.domainOf k) q.page w.2)

/-- A copy marked as read by a core (R42). -/
def State.markRead (s : State) (k : Nat) (q : Copy) : State :=
  s.onCluster (k / 8) (fun c => { c with near := c.near.map (fun x =>
    if x.id = q.id then { x with readers := x.readers ||| (1#8 <<< (k % 8)), used := s.now } else x) })

/-- A core's store, RED or AMO sets its writer bit in every copy of the line, and in the copies that loads in flight will install
(R42). -/
def State.markWrite (s : State) (k line : Nat) : State :=
  let s1 := s.onCluster (k / 8) (fun c => { c with near := c.near.map (fun x =>
    if x.line = line then { x with writers := x.writers ||| (1#8 <<< (k % 8)) } else x) })
  { s1 with reqs := s1.reqs.map (fun r =>
      if r.core / 8 = k / 8 && r.va / 64 = line && (r.op == .load || r.op == .pref) then { r with cmp := r.cmp ||| (1#64 <<< (k % 8)) }
      else r) }

/-- The bytes of a core's earlier buffered stores merged over a word, in issue order, with the labels that enter it (R44). -/
def State.mergeStores (s : State) (k va upto : Nat) (w : LWord) : Word × List Handle :=
  (s.reqs.filter (fun r => r.core == k && !r.away && (r.op == .store || r.op == .strel) && decide (r.id < upto))).foldl
    (fun acc r =>
      if r.va / 4 ≤ va / 4 && decide (va / 4 * 4 < r.va + r.width) then
        if r.width < 4 then (mergeWord acc.1 (r.va % 4) r.width r.data.toNat, acc.2 ++ [r.lblNow])
        else (BitVec.ofNat 32 (r.data.toNat / 2 ^ (8 * (va / 4 * 4 - r.va))), [r.lblNow])
      else acc) (w.1, [w.2])

/-- The two words of a load with the bytes of its core's buffered stores merged over them; empty where none is (R44). -/
def State.forward (s : State) (r : Req) (lo hi : LWord) : List (Word × List Handle) :=
  let a := s.mergeStores r.core r.va r.id lo
  let b := s.mergeStores r.core (r.va + 4) r.id hi
  if a = (lo.1, [lo.2]) && b = (hi.1, [hi.2]) then [] else [a, b]

/-! ## Delivery -/

/-- A loaded value extended under R55. -/
def extendLoad (width : Nat) (z : Bool) (v : Nat) : Dword :=
  let m := v % 2 ^ (8 * width)
  if z || !bitAt m (8 * width - 1) then BitVec.ofNat 64 m else BitVec.ofNat 64 (m + 2 ^ 64 - 2 ^ (8 * width))

/-- The value and labels that an access of `width` bytes at `va` takes from its words. -/
def pickBytes (va width : Nat) (lo hi : LWord) : Nat × List Handle :=
  if width = 8 then (lo.1.toNat + hi.1.toNat * 2 ^ 32, [lo.2, hi.2]) else (lo.1.toNat / 2 ^ (8 * (va % 4)), [lo.2])

/-- A label formed at delivery for a load of context `t` of core `k`, whose result has the number `seq`: one stored label is taken as Check
gives it (R88); more are combined, words of one load with identical tuples once (R319); where that needs a resolve slot and none is
free, none: the delivery waits (R93). -/
def State.formAt (s : State) (k t seq : Nat) (hs : List Handle) : Option (State × Handle) :=
  let cs := s.checkAll k t hs
  let s0 := if cs.2 = 0 then s else s.onCore k (fun c => c.count 8 cs.2)
  match cs.1 with
  | [h] => some (s0, h)
  | _ =>
    match (s0.core k).sharedSlot seq (plainIn cs.1) with
    | some h => some (s0, h)
    | none =>
      match s0.formAll k t seq [plainIn cs.1] false with
      | some (s', ls) =>
        match labelIn ls (plainIn cs.1) with
        | .now h => some (s', h)
        | .later _ => none
      | none => none

/-- Words added to a result in flight; when none is left to come its landing is planned. -/
def State.arrive (s : State) (k seq n : Nat) (ws : List RegWrite) : State :=
  let s1 := s.onPend k seq (fun p => { p with writes := p.writes ++ ws, left := p.left - 1 })
  match s1.pendAt k seq with
  | none => s1
  | some p => if p.left = 0 then s1.planLanding k seq n else s1

/-- A raw word kept for a VQLD (R229). -/
def State.arriveRaw (s : State) (k seq n i : Nat) (w : LWord) : State :=
  let s1 := s.onPend k seq (fun p => { p with raw := p.raw ++ [(i, w)], left := p.left - 1 })
  match s1.pendAt k seq with
  | none => s1
  | some p => if p.left = 0 then s1.planLanding k seq n else s1

/-- The writes of a loaded value with its label (R105, R222). -/
def ReqDst.writes (d : ReqDst) (width v : Nat) (h : Handle) : List RegWrite :=
  match d with
  | .s r z => [.s r (extendLoad width z v) h]
  | .lane r i => [.lane r i (BitVec.ofNat 32 v) h]
  | .bcast r is => is.map (fun i => .lane r i (BitVec.ofNat 32 v) h)
  | .acc b i j => [.acc b i j (BitVec.ofNat 32 v) h]
  | .none | .raw _ => []

/-- A loaded value delivered to its destination, to land no sooner than `n` cycles from now; it waits while its label needs a resolve
slot and none is free (R93, R105, R222). -/
def State.deliver (s : State) (r : Req) (v : Nat) (hs : List Handle) (n : Nat) : State :=
  match r.dst with
  | .none => s
  | d =>
    match s.formAt r.core r.ctx r.seq hs with
    | none =>
      { (s.bump.plan (max n 1) 0 .nearCacheFill { a := s.nextId }) with
        reqs := s.reqs ++ [{ r with id := s.nextId, away := true, words := [], more := [], fwd := [], value := some (v, hs) }] }
    | some (s1, h) =>
      match d with
      | .raw i => s1.arriveRaw r.core r.seq n i (BitVec.ofNat 32 v, h)
      | d => s1.arrive r.core r.seq n (d.writes r.width v h)

/-- An access that met a fault where it was performed: precise at its consumer, which reports the first of the load's words that met one
(R200, R343). -/
def State.failLoad (s : State) (r : Req) (cause : Nat) : State :=
  match s.pendAt r.core r.seq with
  | none => s
  | some p =>
    if p.bad.isSome then s
    else (s.onPend r.core r.seq (fun p => { p with bad := some (cause, BitVec.ofNat 64 r.va), left := 0 })).planLanding r.core r.seq 1

/-- A load's words delivered; those of a DECODE view under a corrupt header set FMT_CORRUPT, or fault with FORMAT under FMTTRAP
(R30, R67, R200). -/
def State.deliverWords (s : State) (r : Req) (lo hi : Word × List Handle) (corrupt : Bool) (n : Nat) : State :=
  let v := if r.width = 8 then (lo.1.toNat + hi.1.toNat * 2 ^ 32, lo.2 ++ hi.2) else (lo.1.toNat / 2 ^ (8 * (r.va % 4)), lo.2)
  if corrupt && bitAt (s.ctxAt r.core r.ctx).fpctl.toNat 3 then s.failLoad r cFormat
  else (if corrupt then s.flag r.core r.ctx stFmt else s).deliver r v.1 v.2 n

/-- Takes a request away. -/
def State.dropReq (s : State) (id : Nat) : State := { s with reqs := s.reqs.filter (fun r => r.id != id) }

/-- A request by number. -/
def State.req (s : State) (id : Nat) : Option Req := s.reqs.find? (fun r => r.id == id)

/-- A request changed. -/
def State.onReq (s : State) (id : Nat) (f : Req → Req) : State :=
  { s with reqs := s.reqs.map (fun r => if r.id = id then f r else r) }

/-- The page scope of an address for STREL and TLSIG: false CORE or CLUSTER, true MODULE or SYSTEM (R191). -/
def wideScope (k va : Nat) : Bool :=
  match placeOf k va with
  | .global => true
  | _ => false

/-! ## The register cache -/

/-- Is a register reference a vector register? -/
def isVec : RegRef → Bool
  | .v _ => true
  | .s _ => false

/-- A register line present in the core's register cache, of 64 vector and 128 scalar lines (R110). A full cache gives up a line of a
pre-empted launch while it has one, whose image is written already (R359); else its oldest, which goes back to its image (entry 8). -/
def Core.install (c : Core) (t : Nat) (r : RegRef) : Core :=
  if c.regCache.contains (t, r) then c
  else
    let l := c.regCache ++ [(t, r)]
    let mine := l.filter (fun p => isVec p.2 == isVec r)
    let old := c.regOld.filter (fun p => isVec p.ref == isVec r)
    let cap := if isVec r then 64 else 128
    if mine.length + old.length ≤ cap then { c with regCache := l }
    else match old with
    | o :: _ => { c with regCache := l, regOld := c.regOld.erase o }
    | [] => match mine with
      | o :: _ => { c with regCache := l.erase o, regOut := c.regOut ++ [o] }
      | [] => c

/-- Every register line of a starting context installed (R110). -/
def Core.installAll (c : Core) (t : Nat) : Core :=
  (List.range 32).foldl (fun c i => (c.install t (.s (BitVec.ofNat 5 i))).install t (.v (BitVec.ofNat 5 i))) c

/-- Where the image of a context lies (R109). -/
def Launch.imageAddr (l : Launch) (h c t : Nat) : Nat := l.word 6 + ((h * 8 + c) * 11 + t) * 0xEC0

/-- The offsets of a register's first value byte, its first label and, of a vector register, its sideband in an image (R109). -/
def regOffsets : RegRef → List Nat
  | .s n => [0x080 + 8 * n.toNat, 0x180 + 2 * n.toNat]
  | .v n => [0x1C0 + 64 * n.toNat, 0x9C0 + 32 * n.toNat, 0xDC0 + 8 * n.toNat]

/-- The registers of an instruction that are absent (R110). -/
def Core.missing (c : Core) (t : Nat) (rs : List RegRef) : List RegRef :=
  (rs.filter (fun r => r != .s 0#5 && !c.regCache.contains (t, r))).eraseDups

end Sys2Proof.Machine
end

