-- ==== Sys2Proof/Machine/Control.lean ====
section
/-! DEFINITION. Sys2Proof/Machine/Control.lean: control transfers, helpers, HALT, YIELD, traps (R172 to R182) and the system
registers (R139 to R142, R188). -/

namespace Sys2Proof.Machine

/-- A label formed from operand labels and AMBIENT, VOID reads counted; none where no slot is free (R88, R93). -/
def State.formWith (s : State) (hs : List Handle) : Option (State × Handle) :=
  (s.countVoids [plainIn hs]).formOne (s.checkedIn (plainIn hs) [s.ambientNow])

/-- The tag of an instruction of Fixed latency that writes no register through its result (R114). -/
def State.tagOnly (s : State) (k : Ctl) (lat : Nat) : State := if tagOf k = 0 then s else s.produce (tagOf k) lat [] 0 []

/-- A transfer to a register target (R173). -/
def State.jumpReg (s : State) (r : BitVec 5) (f : State → Option State) : Eff :=
  let x := s.srcS r
  if x.1.toNat % 4 != 0 then .fault cAlign x.1
  else if s.check s.curCore s.curCtx x.2 = hPoison then .fault cPoison x.1
  else match f (s.countVoids [plainIn [x.2]]) with
  | none => .stall
  | some s' => .jump s' x.1 2

/-- NOP (R181). -/
def execNop (k : Ctl) (s : State) : Host.Outcome State Fault Refusal := issue (.nop k) s (fun s => .go s)

/-- An arrival of a core at a weir, counted once its earlier stores are performed; `by_` is a waiting WEIR's context plus 1
(R261, R263). -/
def State.arriveAt (s : State) (k weir addend : Nat) (withdraw : Bool) (by_ : Nat) : State :=
  s.plan 0 2 .weirArrivalCounted
    { a := k, b := weir, c := addend, d := s.nextId, e := (s.core k).launch.getD 0 * 2 + (if withdraw then 1 else 0), f := by_ }

/-- The offset of a cluster within its launch's region, as column and row. -/
def Launch.place (l : Launch) (q : Nat) : Nat × Nat := (q % 256 - l.x, q / 256 - l.y)

/-- Is core `k` a member of weir `n` of its launch (R259, R325)? -/
def Launch.member (l : Launch) (n k : Nat) : Bool :=
  if n = 0 then l.holds (k / 8)
  else
    let w := vget l.weirs n default
    let p := l.place (k / 8)
    w.defined && l.holds (k / 8) && bitAt w.cmask.toNat (k % 8) && decide (w.x ≤ p.1) && decide (p.1 < w.x + w.w) &&
      decide (w.y ≤ p.2) && decide (p.2 < w.y + w.h)

/-- HALT's effect: the control context stops being live, and its core withdraws from every weir of which it is a member, as a
release (R180, R263). -/
def State.haltCore (s : State) (k : Nat) : State :=
  let s1 := s.sendPartials k 0 (s.ctxAt k 0).pc
  let s2 := s1.onCtx k 0 (fun x => { x with live := false, wait := .none })
  match s2.launchOf k with
  | none => s2
  | some l => ((List.range 16).filter (fun n => l.member n k)).foldl (fun s n => s.arriveAt k n 0 true 0) s2

/-- Is no helper of a core live (R179, R180)? -/
def Core.noHelper (c : Core) : Bool := (List.range 10).all (fun i => !(c.ctx (i + 1)).live)

/-- HALT (R180). -/
def execHalt (k : Ctl) (s : State) : Host.Outcome State Fault Refusal :=
  issue (.halt k) s (fun s =>
    if s.curCtx != 0 then .fault cIllegal 0#64
    else if s.me.sr then .fault cMisuse 0#64
    else if s.here.noHelper then .go (s.haltCore s.curCore)
    else .sleep s .halt)

/-- BR (R174). -/
def execBr (k : Ctl) (off : BitVec 19) (s : State) : Host.Outcome State Fault Refusal :=
  issue (.br k off) s (fun s => .jump s (s.target19 off) 2)

/-- The condition of BRC (R174). -/
def brcTaken (cond : Nat) (a b : Dword) : Bool :=
  match cond with
  | 0 => a == b
  | 1 => a != b
  | 2 => a.slt b
  | 3 => !a.slt b
  | 4 => a.ult b
  | _ => !a.ult b

/-- A branch to a relative target, taken or not (R173). -/
def State.branch (s : State) (taken : Bool) (target : Dword) (hs : List Handle) : Eff :=
  let s' := s.countVoids [plainIn hs]
  if taken then .jump s' target 2 else .go s'

/-- BRC (R174). -/
def execBrc (k : Ctl) (a b : BitVec 5) (cond : BitVec 3) (off : BitVec 32) (s : State) : Host.Outcome State Fault Refusal :=
  issue (.brc k a b cond off) s (fun s =>
    let x := s.srcS a
    let y := s.srcS b
    s.branch (brcTaken cond.toNat x.1 y.1) (s.target32 off) [x.2, y.2])
/-- BRZ (R174). -/
def execBrz (k : Ctl) (a : BitVec 5) (off : BitVec 19) (s : State) : Host.Outcome State Fault Refusal :=
  issue (.brz k a off) s (fun s => let x := s.srcS a; s.branch (x.1 == 0#64) (s.target19 off) [x.2])
/-- BRNZ (R174). -/
def execBrnz (k : Ctl) (a : BitVec 5) (off : BitVec 19) (s : State) : Host.Outcome State Fault Refusal :=
  issue (.brnz k a off) s (fun s => let x := s.srcS a; s.branch (x.1 != 0#64) (s.target19 off) [x.2])
/-- BRV: waits for a pending label, then branches on a VOID one (R175). -/
def execBrv (k : Ctl) (a : BitVec 5) (off : BitVec 19) (s : State) : Host.Outcome State Fault Refusal :=
  issue (.brv k a off) s (fun s =>
    let x := s.srcS a
    if isPend x.2 then .stall
    else s.branch (isVoid (s.check s.curCore s.curCtx x.2)) (s.target19 off) [x.2])

/-- s31 ← PC + 8 with label Combine(ambient) (R176). -/
def State.link (s : State) (k : Ctl) : Option State :=
  match s.formWith [] with
  | none => none
  | some (s', h) => some (s'.produce (tagOf k) 1 [.s 31#5 (s.me.pc + 8#64) h] 0 [.s 31#5])

/-- CALL (R176). -/
def execCall (k : Ctl) (off : BitVec 19) (s : State) : Host.Outcome State Fault Refusal :=
  issue (.call k off) s (fun s =>
    match s.link k with
    | none => .stall
    | some s' => .jump s' (s.target19 off) 2)
/-- CALLR: reads s[A] before it writes s31 (R176). -/
def execCallr (k : Ctl) (a : BitVec 5) (s : State) : Host.Outcome State Fault Refusal :=
  issue (.callr k a) s (fun s => s.jumpReg a (fun s => s.link k))
/-- RET (R176). -/
def execRet (k : Ctl) (s : State) : Host.Outcome State Fault Refusal :=
  issue (.ret k) s (fun s => s.jumpReg 31#5 some)
/-- JMPR (R176). -/
def execJmpr (k : Ctl) (a : BitVec 5) (s : State) : Host.Outcome State Fault Refusal :=
  issue (.jmpr k a) s (fun s => s.jumpReg a some)
/-- LOOP (R177). -/
def execLoop (k : Ctl) (d : BitVec 5) (off : BitVec 19) (s : State) : Host.Outcome State Fault Refusal :=
  issue (.loop k d off) s (fun s =>
    let x := s.srcS d
    let v := x.1 - 1#64
    match s.formWith [x.2] with
    | none => .stall
    | some (s', h) =>
      let s2 := s'.produce (tagOf k) 1 [.s d v h] 0 [.s d]
      if v != 0#64 then .jump s2 (s.target19 off) 2 else .go s2)

/-- The lowest-numbered helper that is not live (R178). -/
def Core.freeHelper (c : Core) : Option Nat := (List.range 10).map (· + 1) |>.find? (fun t => !(c.ctx t).live)

/-- A context as R106 starts it, at a PC with an ambient label; the sluice timeline is kept (R178). -/
def Ctx.start (x : Ctx) (pc : Dword) (amb : Handle) (era : BitVec 4) : Ctx :=
  { Ctx.zero with live := true, pc := pc, ambient := amb, era := era, jobLast := x.jobLast, timeline := x.timeline }

/-- HSTART (R178). -/
def execHstart (k : Ctl) (d a b : BitVec 5) (off : BitVec 32) (s : State) : Host.Outcome State Fault Refusal :=
  issue (.hstart k d a b off) s (fun s =>
    if s.me.sr then .fault cMisuse 0#64
    else match s.here.freeHelper with
    | none => .fault cHelper 0#64
    | some h =>
      let x := s.srcS a
      let y := s.srcS b
      match (s.countReads [x.2, y.2]).formWith [] with
      | none => .stall
      | some (s1, l) =>
        let s2 := s1.onHere (fun c => (c.setCtx h
          { (((c.ctx h).start (s.target32 off) s.me.ambient c.view.era).setS 1#5 x.1 x.2).setS 2#5 y.1 y.2 with
            gapUntil := s.now + 2 }).installAll h)
        let s3 := s2.plan 2 0 .gapExpiry { a := s.curCore, b := h }
        .go (s3.produce (tagOf k) 1 [.s d (BitVec.ofNat 64 h) l] 0 [.s d]))

/-- Has a context signalled a mutex whose signal has not taken effect yet (R270)? -/
def State.freeing (s : State) (k t n : Nat) : Bool :=
  s.agenda.any (fun x => x.what == .eventSignalEffect && x.who.a == k && x.who.c == 1 + t && x.who.d == n)

/-- Does a context hold a mutex of its cluster, none of its signals to it being on their way (R268)? -/
def State.ownsMutex (s : State) (k t n : Nat) : Bool :=
  (vget (s.cluster (k / 8)).mutexes n default).owner == some (k, t) && !s.freeing k t n

/-- Does a context hold any mutex (R268)? -/
def State.holdsMutex (s : State) (k t : Nat) : Bool := (List.range 8).any (s.ownsMutex k t)

/-- HEND: the helper issues nothing further, and retires when its tags and resolve slots are free (R179, R268). -/
def execHend (k : Ctl) (s : State) : Host.Outcome State Fault Refusal :=
  issue (.hend k) s (fun s =>
    if s.curCtx = 0 then .fault cIllegal 0#64
    else if s.holdsMutex s.curCore s.curCtx then .fault cIllegal 0#64
    else .go ((s.onMe (fun x => { x with ending := true })).plan 1 0 .helperRetire { a := s.curCore, b := s.curCtx }))

/-- HJOIN (R179). -/
def execHjoin (k : Ctl) (a : BitVec 5) (s : State) : Host.Outcome State Fault Refusal :=
  issue (.hjoin k a) s (fun s =>
    let x := s.srcS a
    let n := x.1.toNat
    if n = 0 || decide (10 < n) || n = s.curCtx then .fault cIllegal 0#64
    else
      let s' := s.countVoids [plainIn [x.2]]
      if (s.here.ctx n).live then .sleep s' (.hjoin n) else .go s')

/-- YIELD (R181). -/
def execYield (k : Ctl) (n : BitVec 19) (s : State) : Host.Outcome State Fault Refusal :=
  issue (.yield k n) s (fun s => .rest s n.toNat)
/-- TRAP (R182). -/
def execTrap (k : Ctl) (n : BitVec 19) (s : State) : Host.Outcome State Fault Refusal :=
  issue (.trap k n) s (fun s => .trap s cTrap (n.setWidth 64))
/-- BRK (R182). -/
def execBrk (k : Ctl) (n : BitVec 19) (s : State) : Host.Outcome State Fault Refusal :=
  issue (.brk k n) s (fun s => .trap s cBreak (n.setWidth 64))

/-! ## System registers -/

/-- CTX_STATUS of a context (R108). -/
def ctxStatus (c : Core) (x : Ctx) : Nat :=
  x.era.toNat * 2 ^ 28 + x.weirN.toNat * 2 ^ 20 + (if x.ap then 2 ^ 19 else 0) + (if c.pk then 2 ^ 18 else 0) +
  (if c.arm then 2 ^ 17 else 0) + (if x.sr then 2 ^ 16 else 0) + (if x.live then 2 ^ 15 else 0) +
  x.tags.toNat / 2 % 128 * 2 ^ 8

/-- PHASE_CYC (R121). -/
def State.phaseCyc (s : State) (k : Nat) : Nat := min 0xFFFF (s.now - (s.core k).phaseStart)

/-- SR_COUNT of the holder control context (R337). -/
def State.srCount (s : State) (k : Nat) : Nat :=
  let x := s.ctxAt k 0
  let h : Holding := match s.launchOf k with | none => default | some l => l.holdings.getD (s.core k).holding default
  x.savAmb.toNat * 2 ^ 48 + min 4 h.recalls.length * 2 ^ 32 + min 8 h.refusals * 2 ^ 28 + x.srIssued % 2 ^ 13

/-- HOLD_MAP of a launch (R341): VERSION and present holdings as of its last weir-0 completion. -/
def Launch.holdMap (l : Launch) : Nat :=
  l.version % 2 ^ 16 * 2 ^ 48 + (l.holdings.filter (fun h => h.present || h.departing)).length

/-- A system register's value; none where no register has the number (R139). -/
def State.sysReg (s : State) (n : Nat) : Option Nat :=
  let c := s.here
  let x := s.me
  let l := s.launchOf s.curCore
  let holder := s.curCtx == 0 && s.curCore % 8 == 0
  match n with
  | 0x000 => some (coreId s.curCore)
  | 0x001 => some s.curCtx
  | 0x002 => some (match l with | none => 0 | some l => l.id.toNat)
  | 0x003 => some (match l with | none => 0 | some l => l.x * 2 ^ 12 + l.y * 8)
  | 0x004 => some (match l with | none => 0 | some l => l.w * 2 ^ 12 + l.h * 8)
  | 0x005 => some (match l with | none => 0 | some l => l.holdMap)
  | 0x006 => some (s.phaseCyc s.curCore)
  | 0x007 => some (ctxStatus c x)
  | 0x008 => some x.sticky.toNat
  | 0x009 => some x.fpctl.toNat
  | 0x00A => some x.ambient.toNat
  | 0x00B => some (match l with
      | none => 0
      | some l => match l.domain with | none => 0 | some d => 2 ^ 14 + c.view.era.toNat * 2 ^ 10 + d)
  | 0x00C => some s.now
  | 0x00D => some (if holder then x.srLink.toNat else 0)
  | 0x00E => some (if holder then x.srCause.toNat else 0)
  | 0x00F => some (if holder then s.srCount s.curCore else 0)
  | _ =>
    if 0x010 ≤ n ∧ n ≤ 0x017 then some (match l with | none => 0 | some l => l.word (0xC0 / 8 + (n - 0x010)))
    else if 0x020 ≤ n ∧ n ≤ 0x02B then some (vget c.cnt (n - 0x020) 0#64).toNat
    else none

/-- SRD (R139, R188): label TRUE. -/
def execSrd (k : Ctl) (d : BitVec 5) (n : BitVec 12) (s : State) : Host.Outcome State Fault Refusal :=
  issue (.srd k d n) s (fun s =>
    match s.sysReg n.toNat with
    | none => .fault cIllegal 0#64
    | some v => s.resultAs k 1 d (BitVec.ofNat 64 v) hTrue)

/-- SWR (R139, R188): STICKY clears by ones, FPCTL, and AMBIENT, which refuses PEND and reserved handles (R87). -/
def execSwr (k : Ctl) (a : BitVec 5) (n : BitVec 12) (s : State) : Host.Outcome State Fault Refusal :=
  issue (.swr k a n) s (fun s =>
    let v := s.srcS a
    match n.toNat with
    | 0x008 => .go (((s.countReads [v.2]).onMe (fun x => { x with sticky := stickyWrite x.sticky v.1 })).tagOnly k 1)
    | 0x009 => .go (((s.countReads [v.2]).onMe (fun x => { x with fpctl := fpctlWrite v.1 })).tagOnly k 1)
    | 0x00A =>
      let h : Handle := v.1.setWidth 16
      if isPend v.2 then .stall
      else if isPend h || isReserved h then .fault cIllegal 0#64
      else .go (((s.countReads [v.2]).onMe (fun x => { x with ambient := h })).tagOnly k 1)
    | _ => .fault cIllegal 0#64)

end Sys2Proof.Machine
end

