-- ==== Sys2Proof/Machine/Window.lean ====
section
/-! DEFINITION. Sys2Proof/Machine/Window.lean: context images (R109), the words of the event unit (R265), and the tenant control
window: queue control blocks, millrace timelines, the fault buffer and the debug windows (R320, R321, R347 to R349, R352, R353). -/

namespace Sys2Proof.Machine

/-- Eight bytes from smaller parts, `w` bits each, the first lowest. -/
def gather (w : Nat) : List Nat → Nat
  | [] => 0
  | x :: r => x + 2 ^ w * gather w r

/-- A history entry as its image byte (R109). -/
def histByte : Option RegRef → Nat
  | none => 0xFF
  | some (.s n) => n.toNat
  | some (.v n) => 0x80 + n.toNat

/-- An image byte as a history entry (R109, R349). -/
def byteHist (b : Nat) : Option RegRef :=
  if b = 0xFF then none else if 128 ≤ b then some (.v (BitVec.ofNat 5 b)) else some (.s (BitVec.ofNat 5 b))

/-- The doubleword at offset `o`, a multiple of 8, of the image of context `t` of core `k` (R109). -/
def State.imageWord (s : State) (k t o : Nat) : Nat :=
  let c := s.core k
  let x := c.ctx t
  let holder := t == 0 && k % 8 == 0
  if o = 0x000 then x.pc.toNat
  else if o = 0x008 then ctxStatus c x
  else if o = 0x010 then x.ambient.toNat
  else if o = 0x018 then x.fpctl.toNat
  else if o = 0x020 then x.sticky.toNat
  else if o = 0x028 then (if holder then x.srLink.toNat else 0)
  else if o = 0x030 then (if holder then x.srCause.toNat else 0)
  else if o = 0x038 then (if holder then s.srCount k else 0)
  else if o = 0x040 then x.jobLast
  else if o = 0x048 then gather 8 ((x.hist ++ x.shadow).map histByte)
  else if o < 0x080 then 0
  else if o < 0x180 then (vget x.sv ((o - 0x080) / 8) 0#64).toNat
  else if o < 0x1C0 then gather 16 ((List.range 4).map (fun i => (vget x.sl ((o - 0x180) / 2 + i) 0#16).toNat))
  else if o < 0x9C0 then
    let v := vget x.vr ((o - 0x1C0) / 64) VReg.zero
    gather 32 ((List.range 2).map (fun i => (vget v.lanes ((o - 0x1C0) % 64 / 4 + i) 0#32).toNat))
  else if o < 0xDC0 then
    let v := vget x.vr ((o - 0x9C0) / 32) VReg.zero
    gather 16 ((List.range 4).map (fun i => (vget v.labels ((o - 0x9C0) % 32 / 2 + i) 0#16).toNat))
  else if o < 0xEC0 then gather 16 ((vget x.vr ((o - 0xDC0) / 8) VReg.zero).side.toList.map (·.toNat))
  else 0

/-- A handle written into an image: PEND and reserved handles resume as VOID.POISON (R349). -/
def imageHandle (v : Nat) : Handle :=
  let h := BitVec.ofNat 16 v
  if isPend h || isReserved h then hPoison else h

/-- Does a store to bytes `b` to `b + n - 1` of a doubleword write its 16-bit handle `i`? -/
def storesHandle (b n i : Nat) : Bool := decide (b < 2 * i + 2) && decide (2 * i < b + n)

/-- A handle of a doubleword `v` after a store to bytes `b` to `b + n - 1` of it: one that the store did not write stays (R349). -/
def storedHandle (old : Handle) (v b n i : Nat) : Handle :=
  if storesHandle b n i then imageHandle (bits v (16 * i + 15) (16 * i)) else old

/-- A context with a doubleword of its image written, by a store to its bytes `b` to `b + n - 1`; of CTX_STATUS only AP and WEIRN, unless
the whole image is restored (R109, R349). -/
def Ctx.setImage (x : Ctx) (o v b n : Nat) (whole : Bool) : Ctx :=
  if o = 0x000 then { x with pc := BitVec.ofNat 64 v }
  else if o = 0x008 then
    let y := { x with ap := bitAt v 19, weirN := BitVec.ofNat 4 (bits v 23 20) }
    if whole then { y with era := BitVec.ofNat 4 (bits v 31 28), sr := bitAt v 16, live := bitAt v 15 } else y
  else if o = 0x010 then { x with ambient := storedHandle x.ambient v b n 0 }
  else if o = 0x018 then { x with fpctl := fpctlWrite (BitVec.ofNat 64 v) }
  else if o = 0x020 then { x with sticky := BitVec.ofNat 64 v &&& 0x1F3F#64 }
  else if o = 0x028 then { x with srLink := BitVec.ofNat 64 v }
  else if o = 0x030 then { x with srCause := BitVec.ofNat 64 v &&& 0xFFFFFFFF00000713#64 }
  else if o = 0x038 then { x with savAmb := storedHandle x.savAmb v b n 3, srIssued := bits v 12 0 }
  else if o = 0x040 then { x with jobLast := v }
  else if o = 0x048 then
    { x with hist := [byteHist (bits v 7 0), byteHist (bits v 15 8), byteHist (bits v 23 16)],
             shadow := [byteHist (bits v 31 24), byteHist (bits v 39 32), byteHist (bits v 47 40)] }
  else if o < 0x080 then x
  else if o < 0x180 then (if o = 0x080 then x else { x with sv := vset x.sv ((o - 0x080) / 8) (BitVec.ofNat 64 v) })
  else if o < 0x1C0 then
    { x with sl := (List.range 4).foldl (fun l i =>
        let j := (o - 0x180) / 2 + i
        if j = 0 then l else vset l j (storedHandle (vget l j 0#16) v b n i)) x.sl }
  else if o < 0x9C0 then
    let r := (o - 0x1C0) / 64
    let q := vget x.vr r VReg.zero
    { x with vr := vset x.vr r { q with lanes := (List.range 2).foldl (fun l i =>
        vset l ((o - 0x1C0) % 64 / 4 + i) (BitVec.ofNat 32 (bits v (32 * i + 31) (32 * i)))) q.lanes } }
  else if o < 0xDC0 then
    let r := (o - 0x9C0) / 32
    let q := vget x.vr r VReg.zero
    { x with vr := vset x.vr r { q with labels := (List.range 4).foldl (fun l i =>
        let j := (o - 0x9C0) % 32 / 2 + i
        vset l j (storedHandle (vget l j 0#16) v b n i)) q.labels } }
  else if o < 0xEC0 then
    let r := (o - 0xDC0) / 8
    let q := vget x.vr r VReg.zero
    { x with vr := vset x.vr r { q with side := (List.range 4).foldl (fun l i =>
        vset l i (BitVec.ofNat 16 (bits v (16 * i + 15) (16 * i)))) q.side } }
  else x

/-- A doubleword of an event unit (R265). -/
def Cluster.eventWord (c : Cluster) (o : Nat) : Nat :=
  if o < 0x100 then (vget c.lines (o / 8) default).count
  else if 0x400 ≤ o ∧ o < 0x420 then
    let b := vget c.barriers ((o - 0x400) / 8) default
    b.waiting.length * 256 + b.target
  else if 0x600 ≤ o ∧ o < 0x640 then
    match (vget c.mutexes ((o - 0x600) / 8) default).owner with
    | none => 0
    | some (k, t) => 0x8000 + (k % 8 * 11 + t) * 256
  else 0

/-- A doubleword of a queue control block (R321). -/
def Queue.word (q : Queue) (n : Nat) : Nat :=
  match n with
  | 0 => q.base.toNat
  | 1 => q.cfg.toNat
  | 2 => q.head.toNat
  | 3 => q.tail.toNat
  | 4 => q.skips.toNat
  | _ => 0

/-- A queue of a tenant. -/
def Tenant.queue (t : Tenant) (q : Nat) : Queue := t.queues.get q Queue.zero

/-- A tenant with a queue changed. -/
def Tenant.onQueue (t : Tenant) (q : Nat) (f : Queue → Queue) : Tenant := { t with queues := t.queues.put q (f (t.queue q)) }

/-- A doubleword of a fault record (R353). -/
def FRec.word (r : FRec) (n : Nat) : Nat :=
  match n with
  | 0 => r.va.toNat
  | 1 => r.info.toNat
  | 2 => r.gen.toNat
  | _ => r.launch.toNat

/-- Is a core owned by a tenant's launch (R348)? -/
def State.ownedBy (s : State) (k t : Nat) : Bool :=
  match s.launchOf k with
  | none => false
  | some l => l.tenant == t

/-- DBG_STATE (R348). -/
def State.dbgState (s : State) (k t : Nat) : Nat :=
  let c := s.core k
  (if c.frozen then 2 ^ 63 else 0) + (if s.ownedBy k t then 2 ^ 62 else 0) + c.dbgCtx * 256 + c.dbgCause

/-- Accumulator column `j` of core `k` within its cluster's banks (R124). -/
def State.accWord (s : State) (k b i j : Nat) : LWord := (s.cluster (k / 8)).acc b i (4 * (k % 8) + j)

/-- A doubleword of a debug window (R347, R349). -/
def State.debugWord (s : State) (t k o : Nat) : Nat :=
  if o = 0 then s.dbgState k t
  else if !((s.core k).frozen && s.ownedBy k t) then 0
  else if 0x1000 ≤ o ∧ o < 0xC000 then (if o % 0x1000 < 0xEC0 then s.imageWord k (o / 0x1000 - 1) (o % 0x1000) else 0)
  else if 0xC000 ≤ o ∧ o < 0xC800 then
    let p := o - 0xC000
    gather 32 ((List.range 2).map (fun n => (s.accWord k (p / 0x200) (p % 0x200 / 16) (p % 16 / 4 + n)).1.toNat))
  else if 0xC800 ≤ o ∧ o < 0xCC00 then
    let p := o - 0xC800
    gather 16 ((List.range 4).map (fun n => (s.accWord k (p / 0x100) (p % 0x100 / 8) n).2.toNat))
  else if 0x10000 ≤ o ∧ o < 0x16000 then leNat (Sparse.bytes (s.core k).lmem (o - 0x10000) 8)
  else if 0x18000 ≤ o ∧ o < 0x1B000 then
    gather 16 ((List.range 4).map (fun n => ((s.core k).lplane.get ((o - 0x18000) / 2 + n)).toNat))
  else 0

/-- A store to bytes `b` to `b + m - 1` of a doubleword, which becomes `v`, of a debug window of a frozen, owned core (R349). -/
def State.debugPut (s : State) (t k o v b m : Nat) : State :=
  if !((s.core k).frozen && s.ownedBy k t) then s
  else if 0x1000 ≤ o ∧ o < 0xC000 then
    if (s.ctxAt k (o / 0x1000 - 1)).live then s.onCtx k (o / 0x1000 - 1) (fun x => x.setImage (o % 0x1000) v b m false) else s
  else if 0xC000 ≤ o ∧ o < 0xC800 then
    let p := o - 0xC000
    s.onCluster (k / 8) (fun c => (List.range 2).foldl (fun c n =>
      let j := 4 * (k % 8) + p % 16 / 4 + n
      c.setAcc (p / 0x200) (p % 0x200 / 16) j (BitVec.ofNat 32 (bits v (32 * n + 31) (32 * n)))
        (c.acc (p / 0x200) (p % 0x200 / 16) j).2) c)
  else if 0xC800 ≤ o ∧ o < 0xCC00 then
    let p := o - 0xC800
    s.onCluster (k / 8) (fun c => (List.range 4).foldl (fun c n =>
      let j := 4 * (k % 8) + n
      c.setAcc (p / 0x100) (p % 0x100 / 8) j (c.acc (p / 0x100) (p % 0x100 / 8) j).1
        (storedHandle (c.acc (p / 0x100) (p % 0x100 / 8) j).2 v b m n)) c)
  else if 0x10000 ≤ o ∧ o < 0x16000 then s.onCore k (fun c => { c with lmem := Sparse.putBytes c.lmem (o - 0x10000) (leBytes 8 v) })
  else if 0x18000 ≤ o ∧ o < 0x1B000 then
    s.onCore k (fun c => { c with lplane := (List.range 4).foldl (fun l n =>
      Sparse.put l ((o - 0x18000) / 2 + n) (storedHandle (Sparse.get l ((o - 0x18000) / 2 + n)) v b m n)) c.lplane })
  else s

/-- A doubleword of tenant `t`'s control window at offset `o` within it (R320, R352). -/
def State.controlWord (s : State) (t o : Nat) : Nat :=
  let x := s.tenant t
  if o < 0x1000 then (x.queue (o / 64)).word (o % 64 / 8)
  else if 0x1000 ≤ o ∧ o < 0x1200 then x.mill.get ((o - 0x1000) / 8) 0
  else if 0x10000 ≤ o ∧ o < 0x20000 then
    let p := o - 0x10000
    if p = 0 then x.gen
    else if p = 8 then x.fbHead
    else if p = 0x10 then x.fbTail
    else if p = 0x20 then (if x.fbOvf then 1 else 0)
    else if p = 0x28 then x.ansPage.toNat
    else if p < 0x400 then 0
    else (x.ring.get ((p - 0x400) / 32) default).word (p % 32 / 8)
  else if 0x10000000000 ≤ o then s.debugWord t ((o - 0x10000000000) / 0x20000) (o % 0x20000)
  else 0

/-- A store to bytes `b` to `b + m - 1` of a doubleword, which becomes `v`, of the control window: the words that act are steps of their
own (R320, R321, R352, R356). -/
def State.controlPut (s : State) (t o v b m : Nat) : State :=
  if o < 0x1000 then
    let q := o / 64
    match o % 64 / 8 with
    | 0 => s.onTenant t (fun x => x.onQueue q (fun y => { y with base := BitVec.ofNat 64 v }))
    | 1 => s.plan 0 0 (.queueCfgWrite t q (BitVec.ofNat 64 v)) { a := 1 }
    | 3 => s.plan 0 0 (.queueDoorbell t q (BitVec.ofNat 64 v)) { a := 1 }
    | _ => s
  else if 0x10000 ≤ o ∧ o < 0x20000 then
    let p := o - 0x10000
    if p = 8 then s.plan 0 0 (.faultBufferHeadWrite t (BitVec.ofNat 64 v)) {}
    else if p = 0x18 then s.plan 0 0 .faultBufferFlush { a := t }
    else if p = 0x20 then s.onTenant t (fun x => { x with fbOvf := x.fbOvf && (b != 0 || v % 2 == 0) })
    else if p = 0x28 then s.onTenant t (fun x => { x with ansPage := BitVec.ofNat 64 (bits v 55 16 * 65536) })
    else if p = 0x30 then s.plan 0 0 (.failureAnswer t (BitVec.ofNat 64 v) false) {}
    else s
  else if 0x10000000000 ≤ o then s.debugPut t ((o - 0x10000000000) / 0x20000) (o % 0x20000) v b m
  else s

/-- `n` bytes at byte `o` of a doubleword replaced. -/
def mergeDword (w o n v : Nat) : Nat :=
  w % 2 ^ (8 * o) + v % 2 ^ (8 * n) * 2 ^ (8 * o) + w / 2 ^ (8 * (o + n)) * 2 ^ (8 * (o + n))

end Sys2Proof.Machine
end

