-- ==== Sys2Proof/Machine/Memory.lean ====
section
/-! DEFINITION. Sys2Proof/Machine/Memory.lean: the scalar memory instructions (R189 to R200). What happens at an access's home is
the step HOME_ACCESS (EventsMem.lean); an access to cluster memory is performed at the end of its issue cycle (R45; entry 22). -/

namespace Sys2Proof.Machine

/-- The address s[A] + offset, modulo 2^64, and whether its label reads as VOID.POISON (R86, R190). -/
def State.address (s : State) (a : BitVec 5) (off : Dword) : Nat × Bool :=
  let x := s.srcS a
  ((x.1 + off).toNat, s.check s.curCore s.curCtx x.2 = hPoison)

/-- Bytes of a width code (R134). -/
def widthOf (w : BitVec 2) : Nat := 2 ^ w.toNat

/-- Is an earlier load of core `k` to a line still on its way? A later one then follows it to the home, so that the two never return
values in reverse coherence order (R300). -/
def State.loadAhead (s : State) (k va : Nat) : Bool := s.reqs.any (fun q => q.core == k && q.op == .load && q.va / 64 == va / 64)

/-- The two words of a load from a copy, with its core's buffered stores merged over them (R42, R44). -/
def State.copyWords (s : State) (k : Nat) (q : Copy) (va : Nat) : (Word × List Handle) × (Word × List Handle) :=
  (s.mergeStores k va s.nextId (s.copyWord k q va), s.mergeStores k (va + 4) s.nextId (s.copyWord k q (va + 4)))

/-- The near-cache copy that serves a load by core `k` at its issue: none where an earlier load of the line is on its way, and none while
a forwarded label is pending; such a load goes to its home (R42, R44, R300). -/
def State.servingCopy (s : State) (k va : Nat) : Option Copy :=
  if s.loadAhead k va then none
  else match s.nearCopy k (va / 64) with
  | none => none
  | some q =>
    let w := s.copyWords k q va
    if (w.1.2 ++ w.2.2).any isPend then none else some q

/-- The Minimum latency of a load by place (R15, R17, R265); the control window has the slice's own (entry 23). -/
def State.loadLatency (s : State) (k va : Nat) : Nat :=
  match placeOf k va with
  | .own _ => 2
  | .bank _ _ => 4
  | .event q _ => if q = k / 8 then 4 else 4 + pathCost (coreX k) (coreY k) (q % 256) (q / 256)
  | .global => if (s.servingCopy k va).isSome then 9 else 16 + homePath k va
  | _ => 16

/-- The words that an access of up to 8 bytes in cluster memory reads, low and high (R45). -/
def State.localPair (s : State) (bank off : Nat) : LWord × LWord :=
  (s.lword bank (off / 4 * 4), s.lword bank (off / 4 * 4 + 4))

/-- Does a store of the core to a line of a window still wait to be performed? A load of that line then follows it. -/
def State.windowHeld (s : State) (r : Req) : Bool := s.reqs.any (fun q => q.core == r.core && q.isStore && q.va / 64 == r.va / 64)

/-- A word of an event unit or of the control window read. -/
def State.windowLoad (s : State) (r : Req) (n : Nat) : State :=
  match placeOf r.core r.va with
  | .event q o => s.deliver r ((s.cluster q).eventWord (o / 8 * 8) / 2 ^ (8 * (o % 8))) [] n
  | .control o => s.deliver r (s.controlWord (s.tenantOf r.core) (o % 0x80000000000 / 8 * 8) / 2 ^ (8 * (o % 8))) [] n
  | _ => s

/-- The port of an access to a bank of cluster memory: the owner's, or the shared one (R45). -/
def portOf (k bank : Nat) : Nat := if k = bank then 0 else 2

/-- A load starts: words of the core's own bank, the own event unit, the control window or a near-cache copy are read now, after the
core's own stores to them; one of another bank waits for that bank's shared port; any other goes to its home or to the other cluster's
event unit, and reads there when it arrives (R42, R44, R45, R368). A word of a small gather whose line has a copy that the load must use
is read from that copy, not at the home in the gather's cycle: R38 assembles a gather at the home, and R42 gives every load from a cached
line its copy (DESIGN CHOICE; entry 103). -/
def State.startLoad (s : State) (r : Req) (n : Nat) : State :=
  let k := r.core
  match placeOf k r.va with
  | .own o =>
    let p := s.localPair k o
    let v := pickBytes o r.width p.1 p.2
    s.deliver r v.1 v.2 n
  | .bank b o =>
    if b = k then
      let p := s.localPair b o
      let v := pickBytes o r.width p.1 p.2
      s.deliver r v.1 v.2 (n + s.freeN 1 % 4)
    else { s.bump with late := s.late ++ [(portOf k b, r)] }
  | .event q _ =>
    if q != k / 8 then s.send r (1 + pathCost (coreX k) (coreY k) (q % 256) (q / 256))
    else if s.windowHeld r then s.send r n else s.windowLoad r n
  | .control _ => if s.windowHeld r then s.send r n else s.windowLoad r n
  | .global =>
    match s.servingCopy k r.va with
    | some q =>
      let w := s.copyWords k q r.va
      (s.markRead k q).deliverWords r w.1 w.2 q.corrupt (n + s.freeN 1 % 4)
    | none => s.send r (homePath k r.va)
  | _ => s

/-- The label of a local load: the stored one after Check; a 64-bit load combines its two words' (R88, R105). -/
def State.loadLabel (s : State) (hs : List Handle) : Option (State × Handle) :=
  let i := plainIn hs
  match hs with
  | [h] => some (s.countVoids [i], s.check s.curCore s.curCtx h)
  | _ => (s.countVoids [i]).formOne (s.checkedIn i [])

/-- LD and LDACQ (R191). -/
def loadScalar (i : Instr) (s : State) (k : Ctl) (d a : BitVec 5) (off : BitVec 14) (w : BitVec 2) (z lc : BitVec 1) (acq : Bool) :
    Host.Outcome State Fault Refusal :=
  issue i s (fun s =>
    let (va, poison) := s.address a (off.signExtend 64)
    let width := widthOf w
    match s.checkAccess .load va width (lc == 1#1) poison with
    | some e => e
    | none =>
      let s := s.countReads [(s.srcS a).2]
      if (localOf s.curCore va).isSome && s.localHeld s.curCore then .stall
      else if lc == 1#1 then
        match localOf s.curCore va with
        | none => .stall
        | some (b, o) =>
          let p := s.localPair b o
          let v := pickBytes o width p.1 p.2
          match s.loadLabel v.2 with
          | none => .stall
          | some (s1, h) => .go (s1.produceIn (tagOf k) 2 2 [.s d (extendLoad width (z == 1#1) v.1) h] 0 acq [.s d])
      else
        let n := s.loadLatency s.curCore va
        let s1 := s.await (tagOf k) n 1 [] none acq [.s d]
        let r := { s1.mkReq .load va width with dst := .s d (z == 1#1), seq := s.nextId }
        .go (s1.startLoad r n))

/-- LD (R191). -/
def execLd (k : Ctl) (d a : BitVec 5) (off : BitVec 14) (w : BitVec 2) (z lc : BitVec 1) (s : State) :
    Host.Outcome State Fault Refusal := loadScalar (.ld k d a off w z lc) s k d a off w z lc false
/-- LDACQ: an acquire when its tag frees (R191). -/
def execLdacq (k : Ctl) (d a : BitVec 5) (off : BitVec 14) (w : BitVec 2) (z lc : BitVec 1) (s : State) :
    Host.Outcome State Fault Refusal := loadScalar (.ldacq k d a off w z lc) s k d a off w z lc true

/-- A store enters the machine: cluster memory at the end of this cycle; a STREL, a label-pending one, one behind such an access of the
core, and every global one, waits as a request (R44, R45, R191, R222, R303). -/
def State.putStore (s : State) (r : Req) : State :=
  let k := r.core
  match localOf k r.va with
  | some (b, _) =>
    if isPend r.lblNow || r.more.any isPend || r.op == .strel || s.reqs.any (fun q => q.core == k && (localOf k q.va).isSome) then s.send r 1
    else { s.bump with late := s.late ++ [(portOf k b, r)] }
  | none =>
    let s1 := if isGlobal r.va then s.markWrite k (r.va / 64) else s
    s1.send r (if isGlobal r.va then s.storeDelay k r.va
      else match placeOf k r.va with
        | .event q _ => if q = k / 8 then 1 else 1 + pathCost (coreX k) (coreY k) (q % 256) (q / 256)
        | _ => 1)

/-- ST and STREL (R191). -/
def storeScalar (i : Instr) (s : State) (a b : BitVec 5) (off : BitVec 14) (w : BitVec 2) (lc : BitVec 1) (rel : Bool) :
    Host.Outcome State Fault Refusal :=
  issue i s (fun s =>
    let (va, poison) := s.address a (off.signExtend 64)
    let v := s.srcS b
    match s.checkAccess .store va (widthOf w) (lc == 1#1) poison with
    | some e => e
    | none =>
      if (localOf s.curCore va).isSome && s.localHeld s.curCore then .stall
      else if isGlobal va && s.bufferFull s.curCore [va / 64] then .stall
      else match (s.countReads [(s.srcS a).2]).formWith [v.2] with
      | none => .stall
      | some (s1, h) =>
        let s2 := if rel then s1.release else s1
        .go (s2.putStore { s2.mkReq (if rel then .strel else .store) va (widthOf w) with data := v.1, lbl := h }))

/-- ST (R191). -/
def execSt (k : Ctl) (a b : BitVec 5) (off : BitVec 14) (w : BitVec 2) (lc : BitVec 1) (s : State) :
    Host.Outcome State Fault Refusal := storeScalar (.st k a b off w lc) s a b off w lc false
/-- STREL: a release point (R191). -/
def execStrel (k : Ctl) (a b : BitVec 5) (off : BitVec 14) (w : BitVec 2) (lc : BitVec 1) (s : State) :
    Host.Outcome State Fault Refusal := storeScalar (.strel k a b off w lc) s a b off w lc true

/-- The new value of an atomic operation on `width` bytes (R192); FP flags of `fadd`. -/
def amoValue (op width : Nat) (old v : Nat) : Nat × Nat :=
  let m := 2 ^ (8 * width)
  let sg : Nat → Int := fun x => if bitAt x (8 * width - 1) then (x : Int) - (m : Nat) else (x : Int)
  match op with
  | 0 => ((old + v) % m, 0)
  | 1 => (old &&& v, 0)
  | 2 => (old ||| v, 0)
  | 3 => (old ^^^ v, 0)
  | 4 => (if sg v < sg old then v else old, 0)
  | 5 => (if sg old < sg v then v else old, 0)
  | 6 => (min old v, 0)
  | 7 => (max old v, 0)
  | 8 => (v, 0)
  | _ => fAdd 0 old v

/-- The Minimum latency of an atomic: a global one is performed at its home slice, whatever copies the near cache holds (R15, R17,
R193). -/
def State.atomicLatency (s : State) (k va : Nat) : Nat := if isGlobal va then 16 + homePath k va else s.loadLatency k va

/-- An atomic access: checked, and sent to its home or bank (R193). -/
def State.startAtomic (s : State) (k : Ctl) (d : BitVec 5) (acc : Acc) (op : ReqOp) (va width : Nat) (poison : Bool)
    (data cmp : Dword) (base : Handle) (hs : List Handle) : Eff :=
  match s.checkAccess acc va width false poison with
  | some e => e
  | none =>
    if (localOf s.curCore va).isSome && s.localHeld s.curCore then .stall
    else
      let s0 := s.countReads (base :: hs)
      let n := s.atomicLatency s.curCore va
      let s1 := s0.await (tagOf k) n 1 [] none false [.s d]
      let ls := hs.map (s.check s.curCore s.curCtx) ++ [s.ambientNow]
      let r := { s1.mkReq op va width with data := data, cmp := cmp, more := ls, dst := .s d false, seq := s.nextId }
      match localOf s.curCore va with
      | some (b, _) =>
        if ls.any isPend then .go (s1.send r 1) else .go { s1.bump with late := s1.late ++ [(portOf s.curCore b, r)] }
      | none => .go ((s1.markWrite s.curCore (va / 64)).send r (1 + homePath s.curCore va))

/-- AMO (R192, R193). -/
def execAmo (k : Ctl) (d a b : BitVec 5) (off : BitVec 12) (w : BitVec 2) (op : BitVec 4) (s : State) :
    Host.Outcome State Fault Refusal :=
  issue (.amo k d a b off w op) s (fun s =>
    let (va, poison) := s.address a (off.signExtend 64)
    let v := s.srcS b
    s.startAtomic k d .atomic (.amo op.toNat) va (widthOf w) poison v.1 0#64 (s.srcS a).2 [v.2])
/-- CAS (R194). -/
def execCas (k : Ctl) (d a b c : BitVec 5) (w : BitVec 2) (off : BitVec 32) (s : State) : Host.Outcome State Fault Refusal :=
  issue (.cas k d a b c w off) s (fun s =>
    let (va, poison) := s.address a (imm32 off)
    let v := s.srcS b
    let x := s.srcS c
    s.startAtomic k d .atomic .cas va (widthOf w) poison v.1 x.1 (s.srcS a).2 [v.2, x.2])
/-- RED: performed like a store before the next release point; the home forms Combine(old label, operand label, AMBIENT) as one combine
(R88, R193). -/
def execRed (k : Ctl) (a b : BitVec 5) (off : BitVec 12) (w : BitVec 2) (op : BitVec 4) (s : State) :
    Host.Outcome State Fault Refusal :=
  issue (.red k a b off w op) s (fun s =>
    let (va, poison) := s.address a (off.signExtend 64)
    let v := s.srcS b
    match s.checkAccess .red va (widthOf w) false poison with
    | some e => e
    | none =>
      if (localOf s.curCore va).isSome && s.localHeld s.curCore then .stall
      else if isGlobal va && s.bufferFull s.curCore [va / 64] then .stall
      else
        let s1 := s.countReads [(s.srcS a).2, v.2]
        .go (s1.putStore { s1.mkReq (.red op.toNat) va (widthOf w) with
          data := v.1, more := [s.check s.curCore s.curCtx v.2, s.ambientNow] }))

/-- The identity of a commutative operation (R39). -/
def copIdentity (cop : Nat) : Word :=
  match cop with
  | 0 => 0x80000000#32
  | 1 => 0#32
  | 2 => 0x80000000#32
  | _ => 0x7FFFFFFF#32

/-- A commutative combination of two elements, with the FP flags of an addition (R39, R58). -/
def copCombine (cop : Nat) (a b : Word) : Word × Nat :=
  match cop with
  | 0 => (BitVec.ofNat 32 (fAdd 0 a.toNat b.toNat).1, (fAdd 0 a.toNat b.toNat).2)
  | 1 => (a + b, 0)
  | 2 => (if a.slt b then b else a, 0)
  | _ => (if b.slt a then b else a, 0)

/-- Partial lines in a cluster's near cache (R40). -/
def State.partialCount (s : State) (q : Nat) : Nat :=
  ((List.range 8).map (fun c => (s.core (q * 8 + c)).partials.length)).foldl (· + ·) 0

/-- The core of a cluster with the oldest partial line (R40). -/
def State.oldestPartial (s : State) (q : Nat) : Option (Nat × Partial) :=
  ((List.range 8).flatMap (fun c => (s.core (q * 8 + c)).partials.map (fun p => (q * 8 + c, p)))).foldl
    (fun acc x => match acc with | none => some x | some y => if x.2.age < y.2.age then some x else some y) none

/-- One partial line of a core sent to its home by the instruction that the issuing context executes: a fault of it is reported with
that instruction's PC, context and core (R40, R200). -/
def State.sendOnePartial (s : State) (k : Nat) (p : Partial) : State :=
  let r : Req := { s.mkReq (.part p.cop) (p.line * 64) 64 with core := k, words := p.words, data := p.era.setWidth 64 }
  (s.onCore k (fun c => { c with partials := c.partials.filter (fun x => x.line != p.line) })).send r (1 + homePath k (p.line * 64))

/-- REDC: the element of the core's partial line combines with the operand, its handle with the operand's and AMBIENT; a 65th line
of the cluster sends the oldest first (R40, R195). Its addition sets the context's FP flags (R58; entry 84). -/
def execRedc (k : Ctl) (a b : BitVec 5) (off : BitVec 12) (s : State) : Host.Outcome State Fault Refusal :=
  issue (.redc k a b off) s (fun s =>
    let (va, poison) := s.address a (off.signExtend 64)
    let v := s.srcS b
    match s.checkAccess .redc va 4 false poison with
    | some e => e
    | none =>
      let cop := match s.here.range va with | none => 0#2 | some r => r.cop
      let fresh : Partial :=
        { era := s.eraNow s.curCore, line := va / 64, cop := cop, words := List.replicate 16 (copIdentity cop.toNat, hTrue), age := s.nextId, pc := s.me.pc,
          ctx := s.curCtx }
      let old := s.here.partials.find? (fun p => p.line == va / 64)
      let p := (old.getD fresh).inEra (s.eraNow s.curCore)
      let e := p.words.getD (va / 4 % 16) (0#32, hTrue)
      match (s.countReads [(s.srcS a).2]).formWith [e.2, v.2] with
      | none => .stall
      | some (s1, h) =>
        let s2 := if old.isNone && decide (64 ≤ s1.partialCount (s.curCore / 8)) then
            (match s1.oldestPartial (s.curCore / 8) with | none => s1 | some (c, q) => s1.sendOnePartial c q)
          else s1
        let r := copCombine cop.toNat e.1 (v.1.setWidth 32)
        let p' : Partial := { p with words := p.words.set (va / 4 % 16) (r.1, s2.storeHandle s.curCore s.curCtx h) }
        .go ((s2.bump.onHere (fun c =>
          { c with partials := if old.isSome then c.partials.map (fun x => if x.line = va / 64 then p' else x) else c.partials ++ [p'] })).onMe
          (fun x => { x with sticky := x.sticky ||| BitVec.ofNat 64 r.2 })))

/-- FENCE: the context is not ready until the core's earlier stores and REDs are performed at SCOPE (R196). -/
def execFence (k : Ctl) (scope : BitVec 3) (s : State) : Host.Outcome State Fault Refusal :=
  issue (.fence k scope) s (fun s =>
    .go (s.onMe (fun x => { x with wait := .fence s.nextId scope.toNat })))

/-- PREF: the line is brought into the home slice and the near cache; where a check fails, or its home finds the page not resident, it
does nothing (R197). -/
def execPref (k : Ctl) (a : BitVec 5) (off : BitVec 14) (s : State) : Host.Outcome State Fault Refusal :=
  issue (.pref k a off) s (fun s =>
    let (va, poison) := s.address a (off.signExtend 64)
    match s.checkAccess .load va 1 false poison with
    | some _ => .go (s.countReads [(s.srcS a).2])
    | none =>
      let s := s.countReads [(s.srcS a).2]
      if isGlobal va then .go (s.send (s.mkReq .pref (va / 64 * 64) 64) (homePath s.curCore va))
      else .go s)

/-- Lines of a range that some slice or near-cache copy holds: absent lines need no work (R198). -/
def State.heldLines (s : State) (q base len : Nat) : List Nat :=
  let inR : Nat → Bool := fun l => len != 0 && decide (base / 64 ≤ l) && decide (l ≤ (base + len - 1) / 64)
  ((s.lines.filter (fun l => inR l.line)).map (·.line) ++ ((s.cluster q).near.filter (fun c => inR c.line)).map (·.line)).eraseDups

/-- Is every page of a range within ranges with R (R198)? -/
def Core.rangeReads (c : Core) (base len : Nat) : Nat → Bool
  | 0 => true
  | n + 1 =>
    match c.range ((base / 65536 + n) * 65536) with
    | none => false
    | some r => r.r && c.rangeReads base len n

/-- The checks of a line-maintenance range in the order of R198 and R190: more than 2^32 bytes, poison, a range in local or cluster
memory, phase, lease, rights. With s[B] = 0, which acts on no line, the manual does not say which checks apply: the model makes that of
s[A]'s label and no other (DESIGN CHOICE; entry 104). -/
def State.checkRange (s : State) (base len : Nat) (poison : Bool) : Option Eff :=
  let k := s.curCore
  let bad (cause : Nat) : Option Eff := some (.fault cause (BitVec.ofNat 64 base))
  if 2 ^ 32 < len then bad cIllegal
  else if poison then bad cPoison
  else if len = 0 then none
  else
    let pages := (base + len - 1) / 65536 - base / 65536 + 1
    let last := base + len - 1
    if (localOf k base).isSome then bad cRights
    else if s.phased k && !s.here.pk then bad cPhase
    else match placeOf k base, placeOf k last with
    | .global, .global =>
      if ((List.range pages).any (fun i => (s.here.range ((base / 65536 + i) * 65536)).isNone)) then some (.lease (BitVec.ofNat 64 base))
      else if s.here.rangeReads base len pages then none else bad cRights
    | .outside, _ => some (.lease (BitVec.ofNat 64 base))
    | .global, .outside => some (.lease (BitVec.ofNat 64 last))
    | _, _ => bad cRights

/-- A snapshot refresh: an acquire at CLUSTER scope that counts a NEAR_MISS (R43). -/
def State.refresh (s : State) (k : Nat) : State := (s.acquire k).onCore k (fun c => c.count 10 1)

/-- Every near-cache copy of a line removed from a cluster; its readers take a snapshot refresh (R43, R198). -/
def State.dropCopies (s : State) (q line : Nat) : State :=
  let rd : BitVec 8 := ((s.cluster q).near.filter (fun c => c.line == line)).foldl (fun m c => m ||| c.readers) 0#8
  let s1 := s.onCluster q (fun c => { c with near := c.near.filter (fun x => x.line != line) })
  (List.range 8).foldl (fun s c => if rd.getLsbD c then s.refresh (q * 8 + c) else s) s1

/-- One line maintained: written back, dropped or both; RINV discards dirty contents only under W (R198). A line that its home has read for
a load or a PREF before RINV acts is no copy of the cluster yet: it is installed after it, with the cycle of that read as its stamp, and
only a core that has not acquired since may use it (R42; DEDUCED; entry 101). -/
def State.maintain (s : State) (k line : Nat) (kind : Nat) : State :=
  let w := match (s.core k).range (line * 64) with | none => false | some r => r.w
  let s1 := if kind = 1 && w then s else s.cleanLine line
  if kind = 0 then s1 else (s1.dropLine line).dropCopies (k / 8) line

/-- RWB (kind 0), RINV (kind 1), RFLUSH (kind 2) (R198): they wait for the core's buffered stores to the range, and the tag frees when
every line is done. -/
def maintainRange (i : Instr) (s : State) (k : Ctl) (a b : BitVec 5) (kind : Nat) : Host.Outcome State Fault Refusal :=
  issue i s (fun s =>
    let x := s.srcS a
    let y := s.srcS b
    let base := x.1.toNat
    let len := y.1.toNat
    match s.checkRange base len (s.check s.curCore s.curCtx x.2 = hPoison) with
    | some e => e
    | none =>
      if s.reqs.any (fun r => r.core == s.curCore && r.isStore && !r.away && decide (base < r.va + r.width) && decide (r.va < base + len)) then .stall
      else
        let s1 := (s.heldLines (s.curCore / 8) base len).foldl (fun s l => s.maintain s.curCore l kind) (s.countReads [x.2, y.2])
        let n := if len = 0 then 1 else 16 + homePath s.curCore base + s.freeN 1 % 64
        .go (s1.produceIn (tagOf k) n n [] 0 false []))

/-- RINV (R198). -/
def execRinv (k : Ctl) (a b : BitVec 5) (s : State) : Host.Outcome State Fault Refusal := maintainRange (.rinv k a b) s k a b 1
/-- RWB (R198). -/
def execRwb (k : Ctl) (a b : BitVec 5) (s : State) : Host.Outcome State Fault Refusal := maintainRange (.rwb k a b) s k a b 0
/-- RFLUSH (R198). -/
def execRflush (k : Ctl) (a b : BitVec 5) (s : State) : Host.Outcome State Fault Refusal := maintainRange (.rflush k a b) s k a b 2

/-- PUBLISH: a release; the counter at s[A] is incremented at its home once the earlier writes to its lease range are visible to the
host (R199). -/
def execPublish (k : Ctl) (d a : BitVec 5) (s : State) : Host.Outcome State Fault Refusal :=
  issue (.publish k d a) s (fun s =>
    let (va, poison) := s.address a 0#64
    match s.checkAccess .publish va 8 false poison with
    | some e => e
    | none =>
      let s0 := (s.countReads [(s.srcS a).2]).release.markWrite s.curCore (va / 64)
      let n := 16 + homePath s.curCore va
      let s1 := s0.await (tagOf k) n 1 [] none false [.s d]
      match s1.formWith [] with
      | none => .stall
      | some (s2, h) =>
        .go (s2.send { s2.mkReq .publish va 8 with dst := .s d true, seq := s0.nextId, more := [h] } n))

end Sys2Proof.Machine
end

