-- ==== Sys2Proof/Machine/Fetch.lean ====
section
/-! DEFINITION. Sys2Proof/Machine/Fetch.lean: instruction fetch (R117 to R119), when a context is ready and which context issues
(R110, R112, R114), and what a cycle's end does to waiting contexts. -/

namespace Sys2Proof.Machine

/-- The word that takes no issue cycle (R112, R117). -/
def padWord : Word := 0xFFFFFFFC#32

/-- A fetch block of a core's cluster (R117). -/
def State.block (s : State) (k n : Nat) : Option IBlock := (s.cluster (k / 8)).icache.find? (fun b => b.block == n)

/-- More PAD words than a full instruction cache holds, so that a run of them always ends at another word or an absent block (R117). -/
def padFuel : Nat := 8193

/-- The PC past PAD words, with its block; none where that block is absent (R112, R117). -/
def State.skipPad (s : State) (k pc : Nat) : Nat → Option IBlock × Nat
  | 0 => (none, pc)
  | n + 1 =>
    match s.block k (pc / 32) with
    | none => (none, pc)
    | some b => if b.words.getD (pc % 32 / 4) 0#32 = padWord then s.skipPad k (pc + 4) n else (some b, pc)

/-- The instruction that starts at a word of a block: one whose length runs past the block is no instruction (R117, R128). -/
def instrAt (b : IBlock) (i : Nat) : Instr :=
  let ws := b.words.drop i
  let n := lenBytes ((ws.headD 0#32).setWidth 128) / 4
  if n = 0 || decide (ws.length < n) then .unassignedEncoding (ofWords (ws.take 4)) else decodeWords ws

/-- Has a context a pending label anywhere (R285)? -/
def State.pendingLabels (s : State) (k t : Nat) : Bool :=
  let c := s.core k
  let x := c.ctx t
  (c.slots.toList.any (fun o => match o with | none => false | some y => y.ctx == t)) ||
  c.extra.any (fun p => p.2.ctx == t) || x.sl.toList.any isPend || isPend x.ambient ||
  x.vr.toList.any (fun v => v.labels.toList.any isPend) ||
  c.pend.any (fun p => p.ctx == t && p.writes.any (fun w => match w with | .s _ _ l => isPend l | .lane _ _ _ l => isPend l | _ => false)) ||
  s.reqs.any (fun r => r.core == k && r.ctx == t && (isPend r.lblNow || r.more.any isPend))

/-- Is a wait that no step ends over (R196, R285)? -/
def State.waitOver (s : State) (k t : Nat) (w : Wait) : Bool :=
  match w with
  | .none => true
  | .fence upto scope =>
    if scope = 0 then !s.outstandingLocal k upto
    else if scope < 4 then !s.outstanding k upto
    else !s.outstandingSys k upto
  | .lfence => !s.pendingLabels k t
  | _ => false

/-- The tags that an instruction waits for are free (R114). -/
def tagsFree (x : Ctx) (m : Meta) : Bool :=
  (x.tags.toNat / 2) &&& m.ctl.wait.toNat == 0 && (m.ctl.alloc == 0#3 || !x.tags.getLsbD m.ctl.alloc.toNat)

/-- What a context could do in this cycle (R110, R112). -/
inductive Status where
  | idle
  /-- the block that holds its next word, past PAD words, must be fetched -/
  | fetch (pc : Nat)
  /-- registers of its next instruction are absent -/
  | regs (rs : List RegRef)
  | ready (pc : Nat) (i : Instr)
deriving DecidableEq, Repr

/-- The status of context `t` of core `k` (R110, R112, R117, R118). -/
def State.status (s : State) (k t : Nat) : Status :=
  let c := s.core k
  let x := c.ctx t
  let running := match s.launchOf k with | none => false | some l => l.state == .bound && !l.stopped && !(l.holdings.getD c.holding default).departing
  if !x.live || x.ending || !running || c.frozen || x.gapUntil != 0 || x.stalled == s.now + 1 || !s.waitOver k t x.wait ||
      c.pend.any (fun p => p.ctx == t && p.lanes) then .idle
  else match s.skipPad k x.pc.toNat padFuel with
  | (none, pc) => .fetch pc
  | (some b, pc) =>
    let i := instrAt b (pc % 32 / 4)
    match i.info with
    | none => .ready pc i
    | some m =>
      if !tagsFree x m then .idle
      else match c.missing t (i.regsAt m k) with
      | [] => .ready pc i
      | rs => .regs rs

/-- Is a status ready to issue? -/
def Status.isReady : Status → Bool
  | .ready _ _ => true
  | _ => false

/-- The context that issues: one ready for 64 cycles, the longest first; else the last one unless it set Y; else round-robin (R112). -/
def State.pick (s : State) (k : Nat) : Option Nat :=
  let c := s.core k
  let rd := (List.range 11).filter (fun t => (s.status k t).isReady)
  let starved := rd.filter (fun t => decide (64 ≤ (c.ctx t).waited))
  match starved with
  | t :: ts => some (ts.foldl (fun b u => if (c.ctx b).waited < (c.ctx u).waited then u else b) t)
  | [] =>
    if !c.yielded && rd.contains c.lastCtx then some c.lastCtx
    else (List.range 11).map (fun i => (c.lastCtx + 1 + i) % 11) |>.find? (fun t => rd.contains t)

/-- What the issue phase has to do next. -/
inductive Task where
  | fetch (k t pc : Nat)
  | regs (k t : Nat) (rs : List RegRef)
  | issue (k t pc : Nat) (i : Instr)
deriving DecidableEq, Repr

/-- The next task of one core in this cycle. -/
def State.coreTask (s : State) (k : Nat) : Option Task :=
  let c := s.core k
  let miss := (List.range 11).findSome? (fun t =>
    match s.status k t with
    | .fetch b => some (Task.fetch k t b)
    | .regs rs => some (Task.regs k t rs)
    | _ => none)
  match miss with
  | some x => some x
  | none =>
    if c.issuedAt = s.now + 1 then none
    else match s.pick k with
    | none => none
    | some t =>
      match s.status k t with
      | .ready pc i => some (.issue k t pc i)
      | _ => none

/-- The next task of the module's cores, in ascending order (R112; entry 1). -/
def State.nextTask (s : State) : Option Task := s.cores.findSome? (fun p => s.coreTask p.1)

/-- A fetch begins: the context, its PC past the PAD words it has fetched (R112, R117), is not ready until the fill. A block of a range
without X, or of no range, is not read (R118, R120). -/
def State.startFetch (s : State) (k t pc : Nat) : State :=
  let block := pc / 32
  let s1 := s.onCtx k t (fun x => { x with wait := .fetch, pc := BitVec.ofNat 64 pc })
  if isGlobal (block * 32) && ((s.core k).range (block * 32)).any (fun p => p.x) then
    let r : Req :=
      { s1.mkReq .fetch (block * 32) 32 with core := k, ctx := t, launch := ((s.core k).launch).getD 0, pc := BitVec.ofNat 64 pc }
    s1.send r (8 + homePath k (block * 32) + s.freeN 2 % 16)
  else s1.bump.plan 16 0 .icacheFill { a := k, b := block, c := s.nextId }

/-- The least latency of a register line's fetch: its words come through the near cache or from their home slice (R15, R110). -/
def State.regLatency (s : State) (k t : Nat) (r : RegRef) : Nat :=
  match s.launchOf k with
  | none => 16
  | some l => ((regOffsets r).map (fun o => s.loadLatency k (l.imageAddr (s.core k).holding (k % 8) t + o))).foldl max 9

/-- Register lines are fetched from the context's image; each counts a REG_MISS (R110). -/
def State.startRegs (s : State) (k t : Nat) (rs : List RegRef) : State :=
  let s1 := (s.onCtx k t (fun x => { x with wait := .regMiss })).onCore k (fun c => c.count 9 rs.length)
  rs.foldl (fun s r => s.plan (s.regLatency k t r + s.freeN 2 % 16) 0 (.registerCacheFill k t r) {}) s1

/-- Does a context's surrender routine exceed its bound with its next instruction (R290)? -/
def State.overBound (s : State) (k t : Nat) : Bool :=
  let x := s.ctxAt k t
  x.sr && (match s.launchOf k with
    | none => false
    | some l => decide ((l.holdings.getD (s.core k).holding default).bound ≤ x.srIssued))

/-- The issuing context named, its PC past PAD words, a wait that is over ended. -/
def State.toIssue (s : State) (k t pc : Nat) : State :=
  let s1 := { s with curCore := k, curCtx := t }
  s1.onCtx k t (fun x => { x with pc := BitVec.ofNat 64 pc, wait := .none })

/-! ## The end of a cycle -/

/-- A word of cluster memory written with its handle (R46). -/
def State.putLword (s : State) (bank off : Nat) (w : Word) (h : Handle) : State :=
  s.onCore bank (fun c =>
    { c with lmem := Sparse.putBytes c.lmem (off / 4 * 4) (leBytes 4 w.toNat), lplane := Sparse.put c.lplane (off / 4) h })

/-- A narrow or word store into cluster memory: a narrow one combines its label with the word's old handle as it is performed (R34, R191,
R312). -/
def State.bankStore (s : State) (r : Req) (bank off : Nat) : State :=
  if r.width < 4 then
    let old := s.lword bank off
    let (s1, h) := s.combineNow r.core r.ctx [old.2, r.lbl]
    s1.putLword bank off (mergeWord old.1 (off % 4) r.width r.data.toNat) h
  else
    let s1 := s.putLword bank off (BitVec.ofNat 32 r.data.toNat) r.lbl
    if r.width = 8 then s1.putLword bank (off + 4) (BitVec.ofNat 32 (r.data.toNat / 2 ^ 32)) r.lbl else s1

/-- The value of `width` bytes made of two words. -/
def pairValue (width : Nat) (lo hi : LWord) : Nat := if width = 8 then lo.1.toNat + hi.1.toNat * 2 ^ 32 else lo.1.toNat

/-- An atomic read and write in cluster memory (R193, R194): the old value and label return, the memory label combines. -/
def State.bankAtomic (s : State) (r : Req) (bank off : Nat) : State :=
  let lo := s.lword bank off
  let hi := s.lword bank (off + 4)
  let old := pairValue r.width lo hi
  let m := 2 ^ (8 * r.width)
  let res : Option (Nat × Nat) := match r.op with
    | .amo op => some (amoValue op r.width old (r.data.toNat % m))
    | .red op => some (amoValue op r.width old (r.data.toNat % m))
    | .cas => if old = r.cmp.toNat % m then some (r.data.toNat % m, 0) else none
    | _ => none
  let olds := if r.width = 8 then [lo.2, hi.2] else [lo.2]
  let s1 : State := match res with
    | none => s
    | some (v, _) =>
      let (sa, ha) := s.combineNow r.core r.ctx (lo.2 :: r.lbl :: r.more)
      let sb := sa.putLword bank off (BitVec.ofNat 32 v) ha
      if r.width = 8 then
        let (sc, hc) := sb.combineNow r.core r.ctx (hi.2 :: r.lbl :: r.more)
        sc.putLword bank (off + 4) (BitVec.ofNat 32 (v / 2 ^ 32)) hc
      else sb
  match r.op with
  | .red _ => s1
  | _ =>
    let fl := match res with | none => 0 | some (_, f) => f
    let s2 := s1.onPend r.core r.seq (fun p => { p with flags := p.flags ||| BitVec.ofNat 64 fl })
    s2.deliver r old olds 1

/-- Has the cluster of a bank left the launch of an access (R364)? -/
def State.bankLost (s : State) (r : Req) (b : Nat) : Bool := (s.core b).launch != some r.launch

/-- One access to cluster memory is performed: a load takes the handle that its bank holds with the value (R45, R46, R312). In a cluster
that has been scrubbed since, a read completes with value 0 and label VOID.LOST, and nothing is written (R364). -/
def State.performLocal (s : State) (r : Req) : State :=
  match localOf r.core r.va with
  | none => s
  | some (b, o) =>
    if s.bankLost r b then
      (match r.op with
       | .load | .amo _ | .cas => s.deliver r 0 [hLost] 1
       | _ => s)
    else match r.op with
    | .load =>
      let p := s.localPair b o
      let v := pickBytes o r.width p.1 p.2
      s.deliver r v.1 v.2 (s.freeN 1 % 4)
    | .store | .strel => s.bankStore r b o
    | .amo _ | .cas | .red _ => s.bankAtomic r b o
    | _ => s

/-- The sub-bank of an access to cluster memory, as bank * 8 + address[5:3] (R45). -/
def Req.subBank (r : Req) : Nat := match localOf r.core r.va with | none => 0 | some (b, o) => b * 8 + o / 8 % 8

/-- How far a core is from being next at a sub-bank, in round-robin order after the core granted last (R45). -/
def Req.turnsAway (turns : NMap Nat) (r : Req) : Nat := (r.core % 8 + 7 - turns.get r.subBank 7) % 8

/-- The accesses of cores that land in this cycle (R45): each core's in issue order, an owner port's always, and one at each sub-bank's
shared port, in round-robin. A core with one that is not granted lands none after it (R303). -/
def grants (turns : NMap Nat) : Nat → List Nat → List (List (Nat × Req)) → List (Nat × Req)
  | 0, _, _ => []
  | n + 1, used, qs =>
    let heads := qs.filterMap List.head?
    let wins : Nat × Req → Bool := fun x =>
      x.1 == 0 || (!used.contains x.2.subBank && heads.all (fun h =>
        h.1 == 0 || h.2.subBank != x.2.subBank || decide (x.2.turnsAway turns ≤ h.2.turnsAway turns)))
    let won := heads.filter wins
    if won.isEmpty then []
    else
      let rest := qs.filterMap (fun q => match q with | x :: r => if wins x then some r else none | [] => none)
      won ++ grants turns n (used ++ (won.filter (fun x => x.1 != 0)).map (fun x => x.2.subBank)) rest

/-- The sub-banks whose shared ports a kind of access takes in this cycle (R45). -/
def portsOf (l : List (Nat × Req)) (p : Nat) : List Nat := (l.filter (fun x => x.1 == p)).map (fun x => x.2.subBank)

/-- The accesses of a cycle land by port: owner, landing, shared; the matrix array has the shared ports first, then the sluice, then
other cores, one at each sub-bank; what is not granted stays for a later cycle. Reads take the words as they stood before the cycle
(R45). -/
def State.performLate (s : State) : State :=
  let l := s.late
  let by_ (p : Nat) := l.filter (fun x => x.1 == p)
  let array := portsOf l 4
  let sluice := (by_ 3).filter (fun x => !array.contains x.2.subBank)
  let mine := by_ 0 ++ by_ 2
  let ks := (mine.map (fun x => x.2.core)).eraseDups
  let won := grants s.turns mine.length (array ++ portsOf l 3) (ks.map (fun k => l.filter (fun x => (x.1 == 0 || x.1 == 2) && x.2.core == k)))
  let shared := won.filter (fun x => x.1 == 2)
  let s0 := { s with
    late := (by_ 3).filter (fun x => array.contains x.2.subBank) ++ mine.filter (fun x => !won.contains x)
    turns := shared.foldl (fun m x => m.put x.2.subBank (x.2.core % 8)) s.turns }
  let all := (won.filter (fun x => x.1 == 0) ++ by_ 1 ++ by_ 4 ++ sluice ++ shared).map (·.2)
  ((all.filter (fun r => r.op == .load)) ++ (all.filter (fun r => r.op != .load))).foldl State.performLocal s0

/-! ## A program placed from outside (entry 5) -/

/-- A launch with nothing asked for: one holding at cluster (0, 0), firm, of tenant 0 (R322 to R325). -/
def Launch.blank : Launch :=
  { number := 1, tenant := 0, queue := 0, prio := 0, recAddr := 0, rcd := List.replicate 32 0#64, x := 0, y := 0, w := 1, h := 1,
    firm := 1, phased := false, sup := true, deferred := false, domain := none, state := .bound, leases := [],
    holdings := [{ present := true, departing := false, refusals := 0, recalls := [], serving := none, finish := none,
                   summarised := false, routine := 0#64, bound := 256, byRecall := none, granted := false }],
    weirs := Vector.replicate 16 default, rot := none, rotLost := false, version := 0, asks := [], flush := [], sweep := none,
    saves := [], heldFx := [], outGone := 0, inGone := 0, leaseNum := 0, stopped := false, forced := [],
    routes := [], mmars := [], keptMats := [], keptInbound := [], keptPends := [], keptStages := [],
    keptViews := [], keptHeld := [], keptWaits := [] }

/-- The PC at which a word placed from outside is fetched. -/
def placedPc : Nat := 0x10000

/-- The fetch block of a word placed from outside: four words, then words of zeros. -/
def placedBlock (v : BitVec 128) : IBlock :=
  { block := placedPc / 32,
    words := [v.extractLsb' 0 32, v.extractLsb' 32 32, v.extractLsb' 64 32, v.extractLsb' 96 32, 0#32, 0#32, 0#32, 0#32] }

/-- The registers that the instruction at the start of a block needs present (R110). -/
def placedRegs (b : IBlock) : List (Nat × RegRef) :=
  match (instrAt b 0).info with
  | none => []
  | some m => m.regs.map (fun r => (0, r))

/-- The control context of core 0, live at the placed word. -/
def placedCore (b : IBlock) : Core :=
  { (Core.zero.setCtx 0 { Ctx.zero with live := true, pc := BitVec.ofNat 64 placedPc }) with
    launch := some 1, regCache := placedRegs b }

/-- The state with a supervisor launch bound to cluster (0, 0) whose control context on core 0 is about to issue the instruction
with bits `v` (R329; entry 5). -/
def State.place (s : State) (v : BitVec 128) : State :=
  let b := placedBlock v
  { s with cores := [(0, placedCore b)], clusters := [(0, { Cluster.zero with icache := [b] })],
           launches := [(1, Launch.blank)], agenda := [] }

end Sys2Proof.Machine
end

