-- ==== Sys2Proof/Machine/Scalar.lean ====
section
/-! DEFINITION. Sys2Proof/Machine/Scalar.lean: the scalar integer instructions (R183 to R187). -/

namespace Sys2Proof.Machine

/-- A scalar instruction of two register operands (R183). -/
def alu2 (i : Instr) (s : State) (k : Ctl) (lat : Nat) (d a b : BitVec 5) (f : Dword → Dword → Dword) :
    Host.Outcome State Fault Refusal :=
  issue i s (fun s => let x := s.srcS a; let y := s.srcS b; s.result k lat d (f x.1 y.1) [x.2, y.2] 0)

/-- A scalar instruction of one register operand (R183). -/
def alu1 (i : Instr) (s : State) (k : Ctl) (d a : BitVec 5) (f : Dword → Dword) : Host.Outcome State Fault Refusal :=
  issue i s (fun s => let x := s.srcS a; s.result k 1 d (f x.1) [x.2] 0)

/-- One where a condition holds, else zero. -/
def flagWord (b : Bool) : Dword := if b then 1#64 else 0#64

/-- Bits [127:64] of the signed product (R183). -/
def mulHigh (a b : Dword) : Dword := BitVec.ofInt 64 ((a.toInt * b.toInt) / 2 ^ 64)
/-- Bits [127:64] of the unsigned product (R183). -/
def mulHighU (a b : Dword) : Dword := BitVec.ofNat 64 (a.toNat * b.toNat / 2 ^ 64)

/-- Number of zero bits above the highest one, of `w` bits (R183). -/
def leadingZeros (w v : Nat) : Nat := if v = 0 then w else w - 1 - Nat.log2 v
/-- Number of one bits among the low `w` (R183). -/
def countOnes (w v : Nat) : Nat := (List.range w).foldl (fun n i => n + v / 2 ^ i % 2) 0

/-- ADD (R183). -/
def execAdd (k : Ctl) (d a b : BitVec 5) (s : State) : Host.Outcome State Fault Refusal :=
  alu2 (.add k d a b) s k 1 d a b (fun x y => x + y)
/-- ADDI (R183). -/
def execAddi (k : Ctl) (d a : BitVec 5) (imm : BitVec 19) (s : State) : Host.Outcome State Fault Refusal :=
  alu1 (.addi k d a imm) s k d a (fun x => x + imm19 imm)
/-- SUB (R183). -/
def execSub (k : Ctl) (d a b : BitVec 5) (s : State) : Host.Outcome State Fault Refusal :=
  alu2 (.sub k d a b) s k 1 d a b (fun x y => x - y)
/-- MUL (R183). -/
def execMul (k : Ctl) (d a b : BitVec 5) (s : State) : Host.Outcome State Fault Refusal :=
  alu2 (.mul k d a b) s k 3 d a b (fun x y => x * y)
/-- MULH (R183). -/
def execMulh (k : Ctl) (d a b : BitVec 5) (s : State) : Host.Outcome State Fault Refusal :=
  alu2 (.mulh k d a b) s k 3 d a b mulHigh
/-- MULHU (R183). -/
def execMulhu (k : Ctl) (d a b : BitVec 5) (s : State) : Host.Outcome State Fault Refusal :=
  alu2 (.mulhu k d a b) s k 3 d a b mulHighU
/-- AND (R183). -/
def execAnd (k : Ctl) (d a b : BitVec 5) (s : State) : Host.Outcome State Fault Refusal :=
  alu2 (.and k d a b) s k 1 d a b (fun x y => x &&& y)
/-- ANDI (R183, R184). -/
def execAndi (k : Ctl) (d a : BitVec 5) (imm : BitVec 19) (s : State) : Host.Outcome State Fault Refusal :=
  alu1 (.andi k d a imm) s k d a (fun x => x &&& imm19 imm)
/-- OR (R183). -/
def execOr (k : Ctl) (d a b : BitVec 5) (s : State) : Host.Outcome State Fault Refusal :=
  alu2 (.or k d a b) s k 1 d a b (fun x y => x ||| y)
/-- ORI (R183, R184). -/
def execOri (k : Ctl) (d a : BitVec 5) (imm : BitVec 19) (s : State) : Host.Outcome State Fault Refusal :=
  alu1 (.ori k d a imm) s k d a (fun x => x ||| imm19 imm)
/-- XOR (R183). -/
def execXor (k : Ctl) (d a b : BitVec 5) (s : State) : Host.Outcome State Fault Refusal :=
  alu2 (.xor k d a b) s k 1 d a b (fun x y => x ^^^ y)
/-- XORI (R183, R184). -/
def execXori (k : Ctl) (d a : BitVec 5) (imm : BitVec 19) (s : State) : Host.Outcome State Fault Refusal :=
  alu1 (.xori k d a imm) s k d a (fun x => x ^^^ imm19 imm)
/-- SHL: sh = b[5:0] (R184). -/
def execShl (k : Ctl) (d a b : BitVec 5) (s : State) : Host.Outcome State Fault Refusal :=
  alu2 (.shl k d a b) s k 1 d a b (fun x y => x <<< (y.toNat % 64))
/-- SHLI (R184). -/
def execShli (k : Ctl) (d a : BitVec 5) (sh : BitVec 19) (s : State) : Host.Outcome State Fault Refusal :=
  alu1 (.shli k d a sh) s k d a (fun x => x <<< (sh.toNat % 64))
/-- SHR (R184). -/
def execShr (k : Ctl) (d a b : BitVec 5) (s : State) : Host.Outcome State Fault Refusal :=
  alu2 (.shr k d a b) s k 1 d a b (fun x y => x >>> (y.toNat % 64))
/-- SHRI (R184). -/
def execShri (k : Ctl) (d a : BitVec 5) (sh : BitVec 19) (s : State) : Host.Outcome State Fault Refusal :=
  alu1 (.shri k d a sh) s k d a (fun x => x >>> (sh.toNat % 64))
/-- SAR (R184). -/
def execSar (k : Ctl) (d a b : BitVec 5) (s : State) : Host.Outcome State Fault Refusal :=
  alu2 (.sar k d a b) s k 1 d a b (fun x y => x.sshiftRight (y.toNat % 64))
/-- SARI (R184). -/
def execSari (k : Ctl) (d a : BitVec 5) (sh : BitVec 19) (s : State) : Host.Outcome State Fault Refusal :=
  alu1 (.sari k d a sh) s k d a (fun x => x.sshiftRight (sh.toNat % 64))
/-- MIN (R183). -/
def execMin (k : Ctl) (d a b : BitVec 5) (s : State) : Host.Outcome State Fault Refusal :=
  alu2 (.min k d a b) s k 1 d a b (fun x y => if y.slt x then y else x)
/-- MAX (R183). -/
def execMax (k : Ctl) (d a b : BitVec 5) (s : State) : Host.Outcome State Fault Refusal :=
  alu2 (.max k d a b) s k 1 d a b (fun x y => if x.slt y then y else x)
/-- MINU (R183). -/
def execMinu (k : Ctl) (d a b : BitVec 5) (s : State) : Host.Outcome State Fault Refusal :=
  alu2 (.minu k d a b) s k 1 d a b (fun x y => if y.ult x then y else x)
/-- MAXU (R183). -/
def execMaxu (k : Ctl) (d a b : BitVec 5) (s : State) : Host.Outcome State Fault Refusal :=
  alu2 (.maxu k d a b) s k 1 d a b (fun x y => if x.ult y then y else x)
/-- SLT (R183). -/
def execSlt (k : Ctl) (d a b : BitVec 5) (s : State) : Host.Outcome State Fault Refusal :=
  alu2 (.slt k d a b) s k 1 d a b (fun x y => flagWord (x.slt y))
/-- SLTU (R183). -/
def execSltu (k : Ctl) (d a b : BitVec 5) (s : State) : Host.Outcome State Fault Refusal :=
  alu2 (.sltu k d a b) s k 1 d a b (fun x y => flagWord (x.ult y))
/-- SEQ (R183). -/
def execSeq (k : Ctl) (d a b : BitVec 5) (s : State) : Host.Outcome State Fault Refusal :=
  alu2 (.seq k d a b) s k 1 d a b (fun x y => flagWord (x == y))
/-- SEL: the unselected operand's label is included (R183). -/
def execSel (k : Ctl) (d a b c : BitVec 5) (s : State) : Host.Outcome State Fault Refusal :=
  issue (.sel k d a b c) s (fun s =>
    let x := s.srcS a
    let y := s.srcS b
    let z := s.srcS c
    s.result k 1 d (if z.1 != 0#64 then x.1 else y.1) [x.2, y.2, z.2] 0)
/-- CLZ (R183). -/
def execClz (k : Ctl) (d a : BitVec 5) (s : State) : Host.Outcome State Fault Refusal :=
  alu1 (.clz k d a) s k d a (fun x => BitVec.ofNat 64 (leadingZeros 64 x.toNat))
/-- POPC (R183). -/
def execPopc (k : Ctl) (d a : BitVec 5) (s : State) : Host.Outcome State Fault Refusal :=
  alu1 (.popc k d a) s k d a (fun x => BitVec.ofNat 64 (countOnes 64 x.toNat))

/-- The field a[POS + WIDTH - 1 : POS], sign- or zero-extended (R186). -/
def bfxValue (x : Dword) (sx : BitVec 1) (width pos : Nat) : Dword :=
  let f := bits x.toNat (pos + width - 1) pos
  if sx == 1#1 && bitAt f (width - 1) then BitVec.ofNat 64 (f + 2 ^ 64 - 2 ^ width) else BitVec.ofNat 64 f

/-- s[D] with its field replaced by the low bits of a (R186). -/
def bfiValue (old x : Dword) (width pos : Nat) : Dword :=
  let m : Dword := BitVec.ofNat 64 ((2 ^ width - 1) * 2 ^ pos)
  (old &&& ~~~m) ||| ((x <<< pos) &&& m)

/-- BFX (R186). -/
def execBfx (k : Ctl) (d a : BitVec 5) (sx : BitVec 1) (width : BitVec 7) (pos : BitVec 6) (s : State) :
    Host.Outcome State Fault Refusal :=
  alu1 (.bfx k d a sx width pos) s k d a (fun x => bfxValue x sx width.toNat pos.toNat)
/-- BFI (R186). -/
def execBfi (k : Ctl) (d a : BitVec 5) (width : BitVec 7) (pos : BitVec 6) (s : State) : Host.Outcome State Fault Refusal :=
  issue (.bfi k d a width pos) s (fun s =>
    let x := s.srcS a
    let o := s.srcS d
    s.result k 1 d (bfiValue o.1 x.1 width.toNat pos.toNat) [o.2, x.2] 0)
/-- LI (R183, R187). -/
def execLi (k : Ctl) (d : BitVec 5) (imm : BitVec 32) (s : State) : Host.Outcome State Fault Refusal :=
  issue (.li k d imm) s (fun s => s.result k 1 d (imm32 imm) [] 0)
/-- LIW (R183, R187). -/
def execLiw (k : Ctl) (d : BitVec 5) (imm : BitVec 64) (s : State) : Host.Outcome State Fault Refusal :=
  issue (.liw k d imm) s (fun s => s.result k 1 d imm [] 0)
/-- LEA (R183, R187). -/
def execLea (k : Ctl) (d a b : BitVec 5) (sh : BitVec 3) (imm : BitVec 32) (s : State) : Host.Outcome State Fault Refusal :=
  issue (.lea k d a b sh imm) s (fun s =>
    let x := s.srcS a
    let y := s.srcS b
    s.result k 1 d (x.1 + (y.1 <<< sh.toNat) + imm32 imm) [x.2, y.2] 0)

/-- DIV: truncating, all ones for a zero divisor (R185). -/
def divS (a b : Dword) : Dword := if b = 0#64 then BitVec.allOnes 64 else a.sdiv b
/-- DIVU (R185). -/
def divU (a b : Dword) : Dword := if b = 0#64 then BitVec.allOnes 64 else a / b
/-- REM: the sign of a (R185). -/
def remS (a b : Dword) : Dword := if b = 0#64 then BitVec.allOnes 64 else a.srem b
/-- REMU (R185). -/
def remU (a b : Dword) : Dword := if b = 0#64 then BitVec.allOnes 64 else a % b

/-- |x| of a signed word. -/
def magS (x : Dword) : Nat := x.toInt.natAbs

/-- The time of a divide: 12 for a zero divisor or a dividend of smaller magnitude, else 12 to 44 (R185; entry 3). -/
def divTime (ma mb extra : Nat) : Nat := if mb = 0 ∨ ma < mb then 12 else 12 + extra % 33

/-- A divide: INT_DIV0 is set when its tag frees, the one scalar divider is busy until it completes (R185). -/
def divide (i : Instr) (s : State) (k : Ctl) (d a b : BitVec 5) (signed : Bool) (f : Dword → Dword → Dword) :
    Host.Outcome State Fault Refusal :=
  issue i s (fun s =>
    if s.now < s.here.sdivFree then .stall
    else
      let x := s.srcS a
      let y := s.srcS b
      let t := divTime (if signed then magS x.1 else x.1.toNat) (if signed then magS y.1 else y.1.toNat) (s.freeN 0)
      let i := plainIn [x.2, y.2]
      match (s.countVoids [i]).formOne (s.checkedIn i [s.ambientNow]) with
      | none => .stall
      | some (s1, h) =>
        let p : Pend :=
          { seq := s1.nextId, ctx := s.curCtx, tag := (tagOf k), pc := s.me.pc, minDue := s.now + 12, due := s.now + t, left := 0,
            writes := [.s d (f x.1 y.1) h], raw := [], fin := none,
            flags := BitVec.ofNat 64 (if y.1 = 0#64 then fDiv0 else 0), acquire := false, dst := [.s d], dead := [], bad := none, lanes := false, bank := none }
        .go (((s1.bump.launchPend p).onHere (fun c => { c with sdivFree := s.now + t })).plan t 0 .tagFree
          { a := s.curCore, b := p.seq }))

/-- DIV (R185). -/
def execDiv (k : Ctl) (d a b : BitVec 5) (s : State) : Host.Outcome State Fault Refusal :=
  divide (.div k d a b) s k d a b true divS
/-- DIVU (R185). -/
def execDivu (k : Ctl) (d a b : BitVec 5) (s : State) : Host.Outcome State Fault Refusal :=
  divide (.divu k d a b) s k d a b false divU
/-- REM (R185). -/
def execRem (k : Ctl) (d a b : BitVec 5) (s : State) : Host.Outcome State Fault Refusal :=
  divide (.rem k d a b) s k d a b true remS
/-- REMU (R185). -/
def execRemu (k : Ctl) (d a b : BitVec 5) (s : State) : Host.Outcome State Fault Refusal :=
  divide (.remu k d a b) s k d a b false remU

end Sys2Proof.Machine
end

