-- ==== Sys2Proof/Machine/VectorInt.lean ====
section
/-! DEFINITION. Sys2Proof/Machine/VectorInt.lean: the vector integer instructions (R202, R203, R206 to R211). -/

namespace Sys2Proof.Machine

/-- Signed lanes are TY I32 (R133). -/
def signedTy (vm : VMod) : Bool := vm.ty == 0#3

/-- A lane-wise integer instruction of two operands, Fixed latency 2 (R206). -/
def vint2 (i : Instr) (s : State) (k : Ctl) (d a b : BitVec 5) (vm : VMod) (f : Word → Word → Word) :
    Host.Outcome State Fault Refusal :=
  issue i s (fun s => s.vresult k 2 d vm (s.laneOuts vm (s.lane2 vm a b f)) 0)

/-- A lane-wise integer instruction of one operand, Fixed latency 2 (R206). -/
def vint1 (i : Instr) (s : State) (k : Ctl) (d a : BitVec 5) (vm : VMod) (f : Word → Word) : Host.Outcome State Fault Refusal :=
  issue i s (fun s => s.vresult k 2 d vm (s.laneOuts vm (s.lane1 a f)) 0)

/-- Bits [63:32] of a product (R206). -/
def laneMulHigh (signed : Bool) (x y : Word) : Word :=
  if signed then BitVec.ofInt 32 (x.toInt * y.toInt / 2 ^ 32) else BitVec.ofNat 32 (x.toNat * y.toNat / 2 ^ 32)

/-- A lane value widened into a scalar register: sign-extended for I32, zero-extended for N32 (R208, R210). -/
def widen (signed : Bool) (w : Word) : Dword := if signed then w.signExtend 64 else w.setWidth 64

/-- VADD (R206). -/
def execVadd (k : Ctl) (d a b : BitVec 5) (vm : VMod) (s : State) : Host.Outcome State Fault Refusal :=
  vint2 (.vadd k d a b vm) s k d a b vm (fun x y => x + y)
/-- VSUB (R206). -/
def execVsub (k : Ctl) (d a b : BitVec 5) (vm : VMod) (s : State) : Host.Outcome State Fault Refusal :=
  vint2 (.vsub k d a b vm) s k d a b vm (fun x y => x - y)
/-- VMUL (R206). -/
def execVmul (k : Ctl) (d a b : BitVec 5) (vm : VMod) (s : State) : Host.Outcome State Fault Refusal :=
  vint2 (.vmul k d a b vm) s k d a b vm (fun x y => x * y)
/-- VMULH (R206). -/
def execVmulh (k : Ctl) (d a b : BitVec 5) (vm : VMod) (s : State) : Host.Outcome State Fault Refusal :=
  vint2 (.vmulh k d a b vm) s k d a b vm (laneMulHigh (signedTy vm))
/-- VAND (R206). -/
def execVand (k : Ctl) (d a b : BitVec 5) (vm : VMod) (s : State) : Host.Outcome State Fault Refusal :=
  vint2 (.vand k d a b vm) s k d a b vm (fun x y => x &&& y)
/-- VOR (R206). -/
def execVor (k : Ctl) (d a b : BitVec 5) (vm : VMod) (s : State) : Host.Outcome State Fault Refusal :=
  vint2 (.vor k d a b vm) s k d a b vm (fun x y => x ||| y)
/-- VXOR (R206). -/
def execVxor (k : Ctl) (d a b : BitVec 5) (vm : VMod) (s : State) : Host.Outcome State Fault Refusal :=
  vint2 (.vxor k d a b vm) s k d a b vm (fun x y => x ^^^ y)
/-- VSHL: by b[4:0] (R206). -/
def execVshl (k : Ctl) (d a b : BitVec 5) (vm : VMod) (s : State) : Host.Outcome State Fault Refusal :=
  vint2 (.vshl k d a b vm) s k d a b vm (fun x y => x <<< (y.toNat % 32))
/-- VSHR: by b[4:0] (R206). -/
def execVshr (k : Ctl) (d a b : BitVec 5) (vm : VMod) (s : State) : Host.Outcome State Fault Refusal :=
  vint2 (.vshr k d a b vm) s k d a b vm (fun x y => x >>> (y.toNat % 32))
/-- VSAR: by b[4:0] (R206). -/
def execVsar (k : Ctl) (d a b : BitVec 5) (vm : VMod) (s : State) : Host.Outcome State Fault Refusal :=
  vint2 (.vsar k d a b vm) s k d a b vm (fun x y => x.sshiftRight (y.toNat % 32))
/-- VMIN (R206). -/
def execVmin (k : Ctl) (d a b : BitVec 5) (vm : VMod) (s : State) : Host.Outcome State Fault Refusal :=
  vint2 (.vmin k d a b vm) s k d a b vm (fun x y => if y.slt x then y else x)
/-- VMAX (R206). -/
def execVmax (k : Ctl) (d a b : BitVec 5) (vm : VMod) (s : State) : Host.Outcome State Fault Refusal :=
  vint2 (.vmax k d a b vm) s k d a b vm (fun x y => if x.slt y then y else x)
/-- VMINU (R206). -/
def execVminu (k : Ctl) (d a b : BitVec 5) (vm : VMod) (s : State) : Host.Outcome State Fault Refusal :=
  vint2 (.vminu k d a b vm) s k d a b vm (fun x y => if y.ult x then y else x)
/-- VMAXU (R206). -/
def execVmaxu (k : Ctl) (d a b : BitVec 5) (vm : VMod) (s : State) : Host.Outcome State Fault Refusal :=
  vint2 (.vmaxu k d a b vm) s k d a b vm (fun x y => if x.ult y then y else x)
/-- VNOT (R206). -/
def execVnot (k : Ctl) (d a : BitVec 5) (vm : VMod) (s : State) : Host.Outcome State Fault Refusal :=
  vint1 (.vnot k d a vm) s k d a vm (fun x => ~~~x)
/-- VCLZ (R206). -/
def execVclz (k : Ctl) (d a : BitVec 5) (vm : VMod) (s : State) : Host.Outcome State Fault Refusal :=
  vint1 (.vclz k d a vm) s k d a vm (fun x => BitVec.ofNat 32 (leadingZeros 32 x.toNat))
/-- VPOPC (R206). -/
def execVpopc (k : Ctl) (d a : BitVec 5) (vm : VMod) (s : State) : Host.Outcome State Fault Refusal :=
  vint1 (.vpopc k d a vm) s k d a vm (fun x => BitVec.ofNat 32 (countOnes 32 x.toNat))

/-- The condition of VCMP (R207). -/
def vcmpHolds (signed : Bool) (cond : Nat) (x y : Word) : Bool :=
  let lt := if signed then x.slt y else x.ult y
  match cond with
  | 0 => x == y
  | 1 => x != y
  | 2 => lt
  | _ => !lt

/-- VCMP (R207). -/
def execVcmp (k : Ctl) (d a b : BitVec 5) (vm : VMod) (cond : BitVec 3) (s : State) : Host.Outcome State Fault Refusal :=
  vint2 (.vcmp k d a b vm cond) s k d a b vm (fun x y => if vcmpHolds (signedTy vm) cond.toNat x y then 1#32 else 0#32)

/-- VSEL: the label combines a, b and the selector lane (R208). -/
def execVsel (k : Ctl) (d a b : BitVec 5) (vm : VMod) (svec : BitVec 5) (s : State) : Host.Outcome State Fault Refusal :=
  issue (.vsel k d a b vm svec) s (fun s =>
    s.vresult k 2 d vm (s.laneOuts vm (fun i =>
      let x := (s.srcV a).lane i
      let y := s.laneB vm b i
      let z := (s.srcV svec).lane i
      (if z.1.toNat % 2 = 1 then x.1 else y.1, [x.2, y.2, z.2]))) 0)

/-- Active lanes of a register whose bit 0 is 1 (R209). -/
def State.ones (s : State) (vm : VMod) (a : BitVec 5) : List Nat := (s.lanes vm).filter (fun i => ((s.srcV a).lane i).1.toNat % 2 == 1)

/-- VIOTA (R209). -/
def execViota (k : Ctl) (d a : BitVec 5) (vm : VMod) (s : State) : Host.Outcome State Fault Refusal :=
  issue (.viota k d a vm) s (fun s =>
    s.vresult k 2 d vm (s.laneOuts vm (fun i =>
      (BitVec.ofNat 32 ((s.ones vm a).filter (fun j => decide (j < i))).length,
       ((s.lanes vm).filter (fun j => decide (j < i))).flatMap (fun j => ((s.srcV a).lane j).2 :: s.maskLabel vm j)))) 0)

/-- VPOPM (R209). -/
def execVpopm (k : Ctl) (d a : BitVec 5) (vm : VMod) (s : State) : Host.Outcome State Fault Refusal :=
  issue (.vpopm k d a vm) s (fun s => s.result k 2 d (BitVec.ofNat 64 (s.ones vm a).length) (s.reduceLabels vm [a]) 0)

/-- VFIRST (R209). -/
def execVfirst (k : Ctl) (d a : BitVec 5) (vm : VMod) (s : State) : Host.Outcome State Fault Refusal :=
  issue (.vfirst k d a vm) s (fun s => s.result k 2 d (BitVec.ofNat 64 ((s.ones vm a).headD 16)) (s.reduceLabels vm [a]) 0)

/-- VMV: with ME = 0 the sideband is copied with the lanes (R203, R208). -/
def execVmv (k : Ctl) (d a : BitVec 5) (vm : VMod) (s : State) : Host.Outcome State Fault Refusal :=
  issue (.vmv k d a vm) s (fun s =>
    let sides : List RegWrite :=
      if vm.me == 1#1 then [] else (List.range 4).map (fun j => .side d j (vget (s.srcV a).side j 0#16))
    s.vresultAt k 2 2 d vm (s.laneOuts vm (s.lane1 a id)) 0 sides)

/-- VBCAST: field A names a scalar register (R208). -/
def execVbcast (k : Ctl) (d a : BitVec 5) (vm : VMod) (s : State) : Host.Outcome State Fault Refusal :=
  issue (.vbcast k d a vm) s (fun s =>
    let x := s.srcS a
    s.vresult k 2 d vm (s.laneOuts vm (fun _ => (x.1.setWidth 32, [x.2]))) 0)

/-- VEXT (R208). -/
def execVext (k : Ctl) (d a : BitVec 5) (vm : VMod) (n : BitVec 4) (s : State) : Host.Outcome State Fault Refusal :=
  issue (.vext k d a vm n) s (fun s =>
    let x := (s.srcV a).lane n.toNat
    s.result k 2 d (widen (signedTy vm) x.1) [x.2] 0)

/-- VINS: the other lanes and their labels are unchanged (R208). -/
def execVins (k : Ctl) (d a : BitVec 5) (vm : VMod) (n : BitVec 4) (s : State) : Host.Outcome State Fault Refusal :=
  issue (.vins k d a vm n) s (fun s =>
    let x := s.srcS a
    match s.formWith [x.2] with
    | none => .stall
    | some (s1, h) => .go (s1.produce (tagOf k) 2 [.lane d n.toNat (x.1.setWidth 32) h] 0 [.v d]))

/-- The merge of R211, with `n` steps left: the matching positions found, (i, j) each. -/
def matchFrom (a b : List Word) (i j : Nat) : Nat → List (Nat × Nat)
  | 0 => []
  | n + 1 =>
    let x := a.getD i 0xFFFFFFFF#32
    let y := b.getD j 0xFFFFFFFF#32
    if x = 0xFFFFFFFF#32 ∨ y = 0xFFFFFFFF#32 then []
    else if x = y then (i, j) :: matchFrom a b (i + 1) (j + 1) n
    else if x.ult y then matchFrom a b (i + 1) j n
    else matchFrom a b i (j + 1) n

/-- VMATCH: every lane takes the labels of all lanes of both registers (R211). -/
def execVmatch (k : Ctl) (d a b : BitVec 5) (vm : VMod) (side : BitVec 1) (s : State) : Host.Outcome State Fault Refusal :=
  issue (.vmatch k d a b vm side) s (fun s =>
    let x := s.srcV a
    let y := s.srcV b
    let m := matchFrom x.lanes.toList y.lanes.toList 0 0 32
    let hs := x.labels.toList ++ y.labels.toList
    s.vresult k 4 d vm (s.laneOuts vm (fun i =>
      (match m[i]? with
       | none => 0xFFFFFFFF#32
       | some p => BitVec.ofNat 32 (if side = 0#1 then p.1 else p.2), hs))) 0)

/-- The operation of VRED (R210). -/
def redOp (op : Nat) (x y : Word) : Word :=
  match op with
  | 0 => x + y
  | 1 => x &&& y
  | 2 => x ||| y
  | 3 => x ^^^ y
  | 4 => if y.slt x then y else x
  | 5 => if x.slt y then y else x
  | 6 => if y.ult x then y else x
  | _ => if x.ult y then y else x

/-- The identity of VRED's operation (R210). -/
def redIdentity (op : Nat) : Word :=
  match op with
  | 1 | 6 => 0xFFFFFFFF#32
  | 4 => 0x7FFFFFFF#32
  | 5 => 0x80000000#32
  | _ => 0#32

/-- VRED (R210). -/
def execVred (k : Ctl) (d a : BitVec 5) (vm : VMod) (op : BitVec 3) (s : State) : Host.Outcome State Fault Refusal :=
  issue (.vred k d a vm op) s (fun s =>
    let v := (s.lanes vm).foldl (fun acc i => redOp op.toNat acc ((s.srcV a).lane i).1) (redIdentity op.toNat)
    s.result k 4 d (widen (signedTy vm) v) (s.reduceLabels vm [a]) 0)

end Sys2Proof.Machine
end

