-- ==== Sys2Proof/Machine/VectorFloat.lean ====
section
/-! DEFINITION. Sys2Proof/Machine/VectorFloat.lean: the vector float and solver instructions (R205, R212 to R219). -/

namespace Sys2Proof.Machine

/-- A lane-wise float instruction from each lane's value with its flags and the labels it reads (R58, R88). -/
def State.floatOuts (s : State) (vm : VMod) (f : Nat → (Nat × Nat) × List Handle) : List LaneOut × Nat :=
  (s.laneOuts vm (fun i => (BitVec.ofNat 32 (f i).1.1, (f i).2)), unite ((s.lanes vm).map (fun i => (f i).1.2)))

/-- Lane results of one operand. -/
def State.float1 (s : State) (a : BitVec 5) (f : Nat → Nat × Nat) : Nat → (Nat × Nat) × List Handle :=
  fun i => let x := (s.srcV a).lane i; (f x.1.toNat, [x.2])

/-- Lane results of two operands. -/
def State.float2 (s : State) (vm : VMod) (a b : BitVec 5) (f : Nat → Nat → Nat × Nat) : Nat → (Nat × Nat) × List Handle :=
  fun i => let x := (s.srcV a).lane i; let y := s.laneB vm b i; (f x.1.toNat y.1.toNat, [x.2, y.2])

/-- Lane results of three operands. -/
def State.float3 (s : State) (vm : VMod) (a b c : BitVec 5) (f : Nat → Nat → Nat → Nat × Nat) : Nat → (Nat × Nat) × List Handle :=
  fun i =>
    let x := (s.srcV a).lane i
    let y := s.laneB vm b i
    let z := (s.srcV c).lane i
    (f x.1.toNat y.1.toNat z.1.toNat, [x.2, y.2, z.2])

/-- A float result of one Fixed latency (R212). -/
def State.fresult (s : State) (k : Ctl) (lat : Nat) (d : BitVec 5) (vm : VMod) (f : Nat → (Nat × Nat) × List Handle) : Eff :=
  s.vresult k lat d vm (s.floatOuts vm f).1 (s.floatOuts vm f).2

/-- An instruction of the divide unit: busy for `busy` cycles, lanes 0 to 7 after `lat`, the others one cycle later (R205). -/
def State.divideUnit (s : State) (k : Ctl) (busy lat : Nat) (d : BitVec 5) (vm : VMod) (f : Nat → (Nat × Nat) × List Handle) : Eff :=
  if s.now < s.here.divFree then .stall
  else match s.vresultAt k lat (lat + 1) d vm (s.floatOuts vm f).1 (s.floatOuts vm f).2 [] with
  | .go s1 =>
    .go ((s1.onHere (fun c => { c with divFree := s.now + busy })).plan busy 0 .divideUnitFree { a := s.curCore })
  | e => e

/-- DIVIDE_UNIT_FREE: the divide unit becomes free (R205). -/
def execDivideUnitFree (s : State) : Host.Outcome State Fault Refusal :=
  .next (s.onCore s.subj.a (fun c => if c.divFree ≤ s.now then { c with divFree := 0 } else c))

/-- VFADD (R212). -/
def execVfadd (k : Ctl) (d a b : BitVec 5) (vm : VMod) (s : State) : Host.Outcome State Fault Refusal :=
  issue (.vfadd k d a b vm) s (fun s => s.fresult k 4 d vm (s.float2 vm a b (fAdd (s.mode vm.rm))))
/-- VFSUB (R212). -/
def execVfsub (k : Ctl) (d a b : BitVec 5) (vm : VMod) (s : State) : Host.Outcome State Fault Refusal :=
  issue (.vfsub k d a b vm) s (fun s => s.fresult k 4 d vm (s.float2 vm a b (fSub (s.mode vm.rm))))
/-- VFMUL (R212). -/
def execVfmul (k : Ctl) (d a b : BitVec 5) (vm : VMod) (s : State) : Host.Outcome State Fault Refusal :=
  issue (.vfmul k d a b vm) s (fun s => s.fresult k 4 d vm (s.float2 vm a b (fMul (s.mode vm.rm))))
/-- VFMA (R213). -/
def execVfma (k : Ctl) (d a b c : BitVec 5) (vm : VMod) (s : State) : Host.Outcome State Fault Refusal :=
  issue (.vfma k d a b c vm) s (fun s => s.fresult k 4 d vm (s.float3 vm a b c (fFma (s.mode vm.rm) false false)))
/-- VFMS (R213). -/
def execVfms (k : Ctl) (d a b c : BitVec 5) (vm : VMod) (s : State) : Host.Outcome State Fault Refusal :=
  issue (.vfms k d a b c vm) s (fun s => s.fresult k 4 d vm (s.float3 vm a b c (fFma (s.mode vm.rm) false true)))
/-- VFNMA (R213). -/
def execVfnma (k : Ctl) (d a b c : BitVec 5) (vm : VMod) (s : State) : Host.Outcome State Fault Refusal :=
  issue (.vfnma k d a b c vm) s (fun s => s.fresult k 4 d vm (s.float3 vm a b c (fFma (s.mode vm.rm) true false)))
/-- VFMIN (R214). -/
def execVfmin (k : Ctl) (d a b : BitVec 5) (vm : VMod) (s : State) : Host.Outcome State Fault Refusal :=
  issue (.vfmin k d a b vm) s (fun s => s.fresult k 2 d vm (s.float2 vm a b (fMinMax false)))
/-- VFMAX (R214). -/
def execVfmax (k : Ctl) (d a b : BitVec 5) (vm : VMod) (s : State) : Host.Outcome State Fault Refusal :=
  issue (.vfmax k d a b vm) s (fun s => s.fresult k 2 d vm (s.float2 vm a b (fMinMax true)))
/-- VFABS (R216). -/
def execVfabs (k : Ctl) (d a : BitVec 5) (vm : VMod) (s : State) : Host.Outcome State Fault Refusal :=
  issue (.vfabs k d a vm) s (fun s => s.fresult k 2 d vm (s.float1 a (fun x => (x % 2 ^ 31, 0))))
/-- VFNEG (R216). -/
def execVfneg (k : Ctl) (d a : BitVec 5) (vm : VMod) (s : State) : Host.Outcome State Fault Refusal :=
  issue (.vfneg k d a vm) s (fun s => s.fresult k 2 d vm (s.float1 a (fun x => (fNeg x, 0))))
/-- VFCLASS (R215). -/
def execVfclass (k : Ctl) (d a : BitVec 5) (vm : VMod) (s : State) : Host.Outcome State Fault Refusal :=
  issue (.vfclass k d a vm) s (fun s => s.fresult k 2 d vm (s.float1 a (fun x => (fClass x, 0))))
/-- VFCMP (R215). -/
def execVfcmp (k : Ctl) (d a b : BitVec 5) (vm : VMod) (cond : BitVec 3) (s : State) : Host.Outcome State Fault Refusal :=
  issue (.vfcmp k d a b vm cond) s (fun s =>
    s.fresult k 2 d vm (s.float2 vm a b (fun x y =>
      let r := fCmp cond.toNat x y
      (if r.1 then 1 else 0, r.2))))
/-- VDIV (R205, R217). -/
def execVdiv (k : Ctl) (d a b : BitVec 5) (vm : VMod) (s : State) : Host.Outcome State Fault Refusal :=
  issue (.vdiv k d a b vm) s (fun s => s.divideUnit k 2 14 d vm (s.float2 vm a b (fDiv (s.mode vm.rm))))
/-- VSQRT (R205, R217). -/
def execVsqrt (k : Ctl) (d a : BitVec 5) (vm : VMod) (s : State) : Host.Outcome State Fault Refusal :=
  issue (.vsqrt k d a vm) s (fun s => s.divideUnit k 2 14 d vm (s.float1 a (fSqrt (s.mode vm.rm))))
/-- VRSQRT (R205, R217). -/
def execVrsqrt (k : Ctl) (d a : BitVec 5) (vm : VMod) (s : State) : Host.Outcome State Fault Refusal :=
  issue (.vrsqrt k d a vm) s (fun s => s.divideUnit k 2 14 d vm (s.float1 a (fRsqrt (s.mode vm.rm))))
/-- VRCP (R205, R217). -/
def execVrcp (k : Ctl) (d a : BitVec 5) (vm : VMod) (s : State) : Host.Outcome State Fault Refusal :=
  issue (.vrcp k d a vm) s (fun s => s.divideUnit k 2 14 d vm (s.float1 a (fRcp (s.mode vm.rm))))
/-- VSQD (R205, R218). -/
def execVsqd (k : Ctl) (d a b : BitVec 5) (vm : VMod) (s : State) : Host.Outcome State Fault Refusal :=
  issue (.vsqd k d a b vm) s (fun s => s.divideUnit k 4 28 d vm (s.float2 vm a b (fSqd (s.mode vm.rm))))

/-- A masked-off lane of a tree is -0.0 (R75, R219). -/
def negZero : Nat := 0x80000000

/-- VFRED (R219). -/
def execVfred (k : Ctl) (d a : BitVec 5) (vm : VMod) (s : State) : Host.Outcome State Fault Refusal :=
  issue (.vfred k d a vm) s (fun s =>
    let xs := (List.range 16).map (fun i => if s.active vm i then ((s.srcV a).lane i).1.toNat else negZero)
    let r := treeSum xs
    s.result k 12 d (BitVec.ofNat 64 r.1) (s.reduceLabels vm [a]) r.2)

/-- VFDOT: the products are rounded with RNE (R219). -/
def execVfdot (k : Ctl) (d a b : BitVec 5) (vm : VMod) (s : State) : Host.Outcome State Fault Refusal :=
  issue (.vfdot k d a b vm) s (fun s =>
    let ps := (List.range 16).map (fun i =>
      if s.active vm i then fMul 0 ((s.srcV a).lane i).1.toNat ((s.srcV b).lane i).1.toNat else (negZero, 0))
    let r := treeSum (ps.map (·.1))
    s.result k 16 d (BitVec.ofNat 64 r.1) (s.reduceLabels vm [a, b]) (flagOr (unite (ps.map (·.2))) r.2))

/-- The sign that VFSGN gives (R216). -/
def sgnBit (mode : Nat) (x y : Word) : Bool :=
  match mode with
  | 0 => y.msb
  | 1 => !y.msb
  | _ => x.msb != y.msb

/-- VFSGN (R216). -/
def execVfsgn (k : Ctl) (d a b : BitVec 5) (vm : VMod) (mode : BitVec 2) (s : State) : Host.Outcome State Fault Refusal :=
  issue (.vfsgn k d a b vm mode) s (fun s =>
    s.vresult k 2 d vm (s.laneOuts vm (s.lane2 vm a b (fun x y =>
      BitVec.ofNat 32 (x.toNat % 2 ^ 31 + if sgnBit mode.toNat x y then 2 ^ 31 else 0)))) 0)

/-- VFRND (R216). -/
def execVfrnd (k : Ctl) (d a : BitVec 5) (vm : VMod) (s : State) : Host.Outcome State Fault Refusal :=
  issue (.vfrnd k d a vm) s (fun s => s.fresult k 4 d vm (s.float1 a (fRnd (s.mode vm.rm))))

end Sys2Proof.Machine
end

