-- ==== Sys2Proof/Machine/VectorMem.lean ====
section
/-! DEFINITION. Sys2Proof/Machine/VectorMem.lean: vector memory, permutes, conversions and the block-format instructions (R220 to
R233). -/

namespace Sys2Proof.Machine

/-! ## Vector memory -/

/-- Where each lane of a vector access lies, and whether its address is poisoned (R220, R221). -/
abbrev LaneAddr := Nat → Nat × Bool

/-- s[A] + off + 4 i (R220). -/
def State.unitAddr (s : State) (a : BitVec 5) (off : Dword) : LaneAddr :=
  let p := s.address a off
  fun i => ((p.1 + 4 * i) % 2 ^ 64, p.2)

/-- s[A] + i × s[B] (R220). -/
def State.strideAddr (s : State) (a b : BitVec 5) : LaneAddr :=
  let p := s.address a 0#64
  fun i => ((p.1 + i * (s.srcS b).1.toNat) % 2 ^ 64, p.2)

/-- s[A] + b[i] << SCALE; a poisoned index lane poisons the address (R220, R221). -/
def State.indexAddr (s : State) (a b : BitVec 5) (scale : BitVec 2) : LaneAddr :=
  let p := s.address a 0#64
  fun i =>
    let x := (s.srcV b).lane i
    ((p.1 + x.1.toNat * 2 ^ scale.toNat) % 2 ^ 64, p.2 || s.check s.curCore s.curCtx x.2 = hPoison)

/-- The checks of every lane, ascending, before any is performed (R221). The label of s[A] is looked at with the first active lane's address;
with no active lane there is no address, and the manual does not say whether a poisoned s[A] faults: it does not (DESIGN CHOICE;
entry 113). -/
def State.checkLanes (s : State) (acc : Acc) (ls : List Nat) (addr : LaneAddr) (width : Nat) (lc : Bool) : Option Eff :=
  ls.findSome? (fun i => s.checkAccess acc (addr i).1 width lc (addr i).2)

/-- Is some lane held back from cluster memory (R191)? -/
def State.lanesHeld (s : State) (ls : List Nat) (addr : LaneAddr) : Bool :=
  s.localHeld s.curCore && ls.any (fun i => (localOf s.curCore (addr i).1).isSome)

/-- The word of this core's local memory at an address, its label after Check (R88). -/
def State.ownWord (s : State) (va : Nat) : LWord :=
  match localOf s.curCore va with
  | none => (0#32, hTrue)
  | some (b, o) => let w := s.lword b o; (w.1, s.check s.curCore s.curCtx w.2)

/-- The stored label of a word of this core's local memory. -/
def State.ownLabel (s : State) (va : Nat) : Handle :=
  match localOf s.curCore va with
  | none => hTrue
  | some (b, o) => (s.lword b o).2

/-- The labels of an indexed access's address operands: s[A] and the active lanes of vB (R220). -/
def State.indexReads (s : State) (a b : BitVec 5) (ls : List Nat) : List Handle := (s.srcS a).2 :: ls.map (fun i => ((s.srcV b).lane i).2)

/-- Do global addresses all lie in lines of one home slice (R38)? -/
def sameHome (vas : List Nat) : Bool := vas.all isGlobal && (vas.map homeSlice).eraseDups.length == 1

/-- Vector loads: `lat` with LC, else one access a lane under the tag; VLDB (`one`) makes a single access, and an indexed load (`idx`)
whose lines share one home slice is a small gather (R38, R220, R222). A load under the tag that has no active lane makes no access, and
the manual gives it no latency: it completes after 2 cycles (DESIGN CHOICE; entry 112). -/
def loadVector (i : Instr) (s : State) (k : Ctl) (d : BitVec 5) (vm : VMod) (lc : BitVec 1) (lat : Nat) (addrOf : State → LaneAddr)
    (regs : State → List Handle) (one idx : Bool) : Host.Outcome State Fault Refusal :=
  issue i s (fun s =>
    let addr := addrOf s
    let ls := s.lanes vm
    let acc := if one then ls.take 1 else ls
    match s.checkLanes .load acc addr 4 (lc == 1#1) with
    | some e => e
    | none =>
      if s.lanesHeld acc addr then .stall
      else
      let s := s.countReads (regs s)
      if lc == 1#1 then
        let ws := ls.map (fun j => let w := s.ownWord (addr j).1; RegWrite.lane d j w.1 w.2)
        .go ((s.countReads (acc.map (fun j => s.ownLabel (addr j).1))).produce (tagOf k) lat (ws ++ s.offLanes vm d) 0 [.v d])
      else if acc.isEmpty then .go (s.produce (tagOf k) 2 (s.offLanes vm d) 0 [.v d])
      else
        let n := (acc.map (fun j => s.loadLatency s.curCore (addr j).1)).foldl max 0
        let s1 := s.await (tagOf k) n acc.length (s.offLanes vm d) none false [.v d]
        let grp := if idx && sameHome (acc.map (fun j => (addr j).1)) then s.nextId + 1 else 0
        .go (acc.foldl (fun st j =>
          st.startLoad
            { st.mkReq .load (addr j).1 4 with
              dst := if one then .bcast d ls else .lane d j, seq := s.nextId, grp := grp } n) s1))

/-- Words to store: address, width, value, and the inputs of the label each is stored with. -/
abbrev StoreItem := Nat × Nat × Nat × LabelIn

/-- Stores in the given order, each with its own label; a label beyond the eighth slot is filled later, and the context waits for it
(R44, R45, R222, R319). None where the buffer has no room or no slot is free. -/
def State.storeItems (s : State) (its : List StoreItem) : Option (State × List (LabelIn × Label)) :=
  if s.bufferFull s.curCore ((its.filter (fun x => isGlobal x.1)).map (fun x => x.1 / 64)) then none
  else
    let amb := [s.ambientNow]
    let s0 := s.countVoids (its.map (fun x => x.2.2.2))
    let its' := its.map (fun x => (x.1, x.2.1, x.2.2.1, s.checkedIn x.2.2.2 amb))
    match s0.formAll s.curCore s.curCtx s.nextId (its'.map (fun x => x.2.2.2)) true with
    | none => none
    | some (s1, ls) =>
      let s2 := its'.foldl (fun st x =>
        let r := { st.mkReq .store x.1 x.2.1 with data := BitVec.ofNat 64 x.2.2.1 }
        match labelIn ls x.2.2.2 with
        | .now h => st.putStore { r with lbl := h }
        | .later n => st.putStore { r with seq := n }) s1
      some (if (extrasOf ls).isEmpty then s2 else s2.onMe (fun x => { x with wait := .lanes }), ls)

/-- Vector stores: each active lane's word with Combine(lane label, ambient) (R220 to R223). -/
def storeVector (i : Instr) (s : State) (v : BitVec 5) (vm : VMod) (lc : BitVec 1) (addrOf : State → LaneAddr)
    (regs : State → List Handle) : Host.Outcome State Fault Refusal :=
  issue i s (fun s =>
    let addr := addrOf s
    let ls := s.lanes vm
    match s.checkLanes .store ls addr 4 (lc == 1#1) with
    | some e => e
    | none =>
      if s.lanesHeld ls addr then .stall
      else match (s.countReads (regs s)).storeItems (ls.map (fun j => let w := (s.srcV v).lane j; ((addr j).1, 4, w.1.toNat, plainIn [w.2]))) with
      | none => .stall
      | some (s1, _) => .go s1)

/-- OFF5 in units of `u` bytes (R220). -/
def off5 (off : BitVec 5) (u : Nat) : Dword := BitVec.ofInt 64 (off.toInt * u)

/-- VLD (R220, R222). -/
def execVld (k : Ctl) (d a : BitVec 5) (vm : VMod) (lc : BitVec 1) (off : BitVec 5) (s : State) : Host.Outcome State Fault Refusal :=
  loadVector (.vld k d a vm lc off) s k d vm lc 2 (fun s => s.unitAddr a (off5 off 64)) (fun s => [(s.srcS a).2]) false false
/-- VST (R220, R222). -/
def execVst (k : Ctl) (a b : BitVec 5) (vm : VMod) (lc : BitVec 1) (off : BitVec 5) (s : State) : Host.Outcome State Fault Refusal :=
  storeVector (.vst k a b vm lc off) s b vm lc (fun s => s.unitAddr a (off5 off 64))
    (fun s => [(s.srcS a).2])
/-- VLDS (R220, R222). -/
def execVlds (k : Ctl) (d a b : BitVec 5) (vm : VMod) (lc : BitVec 1) (s : State) : Host.Outcome State Fault Refusal :=
  loadVector (.vlds k d a b vm lc) s k d vm lc 3 (fun s => s.strideAddr a b) (fun s => [(s.srcS a).2, (s.srcS b).2]) false false
/-- VSTS: the data register stands in field D (R220). -/
def execVsts (k : Ctl) (d a b : BitVec 5) (vm : VMod) (lc : BitVec 1) (s : State) : Host.Outcome State Fault Refusal :=
  storeVector (.vsts k d a b vm lc) s d vm lc (fun s => s.strideAddr a b) (fun s => [(s.srcS a).2, (s.srcS b).2])
/-- VLDX (R220, R222, R223). -/
def execVldx (k : Ctl) (d a b : BitVec 5) (vm : VMod) (lc : BitVec 1) (scale : BitVec 2) (s : State) :
    Host.Outcome State Fault Refusal :=
  loadVector (.vldx k d a b vm lc scale) s k d vm lc 4 (fun s => s.indexAddr a b scale) (fun s => s.indexReads a b (s.lanes vm)) false true
/-- VSTX: the highest active lane remains at a duplicate address (R220, R223). -/
def execVstx (k : Ctl) (d a b : BitVec 5) (vm : VMod) (lc : BitVec 1) (scale : BitVec 2) (s : State) :
    Host.Outcome State Fault Refusal :=
  storeVector (.vstx k d a b vm lc scale) s d vm lc (fun s => s.indexAddr a b scale) (fun s => s.indexReads a b (s.lanes vm))
/-- VLDB: one access, copied to every active lane (R220, R222). -/
def execVldb (k : Ctl) (d a : BitVec 5) (vm : VMod) (lc : BitVec 1) (off : BitVec 5) (s : State) : Host.Outcome State Fault Refusal :=
  loadVector (.vldb k d a vm lc off) s k d vm lc 2
    (fun s => let p := s.address a (off5 off 4); fun _ => p) (fun s => [(s.srcS a).2]) true false

/-! ## Permutes and conversions -/

/-- Lane `n` of vA followed by vB (R225). -/
def State.cat (s : State) (a b : BitVec 5) (n : Nat) : LWord := if n < 16 then (s.srcV a).lane n else (s.srcV b).lane (n - 16)

/-- A permute that draws each lane from one lane of vA followed by vB (R225). -/
def permute (i : Instr) (s : State) (k : Ctl) (d a b : BitVec 5) (vm : VMod) (src : Nat → Nat) : Host.Outcome State Fault Refusal :=
  issue i s (fun s => s.vresult k 2 d vm (s.laneOuts vm (fun j => let w := s.cat a b (src j); (w.1, [w.2]))) 0)

/-- VPERM: the label includes lane i of vB (R225). -/
def execVperm (k : Ctl) (d a b : BitVec 5) (vm : VMod) (s : State) : Host.Outcome State Fault Refusal :=
  issue (.vperm k d a b vm) s (fun s =>
    s.vresult k 2 d vm (s.laneOuts vm (fun i =>
      let x := (s.srcV b).lane i
      let y := (s.srcV a).lane x.1.toNat
      if x.1.toNat < 16 then (y.1, [x.2, y.2]) else (0#32, [x.2]))) 0)
/-- VSLIDE (R225). -/
def execVslide (k : Ctl) (d a b : BitVec 5) (vm : VMod) (n : BitVec 4) (s : State) : Host.Outcome State Fault Refusal :=
  permute (.vslide k d a b vm n) s k d a b vm (fun i => i + n.toNat)
/-- VZIP (R225). -/
def execVzip (k : Ctl) (d a b : BitVec 5) (vm : VMod) (half : BitVec 1) (s : State) : Host.Outcome State Fault Refusal :=
  permute (.vzip k d a b vm half) s k d a b vm (fun i => i / 2 + 8 * half.toNat + if i % 2 = 0 then 0 else 16)
/-- VUNZIP (R225). -/
def execVunzip (k : Ctl) (d a b : BitVec 5) (vm : VMod) (half : BitVec 1) (s : State) : Host.Outcome State Fault Refusal :=
  permute (.vunzip k d a b vm half) s k d a b vm (fun i => 2 * i + half.toNat)

/-- The packed half format of a type code: 3 BF16, 4 F16 (R133). -/
def halfFmt (ty : BitVec 3) : Fmt := if ty = 3#3 then Fmt.bf16 else Fmt.f16

/-- One packed half converted to the other format; a NaN becomes the destination's NaN of cause 6 (R226). -/
def halfConvert (f g : Fmt) (mode x : Nat) : Nat × Nat :=
  if f.isNaN x then (g.inf (f.neg x) + 2 ^ (g.frac - 1) + 6, if f.isSNaN x then fNV else 0) else fNarrow g mode (fWiden f x)

/-- The value of VCVT in one lane, from type `t` to type `u` (R62, R226). -/
def convert (t u : BitVec 3) (mode : Nat) (x : Nat) : Nat × Nat :=
  match t.toNat with
  | 0 => fOfInt mode (BitVec.ofNat 32 x).toInt
  | 1 => fOfInt mode (x : Int)
  | 2 => fToInt Fmt.f32 mode (u == 0#3) x
  | _ =>
    let f := halfFmt t
    let g := halfFmt u
    let lo := halfConvert f g mode (x % 2 ^ 16)
    let hi := halfConvert f g mode (x / 2 ^ 16)
    (lo.1 + hi.1 * 2 ^ 16, flagOr lo.2 hi.2)

/-- VCVT (R226). -/
def execVcvt (k : Ctl) (d a : BitVec 5) (vm : VMod) (u : BitVec 3) (s : State) : Host.Outcome State Fault Refusal :=
  issue (.vcvt k d a vm u) s (fun s => s.fresult k 4 d vm (s.float1 a (convert vm.ty u (s.mode vm.rm))))

/-- VPACK (R227). -/
def execVpack (k : Ctl) (d a b : BitVec 5) (vm : VMod) (s : State) : Host.Outcome State Fault Refusal :=
  issue (.vpack k d a b vm) s (fun s =>
    s.fresult k 4 d vm (fun i =>
      let x := s.cat a b (2 * i)
      let y := s.cat a b (2 * i + 1)
      let lo := fNarrow (halfFmt vm.ty) (s.mode vm.rm) x.1.toNat
      let hi := fNarrow (halfFmt vm.ty) (s.mode vm.rm) y.1.toNat
      ((lo.1 + hi.1 * 2 ^ 16, flagOr lo.2 hi.2), [x.2, y.2])))

/-- VUNPACK (R227). -/
def execVunpack (k : Ctl) (d a : BitVec 5) (vm : VMod) (half : BitVec 1) (s : State) : Host.Outcome State Fault Refusal :=
  issue (.vunpack k d a vm half) s (fun s =>
    s.fresult k 4 d vm (fun i =>
      let e := 16 * half.toNat + i
      let x := (s.srcV a).lane (e / 2)
      ((fWiden (halfFmt vm.ty) (x.1.toNat / 2 ^ (16 * (e % 2)) % 2 ^ 16), 0), [x.2])))

/-! ## Block formats -/

/-- Is a type code B4 (R133)? -/
def isB4 (ty : BitVec 3) : Bool := ty == 6#3
/-- Blocks of a register (R65). -/
def blocksOf (w4 : Bool) : Nat := if w4 then 4 else 2
/-- Lanes of a block (R65). -/
def lanesOf (w4 : Bool) : Nat := if w4 then 4 else 8
/-- The lanes of block `j` (R65). -/
def blockLanes (w4 : Bool) (j : Nat) : List Nat := (List.range (lanesOf w4)).map (fun i => j * lanesOf w4 + i)

/-- Words of code bytes, four a word (R2). -/
def codeWords : List Byte → List Nat
  | a :: b :: c :: d :: r => leNat [a, b, c, d] :: codeWords r
  | [] => []
  | l => [leNat l]

/-- The writes of a VQLD from its sixteen code words and its headers: lanes labelled `lab i`, sideband, FMT_CORRUPT (R67, R229). -/
def vqWrites (d : BitVec 5) (w4 : Bool) (codes : List Word) (hdrs : List (BitVec 16)) (lab : Nat → Handle) : List RegWrite × Nat :=
  let bad : Nat → Bool := fun i => headerBad (hdrs.getD (i / lanesOf w4) 0#16)
  ((List.range 16).map (fun i => RegWrite.lane d i (codes.getD i 0#32) (if bad i then hPoison else lab i)) ++
   (List.range 4).map (fun j => RegWrite.side d j (hdrs.getD j 0#16)),
   if hdrs.any headerBad then stFmt.toNat else 0)

/-- The number of the first corrupt header. -/
def firstBad (hdrs : List (BitVec 16)) : Nat := hdrs.findIdx headerBad

/-- The writes of a VQLD whose labels are known, and the lanes that extra slots fill (R229, R319). -/
def vqSplit (d : BitVec 5) (w4 : Bool) (codes : List Word) (hdrs : List (BitVec 16)) (ls : List (LabelIn × Label))
    (ins : List LabelIn) : (List RegWrite × Nat) × List LaneOut :=
  let bad : Nat → Bool := fun i => headerBad (hdrs.getD (i / lanesOf w4) 0#16)
  let lab : Nat → Option Handle := fun i =>
    match labelIn ls (ins.getD i (plainIn [])) with | .now h => some h | .later _ => none
  let ws := vqWrites d w4 codes hdrs (fun i => (lab i).getD hTrue)
  let late : List LaneOut := ((List.range 16).filter (fun i => !bad i && (lab i).isNone)).map
    (fun i => (i, codes.getD i 0#32, ins.getD i (plainIn [])))
  ((ws.1.filter (fun w => match w with | .lane _ i _ _ => !late.any (fun o => o.1 == i) | _ => true), ws.2), late)

/-- The combines of the lanes whose header is not corrupt (R67, R90). -/
def goodIns (w4 : Bool) (hdrs : List (BitVec 16)) (ins : List LabelIn) : List LabelIn :=
  (((List.range 16).zip ins).filter (fun p => !headerBad (hdrs.getD (p.1 / lanesOf w4) 0#16))).map (·.2)

/-- A VQLD whose words have come: headers checked, lanes labelled by code word and header word, lanes with equal labels sharing one
combine (R67, R90, R229, R319). None where the slots that these need are not free: the VQLD waits. -/
def State.finishVq (s : State) (k seq : Nat) : Option State :=
  match s.pendAt k seq with
  | none => some s
  | some p =>
    match p.fin with
    | none => some s
    | some f =>
      let w4 := isB4 f.ty
      let raw : Nat → LWord := fun i => ((p.raw.find? (fun x => x.1 == i)).map (·.2)).getD (0#32, hTrue)
      let hdrs := (List.range (blocksOf w4)).map (fun j => (raw (16 + j)).1.setWidth 16)
      if hdrs.any headerBad && bitAt (s.ctxAt k p.ctx).fpctl.toNat 3 then
        some (s.onPend k seq (fun q => { q with bad := some (cFormat, BitVec.ofNat 64 (f.hdrVa + 2 * firstBad hdrs)), fin := none }))
      else
        let ck := s.check k p.ctx
        let ins := (List.range 16).map (fun i => plainIn [ck (raw i).2, ck (raw (16 + i / lanesOf w4)).2])
        match s.formAll k p.ctx seq (goodIns w4 hdrs ins) false with
        | none => none
        | some (s1, ls) =>
          let r := vqSplit f.r w4 ((List.range 16).map (fun i => (raw i).1)) hdrs ls ins
          let s2 := (extrasOf ls).foldl (fun s n => s.lanesInFlight k p.ctx p.pc 0 f.r ls r.2 n) s1
          some (s2.onPend k seq (fun q => { q with writes := r.1.1, flags := q.flags ||| BitVec.ofNat 64 r.1.2, fin := none }))

/-- Header addresses of a VQLD, VQST (R229). -/
def State.headerAddr (s : State) (b : BitVec 5) : LaneAddr :=
  let p := s.address b 0#64
  fun j => ((p.1 + 2 * j) % 2 ^ 64, p.2)

/-- A 16-bit header in this core's local memory. -/
def State.ownHalf (s : State) (va : Nat) : BitVec 16 := BitVec.ofNat 16 ((s.ownWord va).1.toNat / 2 ^ (8 * (va % 4)))

/-- VQLD (R229). -/
def execVqld (k : Ctl) (d a b : BitVec 5) (vm : VMod) (lc : BitVec 1) (s : State) : Host.Outcome State Fault Refusal :=
  issue (.vqld k d a b vm lc) s (fun s =>
    let w4 := isB4 vm.ty
    let ca := s.unitAddr a 0#64
    let ha := s.headerAddr b
    let hs := List.range (blocksOf w4)
    match (s.checkLanes .load (List.range 16) ca 4 (lc == 1#1)).or (s.checkLanes .load hs ha 2 (lc == 1#1)) with
    | some e => e
    | none =>
      if s.lanesHeld (List.range 16) ca || s.lanesHeld hs ha then .stall
      else
      let s := s.countReads [(s.srcS a).2, (s.srcS b).2]
      if lc == 1#1 then
        let hdrs := hs.map (fun j => s.ownHalf (ha j).1)
        if hdrs.any headerBad && s.fmtTrap then .fault cFormat (BitVec.ofNat 64 (ha (firstBad hdrs)).1)
        else
          let ins := (List.range 16).map (fun i => plainIn [(s.ownWord (ca i).1).2, (s.ownWord (ha (i / lanesOf w4)).1).2])
          let s0 := s.countVoids ins
          match s0.formAll s.curCore s.curCtx s.nextId (goodIns w4 hdrs ins) false with
          | none => .stall
          | some (s1, ls) =>
            let r := vqSplit d w4 ((List.range 16).map (fun i => (s.ownWord (ca i).1).1)) hdrs ls ins
            let s2 := (extrasOf ls).foldl (fun s n => s.laterPend 2 d ls r.2 n) s1
            .go (s2.produce (tagOf k) 2 r.1.1 r.1.2 [.v d])
      else
        let n := ((List.range 16).map (fun j => s.loadLatency s.curCore (ca j).1) ++
          hs.map (fun j => s.loadLatency s.curCore (ha j).1)).foldl max 0
        let s1 := s.await (tagOf k) n (16 + hs.length) [] (some { r := d, ty := vm.ty, hdrVa := (ha 0).1 }) false [.v d]
        let s2 := (List.range 16).foldl (fun st j =>
          st.startLoad { st.mkReq .load (ca j).1 4 with dst := .raw j, seq := s.nextId } n) s1
        .go (hs.foldl (fun st j =>
          st.startLoad { st.mkReq .load (ha j).1 2 with dst := .raw (16 + j), seq := s.nextId } n) s2))

/-- The code of element `e` in a register (R228). -/
def codeOf (w4 : Bool) (v : VReg) (e : Nat) : Nat :=
  if w4 then (v.lane (e / 8)).1.toNat / 2 ^ (4 * (e % 8)) % 16 else (v.lane (e / 4)).1.toNat / 2 ^ (8 * (e % 4)) % 256

/-- VQDEC (R230). -/
def execVqdec (k : Ctl) (d a : BitVec 5) (vm : VMod) (part : BitVec 3) (s : State) : Host.Outcome State Fault Refusal :=
  issue (.vqdec k d a vm part) s (fun s =>
    let w4 := isB4 vm.ty
    let v := s.srcV a
    s.fresult k 4 d vm (fun i =>
      let e := 16 * part.toNat + i
      ((decodeElem w4 (vget v.side (e / 32) 0#16) (codeOf w4 v e)).toF32, [(v.lane (if w4 then e / 8 else e / 4)).2])))

/-- A pair of registers quantised under the mask register: header, code words, QUANT_INVALID, label inputs (R71, R90, R231). -/
def State.quantisePair (s : State) (a : BitVec 5) (vm : VMod) (mask : BitVec 4) : BitVec 16 × List Nat × Nat × List Handle :=
  let w4 := isB4 vm.ty
  let x := s.srcV a
  let y := s.srcV (a + 1#5)
  let xs : List (Option Nat) := (List.range 32).map (fun e =>
    if s.active vm (e % 16) then some ((if e < 16 then x else y).lane (e % 16)).1.toNat else none)
  let q := quantise xs mask.toNat w4
  let hs := (s.lanes vm).map (fun i => (x.lane i).2) ++ (s.lanes vm).map (fun i => (y.lane i).2) ++
    (List.range 16).flatMap (s.maskLabel vm)
  (q.1, codeWords (packCodes w4 q.2.1), if q.2.2 then stQuant.toNat else 0, hs)

/-- VQENC (R231). -/
def execVqenc (k : Ctl) (d a : BitVec 5) (vm : VMod) (mask : BitVec 4) (slot : BitVec 2) (s : State) :
    Host.Outcome State Fault Refusal :=
  issue (.vqenc k d a vm mask slot) s (fun s =>
    let w4 := isB4 vm.ty
    let q := s.quantisePair a vm mask
    match s.formWith q.2.2.2 with
    | none => .stall
    | some (s1, h) =>
      let ws := (blockLanes w4 slot.toNat).map (fun i => RegWrite.lane d i (BitVec.ofNat 32 (q.2.1.getD (i % lanesOf w4) 0)) h)
      let sides := RegWrite.side d slot.toNat q.1 :: if w4 then [] else [.side d 2 0#16, .side d 3 0#16]
      .go (s1.produce (tagOf k) 12 (ws ++ sides) q.2.2.1 [.v d]))

/-- VQST: codes at s[A], header at s[C], header into s[D] (R232). -/
def execVqst (k : Ctl) (d a b c : BitVec 5) (vm : VMod) (mask : BitVec 4) (s : State) : Host.Outcome State Fault Refusal :=
  issue (.vqst k d a b c vm mask) s (fun s =>
    let w4 := isB4 vm.ty
    let ca := s.unitAddr a 0#64
    let ha := s.headerAddr c
    let cs := List.range (lanesOf w4)
    match (s.checkLanes .store cs ca 4 false).or (s.checkLanes .store [0] ha 2 false) with
    | some e => e
    | none =>
      if s.lanesHeld cs ca || s.lanesHeld [0] ha then .stall
      else
        let q := s.quantisePair b vm mask
        let i := plainIn q.2.2.2
        let its := cs.map (fun j => ((ca j).1, 4, q.2.1.getD j 0, i)) ++ [((ha 0).1, 2, q.1.toNat, i)]
        match (s.countReads [(s.srcS a).2, (s.srcS c).2]).storeItems its with
        | none => .stall
        | some (s1, ls) =>
          let h := match labelIn ls (s.checkedIn i [s.ambientNow]) with | .now h => h | .later _ => hTrue
          .go (s1.produce (tagOf k) 12 [.s d (q.1.setWidth 64) h] q.2.2.1 [.s d]))

/-- VHDR (R233). -/
def execVhdr (k : Ctl) (d a : BitVec 5) (vm : VMod) (slot : BitVec 2) (s : State) : Host.Outcome State Fault Refusal :=
  issue (.vhdr k d a vm slot) s (fun s =>
    let v := s.srcV a
    s.result k 2 d ((vget v.side slot.toNat 0#16).setWidth 64) ((blockLanes (isB4 vm.ty) slot.toNat).map (fun i => (v.lane i).2)) 0)

/-- VHDRW: a valid header's label enters each lane of the block; a corrupt one poisons them, or raises FORMAT (R67, R233). -/
def execVhdrw (k : Ctl) (d a : BitVec 5) (vm : VMod) (slot : BitVec 2) (s : State) : Host.Outcome State Fault Refusal :=
  issue (.vhdrw k d a vm slot) s (fun s =>
    let x := s.srcS a
    let h : BitVec 16 := x.1.setWidth 16
    let v := s.srcV d
    let bl := blockLanes (isB4 vm.ty) slot.toNat
    if headerBad h then
      if s.fmtTrap then .fault cFormat 0#64
      else .go ((s.countVoids [plainIn [x.2]]).produce (tagOf k) 2
        (bl.map (fun i => RegWrite.lane d i (v.lane i).1 hPoison) ++ [.side d slot.toNat h]) stFmt.toNat [.v d])
    else
      s.vresultAt k 2 2 d vm (bl.map (fun i => (i, (v.lane i).1, plainIn [(v.lane i).2, x.2]))) 0 [.side d slot.toNat h])

end Sys2Proof.Machine
end

