-- ==== Sys2Proof/Machine/Matrix.lean ====
section
/-! DEFINITION. Sys2Proof/Machine/Matrix.lean: the matrix array (R54, R73, R74, R89, R124 to R126, R236 to R248). -/

namespace Sys2Proof.Machine

/-! ## Accumulator banks and who may use them -/

/-- The bank of a gang operation. -/
def GangOp.bank (o : GangOp) : Nat := if o.kind = 2 then o.a.toNat else o.d.toNat

/-- Has a core a gang operation on a bank that has not completed for its columns (R242)? -/
def State.gangOn (s : State) (k b : Nat) : Bool :=
  let c := s.cluster (k / 8)
  c.gang.any (fun m => m.core == k && m.op.bank == b) ||
  c.mats.any (fun o => !o.colsDone && !o.lost && o.op.bank == b)

/-- Is a save (mode 7) or restore (mode 8) of a bank pending (R256)? -/
def State.jobOn (s : State) (q mode b : Nat) : Bool :=
  (s.cluster q).jobs.any (fun j => j.mode == mode && j.bank == b && j.captured && !j.landed && !j.stopped)

/-- Must a per-core write to a bank wait (R242, R256)? -/
def State.writeWaits (s : State) (b : Nat) : Bool :=
  s.gangOn s.curCore b || s.jobOn (s.curCore / 8) 7 b || s.jobOn (s.curCore / 8) 8 b

/-- Is some per-core write to a bank of a cluster still under way (R242)? -/
def State.writeUnderWay (s : State) (q b : Nat) : Bool :=
  (List.range 8).any (fun c => (s.core (q * 8 + c)).pend.any (fun p =>
    p.writes.any (fun w => match w with | .acc n _ _ _ _ => n == b | _ => false))) ||
  s.reqs.any (fun r => r.core / 8 == q && (match r.dst with | .acc n _ _ => n == b | _ => false)) ||
  s.jobOn q 8 b

/-- An accumulator word as the issuing core reads it: an arrived word of an MLD in flight may be seen or not (R115, R242); no word of
another write is seen before it completes (R242). -/
def State.readAcc (s : State) (b i j : Nat) : LWord :=
  s.here.pend.foldl (fun cur p => p.writes.foldl (fun cur w =>
    match w with
    | .acc n r c v h =>
      if p.bank.isSome && n = b && r = i && c = j && !p.dead.contains w.key && decide (p.minDue ≤ s.now) && s.newBit p.seq w.key 0 then (v, h)
      else cur
    | _ => cur) cur) ((s.cluster (s.curCore / 8)).acc b i j)

/-- The words of core `k`'s slice in order: row, column (R245). -/
def sliceWords (k : Nat) : List (Nat × Nat) := (List.range 32).flatMap (fun i => (List.range 4).map (fun n => (i, 4 * (k % 8) + n)))

/-- A destination word with its label replaced. -/
def RegWrite.withLabel (w : RegWrite) (h : Handle) : RegWrite :=
  match w with
  | .s r v _ => .s r v h
  | .lane r i v _ => .lane r i v h
  | .side r j x => .side r j x
  | .acc b i j v _ => .acc b i j v h

/-- Destination words whose labels are combines with AMBIENT: those known at issue, and results in flight for the others
(R88, R319). -/
def State.formWrites (s : State) (lat : Nat) (dst : List RegRef) (outs : List (RegWrite × LabelIn)) :
    Option (State × List RegWrite) :=
  let amb := [s.ambientNow]
  let s0 := s.countVoids (outs.map (·.2))
  let outs' := outs.map (fun o => (o.1, s.checkedIn o.2 amb))
  match s0.formAll s.curCore s.curCtx s.nextId (outs'.map (·.2)) false with
  | none => none
  | some (s1, ls) =>
    let now := outs'.filterMap (fun o => match labelIn ls o.2 with | .now h => some (o.1.withLabel h) | .later _ => none)
    let s2 := (extrasOf ls).foldl (fun st n =>
      let ws := outs'.filterMap (fun o => match labelIn ls o.2 with | .later m => if m = n then some o.1 else none | .now _ => none)
      (st.launchPend
        { seq := n, ctx := s.curCtx, tag := 0, pc := s.me.pc, minDue := s.now + lat, due := 0, left := 1, writes := ws, raw := [],
          fin := none, flags := 0#64, acquire := false, dst := dst, dead := [], bad := none, lanes := true, bank := none }).onMe
        (fun x => { x with wait := .lanes })) s1
    some (s2, now)

/-- MZERO (R245). -/
def execMzero (k : Ctl) (d : BitVec 5) (s : State) : Host.Outcome State Fault Refusal :=
  issue (.mzero k d) s (fun s =>
    if s.writeWaits d.toNat then .stall
    else .go (s.produce (tagOf k) 2 ((sliceWords s.curCore).map (fun p => .acc d.toNat p.1 p.2 0#32 hTrue)) 0 []))

/-- MSCALE (R245). -/
def execMscale (k : Ctl) (d a : BitVec 5) (vm : VMod) (s : State) : Host.Outcome State Fault Refusal :=
  issue (.mscale k d a vm) s (fun s =>
    if s.writeWaits d.toNat then .stall
    else
      let x := s.srcS a
      let rs := (sliceWords s.curCore).map (fun p =>
        let w := s.readAcc d.toNat p.1 p.2
        let r := fMul (s.mode vm.rm) w.1.toNat (x.1.toNat % 2 ^ 32)
        ((RegWrite.acc d.toNat p.1 p.2 (BitVec.ofNat 32 r.1) hTrue, plainIn [w.2, x.2]), r.2))
      match s.formWrites 4 [] (rs.map (·.1)) with
      | none => .stall
      | some (s1, ws) => .go (s1.produce (tagOf k) 4 ws (unite (rs.map (·.2))) []))

/-- MRDV (R246). -/
def execMrdv (k : Ctl) (d a : BitVec 5) (vm : VMod) (r : BitVec 3) (s : State) : Host.Outcome State Fault Refusal :=
  issue (.mrdv k d a vm r) s (fun s =>
    if s.jobOn (s.curCore / 8) 8 a.toNat then .stall
    else
      let ws := (s.lanes vm).map (fun i =>
        let w := s.readAcc a.toNat (4 * r.toNat + i / 4) (4 * (s.curCore % 8) + i % 4)
        RegWrite.lane d i w.1 (s.check s.curCore s.curCtx w.2))
      let hs := (s.lanes vm).map (fun i => (s.readAcc a.toNat (4 * r.toNat + i / 4) (4 * (s.curCore % 8) + i % 4)).2)
      .go ((s.countReads hs).produce (tagOf k) 3 (ws ++ s.offLanes vm d) 0 [.v d]))

/-- MWRV (R246). -/
def execMwrv (k : Ctl) (d a : BitVec 5) (vm : VMod) (r : BitVec 3) (s : State) : Host.Outcome State Fault Refusal :=
  issue (.mwrv k d a vm r) s (fun s =>
    if s.writeWaits d.toNat then .stall
    else
      let outs := (s.lanes vm).map (fun i =>
        let w := (s.srcV a).lane i
        (RegWrite.acc d.toNat (4 * r.toNat + i / 4) (4 * (s.curCore % 8) + i % 4) w.1 hTrue, plainIn [w.2]))
      match s.formWrites 2 [] outs with
      | none => .stall
      | some (s1, ws) => .go (s1.produce (tagOf k) 2 ws 0 []))

/-- The addresses of MST and MLD, by position in the slice; none when the base or the pitch is not a multiple of 16 (R247). -/
def State.sliceAddr (s : State) (b c : BitVec 5) (off : BitVec 32) : (Nat × Bool) × Option LaneAddr :=
  let p := s.address b (imm32 off)
  let pitch := (s.srcS c).1
  (p, if p.1 % 16 != 0 || pitch.toNat % 16 != 0 then none
    else some (fun n => ((BitVec.ofNat 64 p.1 + BitVec.ofNat 64 (n / 4) * pitch +
      BitVec.ofNat 64 (16 * (s.curCore % 8) + 4 * (n % 4))).toNat, p.2)))

/-- MST (R247). -/
def execMst (k : Ctl) (a b c : BitVec 5) (off : BitVec 32) (s : State) : Host.Outcome State Fault Refusal :=
  issue (.mst k a b c off) s (fun s =>
    let ad := s.sliceAddr b c off
    if ad.1.2 then .fault cPoison (BitVec.ofNat 64 ad.1.1)
    else match ad.2 with
    | none => .fault cAlign (BitVec.ofNat 64 ad.1.1)
    | some addr =>
      match s.checkLanes .store (List.range 128) addr 4 false with
      | some e => e
      | none =>
        if s.jobOn (s.curCore / 8) 8 a.toNat || s.lanesHeld (List.range 128) addr then .stall
        else
          let its := ((sliceWords s.curCore).zipIdx).map (fun p =>
            let w := s.readAcc a.toNat p.1.1 p.1.2
            ((addr p.2).1, 4, w.1.toNat, plainIn [w.2]))
          match (s.countReads [(s.srcS b).2, (s.srcS c).2]).storeItems its with
          | none => .stall
          | some (s1, _) => .go s1)

/-- MLD (R247). -/
def execMld (k : Ctl) (d b c : BitVec 5) (off : BitVec 32) (s : State) : Host.Outcome State Fault Refusal :=
  issue (.mld k d b c off) s (fun s =>
    let ad := s.sliceAddr b c off
    if ad.1.2 then .fault cPoison (BitVec.ofNat 64 ad.1.1)
    else match ad.2 with
    | none => .fault cAlign (BitVec.ofNat 64 ad.1.1)
    | some addr =>
      match s.checkLanes .load (List.range 128) addr 4 false with
      | some e => e
      | none =>
        if s.writeWaits d.toNat || s.lanesHeld (List.range 128) addr then .stall
        else
          let s := s.countReads [(s.srcS b).2, (s.srcS c).2]
          let n := ((List.range 128).map (fun j => s.loadLatency s.curCore (addr j).1)).foldl max 0
          let s1 := (s.await (tagOf k) n 128 [] none false []).onPend s.curCore s.nextId (fun p => { p with bank := some d.toNat })
          .go (((sliceWords s.curCore).zipIdx).foldl (fun st p =>
            st.startLoad { st.mkReq .load (addr p.2).1 4 with dst := .acc d.toNat p.1.1 p.1.2, seq := s.nextId } n) s1))

/-! ## Gang instructions -/

/-- The chunk of a pair of types (R73, R237). -/
def chunkOf (ta tb : BitVec 3) : Nat := if ta.toNat < 5 then 8 else if ta = 6#3 && tb = 6#3 then 64 else 32

/-- How many registers a register-form operand takes (R238). -/
def operandRegs (ty : BitVec 3) (kk : Nat) : Nat := if ty = 5#3 || (ty = 6#3 && kk = 64) then 2 else 1

/-- A register-form operand latched (R238). -/
def State.latch (s : State) (n : BitVec 5) (ty : BitVec 3) (kk : Nat) : List VReg :=
  (List.range (operandRegs ty kk)).map (fun i => s.srcV (n + BitVec.ofNat 5 i))

/-- Has a register that the issuing context reads a pending label (R125)? -/
def State.regPending (s : State) (r : RegRef) : Bool :=
  match r with
  | .s n => isPend (s.srcS n).2
  | .v n => (s.srcV n).labels.toList.any isPend

/-- The members of a gang in ascending order of core. -/
def gangOrder (l : List Member) : List Member :=
  (List.range 8).flatMap (fun c => l.filter (fun m => m.core % 8 == c))

/-- A precise fault of a gang member: nothing of its instruction is performed, its tag frees (R125, R239, R343). A core that is frozen
holds the report (R344). -/
def State.faultMember (s : State) (cause : Nat) (addr : Dword) (m : Member) : State :=
  if (s.core m.core).launch.isNone then s
  else
    let tag := ((s.pendAt m.core m.seq).map (·.tag)).getD 0
    let unjoined := (s.cluster (m.core / 8)).gang.any (fun x => x.core == m.core)
    let mine := (s.ctxAt m.core m.ctx).wait = .gang && !unjoined
    let s1 := (s.onCore m.core (fun c => { c with pend := c.pend.filter (fun p => p.seq != m.seq), gangBusy := unjoined })).onCtx
      m.core m.ctx (fun x => { (x.setTag tag false) with wait := if mine then .none else x.wait })
    let r : Report := { arrived := s.now, cause := cause, ctx := m.ctx, pc := m.pc, addr := addr, resume := if mine then some m.pc else none }
    if (s.core m.core).frozen then s1.onCore m.core (fun c => { c with held := holdReport c.held r }) else s1.takeReport m.core r

/-- Every member of a gang faults (R125, R239). -/
def State.faultGang (s : State) (q : Nat) (ms : List Member) (cause : Nat) (addr : Dword) : State :=
  ms.foldl (fun s m => s.faultMember cause addr m) (s.onCluster q (fun c => { c with gang := [] }))

/-- A scratchpad operand: base, row pitch, tile pitch, rotation code (R47, R239). -/
structure Tile where
  base : Nat
  pitch : Nat
  tile : Nat
  rot : Nat
deriving DecidableEq, Repr

/-- The tile that s[n] and s[n + 1] describe (R239). -/
def tileOf (base pack : Dword) : Tile :=
  { base := base.toNat, pitch := bits pack.toNat 15 0, tile := bits pack.toNat 31 16, rot := bits pack.toNat 35 32 }

/-- The address of byte `b` of row `i`, swizzled (R47). -/
def Tile.addr (t : Tile) (i b : Nat) : Nat := (t.base + i * t.pitch + (b ^^^ (i * t.rot % 8 * 8))) % 2 ^ 64

/-- The address of header `h` of row `i`, `nb` headers a row (R239). -/
def Tile.header (t : Tile) (nb i h : Nat) : Nat := (t.base + t.tile + 2 * nb * i + 2 * h) % 2 ^ 64

/-- Bytes of a tile row (R239). -/
def rowBytes (ty : BitVec 3) (kk : Nat) : Nat := if ty = 5#3 then 32 else if ty = 6#3 && kk = 64 then 32 else 16

/-- Headers of a tile row (R239). -/
def rowHeaders (ty : BitVec 3) (kk : Nat) : Nat := if ty.toNat < 5 then 0 else kk / 32

/-- Is an address within the cluster memory of core `k0`'s cluster (R239)? -/
def inCluster (k0 va : Nat) : Bool :=
  match localOf k0 va with
  | some (b, _) => b / 8 == k0 / 8
  | none => false

/-- The checks of a tile of `n` rows: alignment, swizzle requirements, cluster memory, reserved code (R47, R239). -/
def Tile.check (t : Tile) (k0 n bytes nb : Nat) : Option (Nat × Dword) :=
  let at_ := BitVec.ofNat 64 t.base
  if t.base % 8 != 0 || t.pitch % 8 != 0 || (nb != 0 && t.tile % 2 != 0) then some (cAlign, at_)
  else if t.rot != 0 && t.rot < 8 && (t.pitch % 64 != 0 || t.base % 64 != 0) then some (cAlign, at_)
  else if !((List.range n).all (fun i => (List.range (bytes / 4)).all (fun j => inCluster k0 (t.addr i (4 * j)))) &&
      (List.range n).all (fun i => (List.range nb).all (fun h => inCluster k0 (t.header nb i h)))) then some (cRights, at_)
  else if 8 ≤ t.rot then some (cIllegal, at_)
  else none

/-- A word of cluster memory by address. -/
def State.clusterWord (s : State) (k0 va : Nat) : LWord :=
  match localOf k0 va with
  | none => (0#32, hTrue)
  | some (b, o) => s.lword b o

/-- A header of a tile with the label of the word that holds it (R90). -/
def State.tileHeader (s : State) (k0 : Nat) (t : Tile) (nb i h : Nat) : BitVec 16 × Handle :=
  let va := t.header nb i h
  let w := s.clusterWord k0 va
  (BitVec.ofNat 16 (w.1.toNat / 2 ^ (8 * (va % 4))), w.2)

/-- Has a tile of `n` rows a corrupt header (R67)? -/
def State.tileBad (s : State) (k0 : Nat) (t : Tile) (n nb : Nat) : Bool :=
  (List.range n).any (fun i => (List.range nb).any (fun h => headerBad (s.tileHeader k0 t nb i h).1))

/-- Rows 4c to 4c + 3 of a tile in the register placement of R238, each word with its stored label, or VOID.POISON under a corrupt
header; and the labels of the words that hold the headers, row by row (R67, R90). Each core resolves them for its columns (R89). -/
def State.tileRegs (s : State) (k0 : Nat) (t : Tile) (ty : BitVec 3) (kk c : Nat) : List VReg × List Handle :=
  let w := rowBytes ty kk / 4
  let nb := rowHeaders ty kk
  let bpr := if ty = 5#3 then 2 else 4
  let fill := (List.range 4).flatMap (fun q => (List.range w).map (fun j => (q, j)))
  let lanes := fill.foldl (fun (acc : List VReg) p =>
    let n := p.1 * w + p.2
    let x := s.clusterWord k0 (t.addr (4 * c + p.1) (4 * p.2))
    let bad := nb != 0 && headerBad (s.tileHeader k0 t nb (4 * c + p.1) (p.2 * nb / w)).1
    acc.modify (n / 16) (fun v => v.setLane (n % 16) x.1 (if bad then hPoison else x.2)))
    (List.replicate (operandRegs ty kk) VReg.zero)
  let heads := (List.range 4).flatMap (fun q => (List.range nb).map (fun h => (q, h)))
  (heads.foldl (fun vs p =>
    let n := p.1 * nb + p.2
    vs.modify (n / bpr) (fun v => v.setSide (n % bpr) (s.tileHeader k0 t nb (4 * c + p.1) p.2).1)) lanes,
   heads.map (fun p => (s.tileHeader k0 t nb (4 * c + p.1) p.2).2))

/-- The labels of the header words of row `q` (R90): none in register form. -/
def rowHeads (hs : List Handle) (ty : BitVec 3) (kk q : Nat) : List Handle := (hs.drop (q * rowHeaders ty kk)).take (rowHeaders ty kk)

/-- The elements and labels of row `q` of a latched operand (R238). -/
def rowElems (vs : List VReg) (ty : BitVec 3) (kk q : Nat) : List (Elem × Handle) :=
  let reg : Nat → VReg := fun i => vs.getD i VReg.zero
  (List.range kk).map (fun k =>
    if ty.toNat < 5 then
      let x := (reg 0).lane (4 * q + k / 2)
      (Elem.ofFmt (halfFmt ty) (x.1.toNat / 2 ^ (16 * (k % 2)) % 2 ^ 16), x.2)
    else
      let w4 := isB4 ty
      let blk := q * (kk / 32) + k / 32
      let bpr := blocksOf w4
      let v := reg (blk / bpr)
      let e := 32 * (blk % bpr) + k % 32
      (decodeElem w4 (vget v.side (blk % bpr) 0#16) (codeOf w4 v e), (v.lane (if w4 then e / 8 else e / 4)).2))

/-- The combines that the array forms for context `t` of core `k`, counted by how each resolves, one for each distinct tuple
(R92, R93, R139, R319). -/
def State.countFormed (s : State) (k t : Nat) (ins : List (List Handle)) : State :=
  (distinct (ins.map (fun hs => plainIn (hs.map (s.check k t))))).foldl (fun s i =>
    s.onCore k (fun c => c.count (match s.shape k t i with | .fast _ => 5 | .cached _ => 6 | .slot => 7) 1)) s

/-- Operand reads of the array for context `t` of core `k` that Check returns as VOID, counted (R85, R139). -/
def State.countReadsAt (s : State) (k t : Nat) (hs : List Handle) : State :=
  let n := ((hs.map (s.check k t)).filter isVoid).length
  if n = 0 then s else s.onCore k (fun c => c.count 8 n)

/-- A core's bank columns after a gang product: state, and flags (R54, R58, R73, R74, R89, R241). -/
def State.gangCore (s : State) (q : Nat) (o : MatOp) (c : Nat) (m : Member) : State × Nat :=
  let kk := chunkOf o.op.ty o.op.tb
  let b := o.op.bank
  let mem : Nat → Member := fun n => o.members.getD n m
  let js := ((List.range 4).map (fun n => 4 * c + n)).filter (fun j => decide (j < o.cols))
  let is := List.range o.rows
  let rowsA := is.map (fun i => rowElems (mem (i / 4)).va o.op.ty kk (i % 4))
  let colsB := js.map (fun j => rowElems (mem (j / 4)).vb o.op.tb kk (j % 4))
  let labels (st : State) (rows : List (List Handle)) : State × List Handle := rows.foldl (fun acc r =>
    let x := acc.1.combineNow m.core m.ctx r; (x.1, acc.2 ++ [x.2])) (st, [])
  let ra := (is.zip rowsA).map (fun p => p.2.map (·.2) ++ rowHeads (mem (p.1 / 4)).ha o.op.ty kk (p.1 % 4))
  let cb := (js.zip colsB).map (fun p => p.2.map (·.2) ++ rowHeads (mem (p.1 / 4)).hb o.op.tb kk (p.1 % 4))
  let rl := labels s ra
  let cl := labels rl.1 cb
  let cells := is.flatMap (fun i => (js.zipIdx).map (fun p => (i, p.1, p.2)))
  let olds := if o.op.zc == 1#1 then [] else cells.map (fun p => ((s.cluster q).acc b p.1 p.2.1).2)
  let ins := cells.map (fun p =>
    [if o.op.zc == 1#1 then hTrue else ((s.cluster q).acc b p.1 p.2.1).2, rl.2.getD p.1 hTrue, cl.2.getD p.2.2 hTrue, m.amb])
  let counted := (cl.1.countReadsAt m.core m.ctx olds).countFormed m.core m.ctx (ra ++ cb ++ ins)
  let r := cells.foldl (fun (acc : State × Nat) p =>
    let old := (acc.1.cluster q).acc b p.1 p.2.1
    let c0 := if o.op.zc == 1#1 then 0 else old.1.toNat
    let lc := if o.op.zc == 1#1 then hTrue else old.2
    let v := macChunk c0 (((rowsA.getD p.1 []).map (·.1)).zip ((colsB.getD p.2.2 []).map (·.1)))
    let l := acc.1.combineNow m.core m.ctx [lc, rl.2.getD p.1 hTrue, cl.2.getD p.2.2 hTrue, m.amb]
    (l.1.onCluster q (fun x => x.setAcc b p.1 p.2.1 (BitVec.ofNat 32 v.1) l.2), flagOr acc.2 v.2)) (counted, 0)
  let pairs := cells.flatMap (fun p => ((rowsA.getD p.1 []).map (·.1)).zip ((colsB.getD p.2.2 []).map (·.1)))
  let nan : Elem → Bool := fun e => match e with | .nan _ _ => true | _ => false
  let num (f : Elem × Elem → Bool) : Nat := (pairs.filter f).length
  (r.1.onCore m.core (fun x =>
    (((x.count 1 pairs.length).count 2 (num (fun p => p.1.isZero && !p.2.isZero && !nan p.2))).count 3
      (num (fun p => p.2.isZero && !p.1.isZero && !nan p.1))).count 4 (num (fun p => p.1.isZero && p.2.isZero))), r.2)

/-- A write of the matrix array to cluster memory, performed at the end of this cycle on the shared ports, before the sluice's and the
cores' (R45). -/
def State.arrayStore (s : State) (m : Member) (va width v : Nat) (h : Handle) : State :=
  let r : Req := { s.mkReq .store va width with
    core := m.core, ctx := m.ctx, launch := ((s.core m.core).launch).getD 0, pc := m.pc, data := BitVec.ofNat 64 v, lbl := h }
  { s with late := s.late ++ [(4, r)] }

/-- MQST: every block encoded and stored in cluster memory, in ascending order (R248). -/
def State.gangQuantise (s : State) (q : Nat) (o : MatOp) : State :=
  let w4 := isB4 o.op.ty
  let b := o.op.bank
  let byCol := o.op.flag == 1#1
  let n := if byCol then o.cols else o.rows
  let live := if byCol then o.rows else o.cols
  let t := tileOf (o.addrs.getD 0 0#64) (o.addrs.getD 1 0#64)
  let m0 : Option Member := o.members.head?
  match m0 with
  | none => s
  | some m =>
    (List.range n).foldl (fun s i =>
      let cell : Nat → LWord := fun j => if byCol then (s.cluster q).acc b j i else (s.cluster q).acc b i j
      let xs : List (Option Nat) := (List.range 32).map (fun j => if j < live then some (cell j).1.toNat else none)
      let z := quantise xs o.op.mask.toNat w4
      let hs := (List.range live).map (fun j => (cell j).2)
      let s := (o.members.foldl (fun s x => s.countReadsAt x.core x.ctx
        ((List.range live).filterMap (fun j => if (if byCol then i else j) / 4 = x.core % 8 then some (cell j).2 else none))) s).countFormed
        m.core m.ctx [hs ++ [m.amb]]
      let l := s.combineNow m.core m.ctx (hs ++ [m.amb])
      let ws := codeWords (packCodes w4 z.2.1)
      let s1 := (ws.zipIdx).foldl (fun s p => s.arrayStore m (t.addr i (4 * p.2)) 4 p.1 l.2) l.1
      let s2 := s1.arrayStore m (t.header 1 i 0) 2 z.1.toNat l.2
      if !z.2.2 then s2
      else o.members.foldl (fun s x =>
        let mine : Nat → Bool := fun col => col / 4 == x.core % 8
        let bad : Nat → Bool := fun j => match xs.getD j none with
          | none => false
          | some v => Fmt.f32.isNaN v || Fmt.f32.isInf v
        if (List.range 32).any (fun j => bad j && mine (if byCol then i else j)) then s.flag x.core x.ctx stQuant else s) s2) s

/-- Has a core any gang instruction that has not joined and completed for it (R245)? -/
def State.gangOpen (s : State) (k : Nat) : Bool :=
  let c := s.cluster (k / 8)
  c.gang.any (fun m => m.core == k) ||
  c.mats.any (fun o => !o.lost && !(o.colsDone && (o.op.kind != 1 || (o.gotA && o.gotB))))

/-- MWAIT sleepers of a cluster whose gang work is done go on (R245). -/
def State.wakeMwait (s : State) (q : Nat) : State :=
  (s.sleepers (fun w => w == .mwait)).foldl (fun s p =>
    if p.1 / 8 = q && !s.gangOpen p.1 then s.onCtx p.1 p.2 Ctx.woken else s) s

/-- MWAIT (R245). -/
def execMwait (k : Ctl) (s : State) : Host.Outcome State Fault Refusal :=
  issue (.mwait k) s (fun s => if s.gangOpen s.curCore then .sleep s .mwait else .go s)

/-- A gang operation of a cluster by number. -/
def State.matOp (s : State) (q id : Nat) : Option MatOp := (s.cluster q).mats.find? (fun o => o.id == id)

/-- A gang operation changed. -/
def State.onMat (s : State) (q id : Nat) (f : MatOp → MatOp) : State :=
  s.onCluster q (fun c => { c with mats := c.mats.map (fun o => if o.id = id then f o else o) })

/-- The tags of an operation's members free (R125, R243). -/
def State.freeMembers (s : State) (o : MatOp) : State := o.members.foldl (fun s m => s.land m.core m.seq) s

/-- Gang operations that are over leave the list: an MMAR once its inbound operands have landed too (R243). -/
def pruneMats (l : List MatOp) : List MatOp :=
  l.filter (fun o => if o.lost then false else if o.op.kind = 1 then !(o.colsDone && o.gotA && o.gotB) else !o.colsDone)

/-- After a completion or a landing: tags free once both have come, finished operations go (R243, R245). -/
def State.settleMat (s : State) (q id : Nat) : State :=
  match s.matOp q id with
  | none => s
  | some o =>
    let done := o.colsDone && (o.op.kind != 1 || (o.gotA && o.gotB))
    let s1 := if done then s.freeMembers o else s
    (s1.onCluster q (fun c => { c with mats := pruneMats c.mats })).wakeMwait q

/-- The neighbour of a cluster within the rotation group of its launch: dx, dy of -1, 0 or 1, closed into a ring (R126, R243). -/
def Launch.neighbour (l : Launch) (q : Nat) (west north : Int) : Option Nat :=
  match l.rot with
  | none => none
  | some (rx, ry, rw, rh) =>
    let p := l.place q
    if rx ≤ p.1 && decide (p.1 < rx + rw) && decide (ry ≤ p.2) && decide (p.2 < ry + rh) then
      let x := ((p.1 : Int) - rx + west) % rw
      let y := ((p.2 : Int) - ry + north) % rh
      some ((l.y + ry + y.toNat) * 256 + (l.x + rx + x.toNat))
    else none

/-- The four neighbours: west, north, east, south (R243). -/
def Launch.ring (l : Launch) (q : Nat) : List Nat :=
  [l.neighbour q (-1) 0, l.neighbour q 0 (-1), l.neighbour q 1 0, l.neighbour q 0 1].filterMap (fun x => x)

/-- The launch of a cluster. -/
def State.clusterLaunch (s : State) (q : Nat) : Option Launch := s.launchOf (q * 8)

/-- How many MMAR gangs of a cluster have joined (R243). -/
def State.mmarJoined (s : State) (q : Nat) : Nat :=
  (s.cluster q).mmarDone + ((s.cluster q).mats.filter (fun o => o.op.kind == 1 && !o.begun && !o.lost)).length

/-- The n-th MMAR of a cluster, once it has begun (R243). -/
def State.mmarBegun (s : State) (q n : Nat) : Option MatOp :=
  (s.cluster q).mats.find? (fun o => o.op.kind == 1 && o.num == n && o.begun && !o.lost)

/-- Cluster coordinates of two neighbours, as a path (R17). -/
def clusterPath (a b : Nat) : Nat := pathCost (a % 256) (a / 256) (b % 256) (b / 256)

/-- Plans the landing of an inbound operand in operation `o` of cluster `q`, no sooner than R243 says (entry 3). -/
def State.planInbound (s : State) (q : Nat) (o : MatOp) (t : Inbound) : State :=
  s.plan (max (o.start + 32) (t.start + 34 + clusterPath q t.src) - s.now + s.freeN (7 + t.dir) % 16) 0 .mmarInboundLanding
    { a := q, b := o.id, c := t.dir }

/-- An operand that an MMAR of cluster `q` sends as it begins, into the inbound buffer of cluster `w`: A to the west neighbour, B to the
north one (R243). -/
def State.sendTile (s : State) (q : Nat) (o : MatOp) (dir : Nat) (w : Option Nat) : State :=
  match w with
  | none => s
  | some w =>
    let t : Inbound :=
      { num := o.num, dir := dir, src := q, start := o.start,
        ops := o.members.map (fun m => if dir = 0 then (m.va, m.ha) else (m.vb, m.hb)) }
    let s1 := s.onCluster w (fun c => { c with inbound := c.inbound ++ [t] })
    match s1.mmarBegun w o.num with
    | none => s1
    | some x => s1.planInbound w x t

/-- The sends of an MMAR that begins, and the landings of what its neighbours have sent already (R243). -/
def State.rotate (s : State) (l : Launch) (q : Nat) (o : MatOp) : State :=
  let s1 := ((s.cluster q).inbound.filter (fun t => t.num == o.num)).foldl (fun s t => s.planInbound q o t) s
  (s1.sendTile q o 0 (l.neighbour q (-1) 0)).sendTile q o 1 (l.neighbour q 0 (-1))

/-- A neighbour's MMAR that has begun waits for no operand of one that never will: nothing lands in its place (DESIGN CHOICE; entry 105). -/
def State.noTile (s : State) (num dir : Nat) (w : Option Nat) : State :=
  match w with
  | none => s
  | some w =>
    match s.mmarBegun w num with
    | none => s
    | some o => (s.onMat w o.id (fun o => if dir = 0 then { o with gotA := true } else { o with gotB := true })).settleMat w o.id

/-- An MMAR that completes without starting, since a holding has left its rotation group: what has arrived for it is discarded, and it
sends nothing (R244). -/
def State.loseMmar (s : State) (q : Nat) (o : MatOp) : State :=
  let s1 := o.members.foldl (fun s m => s.flag m.core m.ctx stRotLost) (s.freeMembers o)
  let s2 := (s1.onCluster q (fun c =>
    { c with mats := pruneMats (c.mats.map (fun x => if x.id = o.id then { x with lost := true } else x)),
             inbound := c.inbound.filter (fun t => t.num != o.num), mmarDone := c.mmarDone + 1 })).wakeMwait q
  match s.clusterLaunch q with
  | none => s2
  | some l => (s2.noTile o.num 0 (l.neighbour q (-1) 0)).noTile o.num 1 (l.neighbour q 0 (-1))

/-- May a joined gang operation start now (R125, R242, R243, R256)? -/
def State.gangReady (s : State) (q : Nat) (o : MatOp) : Bool :=
  let c := s.cluster q
  let b := o.op.bank
  let accPend := c.accl.any (fun p => p.1 / 1024 == b && isPend p.2)
  let saves := c.jobs.any (fun j => j.mode == 7 && j.bank == b && j.captured && !j.landed && !j.stopped && decide (j.id < o.id))
  c.mats.all (fun x => x.begun || x.lost || decide (o.id ≤ x.id)) && decide (o.start ≤ s.now) &&
  (c.lastStart == 0 || decide (c.lastStart + 32 ≤ s.now)) && !s.writeUnderWay q b && !accPend && !saves &&
  (o.op.kind != 1 ||
    (match s.clusterLaunch q with
     | none => false
     | some l => (l.ring q).all (fun e => decide (o.num < s.mmarJoined e))))

/-- Is an operation's operand a tile of cluster memory (R239)? -/
def MatOp.tiles (o : MatOp) : Bool := o.op.kind != 2 && o.op.flag == 1#1

/-- A scratchpad operand of an operation, read where it starts (R239). -/
def State.loadTiles (s : State) (q : Nat) (o : MatOp) : List Member :=
  if !o.tiles then o.members
  else
    let kk := chunkOf o.op.ty o.op.tb
    let ta := tileOf (o.addrs.getD 0 0#64) (o.addrs.getD 1 0#64)
    let tb := tileOf (o.addrs.getD 2 0#64) (o.addrs.getD 3 0#64)
    (o.members.zipIdx).map (fun p =>
      let a := s.tileRegs (q * 8) ta o.op.ty kk p.2
      let b := s.tileRegs (q * 8) tb o.op.tb kk p.2
      { p.1 with va := a.1, vb := b.1, ha := a.2, hb := b.2 })

/-- The words that a tile of `n` rows takes from cluster memory, headers among them (R239). -/
def Tile.words (t : Tile) (n bytes nb : Nat) : List Nat :=
  (List.range n).flatMap (fun i => (List.range (bytes / 4)).map (fun j => t.addr i (4 * j)) ++ (List.range nb).map (fun h => t.header nb i h))

/-- The words that an operation reads from cluster memory where it starts (R239). -/
def MatOp.tileWords (o : MatOp) : List Nat :=
  let kk := chunkOf o.op.ty o.op.tb
  if !o.tiles then []
  else (tileOf (o.addrs.getD 0 0#64) (o.addrs.getD 1 0#64)).words o.rows (rowBytes o.op.ty kk) (rowHeaders o.op.ty kk) ++
    (tileOf (o.addrs.getD 2 0#64) (o.addrs.getD 3 0#64)).words o.cols (rowBytes o.op.tb kk) (rowHeaders o.op.tb kk)

/-- A start takes the shared port of every sub-bank that it reads, for this cycle (R45; entry 25); each core counts the reads of the rows
and columns it supplies that Check returns as VOID (R139). -/
def State.readTiles (s : State) (q : Nat) (o : MatOp) : State :=
  let ps := (o.tileWords.map (fun va =>
    { s.mkReq .load (va / 4 * 4) 4 with core := q * 8, launch := ((s.core (q * 8)).launch).getD 0 })).foldl
      (fun (acc : List Req) r => if acc.any (fun x => x.subBank == r.subBank) then acc else acc ++ [r]) []
  let s1 := { s with late := s.late ++ ps.map (fun r => (4, r)) }
  if !o.tiles then s1
  else
    let kk := chunkOf o.op.ty o.op.tb
    let part (vs : List VReg) (hs : List Handle) (ty : BitVec 3) (n c : Nat) : List Handle :=
      let rows := min 4 (n - 4 * c)
      (vs.flatMap (fun v => v.labels.toList)).take (rows * (rowBytes ty kk / 4)) ++ hs.take (rows * rowHeaders ty kk)
    (o.members.zipIdx).foldl (fun s p =>
      s.countReadsAt p.1.core p.1.ctx (part p.1.va p.1.ha o.op.ty o.rows p.2 ++ part p.1.vb p.1.hb o.op.tb o.cols p.2)) s1

/-- Has a tile that the array reads at a start a corrupt header (R67, R239)? -/
def State.tilesBad (s : State) (q : Nat) (o : MatOp) : Bool :=
  let kk := chunkOf o.op.ty o.op.tb
  o.tiles && (s.tileBad (q * 8) (tileOf (o.addrs.getD 0 0#64) (o.addrs.getD 1 0#64)) o.rows (rowHeaders o.op.ty kk) ||
    s.tileBad (q * 8) (tileOf (o.addrs.getD 2 0#64) (o.addrs.getD 3 0#64)) o.cols (rowHeaders o.op.tb kk))

/-- A joined operation whose members fault where the array reads its tiles: a header has been corrupted since the join, and core 0's
context traps it; nothing of the operation is performed (R67). The members have gone on since the join, so that each reports FORMAT with its
gang instruction's PC and keeps its own image PC, behind that instruction; R239 speaks of the header at the join (DESIGN CHOICE; entry 25). -/
def State.faultMat (s : State) (q : Nat) (o : MatOp) (cause : Nat) (addr : Dword) : State :=
  (o.members.foldl (fun s m => s.faultMember cause addr m)
    (s.onCluster q (fun c => { c with mats := c.mats.filter (fun x => x.id != o.id) }))).wakeMwait q

/-- GANG_START (R125, R241 to R244). -/
def execGangStart (s : State) : Host.Outcome State Fault Refusal :=
  let q := s.subj.a
  let id := s.subj.b
  match s.matOp q id with
  | none => .next s
  | some o =>
    if o.begun || o.lost then .next s
    else if o.op.kind == 1 && (match s.clusterLaunch q with | none => false | some l => l.rotLost) then .next (s.loseMmar q o)
    else if !s.gangReady q o then .next (s.plan 1 1 .gangStart { a := q, b := id })
    else if s.tilesBad q o && bitAt (s.ctxAt (q * 8) (((o.members.head?).map (·.ctx)).getD 0)).fpctl.toNat 3 then
      .next (s.faultMat q o cFormat (o.addrs.getD 0 0#64))
    else
      let o' : MatOp := { o with begun := true, start := s.now, members := s.loadTiles q o, fmt := s.tilesBad q o }
      let s1 := (s.onMat q id (fun _ => o')).onCluster q (fun c =>
        { c with lastStart := s.now, mmarDone := if o.op.kind = 1 then c.mmarDone + 1 else c.mmarDone })
      let s2 := (if o.op.kind = 1 then (match s.clusterLaunch q with | none => s1 | some l => s1.rotate l q o') else s1).readTiles q o'
      .next (if o.op.kind = 2 then s2.plan 39 2 .gangColumnComplete { a := q, b := id } else s2.plan 36 0 .gangColumnComplete { a := q, b := id })

/-- GANG_COLUMN_COMPLETE: the product enters the bank, or the blocks of an MQST are stored, in the cycle before its tags free, so that they
have landed by then (R241, R248). -/
def execGangColumnComplete (s : State) : Host.Outcome State Fault Refusal :=
  let q := s.subj.a
  let id := s.subj.b
  match s.matOp q id with
  | none => .next s
  | some o =>
    if o.op.kind = 2 && s.subj.c = 0 then .next ((s.gangQuantise q o).plan 1 0 .gangColumnComplete { s.subj with c := 1 })
    else
    let s1 :=
      if o.op.kind = 2 then s
      else (o.members.zipIdx).foldl (fun s p =>
        let r := s.gangCore q o p.2 p.1
        let fl := BitVec.ofNat 64 r.2 ||| (if o.fmt then stFmt else 0#64)
        r.1.flag p.1.core p.1.ctx fl) s
    .next ((s1.onMat q id (fun o => { o with colsDone := true })).settleMat q id)

/-- The destination words of a whole vector register. -/
def VReg.asWrites (v : VReg) (r : BitVec 5) : List RegWrite :=
  (List.range 16).map (fun i => .lane r i (v.lane i).1 (v.lane i).2) ++ (List.range 4).map (fun j => .side r j (vget v.side j 0#16))

/-- A register with the lanes of its corrupt blocks labelled VOID.POISON (R67). -/
def VReg.poisonBad (v : VReg) (w4 : Bool) : VReg :=
  { v with labels := (List.range 16).foldl (fun l i =>
      if headerBad (vget v.side (i / lanesOf w4) 0#16) then vset l i hPoison else l) v.labels }

/-- Has a register a corrupt header among those of its blocks (R67)? -/
def VReg.anyBad (v : VReg) (w4 : Bool) : Bool := (List.range (blocksOf w4)).any (fun j => headerBad (vget v.side j 0#16))

/-- An inbound register operand written into a member's context, as a result of its MMAR: a later producer's words stay, and an earlier
one's that land later are not written (R115, R243). Its headers are checked as they enter the sideband: a corrupt one poisons its block's
lanes and sets FMT_CORRUPT, or under FMTTRAP leaves the registers as they were and faults with FORMAT at the consumer (R67; entry 86). -/
def State.inboundReg (s : State) (m : Member) (n : BitVec 5) (ty : BitVec 3) (vs : List VReg) : State :=
  match s.pendAt m.core m.seq with
  | none => s
  | some p =>
    let w4 := isB4 ty
    let bad := 5 ≤ ty.toNat && vs.any (fun v => v.anyBad w4)
    if bad && bitAt (s.ctxAt m.core m.ctx).fpctl.toNat 3 then
      s.onPend m.core m.seq (fun p => { p with bad := some (p.bad.getD (cFormat, 0#64)) })
    else
      let ws := (vs.zipIdx).flatMap (fun x =>
        (if bad then x.1.poisonBad w4 else x.1).asWrites (n + BitVec.ofNat 5 x.2))
      let keys := ws.map RegWrite.key
      let s1 := if bad then s.flag m.core m.ctx stFmt else s
      (s1.onCore m.core (fun c => { c with
        pend := c.pend.map (fun q => if q.ctx = m.ctx && decide (q.seq < m.seq) then { q with dead := q.dead ++ keys } else q) })).onCtx
        m.core m.ctx (fun x => (ws.filter (fun w => !p.dead.contains w.key)).foldl Ctx.write x)

/-- An inbound tile written into cluster memory, with its labels, in the places of R239 (R243). A header's word combines its own label
with those of the block's words and of the word that held the header at the sender (R34, R90). The array checks a header when it reads
it from there (R67). -/
def State.inboundTile (s : State) (m : Member) (t : Tile) (ty : BitVec 3) (kk c : Nat) (vs : List VReg) (hs : List Handle) : State :=
  let w := rowBytes ty kk / 4
  let nb := rowHeaders ty kk
  let bpr := if ty = 5#3 then 2 else 4
  let word : Nat → Nat → LWord := fun q j => let n := q * w + j; (vs.getD (n / 16) VReg.zero).lane (n % 16)
  let s1 := ((List.range 4).flatMap (fun q => (List.range w).map (fun j => (q, j)))).foldl (fun s p =>
    let x := word p.1 p.2
    s.arrayStore m (t.addr (4 * c + p.1) (4 * p.2)) 4 x.1.toNat x.2) s
  ((List.range 4).flatMap (fun q => (List.range nb).map (fun h => (q, h)))).foldl (fun s p =>
    let n := p.1 * nb + p.2
    let h := vget (vs.getD (n / bpr) VReg.zero).side (n % bpr) 0#16
    let ls := (List.range (w / nb)).map (fun i => (word p.1 (p.2 * (w / nb) + i)).2)
    let l := s.combineNow m.core m.ctx (ls ++ [hs.getD n hTrue])
    l.1.arrayStore m (t.header nb (4 * c + p.1) p.2) 2 h.toNat l.2) s1

/-- An inbound operand that has landed leaves the buffer (R243). -/
def State.landedTile (s : State) (q id : Nat) (t : Inbound) : State :=
  ((s.onCluster q (fun c => { c with inbound := c.inbound.erase t })).onMat q id (fun o =>
    if t.dir = 0 then { o with gotA := true } else { o with gotB := true })).settleMat q id

/-- MMAR_INBOUND_LANDING: the operands that a neighbour sent land (R243). A tile's words land at the end of a cycle, and the tag frees in
the next one. -/
def execMmarInboundLanding (s : State) : Host.Outcome State Fault Refusal :=
  let q := s.subj.a
  let id := s.subj.b
  match s.matOp q id with
  | none => .next s
  | some o =>
    match (s.cluster q).inbound.find? (fun t => t.num == o.num && t.dir == s.subj.c) with
    | none => .next s
    | some x =>
      let isA := x.dir == 0
      let ty := if isA then o.op.ty else o.op.tb
      let op : Nat → List VReg × List Handle := fun i => x.ops.getD i ([], [])
      if o.op.flag == 1#1 then
        if s.subj.d = 1 then .next (s.landedTile q id x)
        else
          let t := if isA then tileOf (o.addrs.getD 0 0#64) (o.addrs.getD 1 0#64) else tileOf (o.addrs.getD 2 0#64) (o.addrs.getD 3 0#64)
          let kk := chunkOf o.op.ty o.op.tb
          .next (((o.members.zipIdx).foldl (fun s p => s.inboundTile p.1 t ty kk p.2 (op p.2).1 (op p.2).2) s).plan 1 0
            .mmarInboundLanding { s.subj with d := 1 })
      else
        .next (((o.members.zipIdx).foldl (fun s p => s.inboundReg p.1 (if isA then o.op.a else o.op.b) ty (op p.2).1) s).landedTile q id x)

/-- The checks at the join: core 0's address labels, tiles, rotation group, headers (R67, R239, R243, R248). The array reads the tiles,
headers included, where the operation starts; what it finds there sets FMT_CORRUPT. Where both operands fail, the manual does not say which
failure is reported: all checks of A come before those of B (DESIGN CHOICE; entry 106). -/
def State.joinCheck (s : State) (q : Nat) (m : Member) (rows cols : Nat) (addrs : List (Dword × Handle)) : Option (Nat × Dword) × Bool :=
  let o := m.op
  let k0 := q * 8
  let poisoned := addrs.any (fun x => s.check k0 m.ctx x.2 = hPoison)
  let at_ := (addrs.headD (0#64, hTrue)).1
  let v : Nat → Dword := fun i => (addrs.getD i (0#64, hTrue)).1
  let noRot := o.kind == 1 && (match s.clusterLaunch q with | none => true | some l => (l.ring q).isEmpty)
  if poisoned then (some (cPoison, at_), false)
  else if noRot then (some (cIllegal, 0#64), false)
  else if o.kind = 2 then
    ((tileOf (v 0) (v 1)).check k0 (if o.flag == 1#1 then cols else rows) (if isB4 o.ty then 16 else 32) 1, false)
  else if o.flag == 1#1 then
    let kk := chunkOf o.ty o.tb
    let ta := tileOf (v 0) (v 1)
    let tb := tileOf (v 2) (v 3)
    match (ta.check k0 rows (rowBytes o.ty kk) (rowHeaders o.ty kk)).or (tb.check k0 cols (rowBytes o.tb kk) (rowHeaders o.tb kk)) with
    | some e => (some e, false)
    | none =>
      let bad := s.tileBad k0 ta rows (rowHeaders o.ty kk) || s.tileBad k0 tb cols (rowHeaders o.tb kk)
      if bad && bitAt (s.ctxAt k0 m.ctx).fpctl.toNat 3 then (some (cFormat, at_), true) else (none, bad)
  else (none, false)

/-- The valid counts of core 0's s[C] (R240). -/
def validCounts (c : BitVec 5) (v : Dword) : Nat × Nat :=
  if c = 0#5 then (32, 32) else (min 32 (bits v.toNat 6 0), min 32 (bits v.toNat 14 8))

/-- The gang of a cluster joins once all eight cores have issued and none of them is frozen (R125, R342). A member that sleeps on it goes on
behind its gang instruction, or where the supervisor has put its PC (R350). -/
def State.joinGang (s : State) (q : Nat) : State :=
  let ms := gangOrder (s.cluster q).gang
  if ms.length < 8 || ms.any (fun m => (s.core m.core).frozen) then s
  else match ms with
  | [] => s
  | m :: _ =>
    if ms.any (fun x => x.op != m.op) then s.faultGang q ms cGang 0#64
    else
      let rd : BitVec 5 → Dword × Handle := fun n => s.readS m.core m.ctx n
      let addrs : List (Dword × Handle) :=
        if m.op.kind = 2 then [rd m.op.b, rd (m.op.b + 1#5)]
        else if m.op.flag == 1#1 then [rd m.op.a, rd (m.op.a + 1#5), rd m.op.b, rd (m.op.b + 1#5)]
        else []
      let v := validCounts m.op.c (rd m.op.c).1
      match s.joinCheck q m v.1 v.2 addrs with
      | (some e, _) => s.faultGang q ms e.1 e.2
      | (none, bad) =>
        let o : MatOp :=
          { id := s.nextId, op := m.op, members := ms, rows := v.1, cols := v.2, addrs := addrs.map (·.1), fmt := bad,
            start := s.now + 2, begun := false, colsDone := false,
            num := if m.op.kind = 1 then s.mmarJoined q else 0, gotA := false, gotB := false, lost := false }
        let s1 := ms.foldl (fun s x =>
          (s.onCore x.core (fun c => { c with gangBusy := false })).onCtx x.core x.ctx (fun y =>
            if y.wait = .gang then { y with wait := .none, pc := if y.pc = x.pc then y.pc + 12#64 else y.pc }
            else if y.sr && y.srLink == x.pc then { y with srLink := y.srLink + 12#64 } else y)) s
        let s2 := s1.countReadsAt m.core m.ctx (addrs.map (·.2) ++ (if m.op.c = 0#5 then [] else [(rd m.op.c).2]))
        (s2.bump.onCluster q (fun c => { c with gang := [], mats := c.mats ++ [o] })).plan 2 1 .gangStart { a := q, b := o.id }

/-- A member of a gang issues: not while its core has an unjoined one, nor while a label it reads is pending, nor while a restore of
the bank is pending, nor, where the operation reads or writes cluster memory, while an earlier access of the core to it is held (R191); its context sleeps
until the gang joins (R125, R238, R256). The register operands are read as they are latched, the address and count registers of core 0 at
the join (R139). -/
def gangIssue (i : Instr) (s : State) (k : Ctl) (o : GangOp) (regs : List RegRef) : Host.Outcome State Fault Refusal :=
  let r := issue i s (fun s =>
    if s.here.gangBusy || (gangReads s.curCore regs).any s.regPending || isPend s.me.ambient || s.jobOn (s.curCore / 8) 8 o.bank then
      .stall
    else if (o.kind == 2 || o.flag == 1#1) && s.localHeld s.curCore then .stall
    else
      let kk := chunkOf o.ty o.tb
      let latched := o.kind != 2 && o.flag != 1#1
      let m : Member :=
        { core := s.curCore, ctx := s.curCtx, seq := s.nextId, pc := s.me.pc, op := o, amb := s.ambientNow,
          va := if latched then s.latch o.a o.ty kk else [], vb := if latched then s.latch o.b o.tb kk else [],
          ha := [], hb := [] }
      let s1 := (s.countReads ((m.va ++ m.vb).flatMap (fun v => v.labels.toList))).await (tagOf k) 0 1 [] none false []
      .sleep ((s1.onHere (fun c => { c with gangBusy := true })).onCluster (s.curCore / 8) (fun c => { c with gang := c.gang ++ [m] }))
        .gang)
  match r with
  | .next t => .next (t.joinGang (s.curCore / 8))
  | .fault f => .fault f
  | .refused f => .refused f

/-- The registers that a gang product reads (R125, R238, R239). -/
def productRegs (sp : BitVec 1) (ta tb : BitVec 3) (a b c : BitVec 5) : List RegRef :=
  let kk := chunkOf ta tb
  let one : BitVec 5 → BitVec 3 → List RegRef := fun n ty =>
    if sp == 1#1 then [.s n, .s (n + 1#5)] else (List.range (operandRegs ty kk)).map (fun i => .v (n + BitVec.ofNat 5 i))
  one a ta ++ one b tb ++ [.s c]

/-- MMA (R236 to R242). -/
def execMma (k : Ctl) (d a b c : BitVec 5) (tb ty : BitVec 3) (sp zc : BitVec 1) (s : State) : Host.Outcome State Fault Refusal :=
  gangIssue (.mma k d a b c tb ty sp zc) s k
    { kind := 0, d := d, a := a, b := b, c := c, ty := ty, tb := tb, flag := sp, zc := zc, mask := 0#4 } (productRegs sp ty tb a b c)

/-- MMAR (R243, R244). -/
def execMmar (k : Ctl) (d a b c : BitVec 5) (tb ty : BitVec 3) (sp zc : BitVec 1) (s : State) : Host.Outcome State Fault Refusal :=
  gangIssue (.mmar k d a b c tb ty sp zc) s k
    { kind := 1, d := d, a := a, b := b, c := c, ty := ty, tb := tb, flag := sp, zc := zc, mask := 0#4 } (productRegs sp ty tb a b c)

/-- MQST (R248). -/
def execMqst (k : Ctl) (a b c : BitVec 5) (ty : BitVec 3) (co : BitVec 1) (mask : BitVec 4) (s : State) :
    Host.Outcome State Fault Refusal :=
  gangIssue (.mqst k a b c ty co mask) s k
    { kind := 2, d := 0#5, a := a, b := b, c := c, ty := ty, tb := 0#3, flag := co, zc := 0#1, mask := mask } [.s b, .s (b + 1#5), .s c]

end Sys2Proof.Machine
end

