-- ==== Sys2Proof/Machine/Home.lean ====
section
/-! DEFINITION. Sys2Proof/Machine/Home.lean: what a home slice does with an access (R33 to R38, R351, R381, R389): translation and
page checks, labelled pages, parking and fault records (R351 to R354), notifications (R382), and the loads, stores and atomic
operations performed there. -/

namespace Sys2Proof.Machine

/-! ## Domains and labelled pages -/

/-- LIVE of an era changed (R98, R99). -/
def State.liveAdd (s : State) (n era : Nat) (up : Bool) : State :=
  let v := s.domLive n era
  s.put32 (s.domBase n + 0x40 + 4 * (era % 16)) (if up then v + 1 else v - 1)

/-- The physical address of a page's leaf, and the page's size (R23). -/
def State.leafAt (s : State) (va : Nat) : Option (Nat × Nat) :=
  let n0 := s.root.get (homeDie va) 0
  let e0 := s.entryAt (n0 + 16 * bits va 49 43)
  let e1 := s.entryAt (e0.frame + 16 * bits va 42 34)
  let a2 := e1.frame + 16 * bits va 33 25
  let e2 := s.entryAt a2
  if !e0.v || e0.lg || !e1.v || e1.lg || !e2.v then none
  else if e2.lg then some (a2, largePage)
  else some (e2.frame + 16 * bits va 24 16, smallPage)

/-- Does a cached leaf translate an address of a home die (R25, R27)? -/
def TEntry.covers (e : TEntry) (va : Nat) : Bool := e.page == va / e.size && e.slice / 128 == homeDie va

/-- The invalidation of a page's leaf in every translation cache of its home die, and of one that a walk unit has sent on its way
(R27, R299). -/
def State.flushLeaf (s : State) (va : Nat) : State :=
  { s with
    tcache := s.tcache.filter (fun e => !e.covers va)
    reqs := s.reqs.map (fun r =>
      if !r.away && r.leaf.any (fun e => e.covers va) then { r with leaf := none } else r) }

/-- A leaf written in the page table, and in every translation cache that holds it where `keep`, else removed from them; a leaf on its
way to a slice is no exception (R27, R34). -/
def State.putLeaf (s : State) (va : Nat) (l : Leaf) (keep : Bool) : State :=
  let s1 := match s.leafAt va with
    | none => s
    | some (a, _) => { s with mem := Sparse.putBytes (Sparse.putBytes s.mem a (leBytes 8 l.w0.toNat)) (a + 8) (leBytes 8 l.w1.toNat) }
  let new : TEntry → TEntry := fun e => if e.covers va then { e with leaf := l } else e
  if keep then
    { s1 with
      tcache := s1.tcache.map new
      reqs := s1.reqs.map (fun r => if r.away then r else { r with leaf := r.leaf.map new }) }
  else s1.flushLeaf va

/-- Does a handle mean the same in every domain and era (R34)? -/
def plainHandle (h : Handle) : Bool := h == hTrue || h == hPoison || h == hLost

/-- The page rules for a write of labels (R34, R99): the state with the header set where this is the first such write; none where
the write meets LABEL_DROP. -/
def State.accept (s : State) (dom : Option Nat) (e : Option TEntry) (va : Nat) (hs : List Handle) : Option State :=
  if hs.all (fun h => h == hTrue) then some s
  else match e with
  | none => some s
  | some e =>
    if !e.leaf.labelled then none
    else if hs.all plainHandle then some s
    else match dom with
    | none => none
    | some n =>
      if !e.leaf.hv then
        let era := s.domEra n
        let w1 := 2 ^ 63 + era * 2 ^ 56 + e.leaf.w1.toNat % 2 ^ 56 / 2 ^ 10 * 2 ^ 10 + n
        some ((s.putLeaf va { e.leaf with w1 := BitVec.ofNat 64 w1 } true).liveAdd n era true)
      else if e.leaf.dom = n && e.leaf.era = s.domEra n then some s
      else none

/-! ## Notifications and fault records -/

/-- A notification record queued in a tenant's ring (R382). -/
def State.notify (s : State) (t page kind count old new : Nat) : State :=
  let x := s.tenant t
  let size := 2 ^ bits x.nqCfg.toNat 4 0
  if bits x.nqCfg.toNat 63 63 = 0 then s
  else if size ≤ x.nqTail - x.nqHead then s.onTenant t (fun x => { x with nqOvf := true })
  else
    let a := x.nqBase.toNat + x.nqTail % size * 32
    let s1 := (((s.put64 a page).put64 (a + 8) (count % 2 ^ 16 * 2 ^ 16 + kind)).put64 (a + 16) old).put64 (a + 24) new
    let s2 := s1.onTenant t (fun x => { x with nqTail := x.nqTail + 1 })
    if x.nqTail = x.nqHead then s2.msi t 0 else s2

/-- The size of the page of an address; one that does not translate counts as a small one. -/
def State.sizeOf (s : State) (va : Nat) : Nat := match s.translate va with | .leaf _ z => z | .park _ => smallPage

/-- The base of the page of an address (R22). -/
def State.pageBase (s : State) (va : Nat) : Nat := va / s.sizeOf va * s.sizeOf va

/-- A remote line read counted for its page: 1,024 pages for each link, the least recently counted leaving first (R382). -/
def State.countRemote (s : State) (t va : Nat) : State :=
  let th := (s.tenant t).rThresh.toNat
  if th = 0 then s
  else
    let page := s.pageBase va / 65536
    let key := page * 4 + t % 4
    let n := s.remoteReads.get key 0 + 1
    let rest := s.remoteReads.filter (fun p => p.1 != key)
    let mine := rest.filter (fun p => p.1 % 4 == t % 4)
    let cut := if 1024 ≤ mine.length then (match mine with | o :: _ => rest.filter (fun p => p.1 != o.1) | [] => rest) else rest
    if th ≤ n then ({ s with remoteReads := cut ++ [(key, 0)] }).notify t (page * 65536) 1 n 0 0
    else { s with remoteReads := cut ++ [(key, n)] }

/-- One more access parked on a page, in its record of the current generation while that is unread (R353, R354). -/
def FRec.bump (r : FRec) : FRec :=
  let i := r.info.toNat
  { r with info := BitVec.ofNat 64 (i % 2 ^ 16 + min 0xFFFF (bits i 31 16 + 1) * 2 ^ 16) }

/-- Is a record of the page that an access parks on, and of a generation? -/
def FRec.isOf (r : FRec) (p : Park) (gen : Nat) : Bool := r.va.toNat / p.size == p.va / p.size && r.gen.toNat == gen

/-- An access parks (R351): the first of its page and generation makes a record on its way to the ring (R354). -/
def State.park (s : State) (p : Park) : State :=
  let x := s.tenant p.tenant
  let s1 := { s with parked := s.parked ++ [p] }
  if x.recorded.contains p.page then
    let s2 := { s1 with recording := s1.recording.map (fun (f : FFlight) =>
      if f.tenant = p.tenant && f.rcd.isOf p x.gen then { f with rcd := f.rcd.bump } else f) }
    s2.onTenant p.tenant (fun t => { t with ring := t.ring.map (fun (e : Nat × FRec) =>
      if (List.range (t.fbTail - t.fbHead)).any (fun i => (t.fbHead + i) % 2016 == e.1) && e.2.isOf p x.gen then (e.1, e.2.bump)
      else e) })
  else
    let rcd : FRec :=
      { va := BitVec.ofNat 64 p.va, info := BitVec.ofNat 64 (0x10000 + p.acc * 16 + p.kind), gen := BitVec.ofNat 64 x.gen,
        launch := p.launch }
    let f : FFlight := { id := s.nextId, tenant := p.tenant, page := p.page, rcd := rcd }
    ({ (s1.bump.onTenant p.tenant (fun t => { t with recorded := t.recorded ++ [p.page] })) with
        recording := s1.recording ++ [f] }).plan (8 + s.freeN p.page % 16) 0 .faultRecordArrival { a := f.id }

/-- The ACCESS code of a request (R353). -/
def Req.access (r : Req) : Nat :=
  match r.op with
  | .load | .pref | .watch | .fetch | .probe => 0
  | .store | .strel => 1
  | .sys _ => 3
  | .peer _ a => if a.kind = 0 then 0 else if a.kind = 1 then 1 else 2
  | .bar w => if w then 1 else 0
  | _ => 2

/-- Has a tenant's snapshot pool the frames for a page (R385)? -/
def State.poolHas (s : State) (t : Nat) (l : Leaf) : Bool := decide ((if l.labelled then 2 else 1) ≤ (s.tenant t).spCount)

/-- The launch identity of a launch number. -/
def State.launchId (s : State) (n : Nat) : Dword := match s.launch n with | none => 0#64 | some l => l.id

/-- The tenant of a launch number. -/
def State.launchTenant (s : State) (n : Nat) : Nat := match s.launch n with | none => 0 | some l => l.tenant

/-- Is a request one that no core makes? -/
def Req.outside (r : Req) : Bool := decide (2 ^ 20 ≤ r.core)

/-- The tenant for which a request acts: its own, that of the page move, or that of its launch. -/
def State.reqTenant (s : State) (r : Req) : Nat :=
  if r.outside then r.core - 2 ^ 20
  else if r.op = .sys 5 then ((s.moves.find? (fun m => m.id == r.id)).map (·.tenant)).getD (s.launchTenant r.launch)
  else s.launchTenant r.launch

/-- A parking place for an access of tenant `t`. -/
def State.parkOf (s : State) (id : Nat) (isJob : Bool) (t launch va kind acc : Nat) : Park :=
  { id := id, isJob := isJob, tenant := t, page := s.pageBase va / 65536, size := s.sizeOf va, va := va, kind := kind, acc := acc,
    gen := (s.tenant t).gen, launch := s.launchId launch }

/-- A parking place for a request. -/
def State.reqPark (s : State) (r : Req) (kind : Nat) : Park :=
  s.parkOf r.id false (s.reqTenant r) r.launch r.va kind r.access

/-- A parking place for a job's access. -/
def State.jobPark (s : State) (j : Job) (va kind : Nat) : Park :=
  s.parkOf j.id true (s.launchTenant j.launch) j.launch va kind 3

/-- A message to the host. -/
def State.toHost (s : State) (m : HostMsg) : State := { s with hostOut := s.hostOut ++ [m] }

/-- A write to a copy-on-write page parks: with frames left for a 64 KiB page its copy starts and no record is made, else with a
record of KIND 3 (R385). -/
def State.parkCow (s : State) (p : Park) (l : Leaf) (size : Nat) : State :=
  if size = smallPage && s.poolHas p.tenant l then
    ({ s with parked := s.parked ++ [p] }).plan (64 + s.freeN p.page % 64) 0 .snapshotCopy { a := p.tenant, b := p.page }
  else s.park p

/-! ## The gate -/

/-- What an access meets at its home before it is performed. -/
inductive Gate where
  | ready (e : Option TEntry)
  | walk
  | fill (e : TEntry)
  /-- its line is read over the host link (R381) -/
  | host (e : TEntry)
  /-- a Nelrek link's window (R389) -/
  | remote (e : TEntry)
  /-- write-blocked: it waits and continues by itself (R351) -/
  | wait
  | park (kind : Nat)
  | cow (e : TEntry)
  | rights
deriving DecidableEq, Repr

/-- Is the PCI Express link of a tenant in L0 (R373)? -/
def State.linkUp (s : State) (t : Nat) : Bool := s.pcie.getLsbD (t % 4)

/-- The Nelrek link of a remote frame. -/
def Leaf.link (l : Leaf) : Nat := l.die - 48

/-- The state of a Nelrek link. -/
def State.nlink (s : State) (n : Nat) : NLink := vget s.links n NLink.zero

/-- A Nelrek link changed. -/
def State.onLink (s : State) (n : Nat) (f : NLink → NLink) : State := { s with links := vset s.links n (f (s.nlink n)) }

/-- The gate of an access of tenant `t` (R25, R31, R351, R373, R381, R390): a write to a DECODE view is refused before anything else is
looked at; WB comes before ownership. A load of a line that the slice holds needs no translation; R35 looks at its page all the same, and
so does R373, which parks every access to a host page while the link is not in L0. -/
def State.gate (s : State) (t : Nat) (write : Bool) (va : Nat) : Gate :=
  match s.cachedLeaf va with
  | none =>
    if !write && (s.line (va / 64)).isSome then
      (match s.pageOf va with
       | none => .ready none
       | some e => if e.leaf.hl && !s.linkUp t then .park 5 else .ready (some e))
    else .walk
  | some e =>
    let l := e.leaf
    if write && s.isDecode l then .rights
    else if write && l.wb then .wait
    else if write && l.cw then .cow e
    else if l.remote then (if (s.nlink l.link).state = .active then .remote e else .park 2)
    else if l.hl then
      if !s.linkUp t then .park 5
      else if !l.owned then (if write then .park 4 else .host e)
      else if (s.line (va / 64)).isSome then .ready (some e) else .host e
    else if (s.line (va / 64)).isSome then .ready (some e)
    else .fill e

/-! ## Words at a home -/

/-- A word of a present line. -/
def State.slotWord (s : State) (va : Nat) : LWord :=
  match s.line (va / 64) with
  | none => (0#32, hTrue)
  | some l => l.words.getD (va / 4 % 16) (0#32, hTrue)

/-- A word of a present line written; the line is dirty (R36). -/
def State.setSlot (s : State) (va : Nat) (w : Word) (h : Handle) : State :=
  match s.line (va / 64) with
  | none => s
  | some l => s.putLine { l with words := l.words.set (va / 4 % 16) (w, h), dirty := true, used := s.now }

/-- A write performed on a line, watchers of its doubleword told (R273). -/
def State.touched (s : State) (va : Nat) : State := s.wakeMem (va / 8 * 8)

/-- A store of up to 8 bytes performed on a present line: word and handle change together, and a narrow store's combined handle is formed
here (R34, R312); none where it meets LABEL_DROP. -/
def State.homeStore (s : State) (k t : Nat) (e : Option TEntry) (va width : Nat) (data : Nat) (h0 : Handle) : Option State :=
  let dom := s.domainOf k
  let h := s.storeHandle k t h0
  match s.accept dom e va [h] with
  | none => none
  | some s1 =>
    if width < 4 then
      let old := s1.slotWord va
      let r := s1.combineNow k t [s1.readHandle dom e old.2, h]
      some ((r.1.setSlot va (mergeWord old.1 (va % 4) width data) r.2).touched va)
    else
      let s2 := s1.setSlot va (BitVec.ofNat 32 data) h
      some ((if width = 8 then s2.setSlot (va + 4) (BitVec.ofNat 32 (data / 2 ^ 32)) h else s2).touched va)

/-- An atomic operation performed on a present line (R192 to R194): the old value and labels, and FP flags; none where it meets
LABEL_DROP. -/
def State.homeAtomic (s : State) (r : Req) (e : Option TEntry) : Option (State × Nat × List Handle × Nat) :=
  let k := r.core
  let dom := s.domainOf k
  let lo := s.slotWord r.va
  let hi := s.slotWord (r.va + 4)
  let old := pairValue r.width lo hi
  let m := 2 ^ (8 * r.width)
  let hlo := s.readHandle dom e lo.2
  let hhi := s.readHandle dom e hi.2
  let olds := if r.width = 8 then [hlo, hhi] else [hlo]
  let res : Option (Nat × Nat) := match r.op with
    | .amo op => some (amoValue op r.width old (r.data.toNat % m))
    | .red op => some (amoValue op r.width old (r.data.toNat % m))
    | .cas => if old = r.cmp.toNat % m then some (r.data.toNat % m, 0) else none
    | _ => none
  match res with
  | none => some (s, old, olds, 0)
  | some (v, fl) =>
    let ls := (r.lbl :: r.more).map (s.storeHandle k r.ctx)
    let a := s.combineNow k r.ctx (hlo :: ls)
    let b := if r.width = 8 then a.1.combineNow k r.ctx (hhi :: ls) else a
    match b.1.accept dom e r.va [a.2, b.2] with
    | none => none
    | some s1 =>
      let s2 := s1.setSlot r.va (BitVec.ofNat 32 v) a.2
      let s3 := if r.width = 8 then s2.setSlot (r.va + 4) (BitVec.ofNat 32 (v / 2 ^ 32)) b.2 else s2
      some (s3.touched r.va, old, olds, fl)

/-- The label of an element of an arriving partial line: contributions of an era that its domain has left write VOID.LOST (R100). -/
def State.partialHandle (s : State) (r : Req) (h : Handle) : Handle :=
  if r.data = (s.eraNow r.core).setWidth 64 then s.storeHandle r.core r.ctx h else lostIn h

/-- A partial line combined into the stored line, element by element (R39, R41); none where it meets LABEL_DROP. The FP flags of its
additions go to the context that sent it (R58; entry 84). -/
def State.homePartial (s : State) (r : Req) (cop : BitVec 2) (e : Option TEntry) : Option State :=
  let dom := s.domainOf r.core
  let res := (List.range 16).foldl (fun (acc : State × List LWord × Nat) i =>
    let old := acc.1.slotWord (r.va + 4 * i)
    let p := r.words.getD i (copIdentity cop.toNat, hTrue)
    let c := acc.1.combineNow r.core r.ctx [acc.1.readHandle dom e old.2, acc.1.partialHandle r p.2]
    let x := copCombine cop.toNat old.1 p.1
    (c.1, acc.2.1 ++ [(x.1, c.2)], acc.2.2 ||| x.2)) (s, [], 0)
  match res.1.accept dom e r.va (res.2.1.map (·.2)) with
  | none => none
  | some s1 =>
    some (((res.2.1.zipIdx).foldl (fun s p => (s.setSlot (r.va + 4 * p.2) p.1.1 p.1.2).touched (r.va + 4 * p.2)) s1).flag r.sender r.ctx
      (BitVec.ofNat 64 res.2.2))

/-! ## Near-cache copies -/

/-- The cores of a cluster with a store, RED or atomic on a line in flight; a REDC sets no writer bit (R42, R300). -/
def State.writersOf (s : State) (q line : Nat) : BitVec 8 :=
  s.reqs.foldl (fun m r =>
    if r.core / 8 = q && r.va / 64 = line && !r.away && (match r.op with | .load | .pref | .watch | .fetch | .sys _ | .part _ | .peer _ _ | .bar _ | .probe => false | _ => true) then m ||| (1#8 <<< (r.core % 8)) else m) 0#8

/-- Which copy a full set gives up: an unpinned one, else the least recently used pinned one (R43; entry 10). -/
def victimOf (l : List Copy) : Option Copy :=
  match l.find? (fun c => c.readers == 0#8) with
  | some c => some c
  | none => l.foldl (fun b c => match b with | none => some c | some x => if c.used < x.used then some c else some x) none

/-- A copy installed in a cluster's near cache, in one of the 16 ways of its set; partial lines take no way from the copies, so that a
footprint of 16 lines keeps every snapshot (R42, R43). -/
def State.installCopy (s : State) (q : Nat) (x : Copy) : State :=
  let c := s.cluster q
  let set := c.near.filter (fun y => y.line % 64 == x.line % 64)
  let put : State → State := fun s => s.onCluster q (fun c => { c with near := c.near ++ [x] })
  if set.length < 16 then put s
  else match victimOf set with
  | none => s
  | some v =>
    let s1 := s.onCluster q (fun c => { c with near := c.near.filter (fun y => y.id != v.id) })
    put ((List.range 8).foldl (fun s i => if v.readers.getLsbD i then s.refresh (q * 8 + i) else s) s1)

end Sys2Proof.Machine
end

