-- ==== Sys2Proof/Machine/Links.lean ====
section
/-! DEFINITION. Sys2Proof/Machine/Links.lean: what crosses a Nelrek link: the flits that leave (R387, R388), labels on their way out
and in (R391), and what an access of a peer does to a line of this module (R34, R192 to R194, R274, R389). -/

namespace Sys2Proof.Machine

/-! ## Flits that leave (R387, R388; entry 16) -/

/-- One byte into the CRC-64 of ECMA-182, high bit first, from zero (entry 16). -/
def crcByte (c : BitVec 64) (b : Byte) : BitVec 64 :=
  (List.range 8).foldl (fun (c : BitVec 64) _ => if c.getLsbD 63 then (c <<< 1) ^^^ 0x42F0E1EBA9EA3693#64 else c <<< 1)
    (c ^^^ (b.setWidth 64 <<< 56))

/-- CRC-64 over bytes. -/
def crc64 (bs : List Byte) : BitVec 64 := bs.foldl crcByte 0#64

/-- The virtual lane of a message (R388). -/
def LinkMsg.lane (m : LinkMsg) : Nat :=
  match m with
  | .access _ id eng acc => if eng then 4 + id % 4 else if acc.kind = 0 then 0 else 1
  | .answer _ _ _ => 2
  | _ => 3

/-- A label on its way, as numbers. -/
def labelCode (envs : List Dword) (void : Handle) : List Nat := [void.toNat, envs.length] ++ envs.map (·.toNat)

/-- A message's fields as numbers, its kind first. -/
def LinkMsg.code (m : LinkMsg) : List Nat :=
  match m with
  | .caps c => [0, c.identity, c.number, c.domain, c.features]
  | .access n id eng a =>
    [1, n, id, eng.toNat, a.kind, a.off, a.width, a.data.toNat, a.cmp.toNat] ++ labelCode a.envs a.void
  | .answer n ok ws => [2, n, ok.toNat, ws.length] ++ ws.flatMap (fun w => w.1.toNat :: labelCode w.2.1 w.2.2)
  | .slotOpen n id k => [3, n, id, k]
  | .slotAnswer n p ok k => [4, n, p, ok.toNat, k]
  | .assertSlot n k => [5, n, k]
  | .assertAck n k => [6, n, k]

/-- The header of a flit: lane, sequence number, the number of the last flit taken, NAK, and this receiver's STOP bits (R387). -/
def NLink.header (l : NLink) (lane seq : Nat) (nak : Bool) : BitVec 64 :=
  BitVec.ofNat 64 (lane + seq % 4096 * 2 ^ 3 + (l.rxSeq + 4095) % 4096 * 2 ^ 15 + (if nak then 2 ^ 27 else 0) + l.stop.toNat * 2 ^ 28)

/-- A flit of a header and up to 240 bytes of payload, under its CRC (R387). -/
def sealFlit (header : BitVec 64) (payload : List Byte) : Flit :=
  let p := (payload ++ List.replicate 240 0#8).take 240
  { header := header, payload := p, crc := crc64 (leBytes 8 header.toNat ++ p) }

/-- The flit that carries a message under a sequence number. -/
def State.flitOf (s : State) (n seq : Nat) (m : LinkMsg) : LinkFlit :=
  { link := n, flit := sealFlit ((s.nlink n).header m.lane seq false) (Config.flitPayload m.code), msg := some m }

/-- A flit that carries its header alone: it acknowledges, or asks for a flit again, and tells the STOP bits. It repeats the sequence
number of the last flit sent and has no place in the replay buffer (R387; entry 16). -/
def State.reply (s : State) (n : Nat) (nak : Bool) : State :=
  let l := s.nlink n
  { s with linkOut := s.linkOut ++ [{ link := n, flit := sealFlit (l.header 3 (l.txSeq + 4095) nak) [], msg := none }] }

/-- The waiting messages that leave, `room` at most, none on a stopped lane, and those that stay (R387, R388). -/
def takeFlits (stop : BitVec 8) : Nat → List LinkMsg → List LinkMsg × List LinkMsg
  | _, [] => ([], [])
  | 0, l => ([], l)
  | n + 1, m :: r =>
    if stop.getLsbD m.lane then (let x := takeFlits stop (n + 1) r; (x.1, m :: x.2))
    else (let x := takeFlits stop n r; (m :: x.1, x.2))

/-- Does a link send flits that are kept for replay: in ACTIVE, and its capability flit in EXCHANGE (R386, R387)? -/
def NLink.sends (l : NLink) : Bool := l.state == .active || l.state == .exchange

/-- A link sends what it may: each message is a flit that stays in the replay buffer until it is acknowledged (R387; entry 16). -/
def State.pump (s : State) (n : Nat) : State :=
  let l := s.nlink n
  if !l.sends then s
  else
    let r := takeFlits l.stopIn (128 - l.replayBuf.length) l.sendq
    let out := (r.1.zipIdx).map (fun p => ((l.txSeq + p.2) % 4096, p.1))
    { s.onLink n (fun l => { l with sendq := r.2, txSeq := (l.txSeq + r.1.length) % 4096, replayBuf := l.replayBuf ++ out }) with
      linkOut := s.linkOut ++ out.map (fun p => s.flitOf n p.1 p.2) }

/-- A message to the peer of a link; a link that is not up takes none. -/
def State.toLink (s : State) (n : Nat) (m : LinkMsg) : State :=
  if (s.nlink n).sends then (s.onLink n (fun l => { l with sendq := l.sendq ++ [m] })).pump n else s

/-! ## Labels that leave (R88, R391) -/

/-- The environments of one combine of labels of domain `dom` that leave over a link (R88, R391): each open slot replaced by its paired
one, VOID.OVER where another open slot is named. -/
def State.outOfAll (s : State) (dom : Option Nat) (link : Nat) (hs : List Handle) : List Dword × Handle :=
  match worstVoid hs, hs.filter (fun h => h != hTrue) with
  | some h, _ => ([], h)
  | none, [] => ([], hTrue)
  | none, l => match dom with
  | none => ([], hLost)
  | some n =>
    let v := s.homeView n
    let prs := ((s.nlink link).pairs).filter (fun p => p.1 == n)
    let es := (unions v.nogoods (l.map (s.envs n))).filterMap (fun e =>
      let x := e &&& ~~~v.asserted
      if refuted v.nogoods x then none
      else some ((List.range 64).foldl (fun (acc : Dword × Bool) i =>
        if !x.getLsbD i then acc
        else match prs.find? (fun p => p.2.1 == i) with
        | some p => (acc.1 ||| (1#64 <<< p.2.2), acc.2)
        | none => (acc.1, false)) (0#64, true)))
    if es.isEmpty then ([], hHidden)
    else if es.all (·.2) then (minimal (es.map (·.1)), hTrue)
    else ([], hOver)

/-- The environments of one label that leave over a link (R391). -/
def State.outOf (s : State) (dom : Option Nat) (link : Nat) (h : Handle) : List Dword × Handle := s.outOfAll dom link [h]

/-- The label of a core's access as it leaves over a link (R391). -/
def State.outLabel (s : State) (k link : Nat) (h : Handle) : List Dword × Handle := s.outOf (s.domainOf k) link h

/-! ## Labels that cross a link (R391) -/

/-- A formed set interned in a domain, by no core (R91, R391). -/
def State.internFormed (s : State) (n : Nat) (f : Formed) : State × Handle :=
  match f with
  | .known h _ => (s, h)
  | .list l => let r := s.intern n l; (r.1, r.2.1)

/-- A label that arrives: TRUE and VOID handles unchanged, environments interned in the domain (R391). -/
def State.inLabel (s : State) (dom : Option Nat) (envs : List Dword) (void : Handle) : State × Handle :=
  if isVoid void then (s, void)
  else if envs.isEmpty then (s, hTrue)
  else match dom with
  | none => (s, hLost)
  | some n => s.internFormed n (finishSet (s.homeView n) envs)

/-- Labels that a home combines for a peer, in the view of the inbound domain's home (R34, R88, R391). -/
def State.combineIn (s : State) (dom : Option Nat) (hs : List Handle) : State × Handle :=
  match (hs.eraseDups).filter (fun h => h != hTrue), dom with
  | [], _ => (s, hTrue)
  | cs, none => (s, (worstVoid (cs.map (s.checkIn none View.zero))).getD hTrue)
  | cs, some n => s.internFormed n (s.combineSet n (s.homeView n) cs)

/-- Words that arrive, each with its label interned. -/
def State.inWords (s : State) (dom : Option Nat) (ws : List (Word × List Dword × Handle)) : State × List LWord :=
  ws.foldl (fun (acc : State × List LWord) w =>
    let r := acc.1.inLabel dom w.2.1 w.2.2
    (r.1, acc.2 ++ [(w.1, r.2)])) (s, [])

/-- Does a kind of access read, and does it write? -/
def peerReads (a : RemoteAccess) : Bool := a.kind == 0 || a.kind == 3 || (decide (16 ≤ a.kind) && decide (a.kind < 32))
def peerWrites (a : RemoteAccess) : Bool := a.kind != 0

/-- The inbound domain of a link, where its directory entry is valid (R76, R391). -/
def State.linkDomain (s : State) (n : Nat) : Option Nat :=
  if bitAt (s.dirEntry (s.nlink n).domain) 63 then some (s.nlink n).domain else none

/-- The domain in whose labels the words of a request travel: its launch's, that of the page under move, or the inbound one. -/
def State.reqDomain (s : State) (r : Req) : Option Nat :=
  match r.op with
  | .sys _ => (match s.translate r.va with
    | .leaf l _ => if l.labelled && l.hv then some l.dom else none
    | .park _ => none)
  | .peer n _ => s.linkDomain n
  | .bar _ => none
  | _ => s.domainOf r.core

/-! ## What an access of a peer does here (R389) -/

/-- An answer to a peer. -/
def State.answerPeer (s : State) (link : Nat) (ok : Bool) (ws : List (Word × List Dword × Handle)) : State :=
  s.toLink link (.answer link ok ws)

/-- A word of a present line as it leaves for a peer. -/
def State.outWord (s : State) (link : Nat) (dom : Option Nat) (e : Option TEntry) (va : Nat) : Word × List Dword × Handle :=
  let w := s.slotWord va
  let l := s.outOf dom link (s.readHandle dom e w.2)
  (w.1, l.1, l.2)

/-- Whole words of up to 8 bytes written with one label, where the page admits it (R34). -/
def State.putHere (s : State) (dom : Option Nat) (e : Option TEntry) (va width v : Nat) (h h' : Handle) : Option State :=
  match s.accept dom e va [h, h'] with
  | none => none
  | some s1 =>
    let s2 := s1.setSlot va (BitVec.ofNat 32 v) h
    some ((if width = 8 then s2.setSlot (va + 4) (BitVec.ofNat 32 (v / 2 ^ 32)) h' else s2).touched va)

/-- A store that a peer makes (R34): a narrow one combines its label with the word's. -/
def State.peerStore (s : State) (dom : Option Nat) (e : Option TEntry) (va width v : Nat) (h : Handle) : Option State :=
  if width < 4 then
    let old := s.slotWord va
    let r := s.combineIn dom [s.readHandle dom e old.2, h]
    match r.1.accept dom e va [h] with
    | none => none
    | some s1 => some ((s1.setSlot va (mergeWord old.1 (va % 4) width v) r.2).touched va)
  else s.putHere dom e va width v h h

/-- The value that a read-modify-write of a peer stores, if it stores one (R192, R193, R274). -/
def peerResult (a : RemoteAccess) (old : Nat) : Option Nat :=
  let m := 2 ^ (8 * a.width)
  let d := a.data.toNat % m
  if a.kind = 2 then some (max old d)
  else if a.kind = 3 then (if old = a.cmp.toNat % m then some d else none)
  else some (amoValue (a.kind % 16) a.width old d).1

/-- A read-modify-write that a peer makes; TLSIG's label is TRUE (R192 to R194, R274). -/
def State.peerAtomic (s : State) (dom : Option Nat) (e : Option TEntry) (va : Nat) (a : RemoteAccess) (h : Handle) : Option State :=
  let lo := s.slotWord va
  let hi := s.slotWord (va + 4)
  match peerResult a (pairValue a.width lo hi) with
  | none => some s
  | some v =>
    if a.kind = 2 then s.putHere dom e va a.width v hTrue hTrue
    else
      let x := s.combineIn dom [s.readHandle dom e lo.2, h]
      let y := if a.width = 8 then x.1.combineIn dom [s.readHandle dom e hi.2, h] else x
      y.1.putHere dom e va a.width v x.2 y.2

/-- An access of a peer performed on a present line, its label in this module's terms: the state and the words of the answer; none
where it meets LABEL_DROP. -/
def State.peerEffect (s : State) (link : Nat) (e : Option TEntry) (va : Nat) (a : RemoteAccess) (h : Handle) :
    Option (State × List (Word × List Dword × Handle)) :=
  let words := (List.range (max 1 (a.width / 4))).map (fun i => s.outWord link (s.linkDomain link) e (va + 4 * i))
  if a.kind = 0 then some (s, words)
  else
    let r := if a.kind = 1 then s.peerStore (s.linkDomain link) e va a.width a.data.toNat h
      else s.peerAtomic (s.linkDomain link) e va a h
    r.map (fun s1 => (s1, if a.kind = 1 || a.kind = 2 || decide (32 ≤ a.kind) then [] else words))

end Sys2Proof.Machine
end

