-- ==== Sys2Proof/Machine/EventsMem.lean ====
section
/-! DEFINITION. Sys2Proof/Machine/EventsMem.lean: the steps of the memory system: HOME_ACCESS, PARTIAL_COMBINE, NEAR_CACHE_FILL,
TRANSLATION_WALK, LEAF_RETURN, MEMORY_FILL, WRITE_BACK, FAULT_RECORD_ARRIVAL and the answers of the host (R19 to R44, R190 to R200,
R351 to R354, R381). -/

namespace Sys2Proof.Machine

/-- A request tried again in the next cycle. -/
def State.retry (s : State) (r : Req) (n : Nat) : State :=
  s.plan n 0 (match r.op with | .part _ => .partialCombine | _ => .homeAccess) { a := r.id }

/-- Is a request a read: a load, a prefetch, a fetch, a watch of a timeline, or a read from outside? -/
def Req.isLoad (r : Req) : Bool :=
  match r.op with
  | .load | .pref | .watch | .fetch | .probe | .bar false => true
  | .peer _ a => a.kind == 0
  | _ => false

/-- Jobs that a context submitted before request `id` which write memory and are not complete (R199). A job writes its header words and
its indexed elements where its descriptor and index words say (R249, R251), so PUBLISH waits for each of them, wherever it writes. -/
def State.jobsInto (s : State) (k t id : Nat) : Bool :=
  ((s.cluster (k / 8)).jobs ++ s.mill).any (fun j =>
    j.core == k && j.ctx == t && decide (j.id < id) && j.mode != 8 && j.mode != 9)

/-- Must a load wait for an earlier request of its core to the same line (R44, R300)? It does for an earlier load that has not been
performed, unless both belong to one small gather (R38); for an atomic, a TLSIG or a PUBLISH; and for a store only while that store's
label is pending, or where nothing is forwarded: in a window, or a Nelrek link's. -/
def State.holdsLoad (s : State) (r q : Req) : Bool :=
  !q.away && (match q.op with
    | .load => r.grp == 0 || q.grp != r.grp
    | .store | .strel => isPend q.lblNow || !isGlobal r.va || s.remotePage r.va
    | .pref | .watch | .fetch | .part _ | .sys _ | .peer _ _ | .bar _ | .probe => false
    | _ => true)

/-- Must a request wait for others of its core (R40, R44, R191, R193, R199, R274, R300)? A PUBLISH is a release: it waits for every partial
line that its core has sent, wherever it lies (R40, R308). The host's accesses of one function wait for its earlier posted writes (R314). -/
def State.blocked (s : State) (r : Req) : Bool :=
  let same (q : Req) : Bool := q.core == r.core && decide (q.id < r.id) && q.va / 64 == r.va / 64
  isPend r.lblNow || r.more.any isPend ||
  (match r.op with
   | .peer _ _ | .probe => false
   | .bar _ => s.reqs.any (fun q => q.core == r.core && q.op == .bar true && decide (q.id < r.id))
   | .load => s.reqs.any (fun q => same q && s.holdsLoad r q)
   | .watch => s.reqs.any (fun q => same q && q.isStore && !q.away && (match q.op with | .part _ => false | _ => true))
   | .part _ => r.words.any (fun w => isPend w.2)
   | .pref | .sys _ | .fetch => false
   | .store | .amo _ | .cas | .red _ => s.reqs.any (fun q => same q && (q.isLoad || !q.away))
   | .strel | .tlsig =>
     s.reqs.any (fun q => same q && (q.isLoad || !q.away)) ||
     (match placeOf r.core r.va with
      | .own _ => s.outstandingLocal r.core r.id || s.reqs.any (fun q => q.core == r.core && decide (q.id < r.id) &&
          (match q.op with | .part _ => true | _ => false))
      | _ => if s.hostPage r.va then s.outstandingSys r.core r.id else s.outstanding r.core r.id)
   | .publish =>
     match (s.core r.core).range r.va with
     | none => false
     | some p =>
       s.jobsInto r.core r.ctx r.id || s.reqs.any (fun q => same q && (q.isLoad || !q.away)) ||
       s.reqs.any (fun q => q.core == r.core && decide (q.id < r.id) && (match q.op with | .part _ => true | _ => false)) ||
       (s.reqs ++ s.late.map (·.2)).any (fun q => q.core == r.core && decide (q.id < r.id) && q.isStore &&
         decide (p.base.toNat ≤ q.va / 65536) && decide (q.va / 65536 ≤ p.last.toNat)))

/-- Contexts of a core that wait for a fetch block (R118). -/
def State.fetchers (s : State) (k block : Nat) : List Nat :=
  (List.range 11).filter (fun t =>
    (s.ctxAt k t).wait == .fetch && (match s.skipPad k (s.ctxAt k t).pc.toNat padFuel with | (none, pc) => pc / 32 == block | _ => false))

/-- A fetch that failed for one context: a precise fault at the instruction to be fetched, which its core takes before the next issue, or
holds while it is frozen (R118, R343, R344). -/
def State.fetchFault (s : State) (k t cause : Nat) : State :=
  let pc := (s.ctxAt k t).pc
  let r : Report := { arrived := s.now, cause := cause, ctx := t, pc := pc, addr := pc, resume := some pc }
  (s.onCtx k t (fun x => { x with wait := .none })).onCore k (fun c => { c with held := holdReport c.held r })

/-- A fetch that failed, for every context of the core that waits for the block (R118, R343, R344). -/
def State.fetchFail (s : State) (k block cause : Nat) : State :=
  ((s.fetchers k block).foldl (fun s t => s.fetchFault k t cause) s).plan 0 1 .faultReport { a := k }

/-- An access of the host through BAR 2 that is not performed: a read completes with Completer Abort, a write is discarded (R379). -/
def State.barFail (s : State) (r : Req) : State :=
  let s1 := s.dropReq r.id
  if r.op = .bar false then s1.toHost (.abort (s.reqTenant r)) else s1

/-- A request that its home refuses: precise at the consumer for a load, AMO, CAS or PUBLISH; reported for the others (R200); a peer is
answered that its access failed, and the host's is not performed (R379, R389). -/
def State.refuse (s : State) (r : Req) (cause : Nat) : State :=
  let s1 := s.dropReq r.id
  match r.op with
  | .pref | .probe => s1
  | .peer n _ => s1.answerPeer n false []
  | .bar _ => s.barFail r
  | .watch =>
    if (s1.ctxAt r.core r.ctx).wait == .tlMem r.va r.data.toNat then s1.report r.core r.ctx cause r.pc (BitVec.ofNat 64 r.va) else s1
  | .fetch => s1.fetchFail r.core (r.va / 32) cause
  | .load | .amo _ | .cas | .publish => s1.failLoad r cause
  | _ => if r.outside then s1 else s1.report r.sender r.ctx cause r.pc (BitVec.ofNat 64 r.va)

/-- A request parked at its home (R351); a prefetch is dropped (R197), an access of the host does not park (R379). A page move whose launch
has ended tries again by itself: what is begun completes (R380; entry 107). -/
def State.parkReq (s : State) (r : Req) (kind : Nat) : State :=
  match r.op with
  | .pref | .probe => s.dropReq r.id
  | .bar _ => s.barFail r
  | .sys n =>
    if n != 6 && (s.launch r.launch).isNone then s.plan 64 0 .homeAccess { a := r.id } else s.park (s.reqPark r kind)
  | _ =>
    let s1 := s.park (s.reqPark r kind)
    if kind = 4 then s1.notify (s.reqTenant r) (s.pageBase r.va) 2 (s1.freeN 6) 0 0 else s1

/-- A write performed on a host page the device owns is written through (R381). -/
def State.writeThrough (s : State) (r : Req) (e : Option TEntry) (data : Nat) : State :=
  match e with
  | none => s.dropReq r.id
  | some e =>
    if e.leaf.hl then
      ({ s with hostOut := s.hostOut ++ [HostMsg.write (s.reqTenant r) r.id (e.leaf.frame + r.va % e.size) r.width
          (BitVec.ofNat 64 data)] }).onReq r.id (fun q => { q with away := true })
    else s.dropReq r.id

/-- A store that TLSIG makes: the larger of the old value and the operand (R274). -/
def State.tlsigValue (s : State) (r : Req) : Nat :=
  max ((s.slotWord r.va).1.toNat + (s.slotWord (r.va + 4)).1.toNat * 2 ^ 32) r.data.toNat

/-- A load's line read for it: the words with their handles, the page they stand in, the cycle, the writers in flight, and the bytes of
the core's buffered stores over the loaded words (R35, R42, R44). The line reaches the cluster after `n` cycles. -/
def State.lineRead (s : State) (r : Req) (e : Option TEntry) (ws : List LWord) (corrupt : Bool) (n : Nat) : State :=
  let w (va : Nat) : LWord :=
    let x := ws.getD (va / 4 % 16) (0#32, hTrue)
    (x.1, s.readHandle (s.domainOf r.core) e x.2)
  (s.onReq r.id (fun q => { q with
    words := ws, data := BitVec.ofNat 64 s.now, cmp := (s.writersOf (r.core / 8) (r.va / 64)).setWidth 64, away := true, leaf := e,
    fwd := if r.op = .load then s.forward r (w r.va) (w (r.va + 4)) else [],
    more := if corrupt then [hPoison] else [] })).plan n 0 .nearCacheFill { a := r.id }

/-- May an operation be performed in a page of host memory (R193, R195, R379)? One that parked before the page became a host page is
refused when it is tried again. -/
def ReqOp.hostOk (o : ReqOp) : Bool :=
  match o with
  | .amo _ | .cas | .red _ | .part _ | .bar _ => false
  | .peer _ a => decide (a.kind < 3)
  | _ => true

/-- A word that the host writes through BAR 2 at its home: one that it completes takes label TRUE, a part of a word leaves the word's
label (R34, R379). -/
def State.hostWord (s : State) (va width data word : Nat) : State :=
  let lo := max va word
  let hi := min (va + width) (word + 4)
  let w := s.slotWord word
  (s.setSlot word (mergeWord w.1 (lo - word) (hi - lo) (data / 2 ^ (8 * (lo - va)))) (if hi - lo = 4 then hTrue else w.2)).touched word

/-- The bytes of an access of the host that lie in the line it has reached. -/
def Req.barHere (r : Req) : Nat := min r.width (64 - r.va % 64)

/-- An access of the host that has done `n` bytes goes on with the next line, or is complete: a read then answers with its value (R379). -/
def State.barNext (s : State) (r : Req) (n : Nat) (data : Dword) : State :=
  if r.width ≤ n then
    let s1 := s.dropReq r.id
    if r.op = .bar false then s1.toHost (.data (s.reqTenant r) data) else s1
  else (s.onReq r.id (fun q => { q with va := r.va + n, width := r.width - n, data := data, seq := r.seq + n })).retry r 0

/-- Bytes of a line read for the host (R379). -/
def State.barRead (s : State) (r : Req) (words : List LWord) : State :=
  let byte (va : Nat) : Nat := (words.getD (va / 4 % 16) (0#32, hTrue)).1.toNat / 2 ^ (8 * (va % 4)) % 256
  let v := leNat ((List.range r.barHere).map (fun i => BitVec.ofNat 8 (byte (r.va + i))))
  s.barNext r r.barHere (r.data ||| BitVec.ofNat 64 (v * 2 ^ (8 * r.seq)))

/-- Bytes that the host writes to a present line; the line is dirty (R36, R379). -/
def State.barWrite (s : State) (r : Req) : State :=
  let n := r.barHere
  let s1 := (List.range ((r.va % 4 + n + 3) / 4)).foldl (fun s i => s.hostWord r.va n r.data.toNat (r.va / 4 * 4 + 4 * i)) s
  s1.barNext r n (r.data >>> (8 * n))

/-- The label of a peer's access in this module's terms: its environments interned in the inbound domain (R391). -/
def State.peerLabel (s : State) (r : Req) : State × Handle :=
  match r.op with
  | .peer n a => s.inLabel (s.linkDomain n) a.envs a.void
  | _ => (s, hTrue)

/-- A peer's access performed at its home on a present line (R389); one that writes a page of the host is answered when the link reports
the write complete (R381). -/
def State.performPeer (s : State) (r : Req) (n : Nat) (a : RemoteAccess) (e : Option TEntry) : State :=
  let l := s.peerLabel r
  match l.1.peerEffect n e r.va a l.2 with
  | none => l.1.refuse r cLabelDrop
  | some (s1, ws) =>
    if a.kind != 0 && e.any (fun e => e.leaf.hl) then
      s1.writeThrough r e (((s1.slotWord r.va).1.toNat + (s1.slotWord (r.va + 4)).1.toNat * 2 ^ 32) / 2 ^ (8 * (r.va % 4)))
    else (s1.dropReq r.id).answerPeer n true ws

/-- A request performed on its present line: the word and its handle are read, or written, together in the step that gives the
operation its place in the line's coherence order, and a narrow store's combined handle is formed there (R34, R37, R41, R42, R46, R193,
R199, R274, R312). -/
def State.performHome (s : State) (r : Req) (e : Option TEntry) : State :=
  let k := r.core
  let n := homePath k r.va
  if !r.op.hostOk && e.any (fun e => e.leaf.hl) then s.refuse r cRights else
  match r.op with
  | .watch => (s.dropReq r.id).wakeMem r.va
  | .load | .pref =>
    match s.line (r.va / 64) with
    | none => s.retry r 1
    | some l => s.lineRead r e l.words l.corrupt n
  | .store | .strel =>
    match s.homeStore k r.ctx e r.va r.width r.data.toNat r.lbl with
    | none => s.refuse r cLabelDrop
    | some s1 => s1.writeThrough r e r.data.toNat
  | .tlsig =>
    let v := s.tlsigValue r
    match s.homeStore k r.ctx e r.va 8 v hTrue with
    | none => s.refuse r cLabelDrop
    | some s1 => s1.writeThrough r e v
  | .amo _ | .cas =>
    match s.homeAtomic r e with
    | none => s.refuse r cLabelDrop
    | some (s1, old, hs, fl) =>
      ((s1.dropReq r.id).onPend k r.seq (fun p => { p with flags := p.flags ||| BitVec.ofNat 64 fl })).deliver r old hs n
  | .red _ =>
    match s.homeAtomic r e with
    | none => s.refuse r cLabelDrop
    | some (s1, _, _, _) => s1.dropReq r.id
  | .sys _ => s
  | .bar w =>
    match s.line (r.va / 64) with
    | none => s.retry r 1
    | some l => if e.isNone then s.barFail r else if w then s.barWrite r else s.barRead r l.words
  | .peer n a => s.performPeer r n a e
  | .probe =>
    match s.line (r.va / 64) with
    | none => s.retry r 1
    | some l => s.onReq r.id (fun q => { q with words := l.words, away := true })
  | .fetch =>
    match s.line (r.va / 64) with
    | none => s.retry r 1
    | some l =>
      (s.onReq r.id (fun q => { q with words := l.words, away := true })).plan n 0 .icacheFill { a := k, b := r.va / 32, c := r.id }
  | .part cop =>
    match s.homePartial r cop e with
    | none => s.refuse r cLabelDrop
    | some s1 => s1.dropReq r.id
  | .publish =>
    if !(match e with | none => false | some e => e.leaf.hl) then s.refuse r cRights else
    let v := ((s.slotWord r.va).1.toNat + (s.slotWord (r.va + 4)).1.toNat * 2 ^ 32 + 1) % 2 ^ 64
    match s.homeStore k r.ctx e r.va 8 v hTrue with
    | none => s.refuse r cLabelDrop
    | some s1 => (s1.writeThrough r e v).onReq r.id (fun q => { q with data := BitVec.ofNat 64 v })

/-- The access that a request makes of a remote window (R389): a line read, or one write or atomic, with the one combine of the labels
that the peer combines with the old one (R88). -/
def State.remoteOf (s : State) (r : Req) (e : TEntry) : RemoteAccess :=
  let out := s.outOfAll (s.reqDomain r) e.leaf.link
  let l := out (if r.isLoad then [] else (r.lbl :: r.more).map (s.storeHandle r.core r.ctx))
  let off := bits e.leaf.frame 39 0 + r.va % e.size
  let one (kind : Nat) : RemoteAccess :=
    { kind := kind, off := off, width := r.width, data := r.data, cmp := r.cmp, envs := l.1, void := l.2 }
  match r.op with
  | .load | .pref | .watch | .fetch | .probe | .sys _ | .bar false => { one 0 with off := off / 64 * 64, width := 64, data := 0#64, cmp := 0#64 }
  | .bar true => { one 1 with width := min r.width (4 - r.va % 4), envs := [], void := hTrue }
  | .peer _ a =>
    let p := out [r.lbl]
    if a.kind = 0 then { one 0 with off := off / 64 * 64, width := 64, data := 0#64, cmp := 0#64 }
    else { a with off := off, envs := p.1, void := p.2 }
  | .store | .strel | .publish => one 1
  | .tlsig => one 2
  | .cas => one 3
  | .amo op => one (16 + op)
  | .red op => one (32 + op)
  | .part cop =>
    let p := r.words.getD r.seq (0#32, hTrue)
    let lp := s.outLabel r.core e.leaf.link (s.storeHandle r.core r.ctx p.2)
    { kind := 32 + (match cop.toNat with | 0 => 9 | 1 => 0 | 2 => 5 | _ => 4), off := off + 4 * r.seq, width := 4,
      data := p.1.setWidth 64, cmp := 0#64, envs := lp.1, void := lp.2 }

/-- A staging page reserved for a page of host memory while it is read (R356). -/
def State.stage (s : State) (t va : Nat) : State :=
  if s.staging.contains (t, va / 65536) then s else { s with staging := s.staging ++ [(t, va / 65536)] }

/-- The staging page of a page of host memory freed. -/
def State.unstage (s : State) (t page : Nat) : State := { s with staging := s.staging.filter (fun p => p != (t, page)) }

/-- A line read sent to the host (R373, R381). -/
def State.sendHost (s : State) (t : Nat) (r : Req) (e : TEntry) : State :=
  { s.stage t r.va with hostOut := s.hostOut ++ [HostMsg.read t r.id (e.leaf.frame + r.va % e.size / 64 * 64)] }

/-- A small gather at its home: once every word of it that is still to be read can be, they are read in lane order in this cycle, and
leave together (R38). -/
def State.gatherHome (s : State) (r : Req) : State :=
  let t := s.reqTenant r
  let l := s.reqs.filter (fun q => q.grp == r.grp && !q.away)
  let ready (s : State) (q : Req) : Option (Option TEntry) :=
    if s.blocked q then none else match s.gate t false q.va with | .ready e => some e | _ => none
  if l.all (fun q => (ready s q).isSome) then
    l.foldl (fun s q => match ready s q with | some e => s.performHome q e | none => s) s
  else s.retry r 1

/-- An access sent on to the link of the remote window that its page lies in (R389): a peer's carries its label in this module's
terms. -/
def State.sendRemote (s : State) (r : Req) (e : TEntry) : State :=
  let l := s.peerLabel r
  let r1 := match r.op with | .peer _ _ => { r with lbl := l.2 } | _ => r
  (l.1.onReq r.id (fun q => { q with link := some e.leaf.link })).toLink e.leaf.link
    (.access e.leaf.link r.id false (l.1.remoteOf r1 e))

/-- A request of a global line at its home (R25, R37, R351, R381, R389). A page of the host stops an access of the host (R379). -/
def State.homeGlobal (s : State) (r : Req) : State :=
  let t := s.reqTenant r
  if s.blocked r then s.retry r 1
  else match s.gate t (!r.isLoad) r.va with
  | .ready e => if r.grp = 0 then s.performHome r e else s.gatherHome r
  | .walk => s.plan 1 0 .translationWalk { a := r.id }
  | .fill _ => s.plan (1 + s.freeN r.va % 256) 0 .memoryFill { a := r.id }
  | .host e => (match r.op with | .bar _ => s.barFail r | _ => (s.countRemote t r.va).sendHost t r e)
  | .remote e => s.sendRemote r e
  | .wait => s.retry r 16
  | .park kind => s.parkReq r kind
  | .cow e => if r.op = .pref then s.dropReq r.id else s.parkCow (s.reqPark r 3) e.leaf e.size
  | .rights => s.refuse r cRights

/-- A store to an event unit or the control window performed (R265, R320): a label other than TRUE is LABEL_DROP. One to an event
unit is performed after the cycle's signals (R271). -/
def State.windowStore (s : State) (r : Req) (isEvent : Bool) (q off : Nat) : State :=
  if r.lbl != hTrue then s.refuse r cLabelDrop
  else
    let s1 := s.dropReq r.id
    let o := off / 8 * 8
    if isEvent then
      let v := mergeDword ((s.cluster q).eventWord o) (off % 8) r.width r.data.toNat
      if o < 0x100 then s.plan 0 3 .eventLineStore { a := q, b := o / 8, c := v, d := r.id + 1 }
      else s.plan 0 3 .barrierTargetStore { a := q, b := (o - 0x400) / 8, c := v, d := r.id + 1 }
    else
      let t := s.launchTenant r.launch
      let w := o % 0x80000000000
      s1.controlPut t w (mergeDword (s.controlWord t w) (off % 8) r.width r.data.toNat) (off % 8) r.width

/-- A held access to cluster memory lands at the end of this cycle once every earlier one has (R45, R191, R303). -/
def State.localAccess (s : State) (r : Req) (bank : Nat) : State :=
  if s.blocked r || s.reqs.any (fun q => q.core == r.core && decide (q.id < r.id) && (localOf q.core q.va).isSome) then s.retry r 1
  else { s.dropReq r.id with late := s.late ++ [(portOf r.core bank, r)] }

/-- PARTIAL_COMBINE (R41). -/
def execPartialCombine (s : State) : Host.Outcome State Fault Refusal :=
  match s.req s.subj.a with
  | none => .next s
  | some r => .next (s.homeGlobal r)

/-- TRANSLATION_WALK: the walk ends in a leaf on its way back, or parks the access (R25, R26). -/
def execTranslationWalk (s : State) : Host.Outcome State Fault Refusal :=
  match s.req s.subj.a with
  | none => .next s
  | some r =>
    match s.walk r.va with
    | .park kind => .next (s.parkReq r kind)
    | .leaf l size =>
      let e : TEntry := { slice := homeSlice r.va, page := r.va / size, size := size, leaf := l }
      .next ((s.onReq r.id (fun q => { q with leaf := some e })).plan (1 + s.freeN r.va % 32) 0 .leafReturn { a := r.id })

/-- LEAF_RETURN: the slice caches the leaf and goes on with the access (R25); one that a flush has overtaken is walked for again (R27). -/
def execLeafReturn (s : State) : Host.Outcome State Fault Refusal :=
  match s.req s.subj.a with
  | none => .next s
  | some r =>
    match r.leaf with
    | none => .next (s.retry r 1)
    | some e => .next (((s.keepLeaf r.va e.leaf e.size).onReq r.id (fun q => { q with leaf := none })).retry r 0)

/-- MEMORY_FILL: the line arrives with the aperture values now in force (R19, R29), or the memory controller finds a mapping error, and
the access parks with KIND 2 (R20); the slice may write some dirty line back meanwhile (R36; entry 10). -/
def execMemoryFill (s : State) : Host.Outcome State Fault Refusal :=
  match s.req s.subj.a with
  | none => .next s
  | some r =>
    match s.line (r.va / 64), s.cachedLeaf r.va with
    | none, some e =>
      if !s.lineOk e.leaf e.size r.va then .next (s.parkReq r 2) else
      let f := s.fillLine e.leaf e.size r.va
      let s1 := s.addLine { line := r.va / 64, words := f.1, dirty := false, used := s.now, corrupt := f.2 }
      let s2 := match (s1.lines.filter (·.dirty))[s.freeN 3 % 64]? with
        | some l => s1.plan (1 + s.freeN 4 % 64) 0 .writeBack { a := l.line }
        | none => s1
      .next (s2.retry r 0)
    | _, _ => .next (s.retry r 0)

/-- WRITE_BACK: a dirty line reaches the memory controller and is clean (R29, R36). -/
def execWriteBack (s : State) : Host.Outcome State Fault Refusal := .next (s.cleanLine s.subj.a)

/-- Is an earlier load of the core to the line still without its line, so that a later one must not be delivered before it (R300)? -/
def State.overtaken (s : State) (r : Req) : Bool :=
  s.reqs.any (fun q =>
    q.core == r.core && q.op == .load && q.va / 64 == r.va / 64 && decide (q.id < r.id) && q.value.isNone)

/-- A load that fetches its line again from its home (R42, R300). -/
def State.refetch (s : State) (r : Req) : State :=
  (s.onReq r.id (fun q => { q with away := false, words := [], more := [], fwd := [], leaf := none })).retry r (homePath r.core r.va)

/-- The copy that a fill brings to its cluster, under the next number (R42, R43). -/
def State.copyOf (s : State) (r : Req) : Copy :=
  { id := s.nextId, line := r.va / 64, words := r.words, stamp := r.data.toNat, readers := 0#8,
    writers := r.cmp.setWidth 8 ||| s.writersOf (r.core / 8) (r.va / 64), used := s.now, page := r.leaf,
    corrupt := r.more.contains hPoison }

/-- A filled copy installed, and counted for the core that asked for it (R42, R43, R139). -/
def State.fillCopy (s : State) (r : Req) : State :=
  (s.bump.installCopy (r.core / 8) (s.copyOf r)).onCore r.core (fun c => c.count 10 1)

/-- A load delivered from a copy of its line, in which its core's reader bit is set; `w` are its two words (R42, R44). -/
def State.loadFrom (s : State) (r : Req) (q : Copy) (w : List (Word × List Handle)) : State :=
  ((s.dropReq r.id).markRead r.core q).deliverWords { r with more := [] } (w.getD 0 (0#32, [])) (w.getD 1 (0#32, [])) q.corrupt 0

/-- NEAR_CACHE_FILL: the line becomes a copy of the cluster, and the load is delivered from it, or from a copy that the core must use
and that has come first (R42, R43, R310). Where the core has acquired since the home read the line, the copy does not qualify, and the
load fetches the line again; so does a later load of the core to the line, which otherwise could come before it with an older value
(R42, R300; entry 90). A value that waited for a resolve slot is delivered here too (R93). -/
def execNearCacheFill (s : State) : Host.Outcome State Fault Refusal :=
  match s.req s.subj.a with
  | none => .next s
  | some r =>
    let k := r.core
    let mine := s.copyOf r
    let plain (s : State) (q : Copy) : List (Word × List Handle) :=
      [r.va, r.va + 4].map (fun va => s.mergeStores k va r.id (s.copyWord k q va))
    .next (match r.value with
      | some v => (s.dropReq r.id).deliver r v.1 v.2 0
      | none =>
        if r.op = .pref then (s.fillCopy r).dropReq r.id
        else if s.overtaken r then (s.fillCopy r).refetch r
        else match s.nearCopy k (r.va / 64) with
        | some q => s.loadFrom r q (plain s q)
        | none =>
          let s1 := s.fillCopy r
          if mine.stamp < (s1.core k).viewStamp then s1.refetch r
          else s1.loadFrom r mine (if r.fwd.isEmpty then plain s1 mine else r.fwd))

/-- FAULT_RECORD_ARRIVAL: written if its generation still holds and the ring has room (R354). -/
def execFaultRecordArrival (s : State) : Host.Outcome State Fault Refusal :=
  match s.recording.find? (fun f => f.id == s.subj.a) with
  | none => .next s
  | some f =>
    let s1 := { s with recording := s.recording.filter (fun g => g.id != f.id) }
    let x := s.tenant f.tenant
    if f.rcd.gen.toNat != x.gen then .next s1
    else if 2016 ≤ x.fbTail - x.fbHead then
      .next (s1.onTenant f.tenant (fun t =>
        { t with fbOvf := true, recorded := t.recorded.filter (fun p => p != f.page) }))
    else .next (s1.onTenant f.tenant (fun t => { t with ring := t.ring.put (t.fbTail % 2016) f.rcd, fbTail := t.fbTail + 1 }))

/-- A job anywhere in the module. -/
def State.findJob (s : State) (id : Nat) : Option Job :=
  (s.mill ++ s.clusters.flatMap (fun c => c.2.jobs)).find? (fun j => j.id == id)

/-- A job changed. -/
def State.mapJob (s : State) (id : Nat) (f : Job → Job) : State :=
  let g : Job → Job := fun j => if j.id = id then f j else j
  { s with mill := s.mill.map g, clusters := s.clusters.map (fun c => (c.1, { c.2 with jobs := c.2.jobs.map g })) }

/-- A job goes on with its next element. -/
def State.resumeJob (s : State) (j : Job) (n : Nat) : State :=
  if s.mill.any (fun x => x.id == j.id) then s.plan n 0 .millraceJobEnd { a := j.id }
  else s.plan n 0 .sluiceWriteLanding { a := j.core / 8, b := j.id }

/-- Parked accesses taken out of their parking places, each given to `f` (R355, R356). -/
def State.unpark (s : State) (which : Park → Bool) (onReq : State → Req → State) (onJob : State → Job → State) : State :=
  let ps := s.parked.filter which
  let s1 := { s with parked := s.parked.filter (fun p => !which p) }
  ps.foldl (fun s p =>
    if p.isJob then (match s.findJob p.id with | none => s | some j => onJob s j)
    else (match s.req p.id with | none => s | some r => onReq s r)) s1

/-- The accesses of a tenant that are parked on a page, named by its base / 64 KiB, tried again (R385). -/
def State.retryPage (s : State) (t page : Nat) : State :=
  s.unpark (fun p => p.tenant == t && p.page == page) (fun s r => s.retry r 1) (fun s j => s.resumeJob j 1)

/-! ## Answers of the host -/

/-- A timeline word of a page that another module or the host keeps, seen in an answer: its waiters that it satisfies wake; while
any is left the word is read again (R273). -/
def State.watched (s : State) (r : Req) (words : List Word) : State :=
  let v := (words.getD (r.va / 4 % 16) 0#32).toNat + (words.getD ((r.va + 4) / 4 % 16) 0#32).toNat * 2 ^ 32
  let s1 := (s.sleepers (fun w => match w with | .tlMem a n => a == r.va && decide (n ≤ v) | _ => false)).foldl
    (fun s p => (s.acquire p.1).onCtx p.1 p.2 Ctx.woken) s
  if (s1.sleepers (fun w => match w with | .tlMem a _ => a == r.va | _ => false)).isEmpty then s1.dropReq r.id else s1

/-- An answer that a job has waited for: it goes on, or parks where the link reports an error (R351). -/
def State.onJob (s : State) (id : Nat) (f : Job → Job) (ok : Bool) (kind : Nat) : State :=
  match s.findJob id with
  | none => s
  | some j =>
    let s1 := s.mapJob id f
    if ok then s1.resumeJob j 0 else s1.park (s1.jobPark j (j.away.getD 0) kind)

/-- A PUBLISH whose count has become visible: the window of its address shows it, and the context receives it (R199, R384). -/
def State.published (s : State) (r : Req) : State :=
  let t := s.launchTenant r.launch
  let s1 := (((s.tenant t).puba).filter (fun p => p.2.toNat = r.va)).foldl (fun s _ =>
    s.plan 1 0 (.pubvUpdate t (BitVec.ofNat 64 r.va) r.data) {}) s
  s1.arrive r.core r.seq 0 (match r.dst with | .s d _ => [.s d r.data ((r.more.head?).getD hTrue)] | _ => [])

/-- HOST_WRITE_THROUGH_COMPLETE: the write is performed at SYSTEM scope (R196, R381). -/
def execHostWriteThroughComplete (id : Nat) (s : State) : Host.Outcome State Fault Refusal :=
  match s.req id with
  | none => .next (s.onJob id (fun j => { j with away := none }) true 0)
  | some r =>
    let s1 := s.dropReq id
    .next (match r.op with
      | .publish => s1.published r
      | .peer n _ => s1.answerPeer n true []
      | _ => s1)

/-- PUBV_UPDATE (R384). -/
def execPubvUpdate (tenant : Nat) (addr count : BitVec 64) (s : State) : Host.Outcome State Fault Refusal :=
  .next (((s.tenant tenant).puba.filter (fun p => p.2 == addr && addr != 0#64)).foldl (fun s p =>
    s.onTenant tenant (fun t => { t with pubv := t.pubv.put p.1 count })) s)

end Sys2Proof.Machine
end

