-- ==== Sys2Proof/Machine/Sync.lean ====
section
/-! DEFINITION. Sys2Proof/Machine/Sync.lean: weirs, the event unit, timelines, communication phases and flume sends
(R121, R123, R259 to R276). -/

namespace Sys2Proof.Machine

/-! ## Weirs -/

/-- A launch's weir. -/
def Launch.weir (l : Launch) (n : Nat) : Weir := vget l.weirs n default

/-- The launch with a weir changed. -/
def Launch.onWeir (l : Launch) (n : Nat) (f : Weir → Weir) : Launch := { l with weirs := vset l.weirs n (f (l.weir n)) }

/-- The member cores of a weir, those of a released holding among them until the holding map changes (R259, R291, R341). -/
def Launch.members (l : Launch) (n : Nat) : List Nat :=
  (((List.range l.holdings.length).filter l.counts).flatMap (fun h => (List.range 8).map (fun c => l.cluster h * 8 + c))).filter (l.member n)

/-- Has a core left a launch with its holding, so that it counts as arrived at every weir (R291)? -/
def Launch.departed (l : Launch) (k : Nat) : Bool := !l.here.any (fun h => l.cluster h == k / 8)

/-- Clusters of the smallest level that holds all members: cluster, sector, die, module (R18). -/
def weirLatency (ks : List Nat) : Nat :=
  let same (f : Nat → Nat) : Bool := match ks with | [] => true | k :: r => r.all (fun j => f j == f k)
  if same (fun k => k / 8) then 3
  else if same (fun k => sectorAt (coreX k) (coreY k)) then 8
  else if same (fun k => dieAt (coreX k) (coreY k)) then 22
  else 70

/-- Is a weir ready to release (R259)? -/
def State.weirMet (s : State) (l : Launch) (n : Nat) : Bool :=
  let ms := l.members n
  ms.any (fun k => !l.departed k && !(s.core k).gone.getLsbD n) && (l.weir n).pending == 0#40 &&
    ms.all (fun k => l.departed k || (s.core k).arr.getLsbD n)

/-- A weir's state has changed: a release is scheduled when its condition begins to hold, and given up when it ceases to (R18, R259). -/
def State.weirCheck (s : State) (ln n : Nat) : State :=
  match s.launch ln with
  | none => s
  | some l =>
    if s.weirMet l n then
      if (l.weir n).due != 0 then s
      else
        let lat := weirLatency (l.members n)
        (s.onLaunch ln (fun l => l.onWeir n (fun w => { w with due := s.now + lat }))).plan lat 0 .weirRelease { a := ln, b := n }
    else s.onLaunch ln (fun l => l.onWeir n (fun w => { w with due := 0 }))

/-- A change of a weir's pending-byte counter, modulo 2^40 (R49, R259). -/
def State.weirAdd (s : State) (ln n : Nat) (v : BitVec 40) : State :=
  (s.onLaunch ln (fun l => l.onWeir n (fun w => { w with pending := w.pending + v }))).weirCheck ln n

/-- An arrival counted, or a withdrawal (R261, R263). -/
def State.countArrival (s : State) (k ln n addend : Nat) (withdraw : Bool) : State :=
  let bit : BitVec 16 := 1#16 <<< n
  let s1 := s.onCore k (fun c =>
    { c with arr := c.arr ||| bit, gone := if withdraw then c.gone ||| bit else c.gone })
  s1.weirAdd ln n (BitVec.ofNat 40 addend)

/-- Is a step of the agenda the withdrawal of a core from a weir, issued and not counted yet (R263)? -/
def Todo.withdraws (x : Todo) (k n : Nat) : Bool :=
  match x.what with
  | .weirArrivalCounted => x.who.a == k && x.who.b == n && x.who.e % 2 == 1
  | _ => false

/-- Has a core withdrawn from a weir by a WEIRX, whether it is counted already or not (R263)? -/
def State.withdrew (s : State) (k n : Nat) : Bool := (s.core k).gone.getLsbD n || s.agenda.any (fun x => x.withdraws k n)

/-- The checks of a weir instruction (R260, R263, R290). -/
def State.weirFault (s : State) (n : Nat) (addend : Dword) : Option Eff :=
  let k := s.curCore
  if s.me.sr then some (.fault cMisuse 0#64)
  else match s.launchOf k with
  | none => some (.fault cIllegal 0#64)
  | some l =>
    if !l.member n k || s.withdrew k n || decide (2 ^ 40 ≤ addend.toNat) then some (.fault cIllegal 0#64) else none

/-- Waiting at a weir as WEIRW does: it passes when the core's ARR is 0, and AP ends with the wait (R263, R264). -/
def State.weirWait (s : State) (n : Nat) : Eff :=
  if s.here.arr.getLsbD n then .sleep s (.weir n) else .go (s.onMe (fun x => { x with ap := false }))

/-- Does a context wait at weir `n` again after an interruption (R264)? -/
def State.resumedWeir (s : State) (n : Nat) : Bool := s.me.ap && s.me.weirN == BitVec.ofNat 4 n

/-- WEIR (R263). -/
def execWeir (k : Ctl) (b : BitVec 5) (n : BitVec 4) (s : State) : Host.Outcome State Fault Refusal :=
  issue (.weir k b n) s (fun s =>
    let v := (s.srcS b).1
    match s.weirFault n.toNat v with
    | some e => e
    | none =>
      if s.resumedWeir n.toNat then s.weirWait n.toNat
      else
        let s1 := (s.countVoids [plainIn [(s.srcS b).2]]).release
        .sleep ((s1.arriveAt s.curCore n.toNat v.toNat false (s.curCtx + 1)).onMe (fun x => { x with arriving := some n.toNat }))
          (.weir n.toNat))

/-- WEIRA: the context goes on (R261). -/
def execWeira (k : Ctl) (b : BitVec 5) (n : BitVec 4) (s : State) : Host.Outcome State Fault Refusal :=
  issue (.weira k b n) s (fun s =>
    let v := (s.srcS b).1
    match s.weirFault n.toNat v with
    | some e => e
    | none => .go ((s.countVoids [plainIn [(s.srcS b).2]]).release.arriveAt s.curCore n.toNat v.toNat false 0))

/-- WEIRW (R263). -/
def execWeirw (k : Ctl) (n : BitVec 4) (s : State) : Host.Outcome State Fault Refusal :=
  issue (.weirw k n) s (fun s =>
    match s.weirFault n.toNat 0#64 with
    | some e => e
    | none => s.weirWait n.toNat)

/-- WEIRX (R263). -/
def execWeirx (k : Ctl) (n : BitVec 4) (s : State) : Host.Outcome State Fault Refusal :=
  issue (.weirx k n) s (fun s =>
    match s.weirFault n.toNat 0#64 with
    | some e => e
    | none => .go (s.release.arriveAt s.curCore n.toNat 0 true 0))

/-! ## The event unit -/

/-- A woken context: its wait is over, and it is ready 2 cycles later, when it acquires, or when its gap ends (R113, R267, R270). -/
def State.wakeAt (s : State) (p : Nat × Nat) : State :=
  (s.onCtx p.1 p.2 (fun x => { x.woken with gapUntil := max x.gapUntil (s.now + 2) })).plan 2 0 .eventWake { a := p.1, b := p.2 }

/-- A cluster with an event line changed. -/
def Cluster.onLine (c : Cluster) (n : Nat) (f : EvLine → EvLine) : Cluster := { c with lines := vset c.lines n (f (vget c.lines n default)) }
/-- A cluster with a mutex changed. -/
def Cluster.onMutex (c : Cluster) (n : Nat) (f : EvMutex → EvMutex) : Cluster :=
  { c with mutexes := vset c.mutexes n (f (vget c.mutexes n default)) }
/-- A cluster with a barrier changed. -/
def Cluster.onBarrier (c : Cluster) (n : Nat) (f : EvBarrier → EvBarrier) : Cluster :=
  { c with barriers := vset c.barriers n (f (vget c.barriers n default)) }

/-- One signal on an event line: the first sleeper consumes it, else COUNT grows, saturating (R267). -/
def State.signalLine (s : State) (q n : Nat) : State :=
  match (vget (s.cluster q).lines n default).sleepers with
  | [] => s.onCluster q (fun c => c.onLine n (fun e => { e with count := min 0xFFFFFFFF (e.count + 1) }))
  | p :: rest => (s.onCluster q (fun c => c.onLine n (fun e => { e with sleepers := rest }))).wakeAt p

/-- A store of COUNT = v: it wakes up to v sleepers, and one unit is consumed for each (R267). -/
def State.storeLine (s : State) (q n v : Nat) : State :=
  let e := vget (s.cluster q).lines n default
  let m := min v e.sleepers.length
  (e.sleepers.take m).foldl State.wakeAt
    (s.onCluster q (fun c => c.onLine n (fun e => { count := v - m, sleepers := e.sleepers.drop m })))

/-- A mutex freed, or handed to its first sleeper (R268). -/
def State.freeMutex (s : State) (q n : Nat) : State :=
  match (vget (s.cluster q).mutexes n default).sleepers with
  | [] => s.onCluster q (fun c => c.onMutex n (fun e => { e with owner := none }))
  | p :: rest => (s.onCluster q (fun c => c.onMutex n (fun _ => { owner := some p, sleepers := rest }))).wakeAt p

/-- A wait that its barrier completes in the cycle of its interruption: the context will resume behind it, and the wait is an acquire
(R264, R270, R271). -/
def State.passAt (s : State) (p : Nat × Nat) : State :=
  (s.onCtx p.1 p.2 (fun x => if x.sr then { x with srLink := x.srLink + 8#64, waitPc := none } else { x with pc := x.pc + 8#64, waitPc := none })).acquire p.1

/-- A context waiting at a barrier released, or completed where it will resume (R269, R271). -/
def State.leaveBarrier (s : State) (n : Nat) (p : Nat × Nat) : State :=
  if (s.ctxAt p.1 p.2).wait = .barrier n then s.wakeAt p else s.passAt p

/-- Every context waiting at a barrier released (R269). -/
def State.openBarrier (s : State) (q n : Nat) : State :=
  let ws := (vget (s.cluster q).barriers n default).waiting
  ws.foldl (fun s p => s.leaveBarrier n p) (s.onCluster q (fun c => c.onBarrier n (fun e => { e with waiting := [] })))

/-- A barrier opens when ARRIVED has reached TARGET (R269). -/
def State.tryBarrier (s : State) (q n : Nat) : State :=
  let b := vget (s.cluster q).barriers n default
  if b.target != 0 && decide (b.target ≤ b.waiting.length) then s.openBarrier q n else s

/-- A signal planned among those of its cycle, behind those of lower cores and of lower contexts of its core (R271). -/
def signalInsert (l : List Todo) (x : Todo) : List Todo :=
  match l with
  | [] => [x]
  | y :: r =>
    if y.key < x.key || (y.key == x.key && !(y.what == .eventSignalEffect && decide (x.who.a * 16 + x.who.g < y.who.a * 16 + y.who.g)))
    then y :: signalInsert r x else x :: y :: r

/-- Plans the effect of a signal `n` cycles from now. -/
def State.planSignal (s : State) (n : Nat) (u : Subj) : State :=
  { s with agenda := signalInsert s.agenda { key := 4 * (s.now + n) + 2, what := .eventSignalEffect, who := u } }

/-- A signal or barrier arrival that takes effect once the core's earlier stores are performed (R270): `kind` 0 a line, 1 + context a
mutex, 101 + context a barrier; 201 + context the withdrawal of an interrupted arrival (R271). -/
def State.signal (s : State) (cluster kind idx : Nat) : State :=
  s.planSignal 0
    { a := s.curCore, b := cluster, c := kind, d := idx, e := s.nextId,
      f := s.here.launch.getD 0 * 2 + (if cluster = s.curCore / 8 then 0 else 1), g := s.curCtx }

/-- The arrival of an interrupted wait withdrawn at the end of its cycle, behind every store of a TARGET, where the barrier has not
released (R271). -/
def State.withdrawArrival (s : State) (u : Subj) : State :=
  if s.agenda.any (fun x => x.what == .barrierTargetStore && decide (x.key ≤ 4 * s.now + 3)) then s.plan 0 3 .eventSignalEffect u
  else if (s.ctxAt u.a (u.c - 201)).wait = .barrier u.d then s
  else s.onCluster u.b (fun c => c.onBarrier u.d (fun e => { e with waiting := e.waiting.filter (fun p => p != (u.a, u.c - 201)) }))

/-- A signal takes effect at its cluster's event unit (R267 to R270). One to a cluster that has left the launch is discarded and counts
as received (R291, R331). -/
def State.signalEffect (s : State) (u : Subj) : State :=
  let k := u.a
  let ln := u.f / 2
  let s0 := if u.b = k / 8 then s else s.received k ln
  if 200 < u.c then s.withdrawArrival u
  else if (s.core (u.b * 8)).launch != some ln then s0
  else if u.c = 0 then s0.signalLine u.b u.d
  else if u.c < 100 then
    if (vget (s0.cluster u.b).mutexes u.d default).owner = some (k, u.c - 1) then s0.freeMutex u.b u.d else s0
  else
    let me := (k, u.c - 101)
    let b := vget (s0.cluster u.b).barriers u.d default
    if (s0.ctxAt k (u.c - 101)).wait != .barrier u.d || b.waiting.contains me then s0
    else if b.target = 0 then s0.wakeAt me
    else (s0.onCluster u.b (fun c => c.onBarrier u.d (fun e => { e with waiting := e.waiting ++ [me] }))).tryBarrier u.b u.d

/-- The signals of this cycle that the event unit performs before the issuing context's request on the same line or mutex, in ascending
order of core and context (R271). -/
def State.signalsBefore (s : State) (kind : Nat → Bool) (n : Nat) : List Todo :=
  s.agenda.filter (fun x =>
    x.what == .eventSignalEffect && decide (x.key ≤ 4 * s.now + 2) && x.who.b == s.curCore / 8 && x.who.d == n && kind x.who.c &&
    x.who.f % 2 == 0 && !s.outstanding x.who.a x.who.e && decide (x.who.a * 16 + x.who.g < s.curCore * 16 + s.curCtx))

/-- The state once those signals have taken effect. -/
def State.afterSignals (s : State) (kind : Nat → Bool) (n : Nat) : State :=
  match s.signalsBefore kind n with
  | [] => s
  | l => l.foldl (fun s x => s.signalEffect x.who) { s with agenda := s.agenda.filter (fun x => !l.contains x) }

/-- EVWAIT line, behind the signals of its cycle that come first (R267, R271). -/
def execEvwaitLine (k : Ctl) (idx : BitVec 5) (s : State) : Host.Outcome State Fault Refusal :=
  issue (.evwaitLine k idx) s (fun s0 =>
    let n := idx.toNat
    let s := s0.afterSignals (fun c => c == 0) n
    let q := s0.curCore / 8
    if 0 < (vget (s.cluster q).lines n default).count then
      .go ((s.onCluster q (fun c => c.onLine n (fun e => { e with count := e.count - 1 }))).acquire s.curCore)
    else .sleep (s.onCluster q (fun c => c.onLine n (fun e => { e with sleepers := e.sleepers ++ [(s.curCore, s.curCtx)] }))) (.line n))

/-- EVWAIT mutex, behind the signals of its cycle that come first (R268, R271). -/
def execEvwaitMutex (k : Ctl) (idx : BitVec 5) (s : State) : Host.Outcome State Fault Refusal :=
  issue (.evwaitMutex k idx) s (fun s0 =>
    let n := idx.toNat
    if s0.ownsMutex s0.curCore s0.curCtx n then .fault cIllegal 0#64
    else
      let s := s0.afterSignals (fun c => decide (0 < c) && decide (c < 100)) n
      let q := s0.curCore / 8
      let me := (s0.curCore, s0.curCtx)
      match (vget (s.cluster q).mutexes n default).owner with
      | none => .go ((s.onCluster q (fun c => c.onMutex n (fun e => { e with owner := some me }))).acquire s.curCore)
      | some _ => .sleep (s.onCluster q (fun c => c.onMutex n (fun e => { e with sleepers := e.sleepers ++ [me] }))) (.mutex n))

/-- EVWAIT barrier: the arrival is a release (R269, R270). -/
def execEvwaitBarrier (k : Ctl) (idx : BitVec 5) (s : State) : Host.Outcome State Fault Refusal :=
  issue (.evwaitBarrier k idx) s (fun s =>
    if (vget (s.cluster (s.curCore / 8)).barriers idx.toNat default).target = 0 then .fault cIllegal 0#64
    else .sleep (s.release.signal (s.curCore / 8) (101 + s.curCtx) idx.toNat) (.barrier idx.toNat))

/-- The cluster that a word in CORE_ID layout names (R266). -/
def clusterOfId (v : Nat) : Nat := bits v 11 3 * 256 + bits v 19 12

/-- EVSIG line, own or remote (R267, R270, R271). -/
def execEvsigLine (k : Ctl) (a : BitVec 5) (rem : BitVec 1) (idx : BitVec 5) (s : State) : Host.Outcome State Fault Refusal :=
  issue (.evsigLine k a rem idx) s (fun s =>
    if rem == 1#1 then
      let x := s.srcS a
      let q := clusterOfId x.1.toNat
      if s.phased s.curCore then .fault cPhase 0#64
      else if !(match s.launchOf s.curCore with | none => false | some l => l.holds q) then .fault cRights 0#64
      else .go (((s.countVoids [plainIn [x.2]]).release.signal q 0 idx.toNat).onHere (fun c => { c with evOut := if q = s.curCore / 8 then c.evOut else c.evOut + 1 }))
    else .go (s.release.signal (s.curCore / 8) 0 idx.toNat))

/-- EVSIG mutex (R268). -/
def execEvsigMutex (k : Ctl) (idx : BitVec 5) (s : State) : Host.Outcome State Fault Refusal :=
  issue (.evsigMutex k idx) s (fun s =>
    if s.ownsMutex s.curCore s.curCtx idx.toNat then .go (s.release.signal (s.curCore / 8) (1 + s.curCtx) idx.toNat)
    else .fault cIllegal 0#64)

/-- EVENT_SIGNAL_EFFECT (R270): it waits for the core's earlier stores, then for its way to another cluster, and takes effect. -/
def execEventSignalEffect (s : State) : Host.Outcome State Fault Refusal :=
  let u := s.subj
  .next (if s.outstanding u.a u.e then s.planSignal 1 u
    else if u.f % 2 = 1 then
      s.planSignal (2 + pathCost (coreX u.a) (coreY u.a) (u.b % 256) (u.b / 256)) { u with e := 0, f := u.f / 2 * 2 }
    else s.signalEffect u)

/-- EVENT_WAKE: the woken context is ready, and its core acquires (R267, R270). -/
def execEventWake (s : State) : Host.Outcome State Fault Refusal :=
  let k := s.subj.a
  .next ((s.acquire k).onCtx k s.subj.b (fun x => if x.gapUntil ≤ s.now then { x with gapUntil := 0 } else x))

/-- The store that an event-unit step performs is no longer outstanding; its number stands one up in the subject. -/
def State.eventStored (s : State) : State := if s.subj.d = 0 then s else s.dropReq (s.subj.d - 1)

/-- EVENT_LINE_STORE (R267). -/
def execEventLineStore (s : State) : Host.Outcome State Fault Refusal :=
  .next (s.eventStored.storeLine s.subj.a s.subj.b (s.subj.c % 2 ^ 32))

/-- BARRIER_TARGET_STORE: TARGET above 88 is written as 88; 0 releases every waiter and disables the barrier (R265, R269). -/
def execBarrierTargetStore (s : State) : Host.Outcome State Fault Refusal :=
  let q := s.subj.a
  let n := s.subj.b
  let v := min 88 (s.subj.c % 256)
  let s1 := s.eventStored.onCluster q (fun c => c.onBarrier n (fun e => { e with target := v }))
  .next (if v = 0 then s1.openBarrier q n else s1.tryBarrier q n)

/-! ## Domain views (R96, R100) -/

/-- The ambient label of a core's jobs under a new era. -/
def Job.era (k : Nat) (j : Job) : Job := if j.core = k then { j with amb := lostIn j.amb } else j

/-- A core's contexts, slots and label plane under a new era (R100). -/
def Core.toEra (c : Core) (era : BitVec 4) : Core :=
  let d := c.loseSlots (fun _ => true)
  { d with
    ctxs := d.ctxs.map (fun x => { x with era := era }), eraTodo := true,
    lplane := d.lplane.filterMap (fun p => let h := lostIn p.2; if h = hTrue then none else some (p.1, h)) }

/-- The labels that a core's contexts hold, its accumulator columns and its label plane after a new era (R100). -/
def State.newEra (s : State) (k : Nat) (era : BitVec 4) : State :=
  let s0 := s.relabel k eraIn
  let onq : Nat × Cluster → Nat × Cluster := fun c => (c.1, { c.2 with jobs := c.2.jobs.map (Job.era k) })
  let s1 := { s0 with mill := s0.mill.map (Job.era k), clusters := s0.clusters.map onq }
  (s1.onCore k (fun c => c.toEra era)).plan (1 + s.freeN k % 768) 0 .eraRewriteDone { a := k }

/-- A core's view takes every change performed at the domain home; with `clear` its overlays are cleared, else they lose the changes
that the view now holds (R92, R96). Weir completions and the update TLWAIT come here; no other release or acquire does (R312). -/
def State.takeView (s : State) (k : Nat) (clear : Bool) : State :=
  match s.domainOf k with
  | none => s
  | some n =>
    let v := s.homeView n
    let old := (s.core k).view
    let s1 := s.onCore k (fun c =>
      { c with view := v, combCache := if v == c.view then c.combCache else [],
               ctxs := c.ctxs.map (fun x => { x with overlay := if clear then [] else x.overlay.filter (fun c => decide (v.update < c.upd)) }) })
    if v.era = old.era then s1 else s1.newEra k v.era

/-- ERA_REWRITE_DONE: the label plane has been rewritten; since a handle not yet rewritten reads as VOID.LOST, the rewriting itself is
seen at once (R100). -/
def execEraRewriteDone (s : State) : Host.Outcome State Fault Refusal :=
  .next (s.onCore s.subj.a (fun c => { c with eraTodo := false }))

/-! ## Timelines -/

/-- A wait that passes at once when its timeline is there, as an acquire; else it sleeps (R273). -/
def State.tlPass (s : State) (there : Bool) (w : Wait) : Eff := if there then .go (s.acquire s.curCore) else .sleep s w

/-- TLWAIT mem: a word of global memory is watched by its home, a millrace timeline word of the control window by the unit that keeps
it (R272, R273). -/
def execTlwaitMem (k : Ctl) (a b : BitVec 5) (s : State) : Host.Outcome State Fault Refusal :=
  issue (.tlwaitMem k a b) s (fun s =>
    let (va, poison) := s.address a 0#64
    let v := (s.srcS b).1.toNat
    match s.checkAccess .tlwait va 8 false poison with
    | some e => e
    | none =>
      let s0 := s.countVoids [plainIn [(s.srcS a).2, (s.srcS b).2]]
      match placeOf s.curCore va with
      | .control o =>
        let n := (o % 0x80000000000 - 0x1000) / 8
        s0.tlPass (decide (v ≤ (s.tenant (s.tenantOf s.curCore)).mill.get n 0)) (.tlMill n v)
      | _ => .sleep (s0.send { s0.mkReq .watch va 8 with data := (s.srcS b).1 } (homePath s.curCore va)) (.tlMem va v))

/-- TLWAIT sluice (R272). -/
def execTlwaitSluice (k : Ctl) (b : BitVec 5) (s : State) : Host.Outcome State Fault Refusal :=
  issue (.tlwaitSluice k b) s (fun s =>
    let x := s.srcS b
    if s.me.jobLast < x.1.toNat then .fault cIllegal 0#64
    else (s.countVoids [plainIn [x.2]]).tlPass (decide (x.1.toNat ≤ s.me.timeline)) (.tlSluice x.1.toNat))

/-- TLWAIT millrace (R272). -/
def execTlwaitMillrace (k : Ctl) (b : BitVec 5) (n : BitVec 6) (s : State) : Host.Outcome State Fault Refusal :=
  issue (.tlwaitMillrace k b n) s (fun s =>
    let x := s.srcS b
    (s.countVoids [plainIn [x.2]]).tlPass (decide (x.1.toNat ≤ (s.tenant (s.tenantOf s.curCore)).mill.get n.toNat 0))
      (.tlMill n.toNat x.1.toNat))

/-- TLWAIT update: the core's view takes the changes when it passes (R96, R272, R273). -/
def execTlwaitUpdate (k : Ctl) (b : BitVec 5) (s : State) : Host.Outcome State Fault Refusal :=
  issue (.tlwaitUpdate k b) s (fun s =>
    match s.domainOf s.curCore with
    | none => .fault cIllegal 0#64
    | some d =>
      let x := s.srcS b
      let s0 := s.countVoids [plainIn [x.2]]
      if x.1.toNat ≤ s.domUpdate d then .go ((s0.acquire s.curCore).takeView s.curCore false) else .sleep s0 (.tlUpdate x.1.toNat))

/-- Waiters on a domain's UPDATE timeline that its value now satisfies (R273). -/
def State.wakeUpdate (s : State) (d : Nat) : State :=
  let v := s.domUpdate d
  (s.sleepers (fun w => match w with | .tlUpdate n => decide (n ≤ v) | _ => false)).foldl (fun s p =>
    if s.domainOf p.1 = some d then ((s.acquire p.1).takeView p.1 false).onCtx p.1 p.2 Ctx.woken else s) s

/-- Waiters on a context's sluice timeline (R273). -/
def State.wakeSluice (s : State) (k t : Nat) : State :=
  let x := s.ctxAt k t
  match x.wait with
  | .tlSluice v => if v ≤ x.timeline then (s.acquire k).onCtx k t Ctx.woken else s
  | _ => s

/-- Waiters on a tenant's millrace timeline (R273). -/
def State.wakeMill (s : State) (t n : Nat) : State :=
  let now := (s.tenant t).mill.get n 0
  (s.sleepers (fun w => match w with | .tlMill m v => m == n && decide (v ≤ now) | _ => false)).foldl (fun s p =>
    if s.tenantOf p.1 = t then (s.acquire p.1).onCtx p.1 p.2 Ctx.woken else s) s

/-- TLSIG: a release; the home raises the timeline once the core's earlier stores are performed (R274). -/
def execTlsig (k : Ctl) (a b : BitVec 5) (s : State) : Host.Outcome State Fault Refusal :=
  issue (.tlsig k a b) s (fun s =>
    let (va, poison) := s.address a 0#64
    match s.checkAccess .tlsig va 8 false poison with
    | some e => e
    | none =>
      let s1 := (s.countVoids [plainIn [(s.srcS a).2, (s.srcS b).2]]).release
      .go ((s1.markWrite s.curCore (va / 64)).send { s1.mkReq .tlsig va 8 with data := (s.srcS b).1 } (1 + homePath s.curCore va)))

/-! ## Communication phases and flumes -/

/-- COMM (R121, R275). -/
def execComm (k : Ctl) (s : State) : Host.Outcome State Fault Refusal :=
  issue (.comm k) s (fun s =>
    if s.here.pk then .fault cIllegal 0#64 else .go (s.onHere (fun c => { c with arm := true })))

/-- A flume of the core by number (R123). -/
def Core.flume (c : Core) (f : Nat) : Option Flume := c.flumes.find? (fun x => x.f == f)

/-- A lane as it is sent: a pending label goes as VOID.OVER (R95). -/
def sendLane (w : LWord) : LWord := if isPend w.2 then (w.1, hOver) else w

/-- SENDF (R95, R123, R276). -/
def execSendf (k : Ctl) (b f : BitVec 5) (s : State) : Host.Outcome State Fault Refusal :=
  issue (.sendf k b f) s (fun s =>
    let c := s.here
    match c.flume f.toNat with
    | none => .fault cSlot 0#64
    | some u =>
      if !c.pk || !c.slotTab.contains (s.phaseCyc s.curCore, f.toNat) then .fault cSlot 0#64
      else
        let ws := (List.range 16).map (fun i => (s.srcV b).lane i)
        let late := ws.any (fun w => isPend w.2)
        let s1 := (s.countReads (ws.map (·.2))).onHere (fun c =>
          { c with flumes := c.flumes.map (fun x => if x.f = u.f then { x with sent := x.sent + 1 } else x), evOut := c.evOut + 1 })
        let s2 := if late then s1.flag s.curCore s.curCtx stLblOver else s1
        let lat := 2 + pathCost (coreX s.curCore) (coreY s.curCore) (coreX u.dst) (coreY u.dst)
        .go (s2.plan lat 2 (.flumeDelivery s.curCore u.dst (u.base + 64 * (u.sent % max 1 u.depth)) (ws.map sendLane))
          { a := s.here.launch.getD 0 }))

/-- FLUME_DELIVERY: the words land through the landing port; a delivery to a core that has left the launch is discarded; either way it
counts as received (R45, R123, R276, R291, R331). -/
def execFlumeDelivery (src dst off : Nat) (words : List (BitVec 32 × BitVec 16)) (s : State) : Host.Outcome State Fault Refusal :=
  let ln := some s.subj.a
  let s1 := s.received src s.subj.a
  if (s.core dst).launch != ln then .next s1
  else
    let rs : List (Nat × Req) := (words.zipIdx).map (fun p =>
      (1, { s.mkReq .store (0xFF000000000000 + off + 4 * p.2) 4 with
              core := dst, launch := ln.getD 0, data := p.1.1.setWidth 64, lbl := p.1.2 }))
    .next { s1 with late := s1.late ++ rs }

end Sys2Proof.Machine
end

