-- ==== Sys2Proof/Machine/Copy.lean ====
section
/-! DEFINITION. Sys2Proof/Machine/Copy.lean: descriptors, sluice and millrace jobs, accumulator saves and page scrubs (R48 to R53,
R249 to R258, R286). -/

namespace Sys2Proof.Machine

/-! ## The descriptor (R249, R250) -/

/-- A word of a job's captured descriptor. -/
def Job.w (j : Job) (i : Nat) : Nat := (j.desc.getD i 0#32).toNat

/-- A signed 32-bit field. -/
def signed32 (v : Nat) : Int := if 2 ^ 31 ≤ v then (v : Int) - 2 ^ 32 else (v : Int)

def Job.src (j : Job) : Nat := j.w 0 + j.w 1 * 2 ^ 32
def Job.dstA (j : Job) : Nat := j.w 2 + j.w 3 * 2 ^ 32
def Job.n0 (j : Job) : Nat := j.w 4
def Job.n1 (j : Job) : Nat := j.w 5 % 2 ^ 16
def Job.n2 (j : Job) : Nat := j.w 5 / 2 ^ 16
def Job.ss1 (j : Job) : Int := signed32 (j.w 6)
def Job.ss2 (j : Job) : Int := signed32 (j.w 7)
def Job.ds1 (j : Job) : Int := signed32 (j.w 8)
def Job.ds2 (j : Job) : Int := signed32 (j.w 9)
/-- IDX or HDR (R254). -/
def Job.idx (j : Job) : Nat := j.w 10 + j.w 11 * 2 ^ 32
/-- A byte of KS (R255). -/
def Job.ks (j : Job) (i : Nat) : Nat := j.w (10 + i / 4) / 2 ^ (8 * (i % 4)) % 256
def Job.oh (j : Job) : Nat := j.w 12 % 2 ^ 16
def Job.ow (j : Job) : Nat := j.w 12 / 2 ^ 16
def Job.pad (j : Job) : Nat := j.w 13
def Job.hp (j : Job) : Nat := bits (j.w 12) 23 0
def Job.qmask (j : Job) : Nat := bits (j.w 12) 27 24
def Job.w4 (j : Job) : Bool := bitAt (j.w 12) 28
def Job.valid (j : Job) : Nat := j.w 14
/-- Element bytes (R250). -/
def Job.es (j : Job) : Nat := 2 ^ bits (j.w 15) 1 0
def Job.stg (j : Job) : Bool := bitAt (j.w 15) 31
def Job.eve (j : Job) : Bool := bitAt (j.w 15) 30
def Job.wpe (j : Job) : Bool := bitAt (j.w 15) 29

/-- Code bytes of a block. -/
def Job.codeBytes (j : Job) : Nat := if j.w4 then 16 else 32

/-- An address plus a signed offset, modulo 2^64. -/
def addrPlus (a : Nat) (o : Int) : Nat := (((a : Int) + o) % 2 ^ 64).toNat

/-- Rows of a job (R254). -/
def Job.rows (j : Job) : Nat :=
  match j.mode with
  | 0 | 5 => j.n2 * j.n1
  | 2 => j.oh * j.ow
  | _ => j.n1

/-- Destination units of one row (R254, R255): elements, or blocks of a quantising copy. -/
def Job.perRow (j : Job) : Nat :=
  match j.mode with
  | 1 => j.n2 * j.n0
  | 2 => j.n2 * (j.ks 0 * j.ks 1)
  | 6 => (j.n0 + 31) / 32
  | _ => j.n0

/-- Units that a job performs; those beyond its valid count are not touched (R50). -/
def Job.units (j : Job) : Nat :=
  match j.mode with
  | 7 | 8 => 1024
  | 9 => (j.amend.getD 0#32).toNat
  | _ => min j.valid j.rows * j.perRow

/-- Destination bytes of the whole job, the valid count left out: they set its time (R50). -/
def Job.bytes (j : Job) : Nat :=
  match j.mode with
  | 7 | 8 => 4096
  | 9 => 0
  | 6 => j.rows * j.perRow * (j.codeBytes + 2)
  | _ => j.rows * j.perRow * j.es

/-- Element (n2, n1, n0) that is unit `i` of a CPYT: plane by plane, in tiles of 32 rows by 32 columns clipped at the extents and at the
valid count, the tiles and their elements by rows (R51, R254; the order among tiles is DESIGN CHOICE; entry 91). -/
def Job.tiled (j : Job) (i : Nat) : Nat × Nat × Nat :=
  let rows := min j.valid j.rows
  let k := i % (rows * j.n0)
  let band := k / (32 * j.n0)
  let k1 := k % (32 * j.n0)
  let height := min 32 (rows - 32 * band)
  let col := k1 / (32 * height)
  let k2 := k1 % (32 * height)
  let width := min 32 (j.n0 - 32 * col)
  (i / (rows * j.n0), 32 * band + k2 / width, 32 * col + k2 % width)

/-- Source and destination of unit `i` (R254, R255); no source where a pad or pattern is written. -/
def Job.unit (j : Job) (i : Nat) (idx : Nat) : Option Nat × Nat :=
  let r := i / j.perRow
  let e := i % j.perRow
  match j.mode with
  | 1 =>
    let p := j.tiled i
    (some (addrPlus j.src (p.1 * j.ss2 + p.2.1 * j.ss1 + p.2.2 * j.es)), addrPlus j.dstA (p.1 * j.ds2 + p.2.2 * j.ds1 + p.2.1 * j.es))
  | 2 =>
    let kx := e % j.ks 1
    let ky := e / j.ks 1 % j.ks 0
    let ch := e / (j.ks 1 * j.ks 0)
    let y : Int := (r / j.ow : Nat) * (j.ks 2 : Int) - j.ks 6 + ky * (j.ks 4 : Int)
    let x : Int := (r % j.ow : Nat) * (j.ks 3 : Int) - j.ks 7 + kx * (j.ks 5 : Int)
    (if 0 ≤ y && decide (y < j.n1) && decide (0 ≤ x) && decide (x < j.n0) then
        some (addrPlus j.src (ch * j.ss2 + y * j.ss1 + x * j.es)) else none,
      addrPlus j.dstA (r * j.ds1 + e * j.es))
  | 3 => (some (addrPlus j.src (idx * j.ss1 + e * j.es)), addrPlus j.dstA (r * j.ds1 + e * j.es))
  | 4 => (some (addrPlus j.src (r * j.ss1 + e * j.es)), addrPlus j.dstA (idx * j.ds1 + e * j.es))
  | 5 => (none, addrPlus j.dstA ((r / j.n1 : Nat) * j.ds2 + (r % j.n1 : Nat) * j.ds1 + e * j.es))
  | _ => (some (addrPlus j.src ((r / j.n1 : Nat) * j.ss2 + (r % j.n1 : Nat) * j.ss1 + e * j.es)),
          addrPlus j.dstA ((r / j.n1 : Nat) * j.ds2 + (r % j.n1 : Nat) * j.ds1 + e * j.es))

/-! ## Elements (R253) -/

/-- Why a job does not go on. -/
inductive Halt where
  | bad (cause addr : Nat)
  | lease (addr : Nat)
  | park (va kind : Nat)
  | cow (va : Nat) (e : TEntry)
  | wait
  /-- the host or a peer is asked for the line of an address -/
  | host (va : Nat) (e : TEntry)
  | remote (va : Nat) (e : TEntry)
  /-- a write sent over a link -/
  | sent (va width data : Nat) (lbl : Handle) (e : TEntry)
deriving DecidableEq, Repr

/-- One action of a job: the state and a value, or why it does not go on, with the bytes of the unit that it had written. -/
inductive Act (α : Type) where
  | ok (s : State) (x : α)
  | halted (s : State) (h : Halt) (bytes : Nat)

/-- An action that does not go on and has written nothing. -/
abbrev Act.halt {α : Type} (s : State) (h : Halt) : Act α := .halted s h 0

/-- One action after another. -/
def Act.bind {α β : Type} (a : Act α) (f : State → α → Act β) : Act β :=
  match a with
  | .ok s x => f s x
  | .halted s h n => .halted s h n

/-- The protection range of a launch that holds an address (R120). -/
def Launch.range (l : Launch) (va : Nat) : Option Plb :=
  l.leases.find? (fun p => p.holds va)

/-- The domain of a job's launch (R253). -/
def State.jobDomain (s : State) (j : Job) : Option Nat := match s.launch j.launch with | none => none | some l => l.domain

/-- Is a job's core still its launch's? -/
def State.jobHome (s : State) (j : Job) : Bool := (s.core j.core).launch == some j.launch

/-- A label that a job forms (R88, R90), in its context's view, or in the domain's own where its core has left the launch. -/
def State.jobCombine (s : State) (j : Job) (hs : List Handle) : State × Handle :=
  if s.jobHome j then s.combineNow j.core j.ctx hs
  else match s.jobDomain j with
  | none => (s, (worstVoid (hs.map (s.checkIn none View.zero))).getD hTrue)
  | some n =>
    let v := s.homeView n
    match s.combineSet n v (hs.map (s.checkIn (some n) v)) with
    | .known h _ => (s, h)
    | .list l => let r := s.intern n l; (r.1, r.2.1)

/-- The global rights of a job's access (R190, R253). -/
def State.jobRights (s : State) (j : Job) (write label : Bool) (va : Nat) : Option Halt :=
  match s.launch j.launch with
  | none => some (.lease va)
  | some l =>
    match l.range va with
    | none => some (.lease va)
    | some r => if (if write then r.w else r.r) && (!label || r.l) then none else some (.bad cRights va)

/-- A label that a job carries from core `k`'s view to a home: one of an older era than the domain's writes VOID.LOST (R100). -/
def State.jobLabel (s : State) (j : Job) (k : Nat) (h : Handle) : Handle :=
  match s.jobDomain j with
  | none => h
  | some n => if (s.core k).view.era = s.eraOf n then h else lostIn h

/-- The core in whose label plane an address lies, if it lies in cluster memory. -/
def bankOf (k va : Nat) : Option Nat := (localOf k va).map (·.1)

/-- The labels of a value read at `a`, as they are written at `b` (R100). -/
def State.jobLabels (s : State) (j : Job) (a : Option Nat) (b : Nat) (hs : List Handle) : List Handle :=
  if !isGlobal b then hs
  else match a with
  | none => hs
  | some va => match bankOf j.core va with
    | none => hs
    | some k => hs.map (s.jobLabel j k)

/-- A line of a home made present for a job (R25, R253, R351): translated, filled, or why not. A line of a DECODE view whose block
header is corrupt is read as VOID.POISON and sets no flag: R30 gives FMT_CORRUPT and FORMAT to the core that loads, and R343 names no
FORMAT for a job (DESIGN CHOICE; entry 82). -/
def State.jobLine (s : State) (j : Job) (write : Bool) (va : Nat) : Nat → Act (Option TEntry)
  | 0 => .halt s .wait
  | n + 1 =>
    match s.gate (s.launchTenant j.launch) write va with
    | .ready e => .ok s e
    | .walk =>
      match s.walk va with
      | .park kind => .halt s (.park va kind)
      | .leaf l size => (s.keepLeaf va l size).jobLine j write va n
    | .fill e =>
      if !s.lineOk e.leaf e.size va then .halt s (.park va 2) else
      let f := s.fillLine e.leaf e.size va
      (s.addLine { line := va / 64, words := f.1, dirty := false, used := s.now, corrupt := f.2 }).jobLine j write va n
    | .host e => .halt s (.host va e)
    | .remote e => .halt s (.remote va e)
    | .wait => .halt s .wait
    | .park kind => .halt s (.park va kind)
    | .cow e => .halt s (.cow va e)
    | .rights => .halt s (.bad cRights va)

/-- A job's access to cluster memory takes its sub-bank's shared port (R45). -/
def State.jobPort (s : State) (j : Job) (op : ReqOp) (va width v : Nat) (h : Handle) : State :=
  let r : Req :=
    { s.mkReq op va width with
        core := j.core, ctx := j.ctx, launch := j.launch, pc := j.pc, data := BitVec.ofNat 64 v, lbl := h, grp := j.id + 1 }
  { s with late := s.late ++ [(3, r)] }

/-- Do writes of a job to cluster memory still wait for their shared ports (R45)? -/
def State.jobLands (s : State) (j : Job) : Bool := s.late.any (fun p => p.2.grp == j.id + 1 && p.2.isStore)

/-- A word that a job reads in cluster memory, as it stood before this cycle's writes (R45); in a cluster that its launch has left a read
still outstanding completes with value 0 and label VOID.LOST (R364). -/
def State.jobBank (s : State) (j : Job) (va b o : Nat) : Act LWord :=
  if (s.core b).launch != some j.launch then .ok s (0#32, hLost)
  else .ok (s.jobPort j .load (va / 4 * 4) 4 0 hTrue) (s.lword b o)

/-- A word at an address with its handle, as a job reads it (R34, R35, R253, R316; entry 82). -/
def State.jobWord (s : State) (j : Job) (va : Nat) : Act LWord :=
  match placeOf j.core va with
  | .outside => .halt s (.lease va)
  | .own o => s.jobBank j va j.core o
  | .bank b o => s.jobBank j va b o
  | .global =>
    match s.jobRights j false false va with
    | some h => .halt s h
    | none =>
      match j.got.find? (fun p => p.1 == va / 4) with
      | some p => .ok s p.2
      | none => (s.jobLine j false va 4).bind (fun s e =>
          let w := s.slotWord va
          .ok s (w.1, s.readHandle (s.jobDomain j) e w.2))
  | _ => .halt s (.bad cRights va)

/-- An element of 1 to 8 bytes read: its value and the handles of its words. -/
def State.jobRead (s : State) (j : Job) (va size : Nat) : Act (Nat × List Handle) :=
  if va % size != 0 then .halt s (.bad cAlign va)
  else (s.jobWord j va).bind (fun s lo =>
    if size < 8 then .ok s (lo.1.toNat / 2 ^ (8 * (va % 4)) % 2 ^ (8 * size), [lo.2])
    else (s.jobWord j (va + 4)).bind (fun s hi => .ok s (lo.1.toNat + hi.1.toNat * 2 ^ 32, [lo.2, hi.2])))

/-- The mark in a job's link answers of a word that it has already sent. -/
def sentMark : Nat := 2 ^ 64

/-- Up to one word written by a job with its handle (R34, R253): false where a millrace move leaves it unwritten (R53). One in cluster memory
lands through the shared port (R45). -/
def State.jobPut (s : State) (j : Job) (va width v : Nat) (h : Handle) : Act Bool :=
  if va % width != 0 then .halt s (.bad cAlign va)
  else if j.got.any (fun p => p.1 == sentMark + va) then .ok s true
  else match placeOf j.core va with
  | .outside => .halt s (.lease va)
  | .own _ | .bank _ _ => .ok (s.jobPort j .store va width v h) true
  | .global =>
    match s.jobRights j true false va with
    | some h => .halt s h
    | none =>
      match s.jobLine j true va 4 with
      | .halted s (.remote va e) _ => .halt s (.sent va width v h e)
      | .halted s x _ => .halt s x
      | .ok s e =>
        match s.accept (s.jobDomain j) e va [h] with
        | none => if j.timeline.isSome then .ok s false else .halt s (.bad cLabelDrop va)
        | some s1 =>
          let old := s1.slotWord va
          let r := if width < 4 then s1.jobCombine j [s1.readHandle (s.jobDomain j) e old.2, h] else (s1, h)
          let s2 := (r.1.setSlot va (if width < 4 then mergeWord old.1 (va % 4) width v else BitVec.ofNat 32 v) r.2).touched va
          match e with
          | some x => if x.leaf.hl then .halt s2 (.sent va width v h x) else .ok s2 true
          | none => .ok s2 true
  | _ => .halt s (.bad cRights va)

/-- A list of words written: how many bytes, and whether all were. -/
def State.jobPuts (s : State) (j : Job) : List (Nat × Nat × Nat × Handle) → Act (Nat × Bool)
  | [] => .ok s (0, true)
  | (va, width, v, h) :: rest =>
    (s.jobPut j va width v h).bind (fun s w =>
      let n := if w then width else 0
      match s.jobPuts j rest with
      | .ok s r => .ok s (n + r.1, w && r.2)
      | .halted s x m => .halted s x (n + m))

/-- An element of 1 to 8 bytes as the words it writes: an 8-byte element carries its two handles separately (R253). -/
def elemWords (va size v : Nat) (hs : List Handle) : List (Nat × Nat × Nat × Handle) :=
  if size < 8 then [(va, size, v, hs.headD hTrue)]
  else [(va, 4, v % 2 ^ 32, hs.headD hTrue), (va + 4, 4, v / 2 ^ 32, hs.getD 1 hTrue)]

/-- Input lanes of a block read (R254). -/
def State.jobLanes (s : State) (j : Job) (va : Nat) : Nat → Act (List LWord)
  | 0 => .ok s []
  | n + 1 => (s.jobRead j va 4).bind (fun s x => (s.jobLanes j (va + 4) n).bind (fun s r =>
      .ok s ((BitVec.ofNat 32 x.1, x.2.headD hTrue) :: r)))

/-- A block of CPYQ: header, codes and their labels (R71, R90, R254). The result says how many bytes were written, whether all, and
whether the block was invalid. -/
def State.jobBlock (s : State) (j : Job) (i : Nat) : Act (Nat × Bool × Bool) :=
  let r := i / j.perRow
  let b := i % j.perRow
  (s.jobLanes j (addrPlus j.src (r * j.ss1 + 128 * b)) (min 32 (j.n0 - 32 * b))).bind (fun s xs =>
    let ins := (List.range 32).map (fun k => (xs[k]?).map (fun w => w.1.toNat))
    let q := quantise ins j.qmask j.w4
    let c := s.jobCombine j (xs.map (·.2) ++ [j.amb])
    let dst := addrPlus j.dstA (r * j.ds1 + b * j.codeBytes)
    let lab : Nat → Handle := fun va => if isGlobal va && s.jobHome j then s.jobLabel j j.core c.2 else c.2
    let ws := ((codeWords (packCodes j.w4 q.2.1)).zipIdx).map (fun p => (addrPlus dst (4 * p.2), 4, p.1, lab dst))
    let hd := addrPlus j.idx (r * j.hp + 2 * b)
    (c.1.jobPuts j (ws ++ [(hd, 2, q.1.toNat, lab hd)])).bind (fun s w => .ok s (w.1, w.2, q.2.2)))

/-- The handles of a line rewritten for the current era, values unchanged, under the rights of the line's range (R99, R253, R286). -/
def State.scrubLine (s : State) (j : Job) (va : Nat) : Act Unit :=
  match s.jobRights j true true va with
  | some h => .halt s h
  | none =>
  (s.jobLine j true va 4).bind (fun s _ =>
    match s.line (va / 64) with
    | none => .ok s ()
    | some l =>
      let f : Handle → Handle := fun h => if h = hTrue then h else if h = hPoison || isReserved h then hPoison else hLost
      let ws := l.words.map (fun w => (w.1, f w.2))
      .ok (if ws = l.words then s else s.putLine { l with words := ws, dirty := true, used := s.now }) ())

/-- The page that an LSCRUB names, once translated: its size, and whether its handles need rewriting (R286). -/
def State.scrubPage (s : State) (j : Job) : Act (Option TEntry) :=
  let va := j.addr.toNat
  match s.jobRights j true true va with
  | some h => .halt s h
  | none =>
    (s.jobLine j true va 4).bind (fun s e =>
      match e with
      | none => .ok s none
      | some x =>
        if !x.leaf.labelled || !x.leaf.hv then .ok s none
        else if some x.leaf.dom != s.jobDomain j then .halt s (.bad cRights va)
        else if x.leaf.era = s.domEra x.leaf.dom then .ok s none
        else .ok s (some x))

/-- One unit of a job: bytes written, whether all were, and an invalid block (R253 to R258). -/
def State.jobUnit (s : State) (j : Job) (i : Nat) : Act (Nat × Bool × Bool) :=
  match j.mode with
  | 6 => s.jobBlock j i
  | 7 =>
    let w := (s.cluster (j.core / 8)).acc j.bank (i / 32) (i % 32)
    if isPend w.2 then .halt s .wait else
    let va := addrPlus j.addr.toNat (4 * i)
    let h := if isGlobal va then s.jobLabel j (j.core / 8 * 8 + i % 32 / 4) w.2 else w.2
    (s.jobPuts j [(va, 4, w.1.toNat, h)]).bind (fun s r => .ok s (r.1, r.2, false))
  | 8 =>
    (s.jobWord j (addrPlus j.addr.toNat (4 * i))).bind (fun s w =>
      .ok (s.onCluster (j.core / 8) (fun c => c.setAcc j.bank (i / 32) (i % 32) w.1 w.2)) (4, true, false))
  | 9 => (s.scrubLine j (j.addr.toNat + 64 * i)).bind (fun s _ => .ok s (0, true, false))
  | m =>
    let gather := m == 3 || m == 4
    let at_ := addrPlus j.idx (4 * (i / j.perRow : Nat))
    (if gather then s.jobRead j at_ 4 else .ok s (0, [hTrue])).bind (fun s x =>
      if gather && x.2.any (fun h => s.check j.core j.ctx h = hPoison) then .halt s (.bad cPoison at_)
      else
        let u := j.unit i x.1
        let value : Act (Nat × List Handle) := match u.1 with
          | some a => s.jobRead j a j.es
          | none => .ok s ((if m = 5 then j.w 10 else j.pad) % 2 ^ (8 * j.es), [hTrue])
        value.bind (fun s v => (s.jobPuts j (elemWords u.2 j.es v.1 (s.jobLabels j u.1 u.2 v.2))).bind (fun s r => .ok s (r.1, r.2, false))))

/-- Does a job that does not go on stop for good (R253, R258)? -/
def Halt.stops (h : Halt) (j : Job) : Bool :=
  match h with
  | .bad _ _ => true
  | .park _ kind => j.timeline.isSome && kind == 5
  | _ => false

/-- How a run of a job ends. -/
inductive JobEnd where
  | done
  | halt (h : Halt)
deriving DecidableEq, Repr

/-- A weir's counter loses the bytes that a write brings to landing (R49); held back while the launch is pre-empted (R361). -/
def State.jobBytes (s : State) (j : Job) (n : Nat) : State :=
  match j.weir with
  | none => s
  | some w =>
    if n = 0 then s
    else match s.launch j.launch with
    | none => s
    | some l =>
      if l.state = .bound then s.weirAdd j.launch w (0#40 - BitVec.ofNat 40 n)
      else s.onLaunch j.launch (fun l => { l with heldFx := l.heldFx ++ [(j.core / 8, none, some w, n)] })

/-- A job stopped: the bytes that it had written of the unit it was at are subtracted from its weir's counter too (R49, R253, R258). -/
def State.stopJob (s : State) (j : Job) : State × Job :=
  (s.jobBytes j j.part, { j with stopped := true, stat := j.stat ||| 2, moved := j.moved + j.part, part := 0 })

/-- A job runs from the unit it has reached, until it is done or does not go on; a 0-bit of `stat` is set where words stay unwritten,
bit 2 for an invalid block (R258). -/
def State.runJob (s : State) (j : Job) : Nat → State × Job × JobEnd
  | 0 => (s, j, .done)
  | n + 1 =>
    if j.units ≤ j.done then (s, j, .done)
    else match s.jobUnit j j.done with
    | .ok s1 (bytes, all, bad) =>
      let j1 := { j with
        done := j.done + 1, moved := j.moved + bytes, part := 0, got := [],
        stat := (if all then j.stat else j.stat ||| 1) ||| (if bad then 4 else 0),
        flags := if bad then j.flags ||| stQuant else j.flags }
      (s1.jobBytes j bytes).runJob j1 n
    | .halted s1 (.sent va width v h e) n =>
      (s1, { j with got := j.got ++ [(sentMark + va, (0#32, hTrue))], part := max n j.part }, .halt (.sent va width v h e))
    | .halted s1 h n =>
      let j1 := { j with part := max n j.part }
      if h.stops j then let x := s1.stopJob j1; (x.1, x.2, .halt h) else (s1, j1, .halt h)

/-! ## How a job ends (R253, R258) -/

/-- A job put back into its list. -/
def State.setJob (s : State) (j : Job) : State := s.mapJob j.id (fun _ => j)

/-- A job that cannot go on: it waits, parks, asks over a link, stops, or ends its launch. A sluice job's stop is reported with the copy
instruction's PC; a millrace job's shows in its status (R253, R258). -/
def State.jobHalt (s : State) (j : Job) (h : Halt) : State :=
  let t := s.launchTenant j.launch
  let sluice := j.timeline.isNone
  match h with
  | .wait => (s.setJob j).resumeJob j 16
  | .lease va => (s.setJob j).outOfLease j.launch j.core j.ctx j.pc (BitVec.ofNat 64 va)
  | .park va kind =>
    if !sluice && kind = 5 then let x := s.stopJob j; (x.1.setJob x.2).resumeJob j 0
    else
      let s1 := (s.setJob j).park (s.jobPark j va kind)
      if kind = 4 then s1.notify t (s.pageBase va) 2 (s1.freeN 6) 0 0 else s1
  | .cow va e => (s.setJob j).parkCow (s.jobPark j va 3) e.leaf e.size
  | .bad cause va =>
    let x := s.stopJob j
    let s1 := (x.1.setJob x.2).resumeJob j 0
    if sluice && s.jobHome j then s1.report j.core j.ctx cause j.pc (BitVec.ofNat 64 va) else s1
  | .host va e =>
    let s1 := (s.setJob { j with away := some va }).countRemote t va
    { s1.stage t va with hostOut := s1.hostOut ++ [HostMsg.read t j.id (e.leaf.frame + va % e.size / 64 * 64)] }
  | .remote va e =>
    let acc : RemoteAccess :=
      { kind := 0, off := bits e.leaf.frame 39 0 + va % e.size / 64 * 64, width := 64, data := 0#64, cmp := 0#64, envs := [],
        void := hTrue }
    (s.setJob { j with away := some va }).toLink e.leaf.link (.access e.leaf.link j.id j.timeline.isSome acc)
  | .sent va width v lbl e =>
    let s1 := s.setJob { j with away := some va }
    if e.leaf.remote then
      let l := s.outLabel j.core e.leaf.link lbl
      let acc : RemoteAccess :=
        { kind := 1, off := bits e.leaf.frame 39 0 + va % e.size, width := width, data := BitVec.ofNat 64 v, cmp := 0#64, envs := l.1,
          void := l.2 }
      s1.toLink e.leaf.link (.access e.leaf.link j.id j.timeline.isSome acc)
    else { s1 with hostOut := s1.hostOut ++ [HostMsg.write t j.id (e.leaf.frame + va % e.size) width (BitVec.ofNat 64 v)] }

/-- Has a stopped job's fault been resumed (R253)? -/
def State.stopResumed (s : State) (j : Job) : Bool :=
  !j.stopped || !(s.core j.core).frozen && (s.core j.core).held.all (fun r => !(r.ctx == j.ctx && r.pc == j.pc))

/-- The value that a timeline has: every job numbered so or less is performed (R49). -/
def timelineValue (last : Nat) (open_ : List Job) : Nat := open_.foldl (fun m j => min m (j.num - 1)) last

/-- An event firing of a finished job (R49, R258, R361). -/
def State.fireJob (s : State) (j : Job) : State :=
  match j.evl with
  | none => s
  | some n =>
    match s.launch j.launch with
    | none => s
    | some l =>
      if l.state = .bound then (if s.jobHome j then s.signalLine (j.core / 8) n else s)
      else s.onLaunch j.launch (fun l => { l with heldFx := l.heldFx ++ [(j.core / 8, some n, none, 0)] })

/-- A job received: counted for the launch's end (R331). -/
def State.receiveJob (s : State) (j : Job) : State :=
  s.received j.core j.launch

/-- A context's sluice timeline advanced over its performed jobs, which leave the queue and fire their lines (R49, R58, R253). -/
def State.advanceSluice (s : State) (k t : Nat) : State :=
  let q := k / 8
  let mine := (s.cluster q).jobs.filter (fun j => j.core == k && j.ctx == t && j.captured)
  let v := timelineValue (s.ctxAt k t).jobLast (mine.filter (fun j => !(j.landed && s.stopResumed j && !s.jobLands j)))
  let done := mine.filter (fun j => decide (j.num ≤ v))
  let s1 := s.onCluster q (fun c => { c with jobs := c.jobs.filter (fun j => !done.any (fun d => d.id == j.id)) })
  let s2 := s1.onCtx k t (fun x => { x with timeline := max x.timeline v })
  let s3 := done.foldl (fun s j =>
    let a := (s.receiveJob j).flag k t j.flags
    if j.stopped then a else a.fireJob j) s2
  s3.wakeSluice k t

/-- A tenant's millrace timeline advanced (R53, R257, R258). -/
def State.advanceMill (s : State) (t n : Nat) : State :=
  let mine := s.mill.filter (fun j => j.timeline == some n && j.captured && s.launchTenant j.launch == t)
  let v := timelineValue ((s.tenant t).millLast.get n 0) (mine.filter (fun j => !j.landed))
  let done := mine.filter (fun j => decide (j.num ≤ v))
  let s1 := { s with mill := s.mill.filter (fun j => !done.any (fun d => d.id == j.id)) }
  let s2 := s1.onTenant t (fun x => { x with mill := x.mill.put n (max (x.mill.get n 0) v) })
  (done.foldl (fun s j => (s.receiveJob j).fireJob j) s2).wakeMill t n

/-- Every millrace timeline of a tenant advanced: the jobs of an ended launch are gone (R333). -/
def State.advanceMills (s : State) (t : Nat) : State := (List.range 64).foldl (fun s n => s.advanceMill t n) s

/-- The header of a scrubbed page set to the current era, and its LIVE count moved (R99, R286). -/
def State.scrubDone (s : State) (j : Job) : State :=
  let va := j.addr.toNat
  match s.cachedLeaf va with
  | none => s
  | some e =>
    if j.units = 0 || !e.leaf.hv then s
    else
      let n := e.leaf.dom
      let old := e.leaf.era
      let w1 := e.leaf.w1.toNat % 2 ^ 56 + s.domEra n * 2 ^ 56 + bits e.leaf.w1.toNat 63 60 * 2 ^ 60
      ((s.putLeaf va { e.leaf with w1 := BitVec.ofNat 64 w1 } true).liveAdd n old false).liveAdd n (s.domEra n) true

/-- A job performed as far as it goes (R253). -/
def State.workJob (s : State) (j : Job) : State × Job × JobEnd :=
  if j.mode = 9 && j.amend.isNone then
    match s.scrubPage j with
    | .halted s1 h _ => (s1, j, .halt h)
    | .ok s1 none => (s1, { j with amend := some 0#32 }, .done)
    | .ok s1 (some e) =>
      let j1 := { j with amend := some (BitVec.ofNat 32 (e.size / 64)) }
      s1.runJob j1 j1.units
  else s.runJob j (j.units - j.done)

/-! ## The sluice -/

/-- Jobs of a cluster that are running (R48). -/
def Cluster.running (c : Cluster) : Nat := (c.jobs.filter (fun j => j.started && !j.landed)).length

/-- Does a store to cluster memory that was issued before a job's capture still wait (R253, R316)? -/
def State.jobHeld (s : State) (j : Job) : Bool :=
  let before : Req → Bool := fun r => r.core / 8 == j.core / 8 && decide (r.id < j.mark) && (localOf r.core r.va).isSome
  s.reqs.any before || s.late.any (fun p => (p.1 == 0 || p.1 == 2) && before p.2)

/-- Is a gang operation that an ACCSV must wait for still under way (R256)? -/
def State.jobGang (s : State) (j : Job) : Bool :=
  (j.mode == 7 || j.mode == 8) && (s.cluster (j.core / 8)).mats.any (fun o => o.begun && !o.colsDone && !o.lost && o.op.bank == j.bank)

/-- The first address that a job reads, if it reads one (R50, R254, R256, R286). -/
def State.firstRead (s : State) (j : Job) : Option Nat :=
  match j.mode with
  | 5 | 7 => none
  | 8 | 9 => some j.addr.toNat
  | 3 => (localOf j.core j.idx).map (fun p => (j.unit 0 (s.lword p.1 (p.2 / 4 * 4)).1.toNat).1.getD j.src)
  | _ => some j.src

/-- SLUICE_JOB_START: queued jobs start in order, up to 4 at once; each takes its time (R48, R50, R286). -/
def execSluiceJobStart (s : State) : Host.Outcome State Fault Refusal :=
  let q := s.subj.a
  let c := s.cluster q
  match c.jobs.find? (fun j => j.captured && !j.started) with
  | none => .next s
  | some j =>
    if 4 ≤ c.running then .next s
    else
      let first := s.firstRead j
      let path := match first with | some va => if isGlobal va then 16 + homePath j.core va else 0 | none => 0
      let n := 4 + (j.bytes + 127) / 128 + path + s.freeN 1 % 64
      let size := if j.mode = 9 then (match s.translate j.addr.toNat with | .leaf _ z => z / 256 | .park _ => smallPage / 256) else 0
      .next (((s.setJob { j with started := true }).plan (n + size) 0 .sluiceWriteLanding { a := q, b := j.id }).plan 0 2
        .sluiceJobStart { a := q })

/-- SLUICE_WRITE_LANDING: the job performs its writes; those to cluster memory land at the end of the cycle, through the shared ports (R45,
R49, R253; entry 28). -/
def execSluiceWriteLanding (s : State) : Host.Outcome State Fault Refusal :=
  match (s.cluster s.subj.a).jobs.find? (fun j => j.id == s.subj.b) with
  | none => .next s
  | some j =>
    if j.landed then .next s
    else if j.stopped then
      .next (((s.setJob { j with landed := true }).plan 1 0 .sluiceJobComplete s.subj).plan 0 0 .sluiceJobStart { a := s.subj.a })
    else if s.jobHeld j || s.jobGang j then .next (s.plan 1 0 .sluiceWriteLanding s.subj)
    else
      match s.workJob j with
      | (s1, j1, .done) =>
        let s2 := if j.mode = 9 then s1.scrubDone j1 else s1
        .next (((s2.setJob { j1 with landed := true }).plan 1 0 .sluiceJobComplete s.subj).plan 0 0 .sluiceJobStart { a := s.subj.a })
      | (s1, j1, .halt h) => .next (s1.jobHalt j1 h)

/-- SLUICE_JOB_COMPLETE: once the job's writes to cluster memory have landed, the timeline advances; a stopped job waits until its core is resumed (R49, R253). -/
def execSluiceJobComplete (s : State) : Host.Outcome State Fault Refusal :=
  match (s.cluster s.subj.a).jobs.find? (fun j => j.id == s.subj.b) with
  | none => .next s
  | some j =>
    if !s.stopResumed j || s.jobLands j then .next (s.plan 1 0 .sluiceJobComplete s.subj)
    else .next (s.advanceSluice j.core j.ctx)

/-! ## Capture (R251, R252) -/

/-- The words of a job's descriptor in its core's local memory. Where the holding has left the launch and its memory has been scrubbed, a
read still outstanding completes with value 0 and label VOID.LOST (R364). -/
def State.descWords (s : State) (j : Job) (off : Nat) : List LWord :=
  (List.range 16).map (fun i => if s.jobHome j then s.lword j.core (off + 4 * i) else (0#32, hLost))

/-- Is an address in cluster memory? -/
def inBanks (k va : Nat) : Bool := (localOf k va).isSome

/-- Is an address in a core's own local memory (R252)? -/
def ownAddr (k va : Nat) : Bool := match placeOf k va with | .own _ => true | _ => false

/-- What a mode forbids in a descriptor (R252 step 4, R254 to R257). -/
def Job.illegal (j : Job) : Bool :=
  let ks0 := j.w 10 != 0 || j.w 11 != 0 || j.w 12 != 0 || j.w 13 != 0
  let xfer := j.timeline.isSome
  let statBad := xfer && (bits (j.w 13) 30 16 != 0)
  (j.mode = 6 && j.w4 && !Config.hasB4) ||
  bits (j.w 15) 19 2 != 0 || j.n0 = 0 || j.n1 = 0 || j.n2 = 0 || statBad ||
  (match j.mode with
   | 0 => if xfer then j.w 10 != 0 || j.w 11 != 0 || j.w 12 != 0 else ks0
   | 1 => ks0 || j.es = 8
   | 2 => j.es = 1 || j.es = 8 || j.ds2 != 0 || (List.range 6).any (fun i => j.ks i = 0) || j.oh = 0 || j.ow = 0
   | 3 | 4 => j.n2 != 1 || j.w 12 != 0 || j.w 13 != 0
   | 5 => j.es != 4 || j.src != 0 || j.w 11 != 0 || j.w 12 != 0 || j.w 13 != 0
   | _ => j.es != 4 || j.n2 != 1 || j.qmask = 0 || bits (j.w 12) 31 29 != 0 || (!xfer && j.w 13 != 0)) ||
  (j.stg && (j.mode = 5 || !isGlobal j.src || !inBanks j.core j.dstA))

/-- Does the launch define the weir that a job names (R252, R259)? -/
def State.jobWeirOk (s : State) (j : Job) (n : Nat) : Bool :=
  n == 0 || (match s.launch j.launch with | none => false | some l => (vget l.weirs n default).defined)

/-- The checks of R252 in their order; `poison` says that s[A] reads as VOID.POISON. -/
def State.captureCheck (s : State) (j : Job) (poison : Bool) (labels : List Handle) : Option (Nat × Nat) :=
  let a := j.addr.toNat
  let bad (i : Nat) : Bool := s.check j.core j.ctx (labels.getD i hTrue) = hPoison
  let gs := j.mode = 3 || j.mode = 4
  let compute := s.phased j.core && !(s.core j.core).pk
  if poison then some (cPoison, a)
  else if 7 ≤ j.mode then
    if compute then some (cPhase, a)
    else if (match j.weir with | none => false | some n => !s.jobWeirOk j n) then some (cIllegal, 0)
    else if j.mode = 9 then
      let size := match s.translate a with | .leaf _ z => z | .park _ => smallPage
      if a % size != 0 then some (cAlign, a) else none
    else if a % 64 != 0 then some (cAlign, a) else none
  else if ownAddr j.core a && (bad 0 || bad 1 || bad 2 || bad 3 || (gs && (bad 10 || bad 11))) then some (cPoison, a)
  else if !ownAddr j.core a then some (cMisplaced, a)
  else if a % 64 != 0 then some (cAlign, a)
  else if gs && (!ownAddr j.core j.idx || !inBanks j.core (if j.mode = 3 then j.dstA else j.src)) then some (cMisplaced, j.idx)
  else if gs && j.idx % 4 != 0 then some (cAlign, j.idx)
  else if compute then some (cPhase, a)
  else if j.illegal || (j.wpe && !s.jobWeirOk j (bits (j.w 15) 23 20)) then some (cIllegal, 0)
  else
    let m := j.es
    if j.src % m != 0 then some (cAlign, j.src)
    else if j.dstA % m != 0 || j.w 6 % m != 0 || j.w 7 % m != 0 || j.w 8 % m != 0 || j.w 9 % m != 0 then some (cAlign, j.dstA)
    else none

/-- A job with its descriptor read: VALID replaced where field B named a register (R251). -/
def State.readDesc (s : State) (j : Job) : Job × List Handle :=
  if 7 ≤ j.mode then (j, [])
  else
    let ws := s.descWords j (j.addr.toNat % 0x8000 / 4 * 4)
    let d := ws.map (·.1)
    let d1 := match j.amend with | none => d | some v => d.set 14 v
    let j1 := { j with desc := d1 }
    ({ j1 with evl := if j1.eve then some (bits (j1.w 15) 28 24) else none,
               weir := if j1.wpe then some (bits (j1.w 15) 23 20) else none }, ws.map (·.2))

/-- The least and one past the greatest address of a strided range of bytes. -/
def span (base : Nat) (parts : List (Nat × Int)) (width : Nat) : Nat × Nat :=
  let lo := parts.foldl (fun (m : Int) p => m + min 0 (((p.1 : Int) - 1) * p.2)) 0
  let hi := parts.foldl (fun (m : Int) p => m + max 0 (((p.1 : Int) - 1) * p.2)) 0
  (((base : Int) + lo).toNat, ((base : Int) + hi).toNat + width)

/-- The destination range of a job, but for the headers of a CPYQ and the indexed elements of a CPYS (R52). -/
def Job.range (j : Job) : Nat × Nat :=
  match j.mode with
  | 1 => span j.dstA [(j.n2, j.ds2), (j.n0, j.ds1)] (j.n1 * j.es)
  | 2 => span j.dstA [(j.rows, j.ds1)] (j.perRow * j.es)
  | 3 => span j.dstA [(j.n1, j.ds1)] (j.n0 * j.es)
  | 6 => span j.dstA [(j.n1, j.ds1)] (j.perRow * j.codeBytes)
  | 7 => (j.addr.toNat, j.addr.toNat + 4096)
  | 8 | 9 => (0, 0)
  | _ => span j.dstA [(j.n2, j.ds2), (j.n1, j.ds1)] (j.n0 * j.es)

/-- An address of a core's own window as the same place in the bank window (R21). -/
def bankAddr (k va : Nat) : Nat :=
  match localOf k va with
  | some (b, o) => 0xFF000100000000 + b % 8 * 0x8000 + o
  | none => va

/-- The record of a staged job: its descriptor with VALID as applied, DST in the bank window (R52, R360; entry 29). -/
def Job.record (j : Job) : List Word :=
  let d := bankAddr j.core j.dstA
  (j.desc.set 2 (BitVec.ofNat 32 d)).set 3 (BitVec.ofNat 32 (d / 2 ^ 32))

/-- Every range of bytes that a job writes, in the bank window: a CPYQ's headers and a CPYS's indexed elements too (R52, R254, R256). -/
def State.jobRanges (s : State) (j : Job) : List (Nat × Nat) :=
  match j.mode with
  | 4 => (List.range (min j.valid j.n1)).filterMap (fun k =>
      (localOf j.core (addrPlus j.idx (4 * (k : Nat)))).map (fun p =>
        let a := bankAddr j.core (addrPlus j.dstA ((s.lword p.1 p.2).1.toNat * j.ds1))
        (a, a + j.n0 * j.es)))
  | 6 => [{ j with desc := j.record }.range, span (bankAddr j.core j.idx) [(j.n1, (j.hp : Int))] (2 * j.perRow)]
  | 7 => [(bankAddr j.core j.addr.toNat, bankAddr j.core j.addr.toNat + 4096)]
  | 8 | 9 => []
  | _ => [{ j with desc := j.record }.range]

/-- Stage records after a capture: those whose region the job overlaps go, and a staged job adds its own, the 17th replacing the
oldest (R52). -/
def Cluster.stage (c : Cluster) (j : Job) (rs : List (Nat × Nat)) : Cluster :=
  let j1 := { j with desc := j.record }
  let kept := c.stages.filter (fun d => let x := d.range; !rs.any (fun r => decide (r.1 < x.2) && decide (x.1 < r.2)))
  let all := if j.stg then kept ++ [j1] else kept
  { c with stages := all.drop (all.length - 16) }

/-- A capture that fails: nothing is queued, s[D] is unchanged, the tag frees, and the fault is precise (R252, R343). -/
def State.captureFail (s : State) (j : Job) (cause addr : Nat) : State :=
  let tag := ((s.pendAt j.core j.seq).map (·.tag)).getD 0
  let s1 := (s.onCore j.core (fun c => { c with pend := c.pend.filter (fun p => p.seq != j.seq) })).onCtx j.core j.ctx
    (fun x => { x.setTag tag false with hist := j.hist })
  let s2 := { s1 with
    mill := s1.mill.filter (fun x => x.id != j.id),
    clusters := s1.clusters.map (fun (c : Nat × Cluster) => (c.1, { c.2 with jobs := c.2.jobs.filter (fun x => x.id != j.id) })) }
  let r : Report :=
    { arrived := s.now, cause := cause, ctx := j.ctx, pc := j.pc, addr := BitVec.ofNat 64 addr, resume := some j.pc }
  if !s.jobHome j then s2
  else (s2.onCore j.core (fun c => { c with held := holdReport c.held r })).plan 0 1 .faultReport { a := j.core }

/-- SLUICE_CAPTURE: the checks, then the job's number goes to s[D] with the ambient label (R48, R251, R252, R254). -/
def execSluiceCapture (s : State) : Host.Outcome State Fault Refusal :=
  match s.findJob s.subj.a with
  | none => .next s
  | some j0 =>
    let x := s.ctxAt j0.core j0.ctx
    if j0.captured then .next s
    else if j0.mode = 6 && isPend x.ambient then .next (s.plan 1 2 .sluiceCapture s.subj)
    else
      let d := s.readDesc j0
      match s.captureCheck d.1 (s.subj.c = 1) d.2 with
      | some e => .next (s.captureFail d.1 e.1 e.2)
      | none =>
        let amb := s.check j0.core j0.ctx x.ambient
        let j := { d.1 with captured := true, num := x.jobLast + 1, amb := amb, mark := s.nextId }
        let s1 := (s.setJob j).onCtx j.core j.ctx (fun x => { x with jobLast := j.num })
        let s2 := s1.onCore j.core (fun c => { c with evOut := c.evOut + 1 })
        let s3 := s2.onCluster (j.core / 8) (fun c => c.stage j (s.jobRanges j))
        let s4 := s3.arrive j.core j.seq 0 [.s (BitVec.ofNat 5 s.subj.b) (BitVec.ofNat 64 j.num) amb]
        .next (s4.plan 0 2 .sluiceJobStart { a := j.core / 8 })

/-- A job as its instruction submits it. -/
def State.newJob (s : State) (mode : Nat) (addr : Dword) : Job :=
  { id := s.nextId, core := s.curCore, ctx := s.curCtx, launch := s.here.launch.getD 0, pc := s.me.pc, seq := s.nextId, mode := mode,
    num := 0, bank := 0, addr := addr, amend := none, timeline := none, desc := [], amb := hTrue, captured := false,
    started := false, landed := false, stopped := false, stat := 0, flags := 0#64, moved := 0, evl := none, weir := none, done := 0,
    part := 0, mark := 0, away := none, got := [], hist := s.me.hist }

/-- A sluice job submitted: the queue must have room, and no held access to cluster memory be in the way (R48, R191, R251). -/
def State.submit (s : State) (k : Ctl) (d : BitVec 5) (h : Handle) (others : List Handle) (j : Job) : Eff :=
  if s.localHeld s.curCore || decide (16 ≤ (s.cluster (s.curCore / 8)).jobs.length) then .stall
  else
    let poison := s.check s.curCore s.curCtx h = hPoison
    let s1 := (s.countVoids [plainIn (h :: others)]).await (tagOf k) 4 1 [] none false [.s d]
    .go ((s1.onCluster (s.curCore / 8) (fun c => { c with jobs := c.jobs ++ [j] })).plan 0 2 .sluiceCapture
      { a := j.id, b := d.toNat, c := if poison then 1 else 0 })

/-- A copy instruction (R251). -/
def copyJob (i : Instr) (s : State) (k : Ctl) (d a b : BitVec 5) (mode : Nat) : Host.Outcome State Fault Refusal :=
  issue i s (fun s =>
    let x := s.srcS a
    let v := s.srcS b
    s.submit k d x.2 (if b = 0#5 then [] else [v.2])
      { s.newJob mode x.1 with amend := if b = 0#5 then none else some (v.1.setWidth 32) })

/-- CPY (R254). -/
def execCpy (k : Ctl) (d a b : BitVec 5) (s : State) : Host.Outcome State Fault Refusal := copyJob (.cpy k d a b) s k d a b 0
/-- CPYT (R254). -/
def execCpyt (k : Ctl) (d a b : BitVec 5) (s : State) : Host.Outcome State Fault Refusal := copyJob (.cpyt k d a b) s k d a b 1
/-- CPYU (R255). -/
def execCpyu (k : Ctl) (d a b : BitVec 5) (s : State) : Host.Outcome State Fault Refusal := copyJob (.cpyu k d a b) s k d a b 2
/-- CPYG (R254). -/
def execCpyg (k : Ctl) (d a b : BitVec 5) (s : State) : Host.Outcome State Fault Refusal := copyJob (.cpyg k d a b) s k d a b 3
/-- CPYS (R254). -/
def execCpys (k : Ctl) (d a b : BitVec 5) (s : State) : Host.Outcome State Fault Refusal := copyJob (.cpys k d a b) s k d a b 4
/-- CPYF (R254). -/
def execCpyf (k : Ctl) (d a b : BitVec 5) (s : State) : Host.Outcome State Fault Refusal := copyJob (.cpyf k d a b) s k d a b 5
/-- CPYQ (R254). -/
def execCpyq (k : Ctl) (d a b : BitVec 5) (s : State) : Host.Outcome State Fault Refusal := copyJob (.cpyq k d a b) s k d a b 6

/-- Event and weir of a job that carries them in its instruction (R256). -/
def Job.withFire (j : Job) (evl : BitVec 5) (eve : BitVec 1) (weirn : BitVec 4) (wpe : BitVec 1) : Job :=
  { j with evl := if eve == 1#1 then some evl.toNat else none, weir := if wpe == 1#1 then some weirn.toNat else none }

/-- ACCSV: not while a restore of the bank is pending (R256). -/
def execAccsv (k : Ctl) (d a b evl : BitVec 5) (eve : BitVec 1) (weirn : BitVec 4) (wpe : BitVec 1) (s : State) :
    Host.Outcome State Fault Refusal :=
  issue (.accsv k d a b evl eve weirn wpe) s (fun s =>
    let x := s.srcS b
    if s.jobOn (s.curCore / 8) 8 a.toNat then .stall else
    s.submit k d x.2 [] ({ s.newJob 7 x.1 with bank := a.toNat }.withFire evl eve weirn wpe))

/-- ACCRS: a per-core write to the bank (R242, R256). -/
def execAccrs (k : Ctl) (d a b evl : BitVec 5) (eve : BitVec 1) (weirn : BitVec 4) (wpe : BitVec 1) (s : State) :
    Host.Outcome State Fault Refusal :=
  issue (.accrs k d a b evl eve weirn wpe) s (fun s =>
    let x := s.srcS b
    if s.writeWaits a.toNat then .stall else
    s.submit k d x.2 [] ({ s.newJob 8 x.1 with bank := a.toNat }.withFire evl eve weirn wpe))

/-- LSCRUB (R286): not in a launch without a domain (R82). -/
def execLscrub (k : Ctl) (d a evl : BitVec 5) (eve : BitVec 1) (weirn : BitVec 4) (wpe : BitVec 1) (s : State) :
    Host.Outcome State Fault Refusal :=
  issue (.lscrub k d a evl eve weirn wpe) s (fun s =>
    if (s.domainOf s.curCore).isNone then .fault cIllegal 0#64
    else
      let x := s.srcS a
      s.submit k d x.2 [] ((s.newJob 9 x.1).withFire evl eve weirn wpe))

/-! ## The millrace engines (R53, R257, R258) -/

/-- The engine of a move from leaf `src` to leaf `dst` at `va` for tenant `t`, by the first case of R53 that applies. -/
def engineFor (t : Nat) (src dst : Option Leaf) (va : Nat) : Nat :=
  let hl (l : Option Leaf) : Bool := match l with | some x => x.hl | none => false
  let link (l : Option Leaf) : Option Nat := match l with | some x => if x.remote then some x.link else none | none => none
  if hl src || hl dst then hostEngine t
  else match link dst, link src with
  | some n, _ => linkEngine n
  | none, some n => linkEngine n
  | none, none => homeDie va

/-- The leaf that an address translates to. -/
def State.leafOf (s : State) (va : Nat) : Option Leaf := match s.translate va with | .leaf l _ => some l | .park _ => none

/-- The engine that takes a job (R53). -/
def State.engineOf (s : State) (j : Job) : Nat := engineFor (s.launchTenant j.launch) (s.leafOf j.src) (s.leafOf j.dstA) j.dstA

/-- The engine that copies a page under move (R53, R299). -/
def State.moveEngine (s : State) (m : Move) : Nat :=
  let l := s.leafOf m.page
  if m.snap.isSome then homeDie m.page else engineFor m.tenant l (l.map m.leaf) m.page

/-- The copy-on-write copies that wait for an engine: that of the page's home die (R385). -/
def State.copiesAt (s : State) (e : Nat) : List Todo :=
  s.agenda.filter (fun x => x.what == .snapshotCopy && homeDie (x.who.b * 65536) == e)

/-- Jobs, page moves and copy-on-write copies that an engine holds: it queues 256 (R53). -/
def State.engineLoad (s : State) (e : Nat) : Nat :=
  (s.mill.filter (fun j => j.captured && j.bank == e)).length + (s.moves.filter (fun m => s.moveEngine m == e)).length +
    (s.copiesAt e).length

/-- Do accesses wait for a page under move: writes while WB is set, or what a copy-on-write copy holds (R299, R385)? -/
def State.moveAwaited (s : State) (m : Move) : Bool :=
  let z := s.sizeOf m.page
  m.snap.isSome || s.reqs.any (fun q => q.id != m.id && !q.away && !q.isLoad && isGlobal q.va && q.va / z == m.page / z)

/-- Does a copy on which accesses wait stand in an engine's queue? It goes before the engine's other work (R53, R299, R385). -/
def State.copyFirst (s : State) (e : Nat) : Bool :=
  !(s.copiesAt e).isEmpty || s.moves.any (fun m => !m.copied && s.moveEngine m == e && s.moveAwaited m)

/-- MILLRACE_CAPTURE: as a sluice capture; the number is the next one of the tenant's timeline, and the engine's queue of 256 must have
room (R53, R257). -/
def execMillraceCapture (s : State) : Host.Outcome State Fault Refusal :=
  match s.findJob s.subj.a with
  | none => .next s
  | some j0 =>
    let x := s.ctxAt j0.core j0.ctx
    let d := s.readDesc j0
    let eng := s.engineOf d.1
    if j0.captured then .next s
    else if (j0.mode = 6 && isPend x.ambient) || decide (256 ≤ s.engineLoad eng) then
      .next (s.plan 1 2 .millraceCapture s.subj)
    else
      match s.captureCheck d.1 (s.subj.c = 1) d.2 with
      | some e => .next (s.captureFail d.1 e.1 e.2)
      | none =>
        let amb := s.check j0.core j0.ctx x.ambient
        let t := s.launchTenant j0.launch
        let n := j0.timeline.getD 0
        let num := (s.tenant t).millLast.get n 0 + 1
        let j := { d.1 with captured := true, started := true, num := num, amb := amb, bank := eng }
        let s1 := (s.setJob j).onTenant t (fun x => { x with millLast := x.millLast.put n num })
        let s2 := s1.onCore j.core (fun c => { c with evOut := c.evOut + 1 })
        let s3 := s2.arrive j.core j.seq (s.freeN 1 % 64) [.s (BitVec.ofNat 5 s.subj.b) (BitVec.ofNat 64 num) amb]
        .next (s3.plan (4 + (j.bytes + 1023) / 1024 + homePath j.core j.src + s.freeN 2 % 64) 0 .millraceJobEnd { a := j.id })

/-- A millrace job whose status is written: the timeline advances (R258). -/
def State.millEnd (s : State) (j : Job) : State :=
  (s.setJob { j with landed := true }).advanceMill (s.launchTenant j.launch) (j.timeline.getD 0)

/-- A finished millrace job: its status goes to its core's local memory with label TRUE, and the timeline advances once it has landed
(R45, R258). -/
def State.millDone (s : State) (j : Job) : State :=
  let st := j.w 13
  if bitAt st 31 && s.jobHome j && decide (bits st 15 0 < 0x6000) then
    ((s.setJob j).jobPort j .store (0xFF000000000000 + bits st 15 0 / 4 * 4) 4 j.stat hTrue).plan 1 0 .millraceJobEnd { a := j.id, c := 1 }
  else s.millEnd j

/-- Are the ends of a millrace job global (R257)? -/
def Job.globalEnds (j : Job) : Bool := isGlobal j.src && isGlobal j.dstA && (j.mode != 6 || isGlobal j.idx)

/-- MILLRACE_JOB_END: an engine performs a job, writes its status and ends it; one that cannot go on waits (R258). With no such job the timelines of tenant `b`
pass the jobs of an ended launch. -/
def execMillraceJobEnd (s : State) : Host.Outcome State Fault Refusal :=
  match s.mill.find? (fun j => j.id == s.subj.a) with
  | none => .next (s.advanceMills s.subj.b)
  | some j =>
    if j.landed then .next s
    else if s.subj.c = 1 then .next (if s.jobLands j then s.plan 1 0 .millraceJobEnd s.subj else s.millEnd j)
    else if j.stopped then .next (s.millDone j)
    else if s.copyFirst j.bank then .next (s.plan 1 0 .millraceJobEnd s.subj)
    else if !j.globalEnds then .next (s.millDone { j with stopped := true, stat := j.stat ||| 2 })
    else
      match s.workJob j with
      | (s1, j1, .done) => .next (s1.millDone j1)
      | (s1, j1, .halt h) => .next (s1.jobHalt j1 h)

/-- XFER and XFERQ (R257). -/
def xferJob (i : Instr) (s : State) (k : Ctl) (d a b : BitVec 5) (n : BitVec 6) (mode : Nat) : Host.Outcome State Fault Refusal :=
  issue i s (fun s =>
    if s.localHeld s.curCore then .stall
    else
      let x := s.srcS a
      let v := s.srcS b
      let j : Job :=
        { s.newJob mode x.1 with amend := if b = 0#5 then none else some (v.1.setWidth 32), timeline := some n.toNat }
      let poison := s.check s.curCore s.curCtx x.2 = hPoison
      let s1 := (s.countVoids [plainIn (x.2 :: if b = 0#5 then [] else [v.2])]).await (tagOf k) (16 + s.freeN 3 % 1024) 1 [] none
        false [.s d]
      .go ({ s1 with mill := s1.mill ++ [j] }.plan 0 2 .millraceCapture { a := j.id, b := d.toNat, c := if poison then 1 else 0 }))

/-- XFER (R257). -/
def execXfer (k : Ctl) (d a b : BitVec 5) (n : BitVec 6) (s : State) : Host.Outcome State Fault Refusal :=
  xferJob (.xfer k d a b n) s k d a b n 0
/-- XFERQ (R257). -/
def execXferq (k : Ctl) (d a b : BitVec 5) (n : BitVec 6) (s : State) : Host.Outcome State Fault Refusal :=
  xferJob (.xferq k d a b n) s k d a b n 6

end Sys2Proof.Machine
end

