-- ==== Sys2Proof/Machine/LabelOps.lean ====
section
/-! DEFINITION. Sys2Proof/Machine/LabelOps.lean: the label group (R277 to R285), the domain home's operations (R78, R79, R97, R98,
R103, R391), and the label unit that interns the combines of the resolve slots (R91 to R94). -/

namespace Sys2Proof.Machine

/-! ## The domain home -/

/-- Is the page of an address resident on this module? -/
def State.resident (s : State) (va : Nat) : Bool := match s.translate va with | .leaf _ _ => true | .park _ => false

/-- UPDATE grows by 1, and its waiters are told (R77, R78, R273). -/
def State.domTick (s : State) (n : Nat) : State := (s.put64 (s.domBase n + 8) ((s.domUpdate n + 1) % 2 ^ 64)).wakeUpdate n

/-- A slot as a mask. -/
def slotBit (k : Nat) : Dword := 1#64 <<< k

/-- The lowest-numbered free slot of a domain (R278). -/
def State.lowestFree (s : State) (n : Nat) : Option Nat := (List.range 64).find? (fun k => (s.domFree n).getLsbD k)

/-- A free slot opened (R78). -/
def State.openSlot (s : State) (n k : Nat) : State :=
  (s.put64 (s.domBase n + 0x20) (BitVec.ofNat 64 (s.domOpen n) ||| slotBit k).toNat).domTick n

/-- An open slot made free again, which R391 asks for where the peer has no place for the pair. -/
def State.closeSlot (s : State) (n k : Nat) : State :=
  (s.put64 (s.domBase n + 0x20) (BitVec.ofNat 64 (s.domOpen n) &&& ~~~slotBit k).toNat).domTick n

/-- The link and the peer's slot of a slot that stands in a pairing table (R391). -/
def State.pairOf (s : State) (n k : Nat) : Option (Nat × Nat) :=
  (List.range 16).findSome? (fun l =>
    ((s.nlink l).pairs.find? (fun p => p.1 == n && p.2.1 == k)).map (fun p => (l, p.2.2)))

/-- A slot taken out of the pairing tables (R103). -/
def State.unpair (s : State) (n k : Nat) : State :=
  { s with links := s.links.map (fun l => { l with pairs := l.pairs.filter (fun p => !(p.1 == n && p.2.1 == k)) }) }

/-- T: open slots of a domain that stand in a pairing table, but for one (R79). -/
def State.pairedOpen (s : State) (n : Nat) (but : Option Nat) : Nat :=
  ((List.range 64).filter (fun k => bitAt (s.domOpen n) k && (s.pairOf n k).isSome && but != some k)).length

/-- A nogood recorded by the steps of R79, UPDATE left to the caller: the fault, or the state and whether it stands. -/
def State.recordAt (s : State) (n : Nat) (e : Dword) (but : Option Nat) : Nat ⊕ State :=
  let m := e &&& ~~~BitVec.ofNat 64 (s.domAsserted n)
  if m = 0#64 || (m &&& s.domFree n) != 0#64 then .inl cIllegal
  else if (m &&& BitVec.ofNat 64 (s.domRetracted n)) != 0#64 || refuted (s.domNogoods n) m then .inr s
  else
    let l := recordNogood (s.domNogoods n) m
    if 64 - s.pairedOpen n but < l.length then .inl cNogoodFull else .inr (s.putNogoods n l)

/-- RETRACT of an open slot: the nogood first, then the slot's state (R78, R79, R97). -/
def State.retractSlot (s : State) (n k : Nat) : Nat ⊕ State :=
  match s.recordAt n (slotBit k) (some k) with
  | .inl c => .inl c
  | .inr s1 =>
    let s2 := s1.put64 (s1.domBase n + 0x20) (BitVec.ofNat 64 (s1.domOpen n) &&& ~~~slotBit k).toNat
    let s3 := s2.put64 (s2.domBase n + 0x18) (BitVec.ofNat 64 (s2.domRetracted n) ||| slotBit k).toNat
    .inr ((s3.unpair n k).domTick n)

/-- ASSERT of an open slot (R78, R97). -/
def State.assertSlot (s : State) (n k : Nat) : State :=
  let s1 := s.put64 (s.domBase n + 0x20) (BitVec.ofNat 64 (s.domOpen n) &&& ~~~slotBit k).toNat
  let s2 := s1.put64 (s1.domBase n + 0x10) (BitVec.ofNat 64 (s1.domAsserted n) ||| slotBit k).toNat
  (s2.unpair n k).domTick n

/-- The bytes of a range of addresses set to zero: lines present, and memory behind them. -/
def State.zeroRange (s : State) (va n : Nat) : State :=
  let s1 := { s with lines := s.lines.map (fun l =>
    if va ≤ l.line * 64 && decide (l.line * 64 < va + n) then { l with words := l.words.map (fun _ => (0#32, hTrue)) } else l) }
  (List.range ((n + 65535) / 65536)).foldl (fun s i =>
    match s.translate (va + 65536 * i) with
    | .park _ => s
    | .leaf l z =>
      let pa := l.phys z (va + 65536 * i)
      { s with mem := s.mem.filter (fun p => !(decide (pa ≤ p.1) && decide (p.1 < pa + 65536))) }) s1

/-- SETTLE succeeding (R98). -/
def State.settleDomain (s : State) (n : Nat) : State :=
  let b := s.domBase n
  let s1 := (((s.put64 (b + 0x20) 0).put64 (b + 0x10) 0).put64 (b + 0x18) 0).put64 (b + 0x28) 0
  let s2 := s1.zeroRange (b + 0x10000) 0x200000
  let s3 := s2.put64 b (s2.home64 b / 16 * 16 + (s2.domEra n + 1) % 16)
  { s3 with aborted := s3.aborted.filter (fun p => p.1 != n) }.domTick n

/-- A domain operation changed. -/
def State.onDomOp (s : State) (id : Nat) (f : DomOp → DomOp) : State :=
  { s with domOps := s.domOps.map (fun o => if o.id = id then f o else o) }

/-- A domain operation's answer sets out for the core (R280). -/
def State.answerOp (s : State) (o : DomOp) : State :=
  (s.onDomOp o.id (fun _ => o)).plan (1 + homePath o.core (s.domBase o.dom)) 0 .domainAnswer { a := o.id }

/-- All allOnes64. -/
def allOnes64 : Dword := 0xFFFFFFFFFFFFFFFF#64

/-- ANEW at the home (R278, R391): the transaction form opens a slot, then asks the peer for one. -/
def State.homeAnew (s : State) (o : DomOp) : State :=
  match s.lowestFree o.dom with
  | none => s.answerOp { o with res := allOnes64 }
  | some k =>
    if o.kind = 0 then (s.openSlot o.dom k).answerOp { o with res := BitVec.ofNat 64 k }
    else if (s.nlink o.link).state != .active || decide (64 - (s.pairedOpen o.dom none + 1) < s.domNgCount o.dom) ||
        decide (64 ≤ (s.nlink o.link).pairs.length) then
      s.answerOp { o with res := allOnes64 }
    else ((s.openSlot o.dom k).onDomOp o.id (fun _ => { o with slot := some k })).toLink o.link (.slotOpen o.link o.id k)

/-- ASSERT at the home (R78, R103, R281): a paired slot waits for its link. R103 speaks of the initiator's ASSERT alone; one that a
program of the peer executes on the peer's own paired slot is carried over the link to the other side in the same way (DESIGN CHOICE;
entry 83). -/
def State.homeAssert (s : State) (o : DomOp) : State :=
  let k := o.val.toNat
  if 64 ≤ k then s.answerOp { o with fault := some (cIllegal, 0#64) }
  else if s.aborted.contains (o.dom, k) then s.answerOp { o with res := 1#64 }
  else if !bitAt (s.domOpen o.dom) k then s.answerOp { o with fault := some (cIllegal, 0#64) }
  else match s.pairOf o.dom k with
  | some (l, p) => (s.onDomOp o.id (fun _ => { o with slot := some k, link := l })).toLink l (.assertSlot l p)
  | none =>
    let s1 := s.assertSlot o.dom k
    s1.answerOp { o with res := 0#64, change := [.assert (s1.domUpdate o.dom) k] }

/-- SETTLE at the home: its tests, then the executing core's stores, then the change (R98, R281). -/
def State.homeSettle (s : State) (o : DomOp) : State :=
  let next := (s.domEra o.dom + 1) % 16
  if s.domOpen o.dom != 0 then s.answerOp { o with res := 1#64 }
  else if s.domLive o.dom next != 0 then s.answerOp { o with res := 2#64 }
  else if s.outstanding o.core o.id then s.plan 1 0 .domainHomeOperation { a := o.id }
  else
    let s1 := s.settleDomain o.dom
    s1.answerOp { o with res := 0#64, change := [.settle (s1.domUpdate o.dom) (s1.eraOf o.dom)] }

/-- NOGOOD at the home (R79): the answer carries the set that the home recorded, asserted slots cleared (R79 step 1, R96). -/
def State.homeNogood (s : State) (o : DomOp) : State :=
  match s.recordAt o.dom o.val none with
  | .inl c => s.answerOp { o with fault := some (c, 0#64) }
  | .inr s1 =>
    let s2 := s1.domTick o.dom
    s2.answerOp { o with change := [.nogood (s2.domUpdate o.dom) (o.val &&& ~~~BitVec.ofNat 64 (s.domAsserted o.dom))] }

/-- RETRACT at the home (R78, R79, R280). -/
def State.homeRetract (s : State) (o : DomOp) : State :=
  let k := o.val.toNat
  if 64 ≤ k || !bitAt (s.domOpen o.dom) k then s.answerOp { o with fault := some (cIllegal, 0#64) }
  else match s.retractSlot o.dom k with
  | .inl c => s.answerOp { o with fault := some (c, 0#64) }
  | .inr s1 => s1.answerOp { o with change := [.nogood (s1.domUpdate o.dom) (slotBit k)] }

/-- DOMAIN_HOME_OPERATION (R280). -/
def execDomainHomeOperation (s : State) : Host.Outcome State Fault Refusal :=
  match s.domOps.find? (fun o => o.id == s.subj.a) with
  | none => .next s
  | some o =>
    if !s.resident (s.domBase o.dom) then .next (s.plan 64 0 .domainHomeOperation s.subj)
    else .next (match o.kind with
      | 0 | 1 => s.homeAnew o
      | 2 => s.homeNogood o
      | 3 => s.homeAssert o
      | 4 => s.homeRetract o
      | _ => s.homeSettle o)

/-- The labels of one context under a new era, SETTLE's own (R100, R281). -/
def State.settleCtx (s : State) (k t : Nat) (era : BitVec 4) : State :=
  let wf : RegWrite → RegWrite := fun w => match w with
    | .s r v l => .s r v (eraIn l)
    | .lane r i v l => .lane r i v (eraIn l)
    | w => w
  s.onCore k (fun c =>
    { (c.loseSlots (fun x => x.ctx == t)).setCtx t
        { c.ctx t with era := era, sl := (c.ctx t).sl.map eraIn, ambient := eraIn (c.ctx t).ambient,
                       vr := (c.ctx t).vr.map (fun v => { v with labels := v.labels.map eraIn }) } with
      pend := c.pend.map (fun p => if p.ctx = t then { p with writes := p.writes.map wf } else p) })

/-- A change that was performed enters the executing context's overlay, unless the core's view has taken it while the answer travelled
(R96, R281). -/
def State.takeChange (s : State) (k t : Nat) (c : Change) : State :=
  if c.upd ≤ (s.core k).view.update then s
  else
    let s1 := s.onCtx k t (fun x => { x with overlay := x.overlay ++ [c] })
    match c with
    | .settle _ era => s1.settleCtx k t era
    | _ => s1

/-- A domain operation whose home refused it: a precise fault of its instruction, nothing performed (R280, R343). -/
def State.domFault (s : State) (o : DomOp) (f : Nat × Dword) : State :=
  let tag := ((s.pendAt o.core o.seq).map (·.tag)).getD 0
  let s1 := s.onCore o.core (fun c => { c with pend := c.pend.filter (fun p => p.seq != o.seq) })
  let s2 := s1.onCtx o.core o.ctx (fun x => { x.setTag tag false with hist := o.hist, wait := .none })
  let r : Report := { arrived := s.now, cause := f.1, ctx := o.ctx, pc := o.pc, addr := f.2, resume := some o.pc }
  (s2.onCore o.core (fun c => { c with held := holdReport c.held r })).plan 0 1 .faultReport { a := o.core }

/-- DOMAIN_ANSWER: the change enters the context's overlay, the result is written, the context goes on (R278, R280, R281). -/
def execDomainAnswer (s : State) : Host.Outcome State Fault Refusal :=
  match s.domOps.find? (fun o => o.id == s.subj.a) with
  | none => .next s
  | some o =>
    let s1 := { s with domOps := s.domOps.filter (fun x => x.id != o.id) }
    match o.fault with
    | some f => .next (s1.domFault o f)
    | none =>
      let s2 := o.change.foldl (fun s c => s.takeChange o.core o.ctx c) s1
      let l := if o.change.any (fun c => match c with | .settle _ _ => true | _ => false) then eraIn o.lbl else o.lbl
      let s3 := s2.arrive o.core o.seq 0 [.s o.reg o.res l]
      .next (if o.kind < 2 then s3 else s3.onCtx o.core o.ctx (fun x => { x with wait := .none }))

/-- The domain operation of the issuing instruction, sent to the domain home; with a result where `k` allocates a tag (R278, R280), whose
Minimum latency is that to a shared-cache slice (R15, R17). -/
def State.askDomain (s : State) (k : Ctl) (kind : Nat) (v : Dword) (link : Nat) (d : BitVec 5) (l : Handle) (dom : Nat) : State :=
  let o : DomOp :=
    { id := s.nextId, core := s.curCore, ctx := s.curCtx, launch := s.here.launch.getD 0, dom := dom, kind := kind, val := v,
      link := link, slot := none, reg := d, seq := s.nextId, lbl := l, pc := s.me.pc, hist := s.me.hist, res := 0#64,
      fault := none, change := [] }
  let s1 := { s with domOps := s.domOps ++ [o] }
  let s2 := if tagOf k = 0 then s1.bump else s1.await (tagOf k) (16 + homePath s.curCore (s.domBase dom)) 1 [] none false [.s d]
  let s3 := s2.plan (1 + homePath s.curCore (s.domBase dom)) 0 .domainHomeOperation { a := o.id }
  if kind < 2 then s3 else s3.onMe (fun x => { x with wait := .domain })

/-- A domain operation with a result: the label is the ambient one (R87, R278, R281). -/
def State.domResult (s : State) (k : Ctl) (kind : Nat) (v : Dword) (link : Nat) (d : BitVec 5) (hs : List Handle) : Eff :=
  match s.domainOf s.curCore with
  | none => .fault cIllegal 0#64
  | some n =>
    match (s.countVoids [plainIn hs]).formWith [] with
    | none => .stall
    | some (s1, l) => .go (s1.askDomain k kind v link d l n)

/-- A domain operation without a result (R280). -/
def State.domPlain (s : State) (k : Ctl) (kind : Nat) (v : Dword) (hs : List Handle) : Eff :=
  match s.domainOf s.curCore with
  | none => .fault cIllegal 0#64
  | some n => .go ((s.countVoids [plainIn hs]).askDomain k kind v 0 0#5 hTrue n)

/-- ANEW (R278). -/
def execAnew (k : Ctl) (d : BitVec 5) (s : State) : Host.Outcome State Fault Refusal :=
  issue (.anew k d) s (fun s => s.domResult k 0 0#64 0 d [])
/-- ANEW, transaction form (R278, R391). -/
def execAnewTx (k : Ctl) (d : BitVec 5) (link : BitVec 4) (s : State) : Host.Outcome State Fault Refusal :=
  issue (.anewTx k d link) s (fun s => s.domResult k 1 0#64 link.toNat d [])
/-- NOGOOD (R79, R280). -/
def execNogood (k : Ctl) (a : BitVec 5) (s : State) : Host.Outcome State Fault Refusal :=
  issue (.nogood k a) s (fun s => s.domPlain k 2 (s.srcS a).1 [(s.srcS a).2])
/-- ASSERT (R103, R281). -/
def execAssert (k : Ctl) (d a : BitVec 5) (s : State) : Host.Outcome State Fault Refusal :=
  issue (.assert k d a) s (fun s => s.domResult k 3 (s.srcS a).1 0 d [(s.srcS a).2])
/-- RETRACT (R79, R280). -/
def execRetract (k : Ctl) (a : BitVec 5) (s : State) : Host.Outcome State Fault Refusal :=
  issue (.retract k a) s (fun s => s.domPlain k 4 (s.srcS a).1 [(s.srcS a).2])
/-- SETTLE (R98, R281). -/
def execSettle (k : Ctl) (d : BitVec 5) (s : State) : Host.Outcome State Fault Refusal :=
  issue (.settle k d) s (fun s => s.domResult k 5 0#64 0 d [])

/-! ## Labels of values -/

/-- The combine of an environment operand with handles (R279; entry 17). -/
def envIn (hs : List Handle) (e : Dword) : LabelIn := { hs := hs, env := if e = 0#64 then none else some e, join := none }

/-- Does an environment name a free slot (R279)? -/
def State.namesFree (s : State) (n : Nat) (e : Dword) : Bool := (e &&& s.domFree n) != 0#64

/-- LAPPLY (R279). -/
def execLapply (k : Ctl) (d a b : BitVec 5) (vm : VMod) (v : BitVec 1) (s : State) : Host.Outcome State Fault Refusal :=
  issue (.lapply k d a b vm v) s (fun s =>
    let e := s.srcS b
    match s.domainOf s.curCore with
    | none => .fault cIllegal 0#64
    | some n =>
      if s.namesFree n e.1 then .fault cIllegal 0#64
      else if v == 1#1 then
        s.vresult k 2 d vm ((s.lanes vm).map (fun i =>
          let x := (s.srcV a).lane i
          (i, x.1, envIn [x.2, e.2] e.1))) 0
      else
        let x := s.srcS a
        s.resultOf k 1 d x.1 (envIn [x.2, e.2] e.1) 0)

/-- AMB (R279). -/
def execAmb (k : Ctl) (a : BitVec 5) (s : State) : Host.Outcome State Fault Refusal :=
  issue (.amb k a) s (fun s =>
    let e := s.srcS a
    match s.domainOf s.curCore with
    | none => .fault cIllegal 0#64
    | some n =>
      if s.namesFree n e.1 then .fault cIllegal 0#64
      else match (s.countVoids [plainIn [e.2]]).formOne (envIn [] e.1) with
      | none => .stall
      | some (s1, h) => .go (s1.onMe (fun x => { x with ambient := h })))

/-- VJOIN (R84, R282; entry 53): lanes that differ take VOID.OVER itself. -/
def execVjoin (k : Ctl) (d a b : BitVec 5) (vm : VMod) (s : State) : Host.Outcome State Fault Refusal :=
  issue (.vjoin k d a b vm) s (fun s =>
    match s.domainOf s.curCore with
    | none => .fault cIllegal 0#64
    | some _ =>
      let p := (s.lanes vm).partition (fun i => ((s.srcV a).lane i).1 == (s.laneB vm b i).1)
      let outs : List LaneOut := p.1.map (fun i =>
        let x := (s.srcV a).lane i
        (i, x.1, { hs := [], env := none, join := some (x.2, (s.laneB vm b i).2) }))
      let s1 := s.countVoids (p.2.map (fun i => plainIn [((s.srcV a).lane i).2, (s.laneB vm b i).2]))
      s1.vresultAt k 2 2 d vm outs (if p.2.isEmpty then 0 else 0x100) (p.2.map (fun i => .lane d i ((s.srcV a).lane i).1 hOver)))

/-- A label instruction that reads labels as values (R94, R283): it waits while one is pending; its results carry TRUE. -/
def State.labelValues (s : State) (k : Ctl) (d a : BitVec 5) (vm : VMod) (v : BitVec 1) (f : Handle → Nat) : Eff :=
  if v == 1#1 then
    let ls := (s.lanes vm).map (fun i => (i, ((s.srcV a).lane i).2))
    if ls.any (fun p => isPend p.2) then .stall
    else
      let ws : List RegWrite := ls.map (fun p => .lane d p.1 (BitVec.ofNat 32 (f (s.check s.curCore s.curCtx p.2))) hTrue)
      .go ((s.countVoids [plainIn (ls.map (·.2))]).produce (tagOf k) 2 (ws ++ s.offLanes vm d) 0 [.v d])
  else
    let h := (s.srcS a).2
    if isPend h then .stall
    else (s.countVoids [plainIn [h]]).resultAs k 1 d (BitVec.ofNat 64 (f (s.check s.curCore s.curCtx h))) hTrue

/-- LGET (R283). -/
def execLget (k : Ctl) (d a : BitVec 5) (vm : VMod) (v : BitVec 1) (s : State) : Host.Outcome State Fault Refusal :=
  issue (.lget k d a vm v) s (fun s => s.labelValues k d a vm v BitVec.toNat)

/-- The condition of LTEST (R283). -/
def ltestHolds (cond : Nat) (h : Handle) : Bool :=
  match cond with
  | 0 => isVoid h
  | 1 => h == hTrue
  | 2 => h == hHidden
  | 3 => h == hOver
  | 4 => h == hPoison
  | 5 => h == hLost
  | _ => !isVoid h

/-- LTEST (R283). -/
def execLtest (k : Ctl) (d a : BitVec 5) (vm : VMod) (v : BitVec 1) (cond : BitVec 3) (s : State) : Host.Outcome State Fault Refusal :=
  issue (.ltest k d a vm v cond) s (fun s => s.labelValues k d a vm v (fun h => if ltestHolds cond.toNat h then 1 else 0))

/-- Environment `n` of a label as LREAD writes it (R283). -/
def State.readEnv (s : State) (dom : Nat) (v : View) (h : Handle) (n : Nat) : Dword :=
  if isVoid h then allOnes64
  else match (s.envs dom h)[n]? with
  | none => allOnes64
  | some e => e &&& ~~~v.asserted

/-- LREAD (R283). -/
def execLread (k : Ctl) (d a : BitVec 5) (n : BitVec 2) (s : State) : Host.Outcome State Fault Refusal :=
  issue (.lread k d a n) s (fun s =>
    let h := (s.srcS a).2
    match s.domainOf s.curCore with
    | none => .fault cIllegal 0#64
    | some dom =>
      if isPend h then .stall
      else
        let x := s.readEnv dom (viewOf s.here s.me) (s.check s.curCore s.curCtx h) n.toNat
        .go ((s.countVoids [plainIn [h]]).produceIn (tagOf k) 2 (2 + s.freeN 0 % 64) [.s d x hTrue] 0 false [.s d]))

/-- Is LSTRIP permitted in a domain (R76, R102)? -/
def State.stripOk (s : State) (n : Nat) : Bool := bitAt (s.dirEntry n) 62

/-- The label that LSTRIP gives, beside the ambient one (R284). -/
def stripLabels (h : Handle) : List Handle := if h = hPoison then [hPoison] else []

/-- The reads of LSTRIP that Check returns as VOID other than POISON, which its combine reads itself, counted (R92). -/
def State.stripReads (s : State) (hs : List Handle) : State :=
  s.countReads (hs.filter (fun h => s.check s.curCore s.curCtx h != hPoison))

/-- LSTRIP (R102, R284). -/
def execLstrip (k : Ctl) (d a : BitVec 5) (vm : VMod) (v : BitVec 1) (s : State) : Host.Outcome State Fault Refusal :=
  issue (.lstrip k d a vm v) s (fun s =>
    let ck := s.check s.curCore s.curCtx
    match s.domainOf s.curCore with
    | none => .fault cIllegal 0#64
    | some n =>
      if !s.stripOk n then .fault cIllegal 0#64
      else if v == 1#1 then
        let ls := (s.lanes vm).map (fun i => (i, (s.srcV a).lane i))
        if ls.any (fun p => isPend p.2.2) then .stall
        else (s.stripReads (ls.map (fun p => p.2.2))).vresult k 2 d vm (ls.map (fun p => (p.1, p.2.1, plainIn (stripLabels (ck p.2.2))))) 0
      else
        let x := s.srcS a
        if isPend x.2 then .stall else (s.stripReads [x.2]).result k 1 d x.1 (stripLabels (ck x.2)) 0)

/-- LFENCE (R285). -/
def execLfence (k : Ctl) (s : State) : Host.Outcome State Fault Refusal :=
  issue (.lfence k) s (fun s =>
    match s.domainOf s.curCore with
    | none => .fault cIllegal 0#64
    | some _ => .go (s.onMe (fun x => { x with wait := .lfence })))

/-! ## The label unit -/

/-- {e} formed as an input of its combine: TRUE with every slot asserted, VOID.HIDDEN when refuted, else its own entry (R80, R83,
R279; entry 17). The second part says that the table had no entry for it (R91). -/
def State.formEnv (s : State) (n : Nat) (v : View) (i : LabelIn) : State × LabelIn × Bool :=
  match i.env with
  | none => (s, i, false)
  | some e =>
    let x := e &&& ~~~v.asserted
    if refuted v.nogoods e then (s, { i with hs := i.hs ++ [hHidden], env := none }, false)
    else if x = 0#64 then (s, { i with env := none }, false)
    else
      let r := s.intern n [x]
      (r.1, { i with hs := i.hs ++ [r.2.1], env := none }, r.2.2)

/-- The join of a combine formed as an input of it: its own list is counted and interned before the other inputs enter (R84, R282).
With it whether it set LBL_OVER and LBL_TABLE_FULL. -/
def State.formJoin (s : State) (n : Nat) (v : View) (i : LabelIn) : State × LabelIn × Bool × Bool :=
  match i.join with
  | none => (s, i, false, false)
  | some (a, b) =>
    match s.joinSet n v a b with
    | .known h o => (s, { i with hs := i.hs ++ [h], join := none }, o, false)
    | .list l =>
      let r := s.intern n l
      (r.1, { i with hs := i.hs ++ [r.2.1], join := none }, false, r.2.2)

/-- Is a combine of a core ready before another: by cycle, then in issue order and by lowest lane, the order in which an instruction
takes its slots (R319)? -/
def before (a b : Nat × Slot) : Bool :=
  decide (a.2.began < b.2.began) ||
  (a.2.began == b.2.began && (decide (a.2.order < b.2.order) || (a.2.order == b.2.order && decide (a.1 < b.1))))

/-- Does a combine's probing wait for that of one that became ready before it (R319)? -/
def Core.probesLater (c : Core) (n : Nat) (x : Slot) : Bool :=
  c.busySlots.any (fun p => p.2.started && p.2.got.isNone && before p (n, x))

/-- The combines of a core that waited for a slot's handle are ready when their last pending input has resolved (R94, R319). -/
def State.startSlots (s : State) (k : Nat) : State :=
  let idle := (s.core k).busySlots.filter (fun p => !p.2.started && (pendsOf p.2.inp).isEmpty)
  idle.foldl (fun s p =>
    (s.onCore k (fun c => c.setSlot p.1 (some { p.2 with started := true, began := s.now }))).plan 1 0 .internProbe
      { a := k, b := p.1, c := 0, d := p.2.ready }) s

/-- A slot's handle is known: it resolves no sooner than 24 cycles after it was taken (R93). -/
def State.slotDone (s : State) (k n : Nat) (x : Slot) (h : Handle) (full tooMany : Bool) : State :=
  let h' := if x.lost then lostIn h else h
  let s1 := s.onCore k (fun c => c.setSlot n (some { x with got := some h' }))
  let s2 := if tooMany then s1.flag k x.ctx stLblOver else s1
  let s3 := if full then s2.flag k x.ctx stLblFull else s2
  s3.plan (max 1 (x.ready - s.now)) 0 .labelResolve { a := k, b := n, d := x.ready }

/-- INTERN_PROBE: the list is formed in the context's view; then probe `c` looks at its entry (R38, R91, R92). The core's probes go in
the order in which its combines became ready (R319). -/
def execInternProbe (s : State) : Host.Outcome State Fault Refusal :=
  let u := s.subj
  match (s.core u.a).slotAt u.b, s.domainOf u.a with
  | some x, some n =>
    if x.ready != u.d || x.got.isSome then .next s
    else if (s.core u.a).probesLater u.b x then .next (s.plan 1 0 .internProbe u)
    else if !s.resident (s.domBase n + 0x10000) then .next (s.plan 64 0 .internProbe u)
    else
      let v := viewOf (s.core u.a) (s.ctxAt u.a x.ctx)
      let x := if x.todo.isEmpty then { x with seen := v } else x
      let (s, form) : State × Formed := match x.todo with
        | l :: _ => (s, .list l)
        | [] =>
          let r := s.formEnv n v x.inp
          let q := r.1.formJoin n v r.2.1
          let s1 := if r.2.2 || q.2.2.2 then q.1.flag u.a x.ctx stLblFull else q.1
          (if q.2.2.1 then s1.flag u.a x.ctx stLblOver else s1, q.1.combineSet n v q.2.1.hs)
      match form with
      | .known h o => .next (s.slotDone u.a u.b x h false o)
      | .list l =>
        if x.lost then .next (s.slotDone u.a u.b x hLost false false)
        else
          let x1 := { x with todo := [l] }
          let q := probeAt (internStart l) u.c
          if s.tableEntry n q == l then .next (s.slotDone u.a u.b x1 (BitVec.ofNat 16 q) false false)
          else if s.tableEntry n q == [] || decide (31 ≤ u.c) then
            let r := s.intern n l
            .next (r.1.slotDone u.a u.b x1 r.2.1 r.2.2 false)
          else
            .next ((s.onCore u.a (fun c => c.setSlot u.b (some x1))).plan
              (1 + homePath u.a (s.domBase n + 0x10000 + 32 * q)) 0 .internProbe { u with c := u.c + 1 })
  | _, _ => .next s

/-- The combine cache learns a result: 64 entries (R92). -/
def Core.learn (c : Core) (i : LabelIn) (h : Handle) : Core :=
  if (c.combCache.any (fun p => p.1 == i)) || !(pendsOf i).isEmpty then c
  else { c with combCache := (c.combCache ++ [(i, h)]).drop (c.combCache.length + 1 - 64) }

/-- An extra slot's handle goes into the result or the buffered store that waits for it (R319). -/
def State.fillLabel (s : State) (k : Nat) (f : Fill) (h : Handle) : State :=
  match f with
  | .req n => { s with reqs := s.reqs.map (fun r => if r.core = k && r.isStore && r.seq = n then { r with lbl := h, seq := 0 } else r) }
  | .pend n =>
    let wf : RegWrite → RegWrite := fun w => match w with
      | .s r v _ => .s r v h
      | .lane r i v _ => .lane r i v h
      | .acc b i j v _ => .acc b i j v h
      | .side r j x => .side r j x
    ((s.onPend k n (fun p => { p with writes := p.writes.map wf, left := 0 })).planLanding k n 0)

/-- LABEL_RESOLVE: every label of the core that holds PEND(k) is replaced in this cycle, and the slot is freed (R93). The combine cache
learns the handle only while the core's view is the one it was formed in (R92). -/
def execLabelResolve (s : State) : Host.Outcome State Fault Refusal :=
  let k := s.subj.a
  let n := s.subj.b
  match (s.core k).slotAt n with
  | none => .next s
  | some x =>
    match x.got with
    | none => .next s
    | some h =>
      if x.ready != s.subj.d then .next s
      else
        let s1 := s.onCore k (fun c =>
          let c1 := c.setSlot n none
          if x.lost || !cacheable (c.ctx x.ctx) || x.seen != c.view then c1 else c1.learn x.inp h)
        let s2 := if n < 8 then s1.relabel k (fun l => if l = BitVec.ofNat 16 (0xFFF0 + n) then h else l)
          else match x.fill with | none => s1 | some f => s1.fillLabel k f h
        .next ((s2.lanesWritten k x.ctx).startSlots k)

end Sys2Proof.Machine
end

