-- ==== Sys2Proof/Machine/Holdings.lean ====
section
/-! DEFINITION. Sys2Proof/Machine/Holdings.lean: the holding group (R287 to R292), recalls and verdicts (R334 to R340), and the
release of a holding (R291, R341). -/

namespace Sys2Proof.Machine

/-- A holding of a launch by index. -/
def Launch.holding (l : Launch) (h : Nat) : Holding := l.holdings.getD h default

/-- A holding changed. -/
def State.onHolding (s : State) (ln h : Nat) (f : Holding → Holding) : State := s.onLaunch ln (fun l => l.onHolding h f)

/-- Is the issuing context a holder control context: context 0 of core 0 (R287)? -/
def State.isHolder (s : State) : Bool := s.curCtx == 0 && s.curCore % 8 == 0

/-- The launch number and holding of the issuing core. -/
def State.myHolding (s : State) : Nat × Nat := (s.here.launch.getD 0, s.here.holding)

/-! ## Requesters of recalls -/

/-- Is a recall of a queue's selected record, and not of a LEASE (R330, R334)? -/
def Recall.ofQueue (r : Recall) (t q : Nat) : Bool := r.launch == 0 && r.tenant == t && r.queue == q

/-- The recalls of a queue's selection that no routine serves yet, withdrawn everywhere (R330). -/
def State.withdrawRecalls (s : State) (t q : Nat) : State :=
  { s with launches := s.launches.map (fun (p : Nat × Launch) => (p.1, { p.2 with
      holdings := p.2.holdings.map (fun h => { h with recalls := h.recalls.filter (fun r => !r.ofQueue t q) }) })) }

/-- SKIPS of a queue grows by 1 (R330). -/
def Queue.skip (q : Queue) : Queue := { q with skips := q.skips + 1#64 }

/-- A requester whose recall is lost looks elsewhere: its selection, if it still stands, is given up (R330); a LEASE leaves its position unfilled (R341). -/
def State.giveUp (s : State) (r : Recall) : State :=
  if r.launch != 0 then s
  else
    let q := (s.tenant r.tenant).queue r.queue
    match q.selected with
    | none => s
    | some y =>
      if y.num != r.sel then s else
      (s.withdrawRecalls r.tenant r.queue).onTenant r.tenant (fun t =>
        t.onQueue r.queue (fun q => { q.skip with selected := none }))

/-- The holding index of a cluster in a launch's rectangle. -/
def Launch.indexOf (l : Launch) (q : Nat) : Option Nat := (List.range l.holdings.length).find? (fun h => l.cluster h == q)

/-- A cluster handed to the requester of a recall (R339, R340): held for its selection, or granted to its launch. -/
def State.award (s : State) (r : Recall) (q : Nat) : State :=
  if r.launch = 0 then
    (s.onTenant r.tenant (fun t => t.onQueue r.queue (fun x => { x with
      selected := x.selected.map (fun y => if y.num == r.sel && y.want.contains q then { y with got := y.got ++ [q], want := y.want.erase q, recalled := y.recalled ++ [q] } else y) }))).plan
      0 0 .launchBind { a := r.tenant, b := r.queue }
  else
    match s.launch r.launch with
    | none => s
    | some l =>
      match l.indexOf q with
      | none => s
      | some h => s.onHolding r.launch h (fun x =>
        if x.present && l.state != .preempted then x else { x with granted := true, byRecall := some r.prio })

/-- The requester that a released cluster goes to: the highest priority, the earliest among equals (R340). -/
def bestRecall : List Recall → Option Recall
  | [] => none
  | r :: rest =>
    match bestRecall rest with
    | none => some r
    | some b => if r.prio < b.prio then some b else some r

/-- The recalls of a holding, the one being served first. -/
def Holding.allRecalls (h : Holding) : List Recall := h.serving.toList ++ h.recalls

/-- A holding's cluster returned to the distributor, or handed to the best of its requesters; the others look elsewhere (R340). -/
def State.handOver (s : State) (rs : List Recall) (q : Nat) : State :=
  match bestRecall rs with
  | none => s
  | some b => (rs.erase b).foldl State.giveUp (s.award b q)

/-! ## Departure of a holding (R291) -/

/-- RELEASE begins: the holding's cores stop issuing, their partial lines are sent, unjoined gang instructions are withdrawn
(R244, R291). -/
def State.beginDeparture (s : State) (ln h : Nat) : State :=
  match s.launch ln with
  | none => s
  | some l =>
    if (l.holding h).departing || !(l.holding h).present then s
    else
      let q := l.cluster h
      let s1 := s.onHolding ln h (fun x => { x with departing := true, finish := none })
      let s2 := (List.range 8).foldl (fun s c => s.sendPartials (q * 8 + c) 0 (s.ctxAt (q * 8 + c) 0).pc) s1
      let s3 := s2.onCluster q (fun c => { c with gang := [] })
      s3.plan 1 0 .holdingDeparture { a := ln, b := h }

/-- Is a gang operation over, inbound tiles included (R243, R244)? -/
def MatOp.over (o : MatOp) : Bool := o.lost || (o.colsDone && (o.op.kind != 1 || (o.gotA && o.gotB)))

/-- Has step 2 of R291 ended: stores, REDs, partials, joined gang operations and sluice jobs of the holding? -/
def State.departureDone (s : State) (q : Nat) : Bool :=
  (List.range 8).all (fun c => !s.outstanding (q * 8 + c) s.nextId) && (s.cluster q).mats.all MatOp.over && (s.cluster q).jobs.isEmpty

/-- The counts that leave with a core (R331). -/
def State.keepCounts (s : State) (ln k : Nat) : State :=
  s.onLaunch ln (fun l => { l with outGone := l.outGone + (s.core k).evOut, inGone := l.inGone + (s.core k).evIn })

/-- The arrivals that departing cores have issued and that are not counted yet: with their stores performed, they are counted now
(R261, R291). -/
def State.countIssued (s : State) (ln : Nat) (ks : List Nat) : State :=
  let mine : Todo → Bool := fun x => match x.what with
    | .weirArrivalCounted => ks.contains x.who.a && x.who.e / 2 == ln
    | _ => false
  (s.agenda.filter mine).foldl (fun s x => s.countArrival x.who.a ln x.who.b x.who.c (x.who.e % 2 == 1))
    { s with agenda := s.agenda.filter (fun x => !mine x) }

/-- HOLDING_DEPARTURE: when step 2 has ended, the contexts are discarded, cluster memory and the event unit reset, the arrival counts
for every weir that the cores belong to until the map changes, and the cluster goes to its next user (R291, R340, R364). -/
def execHoldingDeparture (s : State) : Host.Outcome State Fault Refusal :=
  let ln := s.subj.a
  let h := s.subj.b
  match s.launch ln with
  | none => .next s
  | some l =>
    let q := l.cluster h
    if !(l.holding h).departing || !(l.holding h).present then .next s
    else if !s.departureDone q then .next (s.plan 1 0 .holdingDeparture s.subj)
    else
      let ks := (List.range 8).map (fun c => q * 8 + c)
      let s1 := ks.foldl (fun s k => (s.keepCounts ln k).scrubCore k) (s.countIssued ln ks)
      let s2 := { s1 with
        reqs := s1.reqs.filter (fun r => !ks.contains r.core), late := s1.late.filter (fun p => !ks.contains p.2.core), domOps := s1.domOps.filter (fun o => !ks.contains o.core),
        parked := s1.parked.filter (fun p => p.isJob || !(s1.reqs.any (fun r => r.id == p.id && ks.contains r.core))) }
      let s3 := (s2.scrubCluster q).onHolding ln h (fun x => { x with present := false, recalls := [], serving := none })
      let s4 := s3.handOver (l.holding h).allRecalls q
      .next ((List.range 16).foldl (fun s n => s.weirCheck ln n) s4)

/-! ## Forced recalls and verdicts -/

/-- A forced recall: the whole launch is pre-empted, and the requester is to receive the cluster, one more where the launch is being
pre-empted already; the other recalls of the holding are discarded (R338, R339). -/
def State.force (s : State) (ln h : Nat) : State :=
  match s.launch ln with
  | none => s
  | some l =>
    if (l.state != .bound && l.state != .preempting) || l.forced.any (fun f => f.1 == h) then s
    else
      let rs := (l.holding h).allRecalls
      let best := match (l.holding h).serving with | some r => some r | none => bestRecall rs
      let others := match best with | none => [] | some b => rs.erase b
      let s1 := s.onLaunch ln (fun l =>
        { l.onHolding h (fun x => { x with recalls := [], serving := none }) with forced := l.forced ++ [(h, best)] })
      let s2 := others.foldl State.giveUp s1
      if l.forced.isEmpty && l.state == .bound then s2.plan 1 0 .preemption { a := ln } else s2

/-- A refusal of a recall: the count grows; one that exceeds REFLIM forces the recall, else the requester looks elsewhere and the next
recall is delivered (R338, R340). -/
def State.refuseRecall (s : State) (ln h : Nat) (r : Recall) : State :=
  match s.launch ln with
  | none => s
  | some l =>
    let n := (l.holding h).refusals + 1
    let s1 := s.onHolding ln h (fun x => { x with refusals := n })
    if bits (l.word 1) 18 16 < n then s1.force ln h
    else ((s1.onHolding ln h (fun x => { x with serving := none })).giveUp r).plan 1 0 .recallDelivery { a := ln, b := h }

/-- May a recall be delivered to a holder control context in this cycle (R335)? -/
def State.deliverable (s : State) (l : Launch) (h : Nat) : Bool :=
  let k := l.cluster h * 8
  let x := s.ctxAt k 0
  !(s.core k).frozen && !x.sr && (l.holding h).finish.isNone && l.state == .bound &&
  (match x.wait with
   | .domain | .lanes | .releasing => false
   | .fence u sc => s.waitOver k 0 (.fence u sc)
   | .lfence => s.waitOver k 0 .lfence
   | _ => true)

/-- SR_CAUSE of a requester (R337). -/
def srCauseOf (tenant : Nat) (r : Recall) : Nat :=
  (if r.tenant = tenant then r.launch % 2 ^ 32 * 2 ^ 32 else 0) + r.prio % 8 * 256 + (if r.tenant = tenant then 0 else 16) + r.kind % 4

/-- Entry to the surrender routine (R336): an unjoined gang instruction stays unjoined, and SR_LINK stays on it. -/
def State.enterRoutine (s : State) (k : Nat) (entry : Dword) (cause : Nat) : State :=
  (s.interrupt k 0).onCtx k 0 (fun x =>
    { x with
      srLink := x.pc, savAmb := x.ambient, ambient := hTrue, srCause := BitVec.ofNat 64 cause, srIssued := 0, sr := true,
      srVerdict := false, shadow := x.hist, hist := [none, none, none], pc := entry, gapUntil := 0, wait := .none })

/-- RECALL_DELIVERY (R335 to R337): the oldest recall of the holding is delivered, or answered, or releases the holding. -/
def execRecallDelivery (s : State) : Host.Outcome State Fault Refusal :=
  let ln := s.subj.a
  let h := s.subj.b
  match s.launch ln with
  | none => .next s
  | some l =>
    let x := l.holding h
    let k := l.cluster h * 8
    match x.recalls with
    | [] => .next s
    | r :: rest =>
      if !x.present || x.departing || x.serving.isSome || !l.forced.isEmpty then .next s
      else if !(s.ctxAt k 0).live then
        .next (if (s.core k).frozen then s.plan 1 0 .recallDelivery s.subj else s.beginDeparture ln h)
      else if !s.deliverable l h then .next (s.plan 1 0 .recallDelivery s.subj)
      else
        let s1 := s.onHolding ln h (fun y => { y with recalls := rest, serving := some r, summarised := false })
        if x.routine = 0#64 then .next (s1.refuseRecall ln h r)
        else .next (s1.enterRoutine k x.routine (srCauseOf l.tenant r))

/-- FINISH_DEADLINE: the completion that ends a FINISH obligation has passed without a RELEASE, so the recall is forced (R338). -/
def execFinishDeadline (s : State) : Host.Outcome State Fault Refusal := .next (s.force s.subj.a s.subj.b)

/-- The end of a routine (R289, R336): the ambient label and the history of before. -/
def Ctx.leave (x : Ctx) : Ctx :=
  { x with sr := false, srIssued := x.srIssued + 1, srVerdict := false, ambient := x.savAmb, hist := x.shadow }

/-- Has a context an unjoined gang instruction at a PC (R336)? -/
def State.gangOf (s : State) (k t : Nat) (pc : Dword) : Bool :=
  (s.cluster (k / 8)).gang.any (fun m => m.core == k && m.ctx == t && m.pc == pc)

/-- The end of a routine by SRV. -/
def State.leaveRoutine (s : State) : State := s.onMe Ctx.leave

/-- The packet that SURRENDER_OVERRUN queues for information (R345). -/
def State.informSup (s : State) (k t cause : Nat) (pc : Dword) : State :=
  let ten := s.tenantOf k
  let p := s.packetOf k { arrived := s.now, cause := cause, ctx := t, pc := pc, addr := 0#64, resume := none }
  s.inform ten p

/-- SURRENDER_OVERRUN: the instruction is not issued, the routine is left, and the recall is forced; nothing freezes
(R290, R338, R343). -/
def execSurrenderOverrun (s : State) : Host.Outcome State Fault Refusal :=
  let k := s.subj.a
  let t := s.subj.b
  let s1 := s.informSup k t cOverrun (s.ctxAt k t).pc
  let s2 := s1.onCtx k t (fun x => { x.leave with srIssued := x.srIssued, pc := x.srLink, wait := if s1.gangOf k t x.srLink then .gang else .none })
  .next (s2.force ((s.core k).launch.getD 0) (s.core k).holding)

/-! ## The instructions -/

/-- The bound that SRREG or a record names (R288). -/
def boundOf (v : Nat) : Nat := if v = 0 then 256 else v

/-- SRREG (R288, R290). -/
def execSrreg (k : Ctl) (a b : BitVec 5) (s : State) : Host.Outcome State Fault Refusal :=
  issue (.srreg k a b) s (fun s =>
    let x := s.srcS a
    let y := s.srcS b
    if !s.isHolder then .fault cIllegal 0#64
    else if s.me.sr then .fault cMisuse 0#64
    else if y.1 != 0#64 && (decide (y.1.toNat < 16) || decide (4096 < y.1.toNat)) then .fault cIllegal 0#64
    else if x.1.toNat % 4 != 0 then .fault cAlign x.1
    else
      let m := s.myHolding
      .go (((s.countVoids [plainIn [x.2, y.2]]).onHolding m.1 m.2 (fun h => { h with routine := x.1, bound := boundOf y.1.toNat })).tagOnly
        k 1))

/-- A return to the interrupted program. -/
def State.returnTo (s : State) (t : State) : Eff :=
  let pc := s.me.srLink
  .jump (t.onMe (fun x => { x with wait := if s.gangOf s.curCore s.curCtx pc then .gang else .none })) pc 0

/-- The checks of SRV (R287, R289). -/
def State.srvFault (s : State) : Option Eff :=
  if !s.isHolder then some (.fault cIllegal 0#64)
  else if !s.me.sr || s.me.srVerdict then some (.fault cMisuse 0#64)
  else none

/-- SRV FINISH (R289, R338). -/
def execSrvFinish (k : Ctl) (n : BitVec 4) (s : State) : Host.Outcome State Fault Refusal :=
  issue (.srvFinish k n) s (fun s =>
    match s.srvFault with
    | some e => e
    | none =>
      if n = 0#4 then .fault cIllegal 0#64
      else
        let m := s.myHolding
        s.returnTo (s.leaveRoutine.onHolding m.1 m.2 (fun h => { h with finish := some n.toNat })))

/-- SRV SUMMARISE (R289, R338). -/
def execSrvSummarise (k : Ctl) (s : State) : Host.Outcome State Fault Refusal :=
  issue (.srvSummarise k) s (fun s =>
    match s.srvFault with
    | some e => e
    | none =>
      let m := s.myHolding
      .go ((s.onMe (fun x => { x with srVerdict := true })).onHolding m.1 m.2 (fun h => { h with summarised := true })))

/-- SRV REFUSE (R289, R338). -/
def execSrvRefuse (k : Ctl) (s : State) : Host.Outcome State Fault Refusal :=
  issue (.srvRefuse k) s (fun s =>
    match s.srvFault with
    | some e => e
    | none =>
      let m := s.myHolding
      let r : Option Recall := match s.launch m.1 with | none => none | some l => (l.holding m.2).serving
      s.returnTo (match r with | none => s.leaveRoutine | some r => s.leaveRoutine.refuseRecall m.1 m.2 r))

/-- RELEASE (R290, R291). -/
def execRelease (k : Ctl) (s : State) : Host.Outcome State Fault Refusal :=
  issue (.release k) s (fun s =>
    if !s.isHolder then .fault cIllegal 0#64
    else if s.me.sr && !s.me.srVerdict then .fault cMisuse 0#64
    else
      let m := s.myHolding
      .go ((s.release.beginDeparture m.1 m.2).onMe (fun x => { x with wait := .releasing })))

/-- LEASE (R290, R292, R341): the distributor records the request in its next round, when the tag frees. -/
def execLease (k : Ctl) (d a b : BitVec 5) (s : State) : Host.Outcome State Fault Refusal :=
  issue (.lease k d a b) s (fun s =>
    let x := s.srcS a
    let y := s.srcS b
    if s.me.sr then .fault cMisuse 0#64
    else if x.1 = 0#64 || decide (1024 < x.1.toNat) then .fault cIllegal 0#64
    else match s.formWith [] with
    | none => .stall
    | some (s0, h) =>
      let ln := s.here.launch.getD 0
      let num := (match s.launch ln with | none => 0 | some l => l.leaseNum) + 1
      let s1 := (s0.countVoids [plainIn [x.2, y.2]]).onLaunch ln (fun l =>
        { l with leaseNum := num, asks := l.asks ++ [{ count := x.1.toNat, named := y.1.toNat }] })
      .go (s1.produceIn (tagOf k) 1 (65 - s.now % 64) [.s d (BitVec.ofNat 64 num) h] 0 false [.s d]))

end Sys2Proof.Machine
end

