-- ==== Sys2Proof/Machine/System.lean ====
section
/-! DEFINITION. Sys2Proof/Machine/System.lean: the system instructions (R293 to R299) and what they do at the homes: REPLAY (R355),
RESUME (R350), APERSET (R28, R29), SNAP and MIGRATE (R299, R383), FLUSHCODE (R296); HOME_ACCESS (R37) and HOST_READ_RESPONSE (R381). -/

namespace Sys2Proof.Machine

/-! ## Leases of a tenant -/

/-- The lease ranges of every launch of a tenant (R294). -/
def State.tenantLeases (s : State) (t : Nat) : List Plb :=
  (s.launches.filter (fun p => p.2.tenant == t)).flatMap (fun p => p.2.leases.filter (·.valid))

/-- Is every page of a range of page numbers within some of the ranges? -/
def covers (ls : List Plb) (p last : Nat) : Nat → Bool
  | 0 => decide (last < p)
  | n + 1 =>
    if last < p then true
    else match ls.find? (fun l => decide (l.base.toNat ≤ p) && decide (p ≤ l.last.toNat)) with
    | none => false
    | some l => covers ls (l.last.toNat + 1) last n

/-- Does a range of addresses lie within the tenant's leases (R294)? -/
def State.leased (s : State) (t va len : Nat) : Bool :=
  let ls := s.tenantLeases t
  covers ls (va / 65536) ((va + len - 1) / 65536) ls.length

/-- A protection range from its two words; none where R295 refuses it. -/
def plbOf (w0 w1 : Nat) : Option Plb :=
  let p : Plb :=
    { valid := bitAt w1 63, base := BitVec.ofNat 40 (bits w0 55 16), last := BitVec.ofNat 40 (bits w1 55 16), r := bitAt w1 8,
      w := bitAt w1 7, x := bitAt w1 6, l := bitAt w1 5, c := bitAt w1 4, cop := BitVec.ofNat 2 (bits w1 3 2) }
  if bits w0 63 56 != 0 || bits w0 15 0 != 0 || bits w1 62 56 != 0 || bits w1 15 9 != 0 || bits w1 1 0 != 0 then none
  else if p.last.toNat < p.base.toNat || (!p.c && p.cop != 0#2) then none
  else some p

/-- A list of 16 ranges with one replaced. -/
def setRange (l : List Plb) (i : Nat) (p : Plb) : List Plb := (l ++ List.replicate (16 - l.length) Plb.empty).set i p

/-- A range of a launch replaced in every core of its present holdings (R295). -/
def State.setPlb (s : State) (ln i : Nat) (p : Plb) : State :=
  match s.launch ln with
  | none => s
  | some l =>
    l.cores.foldl (fun s k => s.onCore k (fun c => if c.launch = some ln then { c with plb := vset c.plb i p } else c))
      (s.onLaunch ln (fun l => { l with leases := setRange l.leases i p }))

/-! ## Moves of pages (R299, R383) -/

/-- The size of the page of an address; a page that is not mapped counts as a small one. -/
def State.pageSize (s : State) (va : Nat) : Nat := match s.walk va with | .leaf _ z => z | .park _ => smallPage

/-- Live and pre-empted launches with an X range over some part of a page (R299, R365). -/
def State.pinners (s : State) (va : Nat) : List Launch :=
  let z := s.pageSize va
  let first := va / z * z / 65536
  (s.launches.filter (fun p => p.2.leases.any (fun q =>
    q.valid && q.x && decide (q.base.toNat < first + z / 65536) && decide (first ≤ q.last.toNat)))).map (·.2)

/-- The valid entries of a table node, each with its address. -/
def State.nodeEntries (s : State) (node n : Nat) : List (Nat × Leaf) :=
  ((List.range n).map (fun i => (node + 16 * i, s.entryAt (node + 16 * i)))).filter (fun e => e.2.v)

/-- Every leaf that the page tables map, with its own address and its page size (R23). -/
def State.allLeaves (s : State) : List (Nat × Leaf × Nat) :=
  (List.range 48).flatMap (fun d =>
    (s.nodeEntries (s.root.get d 0) 128).flatMap (fun e0 =>
      (s.nodeEntries e0.2.frame 512).flatMap (fun e1 =>
        (s.nodeEntries e1.2.frame 512).flatMap (fun e2 =>
          if e2.2.lg then [(e2.1, e2.2, largePage)]
          else (s.nodeEntries e2.2.frame 512).map (fun e => (e.1, e.2, smallPage))))))

/-- Is a frame part of a mapping other than the one of the page at `va` (R299)? -/
def State.frameUsed (s : State) (va pa size : Nat) : Bool :=
  s.allLeaves.any (fun p => some p.1 != (s.leafAt va).map (·.1) && !p.2.1.hl && decide (pa < p.2.1.frame + p.2.2) &&
    decide (p.2.1.frame < pa + size))

/-- Do the memory controllers serve every line of a page with its handles (R20)? -/
def State.pageOk (s : State) (l : Leaf) (size va : Nat) : Bool := (List.range (size / 64)).all (fun i => s.lineOk l size (va + 64 * i))

/-- Do they take every line of it (R20, R30)? -/
def State.pageTakes (s : State) (l : Leaf) (size va : Nat) : Bool :=
  (List.range (size / 64)).all (fun i => s.lineTakes l size (va + 64 * i))

/-- An uncorrectable error carried along with a copied sector, so that its words go on reading as VOID.POISON (R19, R299). -/
def State.carryError (s : State) (src dst : Nat) : State :=
  if (s.mcWord src).2.1 && bits dst 41 40 != 3 && !s.poisoned dst then { s with ecc := s.ecc ++ [dst / 32] } else s

/-- A line of a page copied to the page's new frame with its handles as they are stored, an uncorrectable error with it (R19, R299,
R385). -/
def State.copyLine (s : State) (a size : Nat) (old new : Leaf) : State :=
  let words := (List.range 16).map (fun i => ((s.mcWord (old.phys size (a + 4 * i))).1, s.storedLabel old size (a + 4 * i)))
  let s1 := s.writeLine new size { line := a / 64, words := words, dirty := false, used := 0, corrupt := false }
  (List.range 16).foldl (fun s1 i =>
    if (s.mcWord (old.phys size (a + 4 * i))).2.1 then s1.carryError (old.phys size (a + 4 * i)) (new.phys size (a + 4 * i)) else s1) s1

/-- The bytes of a page's frame copied line by line, lines not yet written back first (R299, R385). -/
def State.copyFrame (s0 : State) (va size : Nat) (old new : Leaf) : State :=
  let s := ((s0.lines.filter (fun l => l.dirty && l.line * 64 / size == va / size)).map (·.line)).foldl State.cleanLine s0
  (List.range (size / 64)).foldl (fun s i => s.copyLine (va + 64 * i) size old new) s

/-- A system instruction's result, from where it was performed (R293). -/
def State.sysAnswer (s : State) (r : Req) (v : Nat) : State :=
  (s.dropReq r.id).arrive r.core r.seq 1 (match r.dst with | .s d _ => [.s d (BitVec.ofNat 64 v) r.lbl] | _ => [])

/-- Fetches of a launch that have been read at their homes discarded, and the contexts that wait for their blocks fetch again: what an
instruction cache takes after its invalidation is read after it (R119, R296). -/
def State.dropFetches (s : State) (l : Launch) : State :=
  (s.reqs.filter (fun r => r.op == .fetch && r.launch == l.number && !r.words.isEmpty)).foldl (fun s r =>
    let s1 := l.cores.foldl (fun s k => (s.fetchers k (r.va / 32)).foldl (fun s t =>
      s.onCtx k t (fun x => { x with wait := .none })) s) s
    s1.dropReq r.id) s

/-- FLUSHCODE requests of a stopped launch answered, its instruction caches emptied, once no code move over it is pending (R296). -/
def State.flushDone (s : State) (ln : Nat) : State :=
  match s.launch ln with
  | none => s
  | some l =>
    if !l.stopped || s.moves.any (fun m => (s.pinners m.page).any (fun p => p.number == ln)) then s
    else
      let qs := if l.state = .preempted then [] else l.here.map l.cluster
      let s0 := if l.state = .preempted then s else s.dropFetches l
      let s1 := qs.foldl (fun s q => s.onCluster q (fun c => { c with icache := [] })) s0
      let s2 := s1.onLaunch ln (fun l => { l with stopped := false, flush := [] })
      l.flush.foldl (fun s id => match s.req id with | none => s | some r => s.sysAnswer r 0) s2

/-- A copied page's leaf gets its new frame once every launch that it holds code of is stopped (R299); the slices keep no line of a page
that now lies over a link (R390). The copy of a copy-on-write page ends with its notification, and the accesses parked on the page are
tried again (R385). -/
def State.flipMove (s : State) (m : Move) : State :=
  let ls := if m.snap.isSome then [] else s.pinners m.page
  if !m.copied || ls.any (fun l => !l.stopped) then s
  else
    let s1 := { s with moves := s.moves.filter (fun x => x.id != m.id) }
    let s2 := match s.walk m.page with
      | .park _ => s1
      | .leaf l size =>
        let t := s1.putLeaf m.page (m.leaf l) false
        let t1 := if (m.leaf l).remote then { t with lines := t.lines.filter (fun x => x.line * 64 / size != m.page / size) } else t
        if m.snap.isSome then t1.notify m.tenant m.page 3 (s.freeN 6) l.frame m.frame else t1
    let s3 := match s2.req m.id with
      | none => s2
      | some r =>
        if m.snap.isSome then (s2.dropReq r.id).retryPage m.tenant (m.page / 65536)
        else if r.outside then s2.dropReq r.id
        else s2.sysAnswer r 0
    ls.foldl (fun s l => s.flushDone l.number) s3

/-- A launch with a FLUSHCODE outstanding stops at its weir-0 completion (R296, R299). -/
def State.flushStop (s : State) (ln : Nat) : State :=
  match s.launch ln with
  | none => s
  | some l =>
    if l.flush.isEmpty then s
    else
      let s1 := s.onLaunch ln (fun l => { l with stopped := true })
      (s1.moves.foldl State.flipMove s1).flushDone ln

/-- A move given up: WB is cleared, the answer is 1, and the launches that were stopped for it go on (R296, R299). The copy of a
copy-on-write page that fails leaves its accesses parked, with a record of KIND 5 (R351, R385; entry 108). -/
def State.refuseMove (s : State) (r : Req) : State :=
  let s1 := { s with moves := s.moves.filter (fun x => x.id != r.id) }
  if s.moves.any (fun m => m.id == r.id && m.snap.isSome) then
    let mine : Park → Bool := fun p => p.tenant == s.reqTenant r && p.page == r.va / 65536
    ((s1.parked.filter mine).map (fun (p : Park) => { p with kind := 5 })).foldl State.park
      { s1.dropReq r.id with parked := s1.parked.filter (fun p => !mine p) }
  else
    let s2 := match s.walk r.va with
      | .park _ => s1
      | .leaf l _ => s1.putLeaf r.va (l.setBit 58 false) true
    (s.pinners r.va).foldl (fun s l => s.flushDone l.number) (if r.outside then s2.dropReq r.id else s2.sysAnswer r 1)

/-- The domain in whose labels a page's words travel over a link. -/
def Leaf.labelDomain (l : Leaf) : Option Nat := if l.labelled && l.hv then some l.dom else none

/-- A word of the line in `r.words` sent to the page's new frame, which lies over a link (R53, R299, R389); a link that is not ACTIVE
parks the move with a record of KIND 2. -/
def State.moveSend (s : State) (r : Req) (l new : Leaf) : State :=
  if (s.nlink new.link).state != .active then s.parkReq r 2
  else
    let i := r.cmp.toNat
    let w := r.words.getD i (0#32, hTrue)
    let o := s.outOf l.labelDomain new.link w.2
    let acc : RemoteAccess :=
      { kind := 1, off := bits new.frame 39 0 + 64 * r.width + 4 * i, width := 4, data := w.1.setWidth 64, cmp := 0#64, envs := o.1,
        void := o.2 }
    (s.onReq r.id (fun _ => { r with link := some new.link })).toLink new.link (.access new.link r.id true acc)

/-- The next line of a page under move read: from the host, over a link, or here for a frame over a link; what cannot be read now parks
(R299, R373, R383, R389). -/
def State.moveFetch (s : State) (r : Req) (l : Leaf) (size : Nat) (m : Move) : State :=
  let new := m.leaf l
  if !l.remote && !s.lineOk l size (r.va + 64 * r.width) then s.parkReq r 2
  else if l.hl then
    if !s.linkUp m.tenant then s.parkReq r 5
    else { s with hostOut := s.hostOut ++ [HostMsg.read m.tenant r.id (l.frame + 64 * r.width)] }
  else if l.remote then
    if (s.nlink l.link).state != .active then s.parkReq r 2
    else
      let acc : RemoteAccess :=
        { kind := 0, off := bits l.frame 39 0 + 64 * r.width, width := 64, data := 0#64, cmp := 0#64, envs := [], void := hTrue }
      (s.onReq r.id (fun q => { q with link := some l.link })).toLink l.link (.access l.link r.id true acc)
  else
    let a := r.va + 64 * r.width
    let s1 := s.cleanLine (a / 64)
    let r' := { r with words := (s1.fillLine l size a).1, cmp := 0#64 }
    (s1.onReq r.id (fun _ => r')).moveSend r' l new

/-- A line of a page under move is in its new frame: the next one follows. -/
def State.moveNext (s : State) (r : Req) (l : Leaf) (size : Nat) (m : Move) : State :=
  let r' := { r with width := r.width + 1, words := [], cmp := 0#64 }
  let s1 := s.onReq r.id (fun _ => r')
  if r'.width * 64 < size then s1.moveFetch r' l size m else s1.plan 1 0 .migrationCopyDone { a := r.id }

/-- A line of a page under move has been read: written to the new frame with its handles, word by word where that lies over a link. -/
def State.moveGot (s : State) (r : Req) (l : Leaf) (size : Nat) (m : Move) (ws : List LWord) : State :=
  let new := m.leaf l
  if new.remote then
    let r' := { r with words := ws, cmp := 0#64 }
    (s.onReq r.id (fun _ => r')).moveSend r' l new
  else
    let a := r.va + 64 * r.width
    (s.writeLine new size { line := a / 64, words := ws, dirty := false, used := 0, corrupt := false }).moveNext r l size m

/-- A host line of a page under move arrives; an error ends the move with 1 (R299, R383). -/
def State.moveLine (s : State) (r : Req) (ok : Bool) (words : List Word) : State :=
  match s.walk r.va, s.moves.find? (fun m => m.id == r.id) with
  | .leaf l size, some m =>
    if !ok then s.refuseMove r
    else s.moveGot r l size m ((words.zipIdx).map (fun p => (p.1, s.storedLabel l size (r.va + 64 * r.width + 4 * p.2))))
  | _, _ => s

/-- A peer's answer to a move: the line that it read, or the word that it wrote (R299, R389). -/
def State.moveAnswered (s : State) (r : Req) (ws : List LWord) : State :=
  match s.walk r.va, s.moves.find? (fun m => m.id == r.id) with
  | .leaf l size, some m =>
    if r.words.isEmpty then s.moveGot r l size m ws
    else if 15 ≤ r.cmp.toNat then s.moveNext r l size m
    else
      let r' := { r with cmp := r.cmp + 1#64 }
      (s.onReq r.id (fun _ => r')).moveSend r' l (m.leaf l)
  | _, _ => s

/-- Do a page's words travel, over the host's link or a Nelrek link, as it is copied (R53)? -/
def Move.travels (m : Move) (l : Leaf) : Bool := l.hl || l.remote || (m.leaf l).remote

/-- A move that had parked goes on from the line or word that it had reached (R296, R355). -/
def State.moveResume (s : State) (r : Req) : State :=
  match s.walk r.va, s.moves.find? (fun m => m.id == r.id) with
  | .leaf l size, some m =>
    if r.link.isSome then s
    else if !m.travels l then s.plan 0 0 .migrationCopyDone { a := r.id }
    else if r.words.isEmpty then s.moveFetch r l size m else s.moveSend r l (m.leaf l)
  | _, _ => s

/-- A move's copy begins: line by line where the words travel, else by the engine at once (R53). -/
def State.beginMove (s : State) (r : Req) (l : Leaf) (size : Nat) (m : Move) : State :=
  let s1 := { s with moves := s.moves ++ [m] }
  if m.travels l then s1.moveFetch r l size m
  else s1.plan (size / 64 + s.freeN 5 % 64) 0 .migrationCopyDone { a := r.id }

/-- May a page be moved to a frame: one that R20 allows, aligned, in no other mapping, and no page of code unless a FLUSHCODE for every
launch that runs it is outstanding (R299)? -/
def State.mayMove (s : State) (r : Req) (l : Leaf) (size : Nat) : Bool :=
  let frame := r.data.toNat
  r.va % size == 0 && frame % size == 0 && decide (frame < 2 ^ 50) && s.frameOk frame size && !s.frameUsed r.va frame size &&
  ((l.moved frame).remote || s.pageTakes (l.moved frame) size r.va) &&
  (s.pinners r.va).all (fun p => s.reqs.any (fun q => q.op == .sys 6 && q.cmp.toNat == p.number)) &&
  s.moves.all (fun m => m.page != r.va)

/-- MIGRATE move begins: refused where the page or the frame does not allow it; it waits for a place in its engine's queue; then WB is set
and the engine starts the copy (R53, R299, R365). -/
def State.startMove (s : State) (r : Req) : State :=
  match s.walk r.va with
  | .park _ => s.sysAnswer r 1
  | .leaf l size =>
    let m : Move := { id := r.id, tenant := s.reqTenant r, page := r.va, frame := r.data.toNat, snap := none, copied := false }
    if !s.mayMove r l size then s.sysAnswer r 1
    else if 256 ≤ s.engineLoad (engineFor m.tenant (some l) (some (m.leaf l)) r.va) then s.plan 1 0 .homeAccess { a := r.id }
    else
      let r' := { r with away := true, width := 0, words := [], cmp := 0#64 }
      ((s.putLeaf r.va (l.setBit 58 true) true).onReq r.id (fun _ => r')).beginMove r' l size m

/-- MIGRATION_COPY_DONE: the page has been copied; the frame changes when nothing forbids it (R299). A page that the memory controllers do
not serve parks the move with KIND 2 (R20). -/
def execMigrationCopyDone (s : State) : Host.Outcome State Fault Refusal :=
  match s.moves.find? (fun m => m.id == s.subj.a), s.req s.subj.a with
  | some m, some r =>
    let go (s : State) : Host.Outcome State Fault Refusal :=
      let m' := { m with copied := true }
      let s2 := ({ s with moves := s.moves.map (fun (x : Move) => if x.id = m.id then m' else x) }).flipMove m'
      .next (if s2.moves.any (fun x => x.id == m.id) then s2.plan 64 0 .migrationCopyDone s.subj else s2)
    (match m.copied || m.snap.isSome, s.walk m.page with
      | false, .leaf l size =>
        if m.travels l then go s
        else if !s.pageOk l size m.page then .next (s.parkReq r 2)
        else go (s.copyFrame m.page size l (m.leaf l))
      | _, _ => go s)
  | _, _ => .next s

/-! ## Snapshots (R299) -/

/-- A valid leaf of device memory marked copy-on-write and invalidated in its home die's translation caches: how many pages that marks
(R24, R299). -/
def State.snapPage (s : State) (va : Nat) : State × Nat :=
  match s.leafAt va with
  | none => (s, 0)
  | some (a, _) =>
    let l := s.entryAt a
    if !l.v || !l.lg || !s.leafOk l va || l.hl then (s, 0) else (s.putLeaf va (l.setBit 57 true) false, 1)

/-- SNAP over a range: each page that it enters, once. -/
def State.snapRange (s : State) (va len : Nat) : State × Nat :=
  (List.range (len / smallPage)).foldl (fun (acc : State × Nat) i =>
    let a := va + smallPage * i
    match acc.1.leafAt a with
    | none => acc
    | some (_, z) =>
      if i != 0 && a % z != 0 then acc
      else
        let r := acc.1.snapPage a
        (r.1, acc.2 + r.2)) (s, 0)

/-! ## At the homes -/

/-- REPLAY at the homes: every access of the tenant that is parked is tried again (R296, R355). -/
def State.replayAll (s : State) (r : Req) : State :=
  let t := s.reqTenant r
  let ps := s.parked.filter (fun p => p.tenant == t)
  let s1 := { s with parked := s.parked.filter (fun p => p.tenant != t) }
  let s2 := ps.foldl (fun s p =>
    if p.isJob then (match s.findJob p.id with | none => s | some j => s.resumeJob j 1)
    else (match s.req p.id with | none => s | some q => s.retry q 1)) s1
  s2.sysAnswer r ps.length

/-- An aperture register written; reserved bits are ignored (R28, R298). -/
def Aper.put (a : Aper) (n v : Nat) : Aper :=
  match n with
  | 0 => { a with ctl := BitVec.ofNat 64 v &&& 0xFC00000000FFFFFF#64 }
  | 1 => { a with base := BitVec.ofNat 64 v &&& 0xFFFFFFF000#64 }
  | _ => { a with hdr := BitVec.ofNat 64 v &&& 0xFFFFFFFFFE#64 }

/-- Earlier stores of a core to the control window that are not performed (R350). -/
def State.windowStores (s : State) (r : Req) : Bool :=
  s.reqs.any (fun q => q.core == r.core && q.isStore && decide (q.id < r.id) &&
    (match placeOf q.core q.va with | .control _ => true | _ => false))

/-- Does a fetch of a block stand out for a core (R118)? -/
def State.fetching (s : State) (k block : Nat) : Bool :=
  s.reqs.any (fun r => r.op == .fetch && r.core / 8 == k / 8 && r.va / 32 == block) ||
  s.agenda.any (fun x => x.what == .icacheFill && x.who.a / 8 == k / 8 && x.who.b == block)

/-- A context whose PC the supervisor has put elsewhere than at the fetch or the gang instruction that it slept on issues the instruction
there (R350). -/
def State.movedWaits (s : State) (k : Nat) : State :=
  (List.range 11).foldl (fun s t =>
    let x := s.ctxAt k t
    let moved := match x.wait with
      | .fetch => !(match s.skipPad k x.pc.toNat padFuel with | (none, pc) => s.fetching k (pc / 32) | _ => false)
      | .gang => (s.cluster (k / 8)).gang.any (fun m => m.core == k && m.ctx == t && m.pc != x.pc)
      | _ => false
    if moved then s.onCtx k t (fun x => { x with wait := .none }) else s) s

/-- RESUME performed (R298, R350): a core whose packet still waits for room in the queue stays frozen meanwhile (R345). -/
def State.resumeStep (s : State) (r : Req) : State :=
  if s.windowStores r then s.plan 1 0 .homeAccess { a := r.id }
  else if !(s.core r.va).frozen then s.sysAnswer r 1
  else if (s.core r.va).packet.isSome then s.plan 1 0 .homeAccess { a := r.id }
  else (((s.movedWaits r.va).resumeCore r.va).joinGang (r.va / 8)).sysAnswer r 0

/-- FLUSHCODE waits for its launch to stop, or to end (R296). -/
def State.flushStep (s : State) (r : Req) : State :=
  match s.launch r.cmp.toNat with
  | none => s.sysAnswer r 1
  | some l =>
    if l.flush.contains r.id then s.plan 64 0 .homeAccess { a := r.id }
    else if l.tenant != s.launchTenant r.launch || r.away then s.sysAnswer r 1
    else ((s.onLaunch r.cmp.toNat (fun l => { l with flush := l.flush ++ [r.id] })).onReq r.id (fun q => { q with away := true })).plan
      64 0 .homeAccess { a := r.id }

/-- A system instruction where it is performed. -/
def State.sysStep (s : State) (r : Req) (n : Nat) : State :=
  match n with
  | 0 => if s.outstanding r.core r.id then s.plan 1 0 .homeAccess { a := r.id } else s.replayAll r
  | 1 => s.resumeStep r
  | 2 =>
    ({ s with apers := s.apers.put r.va ((s.apers.get r.va default).put r.cmp.toNat r.data.toNat) }).sysAnswer r 0
  | 3 => let x := s.snapRange r.va r.data.toNat; x.1.sysAnswer r x.2
  | 4 => (s.flushLeaf r.va).sysAnswer r 0
  | 5 => if r.away then s.moveResume r else s.startMove r
  | 7 => s.moveResume r
  | _ => s.flushStep r

/-- HOME_ACCESS (R37). -/
def execHomeAccess (s : State) : Host.Outcome State Fault Refusal :=
  match s.req s.subj.a with
  | none => .next s
  | some r =>
    match r.op with
    | .sys n => .next (s.sysStep r n)
    | _ =>
    if r.away then .next s
    else match placeOf r.core r.va with
    | .own _ => .next (s.localAccess r r.core)
    | .bank b _ => .next (s.localAccess r b)
    | .event q o =>
      .next (if s.blocked r then s.retry r 1 else if r.isLoad then (s.dropReq r.id).windowLoad r 0 else s.windowStore r true q o)
    | .control o =>
      .next (if s.blocked r then s.retry r 1 else if r.isLoad then (s.dropReq r.id).windowLoad r 0 else s.windowStore r false 0 o)
    | .global => .next (s.homeGlobal r)
    | _ => .next (s.dropReq r.id)

/-- The staging page that a host read used, freed once its answer is here; an error keeps it until the host answers (R356). -/
def State.unstaged (s : State) (id : Nat) : State :=
  match s.req id with
  | some r => s.unstage (s.reqTenant r) (r.va / 65536)
  | none => match s.findJob id with
    | none => s
    | some j => match j.away with | none => s | some a => s.unstage (s.launchTenant j.launch) (a / 65536)

/-- The words of a read line that answer a peer's access, labels on their way out (R389, R391). -/
def State.pickWords (s : State) (r : Req) (n : Nat) (a : RemoteAccess) (e : TEntry) (ws : List LWord) :
    List (Word × List Dword × Handle) :=
  (List.range (max 1 (a.width / 4))).map (fun i =>
    let w := ws.getD ((r.va + 4 * i) / 4 % 16) (0#32, hTrue)
    let l := s.outOf (s.linkDomain n) n (s.readHandle (s.linkDomain n) (some e) w.2)
    (w.1, l.1, l.2))

/-- HOST_READ_RESPONSE: a line of a host page with the handles of its companion (R33, R381): kept by the slice where the device owns the
page and the slice does not hold it yet, else only delivered; an error parks the access with KIND 5 (R351). -/
def execHostReadResponse (id : Nat) (ok : Bool) (words : List Word) (s0 : State) : Host.Outcome State Fault Refusal :=
  let s := if ok then s0.unstaged id else s0
  match s.req id with
  | some r =>
    if r.op = .sys 5 || r.op = .sys 7 then .next (s.moveLine r ok words)
    else if !ok then .next (s.parkReq r 5)
    else match s.cachedLeaf r.va with
    | none => .next (s.retry r 0)
    | some e =>
      if !s.lineOk e.leaf e.size r.va then .next (s.parkReq r 2) else
      let ws : List LWord := (words.zipIdx).map (fun p => (p.1, s.storedLabel e.leaf e.size (r.va / 64 * 64 + 4 * p.2)))
      if r.op = .watch then .next ((s.watched r words).plan (64 + s.freeN 1 % 64) 0 .homeAccess { a := id })
      else if r.op = .fetch && !e.leaf.owned then
        .next ((s.onReq id (fun q => { q with words := ws, away := true })).plan (homePath r.core r.va) 0 .icacheFill
          { a := r.core, b := r.va / 32, c := id })
      else if e.leaf.owned then
        .next ((if (s.line (r.va / 64)).isSome then s
          else s.addLine { line := r.va / 64, words := ws, dirty := false, used := s.now, corrupt := false }).retry r 0)
      else match r.op with
        | .peer n a => .next ((s.dropReq id).answerPeer n true (s.pickWords r n a e ws))
        | .probe => .next (s.onReq id (fun q => { q with words := ws, away := true }))
        | _ => .next (s.lineRead r (some e) ws false (homePath r.core r.va))
  | none =>
    let give : Job → Job := fun j =>
      match j.away with
      | none => j
      | some a =>
        let lbl (va : Nat) : Handle :=
          match s.pageOf va with
          | some e => s.readHandle (s.jobDomain j) (some e) (s.storedLabel e.leaf e.size va)
          | none => hTrue
        { j with
          away := none
          got := if ok then j.got ++ (words.zipIdx).map (fun p => (a / 64 * 16 + p.2, (p.1, lbl (a / 64 * 64 + 4 * p.2)))) else [] }
    let served : Bool := match (s.findJob id).bind (·.away) with
      | none => true
      | some a => (match s.pageOf a with | none => true | some e => s.lineOk e.leaf e.size a)
    .next (if ok && !served then s.onJob id (fun j => { j with got := [] }) false 2 else s.onJob id give ok 5)


/-! ## The instructions -/

/-- A system instruction sent to where it is performed; its result carries the ambient label (R293). -/
def State.sendSys (s : State) (k : Ctl) (kind va : Nat) (data cmp : Dword) (d : BitVec 5) (hs : List Handle) (n : Nat) : Eff :=
  match (s.countVoids [plainIn hs]).formWith [] with
  | none => .stall
  | some (s1, h) =>
    let r : Req := { s1.mkReq (.sys kind) va 8 with data := data, cmp := cmp, lbl := h, dst := .s d true, seq := s1.nextId }
    let s2 := s1.await (tagOf k) 1 1 [] none false [.s d]
    .go { s2.plan n 0 .homeAccess { a := r.id } with reqs := s2.reqs ++ [r] }

/-- A system instruction performed at issue: its result carries the ambient label (R293). -/
def State.sysNow (s : State) (k : Ctl) (d : BitVec 5) (v : Nat) (hs : List Handle) (least : Nat) (f : State → State) : Eff :=
  match (s.countVoids [plainIn hs]).formWith [] with
  | none => .stall
  | some (s1, h) =>
    .go (f (s1.produceIn (tagOf k) least (least + s.freeN 0 % 64) [.s d (BitVec.ofNat 64 v) h] 0 false [.s d]))

/-- The tenant of the issuing core. -/
def State.myTenant (s : State) : Nat := s.tenantOf s.curCore

/-- The offset in local memory of an operand address aligned to `n`, or the fault (R295, R346). -/
def State.localOperand (s : State) (va n : Nat) : Nat ⊕ Eff :=
  match placeOf s.curCore va with
  | .own o => if va % n != 0 then .inr (.fault cAlign (BitVec.ofNat 64 va)) else .inl o
  | _ => .inr (.fault cMisplaced (BitVec.ofNat 64 va))

/-- PLBSET (R293 to R295): it does not issue while an earlier access of its core to cluster memory is held back (R303, R309). -/
def execPlbset (k : Ctl) (d a b : BitVec 5) (s : State) : Host.Outcome State Fault Refusal :=
  issue (.plbset k d a b) s (fun s =>
    let x := s.srcS a
    let y := s.srcS b
    let ln := x.1.toNat % 2 ^ 32
    if 2 ^ 36 ≤ x.1.toNat then .fault cIllegal 0#64
    else if !(match s.launch ln with | none => false | some l => l.tenant == s.myTenant) then .fault cRights 0#64
    else match s.localOperand y.1.toNat 16 with
    | .inr e => e
    | .inl o =>
      if s.localHeld s.curCore then .stall
      else
      let w (i : Nat) : Nat := leNat (Sparse.bytes s.here.lmem (o + 8 * i) 8)
      match plbOf (w 0) (w 1) with
      | none => .fault cIllegal 0#64
      | some p => s.sysNow k d 0 [x.2, y.2] 1 (fun s => s.setPlb ln (bits x.1.toNat 35 32) p))

/-- REPLAY: a release; it retries what is parked when it reaches the homes (R296, R355). -/
def execReplay (k : Ctl) (d : BitVec 5) (s : State) : Host.Outcome State Fault Refusal :=
  issue (.replay k d) s (fun s => s.release.sendSys k 0 0 0#64 0#64 d [] (2 + s.freeN 1 % 64))

/-- The launch number in a LAUNCH_ID operand: ILLEGAL for a set bit above it, RIGHTS for another tenant (R293, R294). -/
def State.launchOperand (s : State) (v : Dword) : Nat ⊕ Eff :=
  if 2 ^ 37 ≤ v.toNat then .inr (.fault cIllegal 0#64)
  else if v.toNat / 2 ^ 32 != s.myTenant then .inr (.fault cRights 0#64)
  else match s.launch (v.toNat % 2 ^ 32) with
  | none => .inl (v.toNat % 2 ^ 32)
  | some l => if l.tenant = s.myTenant then .inl (v.toNat % 2 ^ 32) else .inr (.fault cRights 0#64)

/-- FLUSHCODE (R296). -/
def execFlushcode (k : Ctl) (d a : BitVec 5) (s : State) : Host.Outcome State Fault Refusal :=
  issue (.flushcode k d a) s (fun s =>
    let x := s.srcS a
    match s.launchOperand x.1 with
    | .inr e => e
    | .inl n => s.sendSys k 6 0 0#64 (BitVec.ofNat 64 n) d [x.2] (1 + s.freeN 1 % 64))

/-- IDLE (R296). -/
def execIdle (k : Ctl) (s : State) : Host.Outcome State Fault Refusal :=
  issue (.idle k) s (fun s => if (s.tenant s.myTenant).packets.isEmpty then .sleep s .idle else .go s)

/-- The words of a packet (R297). -/
def Packet.words (p : Packet) : List Dword := [p.core, p.launch, p.pc, p.addr, p.info, p.gen, 0#64, 0#64]

/-- FPKT: the packet's words land at the end of the cycle, before the tag frees (R45, R296, R346); it does not issue while an earlier
access of its core to cluster memory is held back (R303, R309). -/
def execFpkt (k : Ctl) (d a : BitVec 5) (s : State) : Host.Outcome State Fault Refusal :=
  issue (.fpkt k d a) s (fun s =>
    let x := s.srcS a
    match s.localOperand x.1.toNat 64 with
    | .inr e => e
    | .inl _ =>
      if s.localHeld s.curCore then .stall
      else match (s.tenant s.myTenant).packets with
      | [] => s.sysNow k d 0 [x.2] 2 id
      | p :: rest =>
        let rs : List (Nat × Req) := (p.words.zipIdx).map (fun w =>
          (0, { s.mkReq .store (x.1.toNat + 8 * w.2) 8 with data := w.1 }))
        s.sysNow k d 1 [x.2] 2 (fun s =>
          { s.onTenant s.myTenant (fun t => { t with packets := rest }) with late := s.late ++ rs }))

/-- RESUME (R293, R294, R298, R350). -/
def execResume (k : Ctl) (d a : BitVec 5) (s : State) : Host.Outcome State Fault Refusal :=
  issue (.resume k d a) s (fun s =>
    let x := s.srcS a
    let q := coreOfId x.1.toNat
    if 2 ^ 26 ≤ x.1.toNat then .fault cIllegal 0#64
    else if !s.ownedBy q s.myTenant || coreId q != x.1.toNat then .fault cRights 0#64
    else s.sendSys k 1 q 0#64 0#64 d [x.2] (1 + pathCost (coreX s.curCore) (coreY s.curCore) (coreX q) (coreY q)))

/-- KILL (R293, R298, R333). -/
def execKill (k : Ctl) (d a : BitVec 5) (s : State) : Host.Outcome State Fault Refusal :=
  issue (.kill k d a) s (fun s =>
    let x := s.srcS a
    match s.launchOperand x.1 with
    | .inr e => e
    | .inl n =>
      s.sysNow k d (if (s.launch n).isSome then 0 else 1) [x.2] 1 (fun s => s.endNow n 0 4))

/-- QPRIO (R293, R298, R321). -/
def execQprio (k : Ctl) (a b : BitVec 5) (s : State) : Host.Outcome State Fault Refusal :=
  issue (.qprio k a b) s (fun s =>
    let x := s.srcS a
    let y := s.srcS b
    if 64 ≤ x.1.toNat || decide (8 ≤ y.1.toNat) then .fault cIllegal 0#64
    else
      .go (((s.countVoids [plainIn [x.2, y.2]]).onTenant s.myTenant (fun t => t.onQueue x.1.toNat (fun q =>
        { q with cfg := (q.cfg &&& ~~~0x700#64) ||| (y.1 <<< 8) }))).tagOnly k 1))

/-- The tenant that owns an aperture (R294, R375). -/
def State.aperTenant (s : State) (i : Nat) : Option Nat :=
  let b := (s.aperOwner.get i 0#8).toNat
  if bitAt b 7 then some (b % 32) else none

/-- APERSET (R28, R293, R294, R298). -/
def execAperset (k : Ctl) (d a b : BitVec 5) (s : State) : Host.Outcome State Fault Refusal :=
  issue (.aperset k d a b) s (fun s =>
    let x := s.srcS a
    let y := s.srcS b
    let v := x.1.toNat
    let i := v % 64 * 16 + bits v 11 8
    if 2 ^ 14 ≤ v || bits v 7 6 != 0 || bits v 13 12 == 3 then .fault cIllegal 0#64
    else if 48 ≤ v % 64 || s.aperTenant i != some s.myTenant then .fault cRights 0#64
    else s.sendSys k 2 i y.1 (BitVec.ofNat 64 (bits v 13 12)) d [x.2, y.2] (1 + s.freeN 1 % 64))

/-- SNAP (R294, R299). -/
def execSnap (k : Ctl) (d a b : BitVec 5) (s : State) : Host.Outcome State Fault Refusal :=
  issue (.snap k d a b) s (fun s =>
    let x := s.srcS a
    let y := s.srcS b
    if x.1.toNat % smallPage != 0 || y.1.toNat % smallPage != 0 then .fault cAlign x.1
    else if y.1 != 0#64 && !s.leased s.myTenant x.1.toNat y.1.toNat then .fault cRights x.1
    else s.sendSys k 3 x.1.toNat y.1 0#64 d [x.2, y.2] (1 + s.freeN 1 % 64))

/-- MIGRATE move (R294, R299). -/
def execMigrateMove (k : Ctl) (d a b : BitVec 5) (s : State) : Host.Outcome State Fault Refusal :=
  issue (.migrateMove k d a b) s (fun s =>
    let x := s.srcS a
    let y := s.srcS b
    if !isGlobal x.1.toNat || !s.leased s.myTenant x.1.toNat 1 then .fault cRights x.1
    else s.sendSys k 5 x.1.toNat y.1 0#64 d [x.2, y.2] (1 + homePath s.curCore x.1.toNat))

/-- MIGRATE flush (R27, R294, R299). -/
def execMigrateFlush (k : Ctl) (d a : BitVec 5) (s : State) : Host.Outcome State Fault Refusal :=
  issue (.migrateFlush k d a) s (fun s =>
    let x := s.srcS a
    if !isGlobal x.1.toNat || !s.leased s.myTenant x.1.toNat 1 then .fault cRights x.1
    else s.sendSys k 4 x.1.toNat 0#64 0#64 d [x.2] (1 + homePath s.curCore x.1.toNat))

end Sys2Proof.Machine
end

