-- ==== Sys2Proof/Machine/EventsCore.lean ====
section
/-! DEFINITION. Sys2Proof/Machine/EventsCore.lean: the steps of a core that no instruction takes: fetch blocks and register lines that
arrive (R110, R117, R118), results that land (R114, R115), gaps (R113), helpers and HALT (R179, R180), fault reports and packets
(R342 to R345), encodings that are no instruction (R137), and uncorrectable errors (R19, R363). -/

namespace Sys2Proof.Machine

/-- Is an instruction one that runs only outside a core? An encoding that is no instruction raises ILLEGAL (R137, R138). -/
def execUnassignedEncoding (_ : BitVec 128) (s : State) : Host.Outcome State Fault Refusal :=
  if !s.me.live then .fault .noContext
  else .next (s.takeFault s.curCore s.curCtx cIllegal s.me.pc 0#64 s.me.pc)

/-- A block put into a cluster's instruction cache: 1,024 blocks, the oldest leaving first (R117; entry 24). -/
def Cluster.fill (c : Cluster) (b : IBlock) : Cluster :=
  let l := c.icache.filter (fun x => x.block != b.block) ++ [b]
  { c with icache := l.drop (l.length - 1024) }

/-- The clusters that a fill serves: those of the same launch on the die with a context that waits for the block (R118). -/
def State.fillClusters (s : State) (k block : Nat) : List Nat :=
  match s.launchOf k with
  | none => []
  | some l =>
    let die := dieAt (coreX k) (coreY k)
    (l.here.map l.cluster).filter (fun q =>
      dieAt (q % 256) (q / 256) == die && (List.range 8).any (fun c => !(s.fetchers (q * 8 + c) block).isEmpty))

/-- A block delivered to the clusters that wait for it, their contexts ready (R118). -/
def State.deliverBlock (s : State) (k : Nat) (b : IBlock) : State :=
  (s.fillClusters k b.block).foldl (fun s q =>
    let waiting := (List.range 8).flatMap (fun c => (s.fetchers (q * 8 + c) b.block).map (fun t => (q * 8 + c, t)))
    let s1 := s.onCluster q (fun c => c.fill b)
    waiting.foldl (fun s p => s.onCtx p.1 p.2 (fun x => { x with wait := .none })) s1) s

/-- ICACHE_FILL: the X right is checked at the fill (R118, R190); a block that was not read, since its range had no X then, is read now. -/
def execIcacheFill (s : State) : Host.Outcome State Fault Refusal :=
  let u := s.subj
  let va := u.b * 32
  match s.fetchers u.a u.b with
  | [] => .next (s.dropReq u.c)
  | t :: _ =>
    let s0 := s.dropReq u.c
    let pc := (s.ctxAt u.a t).pc
    match (s.core u.a).range va with
    | none => .next (s0.outOfLease (((s.core u.a).launch).getD 0) u.a t pc pc)
    | some p =>
      if !p.x then .next (s0.fetchFail u.a u.b cCode)
      else match s.req u.c with
      | none => .next (if isGlobal va then s0.startFetch u.a t pc.toNat else s0.fetchFail u.a u.b cCode)
      | some r =>
        let i := u.b % 2 * 8
        .next (s0.deliverBlock u.a { block := u.b, words := (List.range 8).map (fun n => (r.words.getD (i + n) (0#32, hTrue)).1) })

/-- REGISTER_CACHE_FILL: the line is present; the context goes on when no other line of it is under way (R110). -/
def execRegisterCacheFill (core ctx : Nat) (reg : RegRef) (s : State) : Host.Outcome State Fault Refusal :=
  let s1 := s.onCore core (fun c => c.install ctx reg)
  let more := s.agenda.any (fun x => match x.what with | .registerCacheFill k t _ => k == core && t == ctx | _ => false)
  .next (if more then s1 else s1.onCtx core ctx (fun x => if x.wait = .regMiss then { x with wait := .none } else x))

/-- RESULT_LANDING (R115). -/
def execResultLanding (s : State) : Host.Outcome State Fault Refusal := .next (s.land s.subj.a s.subj.b)

/-- TAG_FREE: the last write of a tagged producer lands, and its tag is free (R114, R229); a VQLD whose labels need slots that are busy
waits for them (R93). -/
def execTagFree (s : State) : Host.Outcome State Fault Refusal :=
  .next (match s.finishVq s.subj.a s.subj.b with
    | some s1 => s1.land s.subj.a s.subj.b
    | none => s.plan 1 0 .tagFree s.subj)

/-- GAP_EXPIRY (R113). -/
def execGapExpiry (s : State) : Host.Outcome State Fault Refusal :=
  .next (s.onCtx s.subj.a s.subj.b (fun x => if x.gapUntil ≤ s.now then { x with gapUntil := 0 } else x))

/-- A helper that has stopped: its registers are discarded, its sluice timeline is kept (R178, R179). -/
def Ctx.stopped (x : Ctx) : Ctx := { Ctx.zero with jobLast := x.jobLast, timeline := x.timeline }

/-- HELPER_RETIRE: polled until no tag is busy and no slot holds a label of the helper; HJOIN and HALT sleepers are told
(R179, R180). -/
def execHelperRetire (s : State) : Host.Outcome State Fault Refusal :=
  let k := s.subj.a
  let t := s.subj.b
  let x := s.ctxAt k t
  if !(x.live && x.ending) then .next s
  else if x.tags != 0#8 || s.pendingLabels k t then .next (s.plan 1 0 .helperRetire s.subj)
  else
    let s1 := s.onCore k (fun c =>
      { c.setCtx t x.stopped with pend := c.pend.filter (fun p => p.ctx != t), regCache := c.regCache.filter (fun p => p.1 != t) })
    let s2 := (List.range 11).foldl (fun s u => if (s.ctxAt k u).wait = .hjoin t then s.onCtx k u Ctx.woken else s) s1
    .next (if (s2.ctxAt k 0).wait = .halt && (s2.core k).noHelper then s2.plan 0 0 .haltWake { a := k } else s2)

/-- HALT_WAKE: the control context ends (R180). -/
def execHaltWake (s : State) : Host.Outcome State Fault Refusal :=
  let k := s.subj.a
  .next (if (s.ctxAt k 0).wait = .halt && (s.core k).noHelper && !(s.core k).frozen then s.haltCore k else s)

/-- FAULT_REPORT: a core that is not frozen takes its first held report (R342, R344). A report that comes while its launch is being
pre-empted is taken when the launch is restored (R200). -/
def execFaultReport (s : State) : Host.Outcome State Fault Refusal :=
  let k := s.subj.a
  .next (if (s.core k).frozen || (s.launchOf k).any (fun l => l.state != .bound) then s
    else match (s.core k).held with
    | [] => s
    | r :: rest => (s.onCore k (fun c => { c with held := rest })).takeReport k r)

/-- FAULT_PACKET_OFFER (R345): of a frozen core's packet, or of those that no frozen core keeps. -/
def execFaultPacketOffer (s : State) : Host.Outcome State Fault Refusal :=
  .next (if s.subj.b = 0 then s.offer s.subj.a else s.reoffer (s.subj.b - 1))

/-- A latched operand word of a member with VOID.POISON as its label (R363). -/
def Member.spoil (m : Member) (isB : Bool) (r i : Nat) : Member :=
  let f : List VReg → List VReg := fun vs => vs.modify r (fun v => v.setLane i (v.lane i).1 hPoison)
  if isB then { m with vb := f m.vb } else { m with va := f m.va }

/-- UNCORRECTABLE_ERROR: the affected words read as VOID.POISON; the bits stay (R19, R363). -/
def execUncorrectableError (site : ErrSite) (s : State) : Host.Outcome State Fault Refusal :=
  .next (match site with
    | .sector n => if s.ecc.contains n then s else { s with ecc := s.ecc ++ [n] }
    | .reg k t (.s r) => if (s.ctxAt k t).live then s.onCtx k t (fun x => x.setS r (x.sreg r).1 hPoison) else s
    | .reg k t (.v r) =>
      if (s.ctxAt k t).live then s.onCtx k t (fun x => x.onV r (fun v => { v with labels := Vector.replicate 16 hPoison })) else s
    | .local k w => s.onCore k (fun c => { c with lplane := Sparse.put c.lplane (w % 6144) hPoison })
    | .operand q n c isB r i => s.onMat q n (fun o =>
        if !o.begun || o.colsDone then o
        else { o with members := (o.members.zipIdx).map (fun p => if p.2 = c then p.1.spoil isB r i else p.1) })
    | .acc q b i j => s.onCluster q (fun c => c.setAcc b i j (c.acc b i j).1 hPoison))

end Sys2Proof.Machine
end

