-- ==== Sys2Proof/Machine/EventsLaunch.lean ====
section
/-! DEFINITION. Sys2Proof/Machine/EventsLaunch.lean: weir arrivals and releases (R121, R259 to R264, R341), the distributor, records
and binding (R321 to R330), LEASE requests (R292, R341), and the end of a launch (R331). -/

namespace Sys2Proof.Machine

/-! ## Weirs -/

/-- WEIR_ARRIVAL_COUNTED (R261, R263): once the core's earlier stores are performed; a frozen core makes no arrival (R342). A WEIR whose
wait was interrupted before it was counted arrives when it issues again (R264). -/
def execWeirArrivalCounted (s : State) : Host.Outcome State Fault Refusal :=
  let u := s.subj
  let ln := u.e / 2
  if (s.core u.a).launch != some ln then .next s
  else if (s.core u.a).frozen || s.outstanding u.a u.d then .next (s.plan 1 2 .weirArrivalCounted u)
  else if u.f = 0 then .next (s.countArrival u.a ln u.b u.c (u.e % 2 == 1))
  else
    let t := u.f - 1
    let x := s.ctxAt u.a t
    if x.arriving == some u.b && x.wait == .weir u.b then
      .next ((s.onCtx u.a t (fun x =>
        { x with ap := true, weirN := BitVec.ofNat 4 u.b, arriving := none })).countArrival u.a ln u.b u.c false)
    else .next s

/-- A context at the release of weir `n` (R262 to R264): a sleeper wakes and is ready from the next cycle; an interrupted wait is
completed where it will resume. -/
def Ctx.release (x : Ctx) (n now : Nat) : Ctx :=
  if x.wait = .weir n && x.arriving != some n then { x.woken with ap := false, stalled := now + 1 }
  else if x.waitWeir = some n then
    if x.sr && some x.srLink == x.waitPc then { x with srLink := x.srLink + 8#64, ap := false, waitPc := none, waitWeir := none }
    else if !x.sr && some x.pc == x.waitPc then { x with pc := x.pc + 8#64, ap := false, waitPc := none, waitWeir := none }
    else x
  else x

/-- The phase of a core after a release (R121, R123). -/
def Core.newPhase (c : Core) (now : Nat) : Core :=
  { c with
    pk := !c.pk && c.arm, arm := if c.pk then c.arm else false, phaseStart := now,
    flumes := c.flumes.map (fun f => { f with sent := 0 }) }

/-- A release delivered to a member core that has not withdrawn; one that has left with its holding receives none, whichever launch its
cluster has gone to (R262, R291). -/
def State.releaseCore (s : State) (ln n k : Nat) : State :=
  if (s.core k).launch != some ln || (s.core k).gone.getLsbD n then s
  else
    let s1 := s.onCore k (fun c => { (c.newPhase s.now) with arr := c.arr &&& ~~~(1#16 <<< n) })
    let s2 := (s1.acquire k).takeView k true
    s2.onCore k (fun c => { c with ctxs := c.ctxs.map (fun x => x.release n s.now) })

/-- A core of a launch as it starts: its protection ranges, flumes, slot table and domain view, and with `run` its control context at
ENTRY (R106, R120, R123, R329). -/
def State.startCore (s : State) (l : Launch) (h c : Nat) (run : Bool) : State :=
  let k := l.cluster h * 8 + c
  let view : View := match l.domain with | none => View.zero | some n => s.homeView n
  let rt := (l.routes.find? (fun r => r.1 == h * 8 + c)).map (·.2)
  let x : Ctx := if run then { (Ctx.zero.start (BitVec.ofNat 64 (l.word 0)) hTrue view.era) with stalled := s.now + 1 } else Ctx.zero
  let core : Core :=
    { (Core.zero.setCtx 0 x) with
      regOld := (s.core k).regOld,
      launch := some l.number, holding := h, plb := (List.range 16).foldl (fun v i => vset v i (l.leases.getD i Plb.empty)) Core.zero.plb,
      flumes := ((rt.map (·.1)).getD []).map (fun f => if run then { f with sent := 0 } else f), slotTab := (rt.map (·.2)).getD [], view := view, viewStamp := s.now, phaseStart := s.now }
  s.setCore k (if run then core.installAll 0 else core)

/-- A holding's cores and cluster as they start (R106, R265, R329). -/
def State.startHolding (s : State) (ln h : Nat) : State :=
  match s.launch ln with
  | none => s
  | some l => (List.range 8).foldl (fun s c => s.startCore l h c true) (s.scrubCluster (l.cluster h))

/-- Does a holding stand in the rotation group (R126)? -/
def Launch.rotates (l : Launch) (h : Nat) : Bool := (l.neighbour (l.cluster h) 0 0).isSome

/-- The holding-map update at a weir-0 completion: released holdings leave, granted ones join and start (R244, R341). -/
def State.mapUpdate (s : State) (ln : Nat) : State :=
  match s.launch ln with
  | none => s
  | some l =>
    let hs := List.range l.holdings.length
    let left := hs.filter (fun h => (l.holding h).departing && !(l.holding h).present)
    let new := hs.filter (fun h => (l.holding h).granted && !(l.holding h).present)
    if left.isEmpty && new.isEmpty then s
    else
      let s1 := s.onLaunch ln (fun l =>
        { l with
          version := l.version + 1, rotLost := l.rotLost || left.any l.rotates,
          holdings := (l.holdings.zipIdx).map (fun p =>
            if left.contains p.2 then { p.1 with departing := false }
            else if new.contains p.2 then
              { p.1 with present := true, granted := false, departing := false, refusals := 0, recalls := [], serving := none,
                         finish := none, summarised := false }
            else p.1) })
      new.foldl (fun s h => s.startHolding ln h) s1

/-- FINISH obligations at a weir-0 completion (R338). -/
def State.finishTick (s : State) (ln : Nat) : State :=
  match s.launch ln with
  | none => s
  | some l =>
    l.here.foldl (fun s h =>
      match (l.holding h).finish with
      | none => s
      | some n =>
        if (l.holding h).departing then s
        else if n ≤ 1 then (s.onHolding ln h (fun x => { x with finish := none })).plan 0 0 .finishDeadline { a := ln, b := h }
        else s.onHolding ln h (fun x => { x with finish := some (n - 1) })) s

/-- WEIR_RELEASE (R18, R121, R262, R341): delivered to every member in this cycle. -/
def execWeirRelease (s : State) : Host.Outcome State Fault Refusal :=
  let ln := s.subj.a
  let n := s.subj.b
  match s.launch ln with
  | none => .next s
  | some l =>
    if (l.weir n).due != s.now || !s.weirMet l n then .next s
    else
      let s1 := s.onLaunch ln (fun l => l.onWeir n (fun w => { w with due := 0 }))
      let s2 := (l.members n).foldl (fun s k => s.releaseCore ln n k) s1
      let s3 := if n = 0 then ((s2.finishTick ln).mapUpdate ln).flushStop ln else s2
      .next (s3.weirCheck ln n)

/-! ## Clusters -/

/-- The launch that holds a cluster, with the holding's index. -/
def State.holderOf (s : State) (q : Nat) : Option (Nat × Nat) :=
  s.launches.findSome? (fun p =>
    (p.2.indexOf q).bind (fun h =>
      if ((p.2.holding h).present && p.2.state != .preempted) || (p.2.holding h).granted then some (p.1, h) else none))

/-- Is a cluster held for the selection of a queue other than (t, q) (R330)? -/
def State.reserved (s : State) (t q c : Nat) : Bool :=
  s.tenants.any (fun x => x.2.queues.any (fun y =>
    !(x.1 == t && y.1 == q) && (match y.2.selected with | none => false | some z => z.got.contains c)))

/-- Is a cluster free for the selection of queue (t, q)? -/
def State.clusterFree (s : State) (t q c : Nat) : Bool := (s.holderOf c).isNone && !s.reserved t q c

/-- May a holding be recalled for placement at priority `p` (R334, R335)? -/
def Launch.recallable (l : Launch) (h p : Nat) : Bool :=
  let x := l.holding h
  l.state == .bound && l.forced.isEmpty && decide (l.firm ≤ h) && x.present && !x.departing && decide (l.prio < p) &&
  decide (x.recalls.length < 4)

/-- May a cluster be recalled for placement at priority `p`? -/
def State.canRecall (s : State) (c p : Nat) : Bool :=
  match s.holderOf c with
  | none => false
  | some (ln, h) => (match s.launch ln with | none => false | some l => l.recallable h p)

/-- A recall put into the queue of the holding of a cluster, to be delivered (R335). -/
def State.sendRecall (s : State) (c : Nat) (r : Recall) : State :=
  match s.holderOf c with
  | none => s
  | some (ln, h) =>
    (s.onHolding ln h (fun x => { x with recalls := x.recalls ++ [r] })).plan 1 0 .recallDelivery { a := ln, b := h }

/-! ## Records (R322 to R328) -/

/-- The words of a record at an address. -/
def State.readRecord (s : State) (a : Nat) : List Dword := (List.range 32).map (fun i => BitVec.ofNat 64 (s.home64 (a + 8 * i)))

/-- Where a queue's head record lies (R321). -/
def Queue.headAddr (q : Queue) : Nat := q.base.toNat + q.head.toNat % 2 ^ bits q.cfg.toNat 4 0 * 256

/-- A word of a record. -/
def rw (r : List Dword) (i : Nat) : Nat := (r.getD i 0#64).toNat

/-- Width and height of a record's region (R324). -/
def recW (r : List Dword) : Nat := bits (rw r 2) 8 0
def recH (r : List Dword) : Nat := bits (rw r 2) 24 16
/-- FIRM (R324). -/
def recFirm (r : List Dword) : Nat := bits (rw r 2) 48 32
/-- DEFER, SUP, DV (R323). -/
def recDefer (r : List Dword) : Bool := bitAt (rw r 1) 1
def recSup (r : List Dword) : Bool := bitAt (rw r 1) 2
def recDv (r : List Dword) : Bool := bitAt (rw r 1) 3
/-- Addresses and values of the waits in use (R322). -/
def recWaits (r : List Dword) : List (Nat × Nat) :=
  ((List.range 4).map (fun i => (rw r (8 + 2 * i), rw r (9 + 2 * i)))).filter (fun p => p.1 != 0)

/-- A rectangle entry: x, y, width, height, core mask, where V = 1 (R325). -/
def rectOf (v : Nat) : Option (Nat × Nat × Nat × Nat × Nat) :=
  if bitAt v 63 then some (bits v 8 0, bits v 17 9, bits v 26 18, bits v 35 27, bits v 43 36) else none

/-- The words of the weir table (R326). -/
def State.weirWords (s : State) (r : List Dword) : List Nat :=
  if rw r 5 = 0 then [] else (List.range 15).map (fun i => s.home64 (rw r 5 + 8 * i))

/-- The lease ranges of a record: none for an entry that R295 refuses. -/
def State.leaseEntries (s : State) (r : List Dword) : List (Option Plb) :=
  (List.range (bits (rw r 1) 36 32)).map (fun i => plbOf (s.home64 (rw r 3 + 16 * i)) (s.home64 (rw r 3 + 16 * i + 8)))

/-- Flume and slot entries of a record's route table (R327). -/
def State.flumeWords (s : State) (r : List Dword) : List Nat :=
  if rw r 4 = 0 then [] else (List.range (bits (s.home64 (rw r 4)) 8 0)).map (fun i => s.home64 (rw r 4 + 8 + 8 * i))
def State.slotWords (s : State) (r : List Dword) : List Nat :=
  if rw r 4 = 0 then []
  else (List.range (bits (s.home64 (rw r 4)) 20 9)).map (fun i =>
    s.home32 (rw r 4 + 8 + 8 * bits (s.home64 (rw r 4)) 8 0 + 4 * i))

/-- A signed field of `n` bits. -/
def signedField (v n : Nat) : Int := if v < 2 ^ (n - 1) then v else (v : Int) - 2 ^ n

/-- The destination holding offset of a flume entry from holding (hx, hy), within a W × H region (R327). -/
def flumeDst (e w h hx hy : Nat) : Option (Nat × Nat) :=
  let x := (hx : Int) + signedField (bits e 25 17) 9
  let y := (hy : Int) + signedField (bits e 35 26) 10
  if 0 ≤ x ∧ x < w ∧ 0 ≤ y ∧ y < h then some (x.toNat, y.toNat) else none

/-- Every send of a route: sending holding and core, destination holding and core, cycle (R123, R327). -/
def State.sends (s : State) (r : List Dword) : List ((Nat × Nat) × (Nat × Nat) × Nat) :=
  let w := recW r
  let h := recH r
  (List.range (w * h)).flatMap (fun i => (List.range 8).flatMap (fun c =>
    (s.slotWords r).filterMap (fun sl =>
      if bitAt (bits sl 31 24) c then
        ((s.flumeWords r).find? (fun e => bitAt (bits e 7 0) c && bits e 12 8 == bits sl 20 16)).bind (fun e =>
          (flumeDst e w h (i % w) (i / w)).map (fun d => ((i, c), (d.2 * w + d.1, bits e 38 36), bits sl 15 0)))
      else none)))

/-- Core numbers of a send for a region at (x, y) of width `w`. -/
def sendAt (x y w : Nat) (p : (Nat × Nat) × (Nat × Nat) × Nat) : Nat × Nat × Nat :=
  let k (d : Nat × Nat) : Nat := coreKey (x + d.1 % w) (y + d.1 / w) d.2
  (k p.1, k p.2.1, p.2.2)

/-- Cycles that a send takes (R17, R123). -/
def sendTime (p : Nat × Nat × Nat) : Nat := 2 + pathCost (coreX p.1) (coreY p.1) (coreX p.2.1) (coreY p.2.1)

/-- Do two sends clash: two deliveries land in one local memory in one cycle, or both use one link in one cycle (R17, R123)? One core sends
once in a cycle, so only different senders clash (R112, R162); a send within its cluster uses no link (R367), and two that are under way at
no common time share none. -/
def sendsClash (p q : Nat × Nat × Nat) : Bool :=
  p.1 != q.1 &&
  ((p.2.1 == q.2.1 && p.2.2 + sendTime p == q.2.2 + sendTime q) ||
   (p.1 / 8 != p.2.1 / 8 && q.1 / 8 != q.2.1 / 8 && decide (p.2.2 ≤ q.2.2 + sendTime q) && decide (q.2.2 ≤ p.2.2 + sendTime p) &&
    Config.linkClash p q))

/-- Do any two sends of a route clash (R123)? -/
def routeClash : List (Nat × Nat × Nat) → Bool
  | [] => false
  | p :: rest => rest.any (sendsClash p) || routeClash rest

/-- Does the route table fail R123 or leave the region, whatever its origin (R327, R328)? A core's slot table holds 256 entries. -/
def State.routeBad (s : State) (r : List Dword) : Bool :=
  if rw r 4 = 0 then false
  else
    let hd := s.home64 (rw r 4)
    if 256 < bits hd 8 0 || decide (2048 < bits hd 20 9) || bits hd 63 21 != 0 then true
    else
      let w := recW r
      let h := recH r
      (List.range 8).any (fun c => decide (256 < ((s.slotWords r).filter (fun e => bitAt (bits e 31 24) c)).length)) ||
      (s.flumeWords r).any (fun e =>
        let depth := bits e 60 54
        depth == 0 || decide (64 < depth) || bits e 53 39 % 64 != 0 || decide (0x6000 < bits e 53 39 + 64 * depth) ||
        (bits e 7 0 != 0 && (List.range (w * h)).any (fun i => (flumeDst e w h (i % w) (i / w)).isNone)))

/-- Does a rectangle leave a W × H region? -/
def rectOut (w h v : Nat) : Bool :=
  match rectOf v with
  | none => false
  | some (x, y, rw', rh, _) => decide (w < x + rw') || decide (h < y + rh)

/-- Fields of a record that are reserved, out of range or not aligned (R328, detail 0x01). -/
def recBad (r : List Dword) : Bool :=
  let ctl := rw r 1
  let sh := rw r 2
  let or_ := rw r 20
  let w := recW r
  let h := recH r
  let b := bits ctl 31 19
  bits ctl 63 37 != 0 || bits ctl 15 14 != 0 || bits sh 63 49 != 0 || bits sh 31 25 != 0 || bits sh 15 9 != 0 ||
  bits or_ 62 20 != 0 || bits or_ 2 0 != 0 || bits (rw r 18) 62 44 != 0 || rw r 21 != 0 || rw r 22 != 0 || rw r 23 != 0 ||
  w == 0 || decide (256 < w) || h == 0 || decide (384 < h) || recFirm r == 0 || decide (w * h < recFirm r) ||
  bits ctl 36 32 == 0 || decide (16 < bits ctl 36 32) || (b != 0 && (decide (b < 16) || decide (4096 < b))) ||
  rw r 0 % 4 != 0 || rw r 3 % 16 != 0 || rw r 4 % 8 != 0 || rw r 5 % 8 != 0 || rw r 6 % 65536 != 0 || rw r 7 % 4 != 0 ||
  (recWaits r).any (fun p => p.1 % 8 != 0) || rw r 16 % 8 != 0

/-- Bytes of a record's context area (R322). -/
def ctxBytes (r : List Dword) : Nat := recW r * recH r * 0x51200

/-- Do the sends of a record's route clash with its region at (x, y)? Where a region stands, die boundaries take their time (R17, R123). -/
def State.clashAt (s : State) (r : List Dword) (x y : Nat) : Bool := routeClash ((s.sends r).map (sendAt x y (max 1 (recW r))))

/-- The refusal detail of a record, if it is refused (R328). The clashes of a route are tested at ORIGIN here; those of a record with no
ORIGIN where it is placed. -/
def State.recordDetail (s : State) (t : Nat) (q : Queue) (r : List Dword) : Option Nat :=
  let w := recW r
  let h := recH r
  let d := bits (rw r 1) 13 4
  let es := s.leaseEntries r
  let ctx := rw r 6
  if recBad r then some 1
  else if recDv r && !(bitAt (s.dirEntry d) 63 && bits (s.dirEntry d) 61 57 == t) then some 2
  else if recSup r && (!bitAt q.cfg.toNat 62 || s.launches.any (fun p => p.2.sup && p.2.tenant == t)) then some 3
  else if es.any Option.isNone then some 4
  else if !(es.any (fun o => match o with
      | none => false
      | some p => p.valid && p.r && p.w && decide (p.base.toNat ≤ ctx / 65536) && decide ((ctx + ctxBytes r - 1) / 65536 ≤ p.last.toNat)))
    then some 5
  else if (s.weirWords r).any (rectOut w h) || rectOut w h (rw r 18) then some 6
  else if s.routeBad r || (bitAt (rw r 20) 63 && s.clashAt r (bits (rw r 20) 19 12) (bits (rw r 20) 11 3)) then some 7
  else if bitAt (rw r 20) 63 && (decide (256 < bits (rw r 20) 19 12 + w) || decide (384 < bits (rw r 20) 11 3 + h)) then some 8
  else none

/-! ## Placement (R330) -/

/-- Clusters that a record's region at (x, y) needs: with DEFER only the firm ones (R329, R330). -/
def recClusters (r : List Dword) (x y : Nat) : List Nat :=
  (List.range (if recDefer r then recFirm r else recW r * recH r)).map (fun i => (y + i / recW r) * 256 + x + i % recW r)

/-- Can the distributor cover a region? -/
def State.coverable (s : State) (t q p : Nat) (r : List Dword) (x y : Nat) : Bool :=
  (recClusters r x y).all (fun c => s.clusterFree t q c || s.canRecall c p)

/-- Leased pages of 64 KiB whose home is die `d` (R330). -/
def leasedOn (ls : List Plb) (d : Nat) : Nat :=
  ls.foldl (fun n p =>
    let lo := max p.base.toNat (d * 2 ^ 34)
    let hi := min (p.last.toNat + 1) ((d + 1) * 2 ^ 34)
    if p.valid then n + (hi - lo) else n) 0

/-- The target die: the largest total of leased bytes, ties to the lower number (R330). -/
def targetDie (ls : List Plb) : Nat :=
  (List.range 48).foldl (fun b d => if leasedOn ls b < leasedOn ls d then d else b) 0

/-- Twice the hops between a region's centre and a die's centre (R330). -/
def centreDist (d x y w h : Nat) : Nat :=
  dist (2 * x + w) (2 * (d % 8 * 32) + 32) + dist (2 * y + h) (2 * (d / 8 * 64) + 64)

/-- Origins at which a region fits the grid, by rows (R330). -/
def origins (w h : Nat) : List (Nat × Nat) :=
  (List.range (385 - h)).flatMap (fun y => (List.range (257 - w)).map (fun x => (x, y)))

/-- Where a record is placed, if it can be (R330). -/
def State.placement (s : State) (t q p : Nat) (r : List Dword) : Option (Nat × Nat) :=
  if bitAt (rw r 20) 63 then
    let x := bits (rw r 20) 19 12
    let y := bits (rw r 20) 11 3
    if s.coverable t q p r x y then some (x, y) else none
  else
    let d := targetDie ((s.leaseEntries r).filterMap (fun o => o))
    let near : Nat × Nat → Nat := fun o => centreDist d o.1 o.2 (recW r) (recH r)
    ((origins (recW r) (recH r)).filter (fun o => s.coverable t q p r o.1 o.2)).foldl
      (fun b o => match b with | none => some o | some c => if near o < near c then some o else some c) none

/-! ## Rounds -/

/-- Effective priority (R330). -/
def Queue.effective (q : Queue) : Nat := min 7 (bits q.cfg.toNat 10 8 + q.skips.toNat / 32)

/-- Is a queue's TAIL out of bounds (R321)? -/
def Queue.broken (q : Queue) : Bool :=
  decide (q.tail.toNat < q.head.toNat) || decide (2 ^ bits q.cfg.toNat 4 0 < q.tail.toNat - q.head.toNat)

/-- The word at a wait's address (R330): of a page of the host, or behind a link, as the last read of it answered; 0 before. -/
def State.waitWord (s : State) (va : Nat) : Nat :=
  if !s.farPage va then s.home64 va
  else match s.reqs.find? (fun r => r.op == .probe && r.va == va && !r.words.isEmpty) with
  | none => 0
  | some r => (r.words.getD (va / 4 % 16) (0#32, hTrue)).1.toNat + (r.words.getD ((va + 4) / 4 % 16) (0#32, hTrue)).1.toNat * 2 ^ 32

/-- Eligibility of a queue (R330). -/
def State.eligible (s : State) (q : Queue) : Bool :=
  bitAt q.cfg.toNat 63 && !q.broken && decide (q.head.toNat < q.tail.toNat) && q.selected.isNone && s.resident q.headAddr &&
  (recWaits (s.readRecord q.headAddr)).all (fun w => decide (w.2 ≤ s.waitWord w.1))

/-- The queues of the module, by tenant and number. -/
def State.allQueues (s : State) : List (Nat × Nat) := s.tenants.flatMap (fun t => t.2.queues.map (fun q => (t.1, q.1)))

/-- A queue by tenant and number. -/
def State.queueAt (s : State) (p : Nat × Nat) : Queue := (s.tenant p.1).queue p.2

/-- The words that pending records wait for in pages of the host or behind a link, by tenant (R330). -/
def State.farWaits (s : State) : List (Nat × Nat) :=
  s.allQueues.flatMap (fun p =>
    let q := s.queueAt p
    if bitAt q.cfg.toNat 63 && decide (q.head.toNat < q.tail.toNat) && q.selected.isNone && s.resident q.headAddr then
      ((recWaits (s.readRecord q.headAddr)).filter (fun w => s.farPage w.1)).map (fun w => (p.1, w.1))
    else [])

/-- Those words are read for the next round, each by one request; answered reads have been looked at (R330; entry 109). -/
def State.probeWaits (s : State) : State :=
  let s1 : State := { s with reqs := s.reqs.filter (fun (r : Req) => !(r.op == .probe && !r.words.isEmpty)) }
  (s1.farWaits.filter (fun w => !s1.reqs.any (fun (r : Req) => r.op == .probe && r.va == w.2))).foldl (fun s w =>
    s.sendOut (s.outsideReq w.1 .probe w.2 8 0#64)) s1

/-- The order of visits: priority, and within one round-robin after the queue that bound last at it (R330). -/
def State.visits (s : State) : List (Nat × Nat) :=
  let qs := s.allQueues.filter (fun p => s.eligible (s.queueAt p))
  (List.range 8).reverse.flatMap (fun e =>
    let mine := qs.filter (fun p => (s.queueAt p).effective == e)
    match s.lastBound.find e with
    | none => mine
    | some b =>
      let later : Nat × Nat → Bool := fun p => decide (b.1 * 64 + b.2 < p.1 * 64 + p.2)
      mine.filter later ++ mine.filter (fun p => !later p))

/-- A record refused: STATUS and DONE are written, HEAD advances (R328, R332). -/
def State.refuseRecord (s : State) (t q : Nat) (r : List Dword) (detail : Nat) : State :=
  (s.onTenant t (fun x => x.onQueue q (fun y => { y with head := y.head + 1#64, skips := 0#64 }))).finishRecord t
    (s.queueAt (t, q)).headAddr r 0 detail 3

/-- A record selected: its free clusters are held for it, the others recalled (R330). -/
def State.select (s : State) (t q p : Nat) (r : List Dword) (x y : Nat) : State :=
  let cs := recClusters r x y
  let free := cs.filter (s.clusterFree t q)
  let taken := cs.filter (fun c => !s.clusterFree t q c)
  let num := s.nextId
  let sel : Select := { num := num, rcd := r, x := x, y := y, prio := p, got := free, want := taken, recalled := [] }
  let s1 := s.bump.onTenant t (fun z => z.onQueue q (fun w => { w with selected := some sel }))
  let s2 := taken.foldl (fun s c => s.sendRecall c { tenant := t, launch := 0, prio := p, kind := 1, queue := q, sel := num }) s1
  s2.plan (1 + s.freeN (t * 64 + q) % 256) 0 .launchBind { a := t, b := q }

/-- A visit of the distributor (R330). -/
def State.visit (s : State) (v : Nat × Nat) : State :=
  let q := s.queueAt v
  let r := s.readRecord q.headAddr
  if !s.eligible q then s
  else match s.recordDetail v.1 q r with
  | some d => s.refuseRecord v.1 v.2 r d
  | none =>
    match s.placement v.1 v.2 q.effective r with
    | none => s.onTenant v.1 (fun x => x.onQueue v.2 Queue.skip)
    | some o => if s.clashAt r o.1 o.2 then s.refuseRecord v.1 v.2 r 7 else s.select v.1 v.2 q.effective r o.1 o.2

/-- Absent positions of a launch, lowest first (R341). -/
def Launch.absent (l : Launch) : List Nat :=
  (List.range l.holdings.length).filter (fun h => let x := l.holding h; !x.present && !x.granted && !x.departing)

/-- May a cluster be recalled by name (R334)? -/
def State.canName (s : State) (l : Launch) (c named : Nat) : Bool :=
  match s.holderOf c with
  | none => false
  | some (m, h) =>
    match s.launch m with
    | none => false
    | some k =>
      let x := k.holding h
      named != 0 && k.id.toNat == named && k.tenant == l.tenant && k.state == .bound && k.forced.isEmpty &&
      decide (k.firm ≤ h) && x.present && !x.departing && decide (x.recalls.length < 4) &&
      (if x.byRecall.isSome then decide (k.prio < l.prio) else decide (k.prio ≤ l.prio))

/-- A LEASE request (R292, R334, R341): free clusters are granted; others are recalled, by name from the launch it prefers. -/
def State.lease (s : State) (ln : Nat) (a : LeaseReq) : State :=
  match s.launch ln with
  | none => s
  | some l =>
    let can : Nat → Bool := fun h =>
      let c := l.cluster h
      s.clusterFree 32 0 c || s.canRecall c l.prio || s.canName l c a.named
    ((l.absent.filter can).take a.count).foldl (fun s h =>
      let c := l.cluster h
      if s.clusterFree 32 0 c then s.onHolding ln h (fun x => { x with granted := true, byRecall := none })
      else if s.canName l c a.named then
        s.sendRecall c { tenant := l.tenant, launch := ln, prio := l.prio, kind := 2, queue := 0, sel := 0 }
      else s.sendRecall c { tenant := l.tenant, launch := ln, prio := l.prio, kind := 1, queue := 0, sel := 0 }) s

/-- The LEASE requests of every launch taken in order (R292). -/
def State.leases (s : State) : State :=
  s.launches.foldl (fun s p =>
    let s1 := s.onLaunch p.1 (fun l => { l with asks := [] })
    if p.2.state = .bound then p.2.asks.foldl (fun s a => s.lease p.1 a) s1 else s) s

/-- DISTRIBUTOR_ROUND (R330): every 64 cycles. -/
def execDistributorRound (s : State) : Host.Outcome State Fault Refusal :=
  if s.fatal then .next s
  else
    let s0 := s.allQueues.foldl (fun s p =>
      if (s.queueAt p).broken then s.onTenant p.1 (fun t => t.onQueue p.2 (fun q => { q with cfg := q.cfg &&& ~~~(1#64 <<< 63) })) else s) s
    let s1 := s0.leases
    .next ((((s1.visits).foldl State.visit s1).probeWaits).plan 64 0 .distributorRound {})

/-! ## Binding (R329) -/

/-- Free save records of a tenant's pool (R360, R377). -/
def State.freeSaves (s : State) (t n : Nat) : List Nat :=
  ((List.range (min (s.tenant t).saveCnt.toNat (n + (s.tenant t).saveUsed.length))).filter (fun r => !(s.tenant t).saveUsed.contains r)).take n

/-- Is every page of a range resident? -/
def State.rangeResident (s : State) (a n : Nat) : Bool :=
  (List.range ((a % 65536 + n + 65535) / 65536)).all (fun i => s.resident (a / 65536 * 65536 + 65536 * i))

/-- Is a page resident on its home die (R330)? A page whose frame lies in another die's memory is not; one of the host or behind a link
counts as it is mapped, since only the host driver can give up such a page, and R381 and R389 say what its accesses do (DESIGN CHOICE;
entry 110). -/
def State.homeResident (s : State) (va : Nat) : Bool :=
  match s.translate va with
  | .park _ => false
  | .leaf l _ => l.hl || l.remote || l.die == homeDie va

/-- The pages of global memory that a record leases (R330). -/
def State.leasedPages (s : State) (r : List Dword) : List Nat :=
  (s.leaseEntries r).flatMap (fun o => match o with
    | none => []
    | some p => if !p.valid then []
      else ((List.range (p.last.toNat + 1 - p.base.toNat)).map (fun i => (p.base.toNat + i) * 65536)).filter isGlobal)

/-- Is every page of the global memory that a record leases resident on its home die (R330)? -/
def State.leasesResident (s : State) (r : List Dword) : Bool := (s.leasedPages r).all s.homeResident

/-- A page with its frame on another die begins to move to a frame of its home die's HBM4E (R330 step 4): which one the manual leaves open, so
that it is a free value; one that R299 would refuse is not taken (entry 110). -/
def State.moveHome (s : State) (t va : Nat) : State :=
  match s.walk va with
  | .park _ => s
  | .leaf l size =>
    let base := va / size * size
    let frame := homeDie va * 2 ^ 42 + s.freeN 7 % (Config.hbmSize / size) * size
    let r := s.outsideReq t (.sys 7) base 0 (BitVec.ofNat 64 frame)
    let m : Move := { id := r.id, tenant := t, page := base, frame := frame, snap := none, copied := false }
    if !s.mayMove r l size then s
    else (({ s.bump with reqs := s.reqs ++ [{ r with away := true }] }).putLeaf base (l.setBit 58 true) true).beginMove
      { r with away := true } l size m

/-- The next of a record's pages that are not on their home die moves there (R330). -/
def State.bringHome (s : State) (t : Nat) (r : List Dword) : State :=
  match (s.leasedPages r).find? (fun va => s.resident va && !s.homeResident va) with
  | none => s
  | some va => s.moveHome t va

/-- Flumes and slot tables of every core of a region (R123, R327). -/
def State.routesOf (s : State) (r : List Dword) (x y : Nat) : List (Nat × List Flume × List (Nat × Nat)) :=
  let w := recW r
  let h := recH r
  if rw r 4 = 0 then []
  else (List.range (w * h)).flatMap (fun i => (List.range 8).map (fun c =>
    (i * 8 + c,
     (s.flumeWords r).filterMap (fun e =>
       if bitAt (bits e 7 0) c then
         (flumeDst e w h (i % w) (i / w)).map (fun d =>
           { f := bits e 12 8, dst := coreKey (x + d.1) (y + d.2) (bits e 38 36), base := bits e 53 39, depth := bits e 60 54, sent := 0 })
       else none),
     (s.slotWords r).filterMap (fun sl => if bitAt (bits sl 31 24) c then some (bits sl 15 0, bits sl 20 16) else none))))

/-- The weirs of a launch (R259, R325, R326). -/
def State.weirsOf (s : State) (r : List Dword) : Vector Weir 16 :=
  ((s.weirWords r).zipIdx).foldl (fun v p =>
    match rectOf p.1 with
    | none => v
    | some (x, y, w, h, m) =>
      vset v (p.2 + 1) { defined := true, x := x, y := y, w := w, h := h, cmask := BitVec.ofNat 8 m, pending := 0#40, due := 0 })
    (vset (Vector.replicate 16 default) 0 { (default : Weir) with defined := true })

/-- The launch that a selection becomes. -/
def State.launchOfSel (s : State) (t q : Nat) (sel : Select) (saves : List Nat) : Launch :=
  let r := sel.rcd
  let w := recW r
  let h := recH r
  let firm := recFirm r
  let bound := boundOf (bits (rw r 1) 31 19)
  { number := s.nextLaunch, tenant := t, queue := q, prio := sel.prio, recAddr := (s.queueAt (t, q)).headAddr, rcd := r, x := sel.x,
    y := sel.y, w := w, h := h, firm := firm, phased := bitAt (rw r 1) 0, sup := recSup r, deferred := recDefer r,
    domain := if recDv r then some (bits (rw r 1) 13 4) else none, state := .bound,
    leases := (s.leaseEntries r).map (fun o => o.getD Plb.empty),
    holdings := (List.range (w * h)).map (fun i =>
      { (default : Holding) with
        present := !recDefer r || decide (i < firm), routine := BitVec.ofNat 64 (rw r 7), bound := bound,
        byRecall := if sel.recalled.contains ((sel.y + i / w) * 256 + sel.x + i % w) then some sel.prio else none }),
    weirs := s.weirsOf r, rot := (rectOf (rw r 18)).map (fun p => (p.1, p.2.1, p.2.2.1, p.2.2.2.1)), rotLost := false, version := 0,
    asks := [], flush := [], sweep := none, saves := saves, heldFx := [], outGone := 0, inGone := 0, leaseNum := 0, stopped := false,
    forced := [], routes := s.routesOf r sel.x sel.y, mmars := [], keptMats := [], keptInbound := [], keptPends := [], keptStages := [],
    keptViews := [], keptHeld := [], keptWaits := [] }

/-- A launch bound: STATUS, queue, save records, and every control context in this cycle (R329, R332, R372). -/
def State.bind (s : State) (t q : Nat) (sel : Select) (saves : List Nat) : State :=
  let l := s.launchOfSel t q sel saves
  let s1 := { s with nextLaunch := s.nextLaunch + 1, launches := s.launches.put l.number l, lastBound := s.lastBound.put sel.prio (t, q) }
  let s2 := s1.onTenant t (fun x =>
    { (x.onQueue q (fun y => { y with head := y.head + 1#64, skips := 0#64, selected := none })) with
      saveUsed := x.saveUsed ++ saves })
  let s3 := (s2.put64 (l.recAddr + 0x98) (l.number * 2 ^ 32 + 1)).msi t 2
  (l.here.foldl (fun s h => s.startHolding l.number h) s3).plan 256 0 .launchEndSweep { a := l.number }

/-- LAUNCH_BIND: binding waits for recalls and for residency, which moves pages to their home dies (R329, R330, R377). -/
def execLaunchBind (s : State) : Host.Outcome State Fault Refusal :=
  let t := s.subj.a
  let q := s.subj.b
  match (s.queueAt (t, q)).selected with
  | none => .next s
  | some sel0 =>
    let now := sel0.want.filter (s.clusterFree t q)
    let sel := { sel0 with want := sel0.want.filter (fun c => !now.contains c), got := sel0.got ++ now }
    let s1 := s.onTenant t (fun x => x.onQueue q (fun y => { y with selected := some sel }))
    let n := recW sel.rcd * recH sel.rcd
    let saves := s1.freeSaves t n
    let base := (s1.tenant t).saveBase.toNat
    if !sel.want.isEmpty || saves.length != n || !s1.leasesResident sel.rcd || !s1.rangeResident (rw sel.rcd 6) (ctxBytes sel.rcd) ||
        !saves.all (fun r => s1.rangeResident (base + r * Config.saveSize) Config.saveSize) then
      .next (if s.agenda.any (fun x => x.what == .launchBind && x.who.a == t && x.who.b == q) then s1
             else (s1.bringHome t sel.rcd).plan (64 - s.now % 64) 0 .launchBind s.subj)
    else .next (s1.bind t q sel saves)

/-! ## The end of a launch (R331) -/

/-- LAUNCH_END_SWEEP (R331, R332): every 256 cycles; the launch's stores are performed before its end is written. -/
def execLaunchEndSweep (s : State) : Host.Outcome State Fault Refusal :=
  let ln := s.subj.a
  match s.launch ln with
  | none => .next s
  | some l =>
    let again := fun (n : Nat) (s : State) => s.plan n 0 .launchEndSweep { a := ln }
    if l.state != .bound then .next (again 256 s)
    else
      let ks := l.cores
      let idle := ks.all (fun k => (List.range 11).all (fun t => !(s.ctxAt k t).live))
      let out := l.outGone + (ks.map (fun k => (s.core k).evOut)).foldl (· + ·) 0
      let inn := l.inGone + (ks.map (fun k => (s.core k).evIn)).foldl (· + ·) 0
      if idle && out == inn && l.sweep == some (out, inn) then
        if s.reqs.any (fun r => r.launch == ln && r.isStore) || s.late.any (fun r => r.2.launch == ln) then .next (again 16 s)
        else .next (s.retire ln 0 2)
      else .next (again 256 (s.onLaunch ln (fun l => { l with sweep := if idle && out == inn then some (out, inn) else none })))

end Sys2Proof.Machine
end

