-- ==== Sys2Proof/Machine/Preempt.lean ====
section
/-! DEFINITION. Sys2Proof/Machine/Preempt.lean: pre-emption of a launch and its restore (R339, R358 to R362): what holds it back,
the sealed images (R109, R111), the save records (R360), and what a restore writes back. -/

namespace Sys2Proof.Machine

/-! ## What holds a pre-emption back -/

/-- Does a pre-emption wait before it starts: for a frozen core, a communication phase, a FLUSHCODE stop, a departure (R358)? -/
def State.preemptHeld (s : State) (l : Launch) : Bool :=
  l.cores.any (fun k => (s.core k).frozen || (l.phased && (s.core k).pk)) || l.stopped ||
  l.here.any (fun h => (l.holding h).departing)

/-- An unjoined gang withdrawn: tags free, and each member's PC stays on its instruction (R359 step 1). -/
def State.withdrawGang (s : State) (q : Nat) : State :=
  ((s.cluster q).gang.foldl (fun s m =>
    let tag := ((s.pendAt m.core m.seq).map (·.tag)).getD 0
    (s.onCore m.core (fun c => { c with gangBusy := false, pend := c.pend.filter (fun p => p.seq != m.seq) })).onCtx m.core m.ctx
      (fun x => { x.setTag tag false with wait := if x.wait = .gang then .none else x.wait })) s).onCluster q (fun c => { c with gang := [] })

/-- A core stops issuing: interrupted waits, fetches given up, partial lines sent (R315, R359 steps 1 and 3). -/
def State.stopCore (s : State) (k : Nat) : State :=
  let s1 := (s.interruptAll k).onCore k (fun c =>
    { c with ctxs := c.ctxs.map (fun x => if x.wait = .fetch || x.wait = .regMiss then { x with wait := .none } else x) })
  s1.sendPartials k 0 (s1.ctxAt k 0).pc

/-- A launch stops issuing (R359 step 1). -/
def State.stopLaunch (s : State) (l : Launch) : State :=
  let s1 := s.onLaunch l.number (fun l => { l with state := .preempting })
  let s2 := (l.here.map l.cluster).foldl State.withdrawGang s1
  let s3 := l.cores.foldl State.stopCore s2
  let keep : Req → Bool := fun r => !(l.cores.contains r.core && (r.op == .watch || r.op == .fetch))
  { s3 with
    reqs := s3.reqs.filter keep, parked := s3.parked.filter (fun p => p.isJob || s3.reqs.any (fun r => r.id == p.id && keep r)) }

/-- Is a joined gang operation one that cannot start, since it waits for an MMAR of a neighbour that has not joined, or stands behind
such an MMAR (R125, R243)? -/
def State.gangStuck (s : State) (l : Launch) (q : Nat) (o : MatOp) : Bool :=
  (s.cluster q).mats.any (fun x =>
    decide (x.id ≤ o.id) && x.op.kind == 1 && !x.begun && !x.lost && (l.ring q).any (fun e => decide (s.mmarJoined e ≤ x.num)))

/-- Has a gang operation completed as far as it can before a restore? -/
def State.gangSettled (s : State) (l : Launch) (q : Nat) (o : MatOp) : Bool :=
  o.colsDone || (!o.begun && s.gangStuck l q o)

/-- Is a step of the agenda one that a launch's pre-emption waits for: a delivery, a signal, an arrival on its way (R359 step 2)? -/
def Todo.holds (x : Todo) (ln : Nat) (l : Launch) : Bool :=
  match x.what with
  | .flumeDelivery _ _ _ _ => x.who.a == ln
  | .eventSignalEffect => x.who.f / 2 == ln
  | .weirArrivalCounted => x.who.e / 2 == ln
  | .eventWake => l.cores.contains x.who.a
  | .mmarInboundLanding => (l.here.map l.cluster).contains x.who.a
  | .registerCacheFill k _ _ => l.cores.contains k
  | _ => false

/-- Results of a core that outlive a pre-emption: those of gang operations that wait for a neighbour, and accesses that met a fault
which no instruction has consumed (R200, R243). -/
def State.keptPend (s : State) (k : Nat) (p : Pend) : Bool :=
  (p.bad.isSome && p.due != 0 && decide (p.due ≤ s.now)) ||
  (s.cluster (k / 8)).mats.any (fun o => o.members.any (fun m => m.core == k && m.seq == p.seq))

/-- Has a core of a pre-empted launch come to rest, its store buffer drained and every store of its contexts performed (R111, R315, R359)? -/
def State.coreQuiet (s : State) (k : Nat) : Bool :=
  let c := s.core k
  !c.frozen && c.packet.isNone && c.partials.isEmpty && c.slots.toList.all Option.isNone && c.extra.isEmpty &&
  c.pend.all (s.keptPend k) && (List.range 11).all (fun t => !((c.ctx t).live && (c.ctx t).ending)) &&
  !s.reqs.any (fun r => r.core == k) && !s.late.any (fun r => r.2.core == k) && !s.domOps.any (fun o => o.core == k)

/-- Has a launch come to rest (R359 steps 2 and 3)? -/
def State.quiet (s : State) (l : Launch) : Bool :=
  l.cores.all s.coreQuiet && !s.agenda.any (fun x => x.holds l.number l) &&
  (l.here.map l.cluster).all (fun q => (s.cluster q).jobs.isEmpty && (s.cluster q).gang.isEmpty && (s.cluster q).mats.all (s.gangSettled l q))

/-! ## Images and save records -/

/-- Where the save record of a holding lies (R360, R377). -/
def State.saveAddr (s : State) (l : Launch) (h : Nat) : Nat := (s.tenant l.tenant).saveBase.toNat + l.saves.getD h 0 * Config.saveSize

/-- Doublewords written at an address, each at its offset. -/
def State.putWords (s : State) (base : Nat) (ws : List (Nat × Nat)) : State := ws.foldl (fun s w => s.put64 (base + w.1) w.2) s

/-- The words that seal the image of a context: all of it where the context lives, its CTX_STATUS and last job number otherwise
(R109). No image shows a busy tag (R111): that of a gang operation which has joined and cannot start without a neighbour is kept with the
operation (R243; entry 63). -/
def State.sealWords (s : State) (k t : Nat) : List (Nat × Nat) :=
  let s := s.onCtx k t (fun x => { x with tags := 0#8 })
  (if (s.ctxAt k t).live then (List.range 472).map (8 * ·) else [0x008, 0x040]).map (fun o => (o, s.imageWord k t o))

/-- The destinations of unit `i` of a copy, each with its bytes: a quantising copy writes codes and a header (R254). -/
def Job.dests (j : Job) (i : Nat) : List (Nat × Nat) :=
  if j.mode = 6 then
    let r := i / j.perRow
    let b := i % j.perRow
    [(addrPlus j.dstA (r * j.ds1 + b * j.codeBytes), j.codeBytes), (addrPlus j.idx (r * j.hp + 2 * b), 2)]
  else [((j.unit i 0).2, j.es)]

/-- The bytes of cluster memory that a stage record's job writes, as bank and offset pairs with a size (R52). -/
def Job.stagedAt (j : Job) : List (Nat × Nat × Nat) :=
  (List.range j.units).flatMap (fun i => (j.dests i).filterMap (fun d => (localOf j.core d.1).map (fun p => (p.1, p.2, d.2))))

/-- Does staging cover all eight bytes at an offset of a bank? -/
def stagedDword (l : List (Nat × Nat × Nat)) (bank off : Nat) : Bool :=
  (List.range 8).all (fun i => l.any (fun p => p.1 == bank && decide (p.2.1 ≤ off + i) && decide (off + i < p.2.1 + p.2.2)))

/-- Four handles as a doubleword. -/
def gather4 (f : Nat → Handle) : Nat := gather 16 ((List.range 4).map (fun i => (f i).toNat))

/-- The weir state of a core (R360). -/
def Core.weirWord (c : Core) : Nat := c.arr.toNat + c.gone.toNat * 2 ^ 16

/-- The pending-byte counters of a launch's weirs, in the record of holding 0, whether it is still present or not (R359, R360). -/
def pendingWords (l : Launch) : List (Nat × Nat) := (List.range 16).map (fun n => (0x4EC00 + 8 * n, (l.weir n).pending.toNat))

/-- The save record of a holding: offsets and doublewords (R360). -/
def State.saveWords (s : State) (l : Launch) (h : Nat) : List (Nat × Nat) :=
  let q := l.cluster h
  let cl := s.cluster q
  let staged := cl.stages.flatMap Job.stagedAt
  let core (c : Nat) : Core := s.core (q * 8 + c)
  let mem := (List.range 8).flatMap (fun c => (List.range 0xC00).filterMap (fun i =>
    if stagedDword staged (q * 8 + c) (8 * i) then none else some (c * 0x6000 + 8 * i, leNat (Sparse.bytes (core c).lmem (8 * i) 8))))
  let planes := (List.range 8).flatMap (fun c => (List.range 0x600).map (fun i =>
    (0x30000 + c * 0x3000 + 8 * i, gather4 (fun n => (core c).lplane.get (4 * i + n)))))
  let accs := (List.range 4).flatMap (fun b => (List.range 32).flatMap (fun i => (List.range 16).map (fun j =>
    (0x48000 + b * 0x1000 + 128 * i + 8 * j, (cl.acc b i (2 * j)).1.toNat + (cl.acc b i (2 * j + 1)).1.toNat * 2 ^ 32))))
  let accls := (List.range 4).flatMap (fun b => (List.range 32).flatMap (fun i => (List.range 8).map (fun j =>
    (0x4C000 + b * 0x800 + 64 * i + 8 * j, gather4 (fun n => (cl.acc b i (4 * j + n)).2)))))
  let events := ((List.range 32).map (fun n => (0x4E000 + 8 * n, cl.eventWord (8 * n)))) ++
    ((List.range 4).map (fun n => (0x4E100 + 8 * n, cl.eventWord (0x400 + 8 * n)))) ++
    ((List.range 8).map (fun n => (0x4E120 + 8 * n, cl.eventWord (0x600 + 8 * n))))
  let stages := (List.range 16).flatMap (fun n => (List.range 8).map (fun i =>
    let w (i : Nat) : Nat := match cl.stages[n]? with | none => 0 | some j => j.w i
    (0x4E400 + 64 * n + 8 * i, w (2 * i) + w (2 * i + 1) * 2 ^ 32)))
  let counts := (List.range 8).flatMap (fun c =>
    ((List.range 12).map (fun i => (0x4E800 + c * 0x80 + 8 * i, (vget (core c).cnt i 0#64).toNat))) ++
    [(0x4E860 + c * 0x80, s.phaseCyc (q * 8 + c) + (if (core c).pk then 2 ^ 16 else 0) + (if (core c).arm then 2 ^ 17 else 0)),
     (0x4E868 + c * 0x80, (core c).weirWord), (0x4E870 + c * 0x80, 0), (0x4E878 + c * 0x80, 0)])
  let weirs := if h = 0 then pendingWords l else (List.range 16).map (fun n => (0x4EC00 + 8 * n, 0))
  mem ++ planes ++ accs ++ accls ++ events ++ stages ++ counts ++ weirs ++ (List.range 112).map (fun i => (0x4EC80 + 8 * i, 0))

/-- The contents of a register line (R110). -/
def Ctx.regVal (x : Ctx) (r : RegRef) : RegVal :=
  match r with
  | .s n => .s (x.sreg n).1 (x.sreg n).2
  | .v n => .v (x.vreg n)

/-- A register as its line has it (R362). -/
def Ctx.setReg (x : Ctx) (r : RegRef) (v : RegVal) : Ctx :=
  match r, v with
  | .s n, .s w l => x.setS n w l
  | .v n, .v y => x.onV n (fun _ => y)
  | _, _ => x

/-- The interrupted waits at weirs of a core's contexts, for the holding `h` (R264). -/
def State.waitsOf (s : State) (h k : Nat) : List (Nat × Nat × Dword × Nat) :=
  (List.range 11).filterMap (fun t =>
    match (s.ctxAt k t).waitPc, (s.ctxAt k t).waitWeir with
    | some p, some n => some (h * 8 + k % 8, t, p, n)
    | _, _ => none)

/-- A holding sealed: images and save record written; what neither holds is kept with the launch; cores and cluster are scrubbed
(R359 steps 4 and 5, R364). The register lines stay behind, evictable: their words are in the images already, where no program may look
for them (R109). -/
def State.sealHolding (s : State) (l : Launch) (h : Nat) : State :=
  let q := l.cluster h
  let ln := l.number
  let cl := s.cluster q
  let ks := (List.range 8).map (fun c => q * 8 + c)
  let s1 := (List.range 8).foldl (fun s c => (List.range 11).foldl (fun s t =>
    s.putWords (l.imageAddr h c t) (s.sealWords (q * 8 + c) t)) s) s
  let s2 := s1.putWords (s.saveAddr l h) (s.saveWords l h)
  let s3 := s2.onLaunch ln (fun l =>
    { l with
      routes := l.routes.map (fun r => if ks.contains (q * 8 + r.1 % 8) && r.1 / 8 == h then (r.1, (s.core (q * 8 + r.1 % 8)).flumes, r.2.2) else r),
      mmars := l.mmars.put h cl.mmarDone, keptMats := l.keptMats ++ cl.mats.map (fun o => (h, o)),
      keptInbound := l.keptInbound ++ cl.inbound.map (fun t => (h, t)),
      keptStages := l.keptStages ++ cl.stages.map (fun j => (h, j)),
      keptPends := l.keptPends ++ ks.flatMap (fun k => (s.core k).pend.map (fun p => (h * 8 + k % 8, p))),
      keptViews := ks.foldl (fun m k => m.put (h * 8 + k % 8) (s.core k).view) l.keptViews,
      keptHeld := l.keptHeld ++ ks.flatMap (fun k => (s.core k).held.map (fun r => (h * 8 + k % 8, r))),
      keptWaits := l.keptWaits ++ ks.flatMap (s.waitsOf h) })
  (ks.foldl (fun s k =>
    let old := (s.core k).regCache.map (fun p => { launch := ln, ctx := p.1, ref := p.2, val := (s.ctxAt k p.1).regVal p.2 : OldReg })
    ((s.keepCounts ln k).scrubCore k).onCore k (fun c => { c with regOld := c.regOld ++ old })) s3).scrubCluster q

/-- A launch sealed, once its cores have come to rest: its clusters go to those that recalled them, and its restore begins to be tried
(R315, R339, R359). -/
def State.sealLaunch (s : State) (l : Launch) : State :=
  let s1 := (s.putWords (s.saveAddr l 0) (pendingWords l)) |> fun s => l.here.foldl (fun s h => s.sealHolding l h) s
  let s2 := s1.onLaunch l.number (fun x =>
    { x with state := .preempted, forced := [], weirs := x.weirs.map (fun w => { w with due := 0 }),
             holdings := x.holdings.map (fun h => { h with recalls := [] }) })
  let s3 := l.here.foldl (fun s h => s.handOver (l.holding h).recalls (l.cluster h)) s2
  let s4 := l.forced.foldl (fun s f => match f.2 with | some b => s.award b (l.cluster f.1) | none => s) s3
  s4.plan 64 0 .restore { a := l.number }

/-- PREEMPTION (R339, R358, R359): what a forced recall does; polled until the launch has come to rest. -/
def execPreemption (s : State) : Host.Outcome State Fault Refusal :=
  match s.launch s.subj.a with
  | none => .next s
  | some l =>
    match l.state with
    | .bound =>
      if l.forced.isEmpty then .next s
      else if s.preemptHeld l then .next (s.plan 1 0 .preemption s.subj)
      else .next ((s.stopLaunch l).plan 1 0 .preemption s.subj)
    | .preempting => .next (if s.quiet l then s.sealLaunch l else s.plan 1 0 .preemption s.subj)
    | _ => .next s

/-! ## Restore -/

/-- Can a position of a pre-empted launch be taken now? -/
def State.positionFree (s : State) (l : Launch) (h : Nat) : Bool := (l.holding h).granted || s.clusterFree 32 0 (l.cluster h)

/-- The clusters that a restore lacks are recalled, when all of them can be covered (R334, R339). -/
def State.recallFor (s : State) (l : Launch) : State :=
  let need := l.here.filter (fun h => !s.positionFree l h)
  let asked (h : Nat) : Bool := match s.holderOf (l.cluster h) with
    | none => false
    | some (m, g) => match s.launch m with
      | none => false
      | some k => (k.holding g).allRecalls.any (fun r => r.launch == l.number) || (k.holding g).departing || k.state != .bound ||
          !k.forced.isEmpty
  if need.all (fun h => asked h || s.canRecall (l.cluster h) l.prio) then
    need.foldl (fun s h =>
      if asked h then s
      else s.sendRecall (l.cluster h) { tenant := l.tenant, launch := l.number, prio := l.prio, kind := 1, queue := 0, sel := 0 }) s
  else s

/-- Does a word read back from an image or a save record meet an uncorrectable error (R363)? -/
def State.wordBad (s : State) (a : Nat) : Bool := (s.homeWord a).any (fun w => w.2 == hPoison)

/-- The registers of a context whose words met an error in their image: VOID.POISON (R101, R363). -/
def State.poisonRegs (s : State) (a : Nat) (x : Ctx) : Ctx :=
  { x with
    sl := (List.range 31).foldl (fun v i =>
      let r := a + 0x080 + 8 * (i + 1)
      if s.wordBad r || s.wordBad (r + 4) then vset v (i + 1) hPoison else v) x.sl
    vr := (List.range 32).foldl (fun v n =>
      vset v n { vget v n VReg.zero with
        labels := (List.range 16).foldl (fun l i =>
          if s.wordBad (a + 0x1C0 + 64 * n + 4 * i) then vset l i hPoison else l) (vget v n VReg.zero).labels }) x.vr }

/-- The registers whose lines are still present in a core's register cache, as they stand (R362). -/
def State.presentRegs (s : State) (ln k t : Nat) (x : Ctx) : Ctx :=
  (s.core k).regOld.foldl (fun x o => if o.launch = ln && o.ctx = t then x.setReg o.ref o.val else x) x

/-- A context as its image gives it (R109, R111, R361), but for the register lines still present (R362); one that is not live keeps its
sluice timeline; every earlier job is done. An interrupted wait at a weir goes on as one (R264). -/
def State.restoreCtx (s : State) (l : Launch) (h c t : Nat) : Ctx :=
  let a := l.imageAddr h c t
  let last := s.home64 (a + 0x040)
  if bitAt (s.home64 (a + 0x008)) 15 then
    let y := s.poisonRegs a ((List.range 472).foldl (fun x i => x.setImage (8 * i) (s.home64 (a + 8 * i)) 0 8 true) Ctx.zero)
    let x := s.presentRegs l.number (l.cluster h * 8 + c) t y
    let kept := (l.keptWaits.find? (fun w => w.1 == h * 8 + c && w.2.1 == t)).map (·.2.2)
    { x with
      timeline := last, srVerdict := x.sr && (l.holding h).summarised,
      waitPc := if x.ap then some (if x.sr then x.srLink else x.pc) else kept.map (·.1),
      waitWeir := if x.ap then some x.weirN.toNat else kept.map (·.2) }
  else { Ctx.zero with jobLast := last, timeline := last }

/-- A core as its images and save record give it (R360 to R362). -/
def State.restoreCore (s : State) (l : Launch) (h c : Nat) : State :=
  let a := s.saveAddr l h
  let k := l.cluster h * 8 + c
  let r (o : Nat) : Nat := s.home64 (a + o)
  let ph := r (0x4E860 + c * 0x80)
  let wr := r (0x4E868 + c * 0x80)
  let pends := l.keptPends.filterMap (fun p => if p.1 = h * 8 + c then some p.2 else none)
  let s1 := (s.startCore l h c false).onCore k (fun x =>
    let y := (List.range 11).foldl (fun y t => y.setCtx t (s.restoreCtx l h c t)) x
    { y with
      cnt := (List.range 12).foldl (fun v i => vset v i (BitVec.ofNat 64 (r (0x4E800 + c * 0x80 + 8 * i)))) y.cnt,
      phaseStart := s.now - ph % 2 ^ 16, pk := bitAt ph 16, arm := bitAt ph 17, arr := BitVec.ofNat 16 wr,
      gone := BitVec.ofNat 16 (wr / 2 ^ 16), pend := pends,
      held := l.keptHeld.filterMap (fun p => if p.1 = h * 8 + c then some p.2 else none),
      regCache := y.regOld.filterMap (fun p => if p.launch = l.number then some (p.ctx, p.ref) else none),
      regOld := y.regOld.filter (fun p => p.launch != l.number), view := l.keptViews.get (h * 8 + c) y.view,
      lmem := (List.range 0xC00).foldl (fun m i => Sparse.putBytes m (8 * i) (leBytes 8 (r (c * 0x6000 + 8 * i)))) [],
      lplane := (List.range 0x600).foldl (fun m i => (List.range 4).foldl (fun m n =>
        Sparse.put m (4 * i + n) (if s.wordBad (a + c * 0x6000 + 4 * (4 * i + n)) then hPoison
          else BitVec.ofNat 16 (bits (r (0x30000 + c * 0x3000 + 8 * i)) (16 * n + 15) (16 * n)))) m) [] })
  pends.foldl (fun s p => if p.bad.isSome || p.tag = 0 then s else s.onCtx k p.ctx (fun x => x.setTag p.tag true)) s1

/-- A cluster's event unit as its save record gives it (R265, R360). -/
def State.restoreEvents (s : State) (a q : Nat) (c : Cluster) : Cluster :=
  let r (o : Nat) : Nat := s.home64 (a + o)
  { c with
    lines := (List.range 32).foldl (fun v n => vset v n { count := r (0x4E000 + 8 * n) % 2 ^ 32, sleepers := [] }) c.lines,
    barriers := (List.range 4).foldl (fun v n => vset v n { target := r (0x4E100 + 8 * n) % 2 ^ 8, waiting := [] }) c.barriers,
    mutexes := (List.range 8).foldl (fun v n =>
      let w := r (0x4E120 + 8 * n)
      vset v n { owner := if bitAt w 15 then some (q * 8 + bits w 14 8 / 11, bits w 14 8 % 11) else none, sleepers := [] }) c.mutexes }

/-- A stage record's job as a restore runs it again (R52). -/
def Job.again (j : Job) (id : Nat) : Job :=
  { j with id := id, captured := false, started := true, landed := false, stopped := false, evl := none, weir := none, done := 0, part := 0,
           away := none, got := [], stat := 0, flags := 0#64, moved := 0 }

/-- A holding as its save record gives it, its staged regions being fetched again (R362 steps 1 and 2). -/
def State.restoreHolding (s : State) (l : Launch) (h : Nat) : State :=
  let q := l.cluster h
  let a := s.saveAddr l h
  let r (o : Nat) : Nat := s.home64 (a + o)
  let mats := l.keptMats.filterMap (fun p => if p.1 = h then some p.2 else none)
  let stages := l.keptStages.filterMap (fun p => if p.1 = h then some p.2 else none)
  let s1 := (s.scrubCluster q).onCluster q (fun c =>
    let acc := ((List.range 4).flatMap (fun b => (List.range 32).flatMap (fun i => (List.range 32).map (fun j => (b, i, j))))).foldl
      (fun (c : Cluster) p =>
        let w := r (0x48000 + p.1 * 0x1000 + 128 * p.2.1 + p.2.2 / 2 * 8)
        let g := r (0x4C000 + p.1 * 0x800 + 64 * p.2.1 + p.2.2 / 4 * 8)
        c.setAcc p.1 p.2.1 p.2.2 (BitVec.ofNat 32 (w / 2 ^ (32 * (p.2.2 % 2))))
          (if s.wordBad (a + 0x48000 + p.1 * 0x1000 + 128 * p.2.1 + 4 * p.2.2) then hPoison
           else BitVec.ofNat 16 (g / 2 ^ (16 * (p.2.2 % 4))))) c
    { s.restoreEvents a q acc with mats := mats, inbound := l.keptInbound.filterMap (fun p => if p.1 = h then some p.2 else none),
                                          mmarDone := l.mmars.get h 0, stages := stages })
  let s2 := (List.range 8).foldl (fun s c => s.restoreCore l h c) s1
  let s3 := mats.foldl (fun s o => if o.begun then s else s.plan 1 1 .gangStart { a := q, b := o.id }) s2
  stages.foldl (fun s j =>
    let j' := j.again s.nextId
    ((s.bump.onCluster q (fun c => { c with jobs := c.jobs ++ [j'] })).plan 1 0 .sluiceWriteLanding { a := q, b := j'.id })) s3

/-- The domain view of every restored core is brought up to the home's: labels of an era that has passed read as VOID.LOST (R100). -/
def State.refreshViews (s : State) (l : Launch) : State := l.cores.foldl (fun s k => s.takeView k true) s

/-- A restore begins: memory, planes, accumulators and event units are back, staged regions are on their way (R362). -/
def State.beginRestore (s : State) (l : Launch) : State :=
  let a := s.saveAddr l 0
  let s1 := s.onLaunch l.number (fun x =>
    { x with
      state := .restoring, holdings := x.holdings.map (fun h => { h with granted := h.granted && !h.present }),
      weirs := (List.range 16).foldl (fun v n =>
        vset v n { vget v n default with pending := BitVec.ofNat 40 (s.home64 (a + 0x4EC00 + 8 * n)) }) x.weirs,
      mmars := [], keptMats := [], keptInbound := [], keptPends := [], keptStages := [], keptViews := [], keptHeld := [], keptWaits := [] })
  (l.here.foldl (fun s h => s.restoreHolding l h) s1).refreshViews l

/-- Held firings and decrements applied (R361, R362 step 3). -/
def State.applyHeld (s : State) (l : Launch) : State :=
  let s1 := s.onLaunch l.number (fun l => { l with heldFx := [] })
  l.heldFx.foldl (fun s e =>
    let s1 := match e.2.1 with
      | none => s
      | some n => if (s.core (e.1 * 8)).launch = some l.number then s.signalLine e.1 n else s
    match e.2.2.1 with
    | none => s1
    | some w => s1.weirAdd l.number w (0#40 - BitVec.ofNat 40 e.2.2.2)) s1

/-- A core takes the first report that it holds, before any of its contexts issues (R200, R344). -/
def State.takeHeld (s : State) (k : Nat) : State :=
  match (s.core k).held with
  | [] => s
  | r :: rest => (s.onCore k (fun c => { c with held := rest })).takeReport k r

/-- A restore ends: every sealed context goes on in this cycle, which is an acquire (R315, R362 step 4); held reports come first
(R200). -/
def State.endRestore (s : State) (l : Launch) : State :=
  let s1 := (l.here.map l.cluster).foldl (fun s q => s.onCluster q (fun c => { c with jobs := c.jobs.filter (fun j => j.captured) })) s
  let s2 := (s1.onLaunch l.number (fun l => { l with state := .bound })).applyHeld l
  let s3 := l.cores.foldl State.takeHeld (l.cores.foldl State.acquire s2)
  (List.range 16).foldl (fun s n => s.weirCheck l.number n) s3

/-- Are the pages that a restore reads resident (R330)? -/
def State.restorable (s : State) (l : Launch) : Bool :=
  s.rangeResident (l.word 6) (ctxBytes l.rcd) && l.here.all (fun h => s.rangeResident (s.saveAddr l h) Config.saveSize)

/-- RESTORE (R339, R362): tried until the whole rectangle can be covered; then polled until the staged regions are back. -/
def execRestore (s : State) : Host.Outcome State Fault Refusal :=
  match s.launch s.subj.a with
  | none => .next s
  | some l =>
    match l.state with
    | .preempted =>
      if l.here.all (s.positionFree l) && s.restorable l then .next ((s.beginRestore l).plan 1 0 .restore s.subj)
      else .next ((s.recallFor l).plan 64 0 .restore s.subj)
    | .restoring =>
      let busy := (l.here.map l.cluster).any (fun q => (s.cluster q).jobs.any (fun j => !j.captured && !j.landed))
      .next (if busy then s.plan 1 0 .restore s.subj else s.endRestore l)
    | _ => .next s

end Sys2Proof.Machine
end

