-- ==== Sys2Proof/Machine/EventsHost.lean ====
section
/-! DEFINITION. Sys2Proof/Machine/EventsHost.lean: what the host does to the module: BAR 2 and the physical window (R376, R379), BAR 0
registers (R321, R352, R374 to R377, R382 to R385), failure answers (R356), tenant resets (R380), the state of the PCI Express links
(R373), and snapshot copies (R385). -/

namespace Sys2Proof.Machine

/-! ## BAR 2 and the physical window -/

/-- Does tenant `t`'s virtual function reach the module: its PCI Express link came up (R372, R393; entry 115)? -/
def State.reaches (s : State) (t : Nat) : Bool := s.linksL0.getLsbD (t % 4)

/-- Has the controller switched the core rail off (R397)? What then still answers the host and the peers the manual does not say
(DESIGN CHOICE; entry 114). -/
def State.railOff (s : State) : Bool := s.fatal && s.mStep == 0xF0

/-- May a host access of `width` bytes at offset `off` of a tenant's BAR 2 be made: within the window, to global memory, with the right in
WCFG (bit 8 R, 9 W) (R377, R379)? -/
def State.bar2Ok (s : State) (t off width right : Nat) : Bool :=
  let x := s.tenant t
  bitAt x.wCfg.toNat right && decide (off + width ≤ 2 ^ bits x.wCfg.toNat 5 0) && isGlobal (x.wBase.toNat + off + width - 1) && !s.railOff

/-- An access of the host at the home of its first byte, or on its way through translation and fill (R25, R379). -/
def State.bar2 (s : State) (t off width : Nat) (write : Bool) (data : Dword) : State :=
  let r := s.outsideReq t (.bar write) ((s.tenant t).wBase.toNat + off) width data
  ({ s.bump with reqs := s.reqs ++ [r] }).homeGlobal r

/-- HOST_BAR2_READ (R379): a page that is not mapped, the host's own or without the right answers Completer Abort; one behind a link is read
there (R389). -/
def execHostBar2Read (tenant off width : Nat) (s : State) : Host.Outcome State Fault Refusal :=
  .next (if !s.reaches tenant then s
    else if s.bar2Ok tenant off width 8 then s.bar2 tenant off width false 0#64 else s.toHost (.abort tenant))

/-- HOST_BAR2_WRITE (R34, R36, R314, R379): a write-blocked page holds it, at a copy-on-write page it parks and the page is copied (R385); a
DECODE view refuses it (R31). -/
def execHostBar2Write (tenant off width : Nat) (data : Dword) (s : State) : Host.Outcome State Fault Refusal :=
  .next (if s.reaches tenant && s.bar2Ok tenant off width 9 then s.bar2 tenant off width true data else s)

/-- May the physical window show a frame (R20, R376)? -/
def State.windowOk (s : State) (pa : Nat) : Bool :=
  decide (bits pa 47 42 < 48) && decide (bits pa 41 40 < 2) && s.frameOk pa 65536 && !s.railOff

/-- PHYSICAL_WINDOW_ACCESS: at the memory controller, without translation, cache or label (R376). -/
def execPhysicalWindowAccess (write : Bool) (off width : Nat) (data : Dword) (s : State) : Host.Outcome State Fault Refusal :=
  let pa := s.pwBase.toNat + off
  let ok := s.windowOk s.pwBase.toNat && decide (off + width ≤ 65536)
  .next (if write then (if ok then s.putRam pa (leBytes width data.toNat) else s)
    else s.toHost (.window (BitVec.ofNat 64 (if ok then s.ram pa width else 0))))

/-- TFLUSH_WRITE: BUSY until the leaf is gone from every translation cache of its home die, and so for every flush under way (R27, R376). -/
def execTflushWrite (va : Dword) (s : State) : Host.Outcome State Fault Refusal :=
  .next (if s.subj.a = 1 then
      { s.flushLeaf va.toNat with
        tflushBusy := s.agenda.any (fun x => match x.what with | .tflushWrite _ => x.who.a == 1 | _ => false) }
    else { s with tflushBusy := true }.plan (1 + s.freeN 0 % 64) 0 (.tflushWrite va) { a := 1 })

/-! ## Queues and the fault buffer -/

/-- A queue disabled (R321). -/
def Queue.off (q : Queue) : Queue := { q with cfg := q.cfg &&& ~~~(1#64 <<< 63) }

/-- QUEUE_DOORBELL (R321): from the host, over its link, or from the supervisor, who stores to the control window (`subj.a` = 1). -/
def execQueueDoorbell (tenant queue : Nat) (tail : Dword) (s : State) : Host.Outcome State Fault Refusal :=
  .next (if s.subj.a = 0 && !s.reaches tenant then s else s.onTenant tenant (fun t => t.onQueue queue (fun q =>
    let q1 := { q with tail := tail }
    if q1.broken then q1.off else q1)))

/-- CFG as it is written: reserved bits zero, LOG2N at most 16 (R321). -/
def cfgWrite (v : Dword) : Dword :=
  (v &&& 0xC000000000000700#64) ||| BitVec.ofNat 64 (min 16 (bits v.toNat 4 0))

/-- QUEUE_CFG_WRITE (R321): as a doorbell. -/
def execQueueCfgWrite (tenant queue : Nat) (cfg : Dword) (s : State) : Host.Outcome State Fault Refusal :=
  .next (if s.subj.a = 0 && !s.reaches tenant then s else s.onTenant tenant (fun t => t.onQueue queue (fun q => { q with cfg := cfgWrite cfg })))

/-- FAULT_BUFFER_HEAD_WRITE: ignored above TAIL (R352). -/
def execFaultBufferHeadWrite (tenant : Nat) (v : Dword) (s : State) : Host.Outcome State Fault Refusal :=
  .next (s.onTenant tenant (fun t => if v.toNat ≤ t.fbTail then { t with fbHead := v.toNat } else t))

/-- FAULT_BUFFER_FLUSH: HEAD ← TAIL, then GEN ← GEN + 1 (R352). -/
def execFaultBufferFlush (s : State) : Host.Outcome State Fault Refusal :=
  .next (s.onTenant s.subj.a (fun t => { t with fbHead := t.fbTail }.advance))

/-- FAILURE_ANSWER: only with the current generation, it ends the tenant's accesses parked on ANS_PAGE with PAGE_FAIL (R200, R343,
R356). The staging page of a host page that the host has answered for is freed, whether the answer is taken or discarded. -/
def execFailureAnswer (tenant : Nat) (gen : Dword) (host : Bool) (s0 : State) : Host.Outcome State Fault Refusal :=
  let x := s0.tenant tenant
  let page := bits x.ansPage.toNat 55 16
  let s := if host || gen.toNat == x.gen then s0.unstage tenant page else s0
  .next (if host && !s0.reaches tenant then s0
    else if gen.toNat != x.gen then s
    else s.unpark (fun p => p.tenant == tenant && page * 65536 / p.size == p.va / p.size)
      (fun s r => if r.op = .sys 5 then s.refuseMove r else s.refuse r cPageFail)
      (fun s j => s.jobHalt j (.bad cPageFail (page * 65536))))

/-- NQHEAD_WRITE: ignored above NQTAIL (R382). -/
def execNqheadWrite (tenant : Nat) (v : Dword) (s : State) : Host.Outcome State Fault Refusal :=
  .next (if !s.reaches tenant then s
    else s.onTenant tenant (fun t => if v.toNat ≤ t.nqTail then { t with nqHead := v.toNat } else t))

/-! ## Plain registers -/

/-- DIRECTORY_WRITE: discarded for a domain bound to a live or pre-empted launch (R76, R375). -/
def execDirectoryWrite (n : Nat) (entry : Dword) (s : State) : Host.Outcome State Fault Refusal :=
  .next (if s.launches.any (fun p => p.2.domain == some n) then s
    else { s with directory := s.directory.put n (entry &&& 0xFEFFFFFFFFFF0000#64) })

/-- 32 bytes with the 8 at word `i` replaced. -/
def setNonce (l : List Byte) (i v : Nat) : List Byte := l.take (8 * i) ++ leBytes 8 v ++ l.drop (8 * i + 8)

/-- The tenant whose virtual function holds a register, if one does; a register that only the physical function holds is reached whatever
the state of the tenant's link (R374; DEDUCED; entry 115). -/
def virtualReg (r : HostReg) : Option Nat :=
  match r with
  | .queueBase t _ | .ansPage t | .nqBase t | .nqCfg t | .nqStat t | .puba t _ | .spBase t | .spCount t => some t
  | _ => none

/-- REGISTER_WRITE: a host register without behaviour of its own; reserved bits are dropped (R321, R352, R374 to R377, R382, R384, R385,
R389, R395). -/
def execRegisterWrite (reg : HostReg) (v : Dword) (s : State) : Host.Outcome State Fault Refusal :=
  .next (if (virtualReg reg).any (fun t => !s.reaches t) then s else match reg with
    | .queueBase t q => s.onTenant t (fun x => x.onQueue q (fun y => { y with base := v }))
    | .ansPage t => s.onTenant t (fun x => { x with ansPage := v &&& 0x00FFFFFFFFFF0000#64 })
    | .nqBase t => s.onTenant t (fun x => { x with nqBase := v })
    | .nqCfg t => s.onTenant t (fun x => { x with nqCfg := v &&& 0x800000000000001F#64 })
    | .nqStat t => s.onTenant t (fun x => { x with nqOvf := x.nqOvf && !v.getLsbD 0 })
    | .fbStat t => s.onTenant t (fun x => { x with fbOvf := x.fbOvf && !v.getLsbD 0 })
    | .puba t n => s.onTenant t (fun x => { x with puba := x.puba.put n v })
    | .spBase t => s.onTenant t (fun x => { x with spBase := v })
    | .spCount t => s.onTenant t (fun x => { x with spCount := v.toNat % 2 ^ 32 })
    | .wBase t => s.onTenant t (fun x => { x with wBase := v })
    | .wCfg t => s.onTenant t (fun x => { x with wCfg := v &&& 0x33F#64 })
    | .saveBase t => s.onTenant t (fun x => { x with saveBase := v })
    | .saveCnt t => s.onTenant t (fun x => { x with saveCnt := v })
    | .rThresh t => s.onTenant t (fun x => { x with rThresh := v })
    | .aperOwner d a => { s with aperOwner := s.aperOwner.put (d * 16 + a) (v.setWidth 8 &&& 0x9F#8) }
    | .inBase l => s.onLink l (fun x => { x with inBase := v })
    | .inCfg l => s.onLink l (fun x => { x with inCfg := v &&& 0xF003FFFFFFFFFFFF#64 })
    | .pwBase => { s with pwBase := v &&& 0x0003FFFFFFFF0000#64 }
    | .nonce w =>
      if 4 ≤ w then s else { s with mailbox := { s.mailbox with nonce := setNonce s.mailbox.nonce w v.toNat } })

/-- Millrace moves that wait for a line of the host over a PCI Express link that has left L0 stop with status bit 1 (R258, R373). -/
def State.stopHostMoves (s : State) (link : Nat) : State :=
  let waits : Job → Bool := fun j => s.launchTenant j.launch % 4 == link && (match j.away with
    | none => false
    | some va => match s.leafOf va with | some l => l.hl | none => false)
  (s.mill.filter waits).foldl (fun s j =>
    let x := s.stopJob j
    (x.1.setJob { x.2 with away := none, got := [] }).resumeJob j 0) s

/-- PCIE_LINK_STATE_CHANGE: host-page accesses of its tenants park with KIND 5 while a link is not in L0 (R373); an absent link stays absent (R393). -/
def execPcieLinkStateChange (link : Nat) (up : Bool) (s : State) : Host.Outcome State Fault Refusal :=
  let bit : BitVec 4 := 1#4 <<< link
  .next (if !s.linksL0.getLsbD link then s
    else if up then { s with pcie := s.pcie ||| bit }
    else { s with pcie := s.pcie &&& ~~~bit }.stopHostMoves link)

/-! ## Tenant reset -/

/-- Every launch of a tenant killed (R333, R380). -/
def State.killTenant (s : State) (t : Nat) : State :=
  (s.launches.filter (fun p => p.2.tenant == t)).foldl (fun s p => s.endNow p.1 0 4) s

/-- The MSI-X number of a physical function: 32 + its link. -/
def physicalFunctions : List Nat := [32, 33, 34, 35]

/-- TENANT_RESET: BUSY, then its steps in order; every physical function fires vector 3 too (R372, R380). -/
def execTenantReset (s : State) : Host.Outcome State Fault Refusal :=
  let t := s.subj.a
  if s.subj.b = 0 then
    if (s.tenant t).resetBusy then .next s
    else .next ((s.onTenant t (fun x => { x with resetBusy := true, queues := x.queues.map (fun (q : Nat × Queue) => (q.1, q.2.off)) })).plan
      (1 + s.freeN 0 % 64) 0 .tenantReset { a := t, b := 1 })
  else
    let s1 := (s.killTenant t).onTenant t (fun x =>
      { x with
        packets := [], nqHead := x.nqTail, resetBusy := false,
        queues := x.queues.map (fun (q : Nat × Queue) => (q.1, { q.2.off with selected := none })) }.advance)
    .next (physicalFunctions.foldl (fun s f => s.msi f 3) (s1.msi t 3))

/-! ## Snapshot copies -/

/-- The last frame of a tenant's snapshot pool, taken (R385 step 1). -/
def State.takeFrame (s : State) (t : Nat) : State × Nat :=
  let n := (s.tenant t).spCount - 1
  (s.onTenant t (fun x => { x with spCount := n }), s.home64 ((s.tenant t).spBase.toNat + 8 * n))

/-- A page copied to frames of the pool and its leaf changed; lines not yet written back reach the old frame first. A page whose words come
from the host or over a link is copied line by line (R385 steps 1 to 4; entry 108). -/
def State.copySnapshot (s : State) (t va : Nat) (l : Leaf) : State :=
  let a := s.takeFrame t
  let b := if l.labelled then a.1.takeFrame t else (a.1, l.lpage)
  let m : Move := { id := b.1.nextId, tenant := t, page := va, frame := a.2, snap := some b.2, copied := false }
  if m.travels l then
    let r := { b.1.outsideReq t (.sys 7) va 0 0#64 with away := true }
    ({ b.1.bump with reqs := b.1.reqs ++ [r] }).beginMove r l smallPage m
  else ((b.1.copyFrame va smallPage l (m.leaf l)).putLeaf va (m.leaf l) false).notify t va 3 (s.freeN 6) l.frame a.2

/-- SNAPSHOT_COPY (R385): an access that finds the pool empty, or a page that the memory controllers do not serve (R20), parks with its
record after all; else the parked ones are retried once the page is copied. It waits for a MIGRATE of the page. -/
def execSnapshotCopy (s : State) : Host.Outcome State Fault Refusal :=
  let t := s.subj.a
  let page := s.subj.b
  let va := page * 65536
  let mine : Park → Bool := fun p => p.tenant == t && p.page == page
  let record (kind : Nat) : State :=
    ((s.parked.filter mine).map (fun (p : Park) => { p with kind := kind })).foldl State.park
      { s with parked := s.parked.filter (fun p => !mine p) }
  match s.moves.find? (fun m => m.page == va), s.walk va with
  | some m, _ => .next (if m.snap.isSome then s else s.plan 16 0 .snapshotCopy s.subj)
  | none, .park _ => .next (s.retryPage t page)
  | none, .leaf l size =>
    if !l.cw then .next (s.retryPage t page)
    else if size != smallPage || !s.poolHas t l then .next (record 3)
    else if !l.hl && !l.remote && !s.pageOk l size va then .next (record 2)
    else
      let s1 := s.copySnapshot t va l
      .next (if s1.moves.any (fun m => m.page == va) then s1 else s1.retryPage t page)

end Sys2Proof.Machine
end

