-- ==== Sys2Proof/Machine/EventsMgmt.lean ====
section
/-! DEFINITION. Sys2Proof/Machine/EventsMgmt.lean: the Genhild controller: bring-up (R392 to R394), the capability list (R378), the
power limit and clock states (R396 to R399), and the attestation mailbox (R395). -/

namespace Sys2Proof.Machine

/-! ## Time -/

/-- The core clock in MHz by clock state (R398). -/
def clockMHz (st : Nat) : Nat :=
  match st with
  | 0 => 2250
  | 1 => 2000
  | 2 => 1750
  | 3 => 1500
  | _ => 1125

/-- Microseconds in core cycles at the current clock state. -/
def State.micros (s : State) (us : Nat) : Nat := us * clockMHz s.pstate

/-- Is the time of a step fixed in nanoseconds: a limit of a link's training, or the controller's own work (R386, R393, R395, R399)? -/
def timedInNs (i : Instr) : Bool :=
  match i with
  | .nelrekStateTimeout | .pcieTrainTimeout | .attestReportReady => true
  | _ => false

/-- A new clock state, for all dies in this cycle: what is stated in cycles stays, and what is fixed in nanoseconds is that much fewer or
more cycles away (R399). -/
def State.setClock (s : State) (st : Nat) : State :=
  let s1 := { s with pstate := st, agenda := s.agenda.filter (fun x => !timedInNs x.what) }
  (s.agenda.filter (fun x => timedInNs x.what)).foldl (fun t x =>
    t.plan ((x.key / 4 - s.now) * clockMHz st / clockMHz s.pstate) (x.key % 4) x.what x.who) s1

/-! ## Nelrek training begins -/

/-- Step 8 of bring-up: every link starts to train, in DETECT (R386, R393). -/
def State.startNelrek (s : State) : State := { s with links := s.links.map (fun l => { l with state := .detect, entered := s.now }) }

/-! ## Bring-up -/

/-- A capability record: ID, NEXT, DATA (R378). -/
def capRecord (off id next : Nat) (data : Nat) : List (Nat × Dword) :=
  [(off, BitVec.ofNat 64 (id + 2 ^ 16 + next * 2 ^ 32)), (off + 8, BitVec.ofNat 64 data)]

/-- Nelrek links in ACTIVE, as a mask. -/
def State.activeLinks (s : State) : Nat := ((List.range 16).filter (fun i => (s.nlink i).state == .active)).foldl (fun m i => m + 2 ^ i) 0

/-- The features that the module has, with their DATA, in order of ID (R378). -/
def State.features (s : State) : List (Nat × Nat) :=
  [(Config.hasLabels, 1, 1023 + 64 * 2 ^ 10 + 65519 * 2 ^ 17), (Config.hasB4, 2, 0), (Config.hasNelrek, 3, s.activeLinks),
   (Config.hasSnapshots, 4, 0), (Config.hasPack, 5, 0)].filterMap (fun (x : Bool × Nat × Nat) => if x.1 then some x.2 else none)

/-- The records of a list of features from an offset on, each naming the next; the last NEXT is 0 (R378). -/
def capRecords (off : Nat) (fs : List (Nat × Nat)) : List (Nat × Dword) :=
  match fs with
  | [] => []
  | [f] => capRecord off f.1 0 f.2
  | f :: rest => capRecord off f.1 (off + 16) f.2 ++ capRecords (off + 16) rest

/-- CAPHEAD and the capability list (R378). -/
def State.capList (s : State) : List (Nat × Dword) :=
  [(0, if s.features.isEmpty then 0#64 else 0x100#64)] ++ capRecords 0x100 s.features

/-- Bring-up stopped by a failing step (R392, R393). -/
def State.failUp (s : State) (step die : Nat) : State := { s with fatal := true, mDie := die, mStep := step }

/-- Steps 8 and 9, once every PCI Express link has reached L0 or timed out; with none in L0 step 7 has failed (R393). R393 leaves open
how long after step 8 the list of step 9 is written; both happen here in one step, so the mask of links in ACTIVE that the Nelrek record
publishes is 0 (DESIGN CHOICE; entry 85). -/
def State.finishUp (s : State) : State :=
  if s.linksL0 = 0#4 then s.failUp 7 (s.freeN 0 % 48)
  else
    let s1 := if Config.hasNelrek then s.startNelrek else s
    { s1 with mStep := 9, caps := s1.capList, ready := true }

/-- A step that only the outside causes: it survives a module reset on the agenda (entry 13). -/
def outside (i : Instr) : Bool :=
  match i with
  | .hostBar2Read _ _ _ | .hostBar2Write _ _ _ _ | .physicalWindowAccess _ _ _ _ | .tflushWrite _ | .queueDoorbell _ _ _
  | .queueCfgWrite _ _ _ | .faultBufferHeadWrite _ _ | .failureAnswer _ _ _ | .nqheadWrite _ _ | .directoryWrite _ _
  | .pcapWrite _ | .registerWrite _ _ | .attestReadPage _ | .powerUp _ | .moduleReset _ | .telemetrySample _ _ _
  | .flitReceive _ _ | .remoteWindowAccess _ _ | .remoteSlotOpen _ _ | .remoteAssert _ _ | .assertAck _ _
  | .hostReadResponse _ _ _ | .hostWriteThroughComplete _ | .pcieLinkStateChange _ _ | .uncorrectableError _
  | .remoteAccessAnswer _ _ _ | .remoteSlotAnswer _ _ _ _ | .faultBufferFlush | .attestMakeReport | .attestFetchKey
  | .configRequest => true
  | .tenantReset => true
  | .nelrekStateAdvance => true
  | _ => false

/-- The page-table root of each die: the first frame of its stack (R23, R393 step 3). -/
def firstRoots : NMap Nat := (List.range 48).map (fun d => (d, d * 2 ^ 42))

/-- An image is accepted where its key's digest is the fused one, its signature verifies and its version is at least the fused minimum
(R394). -/
def imageOk (i : Nat) (x : FlashImage) : Bool :=
  x.key == Config.fusedKey && x.signed && decide ((Config.fusedMinimum i).toNat ≤ x.version.toNat)

/-- Image `i` as the controller loads it: copy A, else copy B, else none (R394). -/
def loadImage (i : Nat) (c : FlashImage × FlashImage) : Option FlashImage :=
  if imageOk i c.1 then some c.1 else if imageOk i c.2 then some c.2 else none

/-- The five images accepted; none where both copies of one are refused, which is fatal in step 2 (R393, R394). -/
def loadImages (flash : List (FlashImage × FlashImage)) : Option (List FlashImage) :=
  let l := (List.range 5).map (fun i => (flash[i]?).bind (loadImage i))
  if l.all Option.isSome then some (l.filterMap (fun x => x)) else none

/-- The step and die at which bring-up fails, if it does: step 2 by the images, any other as the outside decides (R393, R394). -/
def failingStep (o : BringUp) (die : Nat) : Option (Nat × Nat) :=
  let images := if (loadImages o.flash).isSome then none else some (2, die)
  match o.fail with
  | some (1, d) => some (1, d)
  | some (2, _) => images
  | some f => images.or (some f)
  | none => images

/-- Memory as bring-up leaves it when it begins step `step`: as it was; from step 4 on with each stack's first frame zero; from step 7 on
clear, as step 6 leaves it (R393). -/
def State.memAt (s : State) (step : Nat) : Sparse 8 :=
  if step ≤ 3 then s.mem
  else if step ≤ 6 then s.mem.filter (fun c => !((List.range 48).any (fun d => decide (d * 2 ^ 42 ≤ c.1) && decide (c.1 < d * 2 ^ 42 + 65536))))
  else []

/-- The state in which bring-up begins step `step`, every earlier one taken: the base dies' root registers from step 4 on (R393; entry 6).
CYCLE counts from here (R69, SR 0x00C); what is still to come from outside keeps its distance in time. -/
def State.upTo (s : State) (o : BringUp) (step : Nat) : State :=
  { State.reset with
    fresh := s.fresh, nextId := s.nextId,
    agenda := (s.agenda.filter (fun x => outside x.what)).map (fun x => { x with key := x.key - 4 * s.now }), hostOut := s.hostOut,
    linkOut := s.linkOut, msix := s.msix, mem := s.memAt step, ecc := if step ≤ 6 then s.ecc else [],
    root := if step ≤ 3 then [] else firstRoots, mStep := step,
    mailbox := { State.reset.mailbox with images := if step ≤ 2 then [] else (loadImages o.flash).getD [] } }

/-- The steps of R393 up to the training of the PCI Express links: a step that fails sets FATAL and DIE, and no further step is taken; else
everything is clear, the distributor runs, and the links that reach L0 are up. The links that do not are waited for, 100 ms. -/
def State.bringUp (s : State) (o : BringUp) : State :=
  match failingStep o (s.freeN 1 % 48) with
  | some (step, die) => (s.upTo o (min step 6)).failUp (min step 6) die
  | none =>
    let z1 := { s.upTo o 7 with linksL0 := o.l0, pcie := o.l0 }.plan 64 0 .distributorRound {}
    let absent := (List.range 4).filter (fun l => !o.l0.getLsbD l)
    if absent.isEmpty then z1.finishUp
    else absent.foldl (fun s l => s.plan (s.micros 100000) 0 .pcieTrainTimeout { a := l }) z1

/-- POWER_UP (R393). -/
def execPowerUp (outcome : BringUp) (s : State) : Host.Outcome State Fault Refusal := .next (s.bringUp outcome)

/-- MODULE_RESET (R393). -/
def execModuleReset (outcome : BringUp) (s : State) : Host.Outcome State Fault Refusal := .next (s.bringUp outcome)

/-- PCIE_TRAIN_TIMEOUT: the link stays absent; after the last one bring-up goes on (R393). -/
def execPcieTrainTimeout (s : State) : Host.Outcome State Fault Refusal :=
  .next (if s.ready || s.fatal || s.agenda.any (fun x => x.what == .pcieTrainTimeout) then s else s.finishUp)

/-- CONFIG_REQUEST: Configuration Request Retry Status until READY (R393). -/
def execConfigRequest (s : State) : Host.Outcome State Fault Refusal := .next (s.toHost (.config s.subj.a (!s.ready)))

/-- MSTATE (R392). -/
def State.mstate (s : State) : Nat :=
  (if s.ready then 2 ^ 63 else 0) + (if s.fatal then 2 ^ 62 else 0) + s.linksL0.toNat * 2 ^ 16 + s.mDie % 64 * 2 ^ 8 + s.mStep % 256

/-! ## Power -/

/-- PCAP_WRITE (R392). -/
def execPcapWrite (v : Dword) (s : State) : Host.Outcome State Fault Refusal :=
  .next { s with watts := max 8000 (min 24000 (bits v.toNat 14 0)) }

/-- A die above 105 °C stops the module: every launch is killed, FATAL is set, and the core rail stays off until a module reset: of what was
to come only the outside's steps are left (R397). -/
def State.shutDown (s : State) (die : Nat) : State :=
  let s1 := (s.launches.foldl (fun s p => s.endNow p.1 0 4) s).failUp 0xF0 die
  { s1 with agenda := s1.agenda.filter (fun x => outside x.what), reqs := [], late := [], moves := [], parked := [] }

/-- Samples in 1 ms and in 10 ms: one is taken each 100 µs (R397). -/
def samplesPerMs : Nat := 10

/-- The module's power over the last 1 ms exceeds WATTS: the mean of the samples taken in it, in mW (R397; entry 111). -/
def State.overPower (s : State) : Bool := decide (s.watts * 1000 * s.powers.length < s.powers.foldl (· + ·) 0)

/-- TELEMETRY_SAMPLE: power in mW and hottest sensor in eighths of a degree for each die. The clock state goes down one step while the
power over the last 1 ms exceeds WATTS or a die reads above 95 °C, and up one step when the power has stayed below 90 % of WATTS and every die
below 90 °C for 10 ms, at each sample and between them (R392, R397, R399; entry 111). -/
def execTelemetrySample (samples : List (Nat × Nat)) (rest : Nat) (calm : Bool) (s : State) : Host.Outcome State Fault Refusal :=
  let power := samples.foldl (fun n p => n + p.1) rest
  let low := calm && decide (power < s.watts * 900) && samples.all (fun p => decide (p.2 < 90 * 8))
  let s1 := { s with telemetry := samples, powers := (power :: s.powers).take samplesPerMs, calm := if low then s.calm + 1 else 0 }
  match (samples.zipIdx).find? (fun p => decide (105 * 8 < p.1.2)) with
  | some p => .next (if s1.railOff then s1 else s1.shutDown p.2)
  | none =>
    if s1.railOff then .next s1
    else if s1.overPower || samples.any (fun p => decide (95 * 8 < p.2)) then
      .next ({ s1 with calm := 0 }.setClock (min 4 (s.pstate + 1)))
    else if 10 * samplesPerMs ≤ s1.calm then .next ({ s1 with calm := 0 }.setClock (s.pstate - 1))
    else .next s1

/-! ## Attestation -/

/-- Length in bytes and pages of an output of the mailbox: none, report, key (R395). -/
def outputSize (o : Nat) : Nat × Nat :=
  match o with
  | 1 => (Config.reportLength, 4)
  | 2 => (Config.keyLength, 2)
  | _ => (0, 0)

/-- A byte of the part of a report that is signed: the nonce, the digests of the five images accepted and of the fuse words, the images'
versions (R394, R395). -/
def Mailbox.signedByte (m : Mailbox) (i : Nat) : Byte :=
  let image (n : Nat) : FlashImage := m.images.getD n default
  if i < 0x20 then m.used.getD i 0#8
  else if i < 0xC0 then (image ((i - 0x20) / 32)).digest.getD (i % 32) 0#8
  else if i < 0xE0 then Config.fuseDigest (i - 0xC0)
  else (leBytes 4 (image ((i - 0xE0) / 4)).version.toNat).getD (i % 4) 0#8

/-- A byte of the current output: a report, its last 3,309 bytes the signature over the first 0xF4, or the public identity key (R395;
entry 15). -/
def Mailbox.byte (m : Mailbox) (i : Nat) : Byte :=
  if (outputSize m.output).1 ≤ i then 0#8
  else if m.output = 2 then Config.keyByte i
  else if i < 0xF4 then m.signedByte i
  else Config.signature ((List.range 0xF4).map m.signedByte) m.made (i - 0xF4)

/-- A byte of DATA: page PAGE of the current output (R395). -/
def Mailbox.data (m : Mailbox) (i : Nat) : Byte := m.byte (1024 * m.page + i)

/-- ASTAT (R395). -/
def Mailbox.astat (m : Mailbox) : Nat := m.status + (outputSize m.output).1 * 2 ^ 16 + (outputSize m.output).2 * 2 ^ 32

/-- ATTEST_MAKE_REPORT: ignored while busy; the report is built within 50 ms over the nonce (R395). -/
def execAttestMakeReport (s : State) : Host.Outcome State Fault Refusal :=
  .next (if s.mailbox.status = 1 then s
    else { s with mailbox := { s.mailbox with status := 1, building := s.mailbox.nonce } }.plan (1 + s.freeN 0 % s.micros 50000) 0
      .attestReportReady {})

/-- ATTEST_REPORT_READY (R395). -/
def execAttestReportReady (s : State) : Host.Outcome State Fault Refusal :=
  .next (if s.mailbox.status = 1 then { s with mailbox := { s.mailbox with
      status := 2, output := 1, page := 0, used := s.mailbox.building, made := s.mailbox.made + 1 } } else s)

/-- ATTEST_READ_PAGE: ignored while busy (R395). -/
def execAttestReadPage (page : BitVec 8) (s : State) : Host.Outcome State Fault Refusal :=
  .next (if s.mailbox.status = 1 then s
    else if page.toNat < (outputSize s.mailbox.output).2 then { s with mailbox := { s.mailbox with status := 2, page := page.toNat } }
    else { s with mailbox := { s.mailbox with status := 3 } })

/-- ATTEST_FETCH_KEY: ignored while busy (R395). -/
def execAttestFetchKey (s : State) : Host.Outcome State Fault Refusal :=
  .next (if s.mailbox.status = 1 then s else { s with mailbox := { s.mailbox with status := 2, output := 2, page := 0 } })

end Sys2Proof.Machine
end

