-- ==== Sys2Proof/Machine/EventsLink.lean ====
section
/-! DEFINITION. Sys2Proof/Machine/EventsLink.lean: the Nelrek links: training (R386), flits (R387, R388), the inbound window (R389), the
answers of a peer (R389, R390), paired slots and carried assertions (R103, R391), and a link that leaves ACTIVE (R390, R391). -/

namespace Sys2Proof.Machine

/-! ## The inbound window (R389) -/

/-- May an access be performed through the inbound window: V, the size, the rights R, W and L (R389; entry 67)? -/
def NLink.allows (l : NLink) (a : RemoteAccess) : Bool :=
  let c := l.inCfg.toNat
  bitAt c 63 && decide (a.off + a.width ≤ bits c 39 0) && (!peerReads a || bitAt c 62) && (!peerWrites a || bitAt c 61) &&
  ((a.envs.isEmpty && !isVoid a.void) || bitAt c 60)

/-- The tenant for which a peer's access acts: that of the inbound domain where its entry is valid, else that of a live launch with a lease
over the address (R76, R389; entry 67). -/
def State.peerTenant (s : State) (link va : Nat) : Nat :=
  match s.linkDomain link with
  | some n => bits (s.dirEntry n) 61 57
  | none => ((s.launches.find? (fun p => p.2.leases.any (fun (b : Plb) => b.holds va))).map (·.2.tenant)).getD 0

/-- REMOTE_WINDOW_ACCESS (R389): performed at INBASE + OFFSET at that address's home, under this module's own rules, or answered as a failure
where the window does not allow it; an offset that lies outside global memory is a failure too. -/
def execRemoteWindowAccess (link : Nat) (acc : RemoteAccess) (s : State) : Host.Outcome State Fault Refusal :=
  let l := s.nlink link
  let va := l.inBase.toNat + acc.off
  .next (if l.state != .active || s.railOff then s
    else if !l.allows acc || !isGlobal va then s.answerPeer link false []
    else
      let r := s.outsideReq (s.peerTenant link va) (.peer link acc) va acc.width acc.data
      ({ s.bump with reqs := s.reqs ++ [r] }).homeGlobal r)

/-! ## Answers of a peer (R389, R390) -/

/-- The answer to a peer whose access went on to another link: the words that it asked for, in the labels of its own link (R389, R391). -/
def State.passOn (s : State) (n : Nat) (a : RemoteAccess) (va : Nat) (ws : List LWord) : State :=
  let mine := if a.kind = 0 then (List.range (max 1 (a.width / 4))).map (fun i => ws.getD (va / 4 % 16 + i) (0#32, hTrue)) else ws
  s.answerPeer n true (mine.map (fun w => let l := s.outOf (s.linkDomain n) n w.2; (w.1, l.1, l.2)))

/-- The answer of a request, its words in this module's labels. -/
def State.answered (s : State) (r : Req) (ws : List LWord) : State :=
  let k := r.core
  let lo := ws.getD 0 (0#32, hTrue)
  let hi := ws.getD 1 (0#32, hTrue)
  let n := homePath k r.va
  match r.op with
  | .load | .pref =>
    (s.onReq r.id (fun q => { q with
      words := ws, data := BitVec.ofNat 64 s.now, cmp := (s.writersOf (k / 8) (r.va / 64)).setWidth 64, away := true })).plan n 0
      .nearCacheFill { a := r.id }
  | .fetch => (s.onReq r.id (fun q => { q with words := ws, away := true })).plan n 0 .icacheFill { a := k, b := r.va / 32, c := r.id }
  | .watch => (s.watched r (ws.map (·.1))).plan (64 + s.freeN 1 % 64) 0 .homeAccess { a := r.id }
  | .amo _ | .cas =>
    let old := pairValue r.width lo hi
    let fl := match r.op with | .amo op => (amoValue op r.width old (r.data.toNat % 2 ^ (8 * r.width))).2 | _ => 0
    (((s.dropReq r.id).onPend k r.seq (fun p => { p with flags := p.flags ||| BitVec.ofNat 64 fl })).deliver r old
      (if r.width = 8 then [lo.2, hi.2] else [lo.2]) n)
  | .sys _ => s.moveAnswered r ws
  | .peer m a => (s.dropReq r.id).passOn m a r.va ws
  | .bar w => if w then s.barNext r (min r.width (4 - r.va % 4)) (r.data >>> (8 * min r.width (4 - r.va % 4))) else s.barRead r ws
  | .probe => s.onReq r.id (fun q => { q with words := ws, away := true })
  | .part _ => if 15 ≤ r.seq then s.dropReq r.id else (s.onReq r.id (fun q => { q with seq := r.seq + 1 })).retry r 0
  | .publish => s.refuse r cRights
  | _ => s.dropReq r.id

/-- REMOTE_ACCESS_ANSWER: the access completes, or parks with a record of KIND 2 (R389). -/
def execRemoteAccessAnswer (id : Nat) (ok : Bool) (words : List (Word × List Dword × Handle)) (s : State) :
    Host.Outcome State Fault Refusal :=
  .next (match s.req id with
    | some r =>
      match r.link with
      | none => s
      | some _ =>
        let s1 := s.onReq id (fun q => { q with link := none })
        let r1 := { r with link := none }
        if !ok then s1.parkReq r1 2
        else let x := s1.inWords (s1.reqDomain r) words; x.1.answered r1 x.2
    | none =>
      match s.findJob id with
      | none => s
      | some j =>
        match j.away with
        | none => s
        | some va =>
          let x := s.inWords (s.jobDomain j) words
          x.1.onJob id (fun j => { j with
            away := none, got := if ok then j.got ++ (x.2.zipIdx).map (fun p => (va / 64 * 16 + p.2, p.1)) else [] }) ok 2)

/-! ## Paired slots (R103, R391) -/

/-- REMOTE_SLOT_OPEN: the peer asks for a slot paired with its own (R79, R391). -/
def execRemoteSlotOpen (link peerSlot : Nat) (s : State) : Host.Outcome State Fault Refusal :=
  let l := s.nlink link
  let n := l.domain
  let no : State := s.toLink link (.slotAnswer link peerSlot false 0)
  .next (if l.state != .active then s
    else if !bitAt l.inCfg.toNat 63 || !bitAt (s.dirEntry n) 63 then no
    else if !s.resident (s.domBase n) then s.plan 64 0 (.remoteSlotOpen link peerSlot) {}
    else match s.lowestFree n with
    | none => no
    | some k =>
      if decide (64 ≤ l.pairs.length) || decide (64 - (s.pairedOpen n none + 1) < s.domNgCount n) then no
      else ((s.openSlot n k).onLink link (fun l => { l with pairs := l.pairs ++ [(n, k, peerSlot)] })).toLink link
        (.slotAnswer link peerSlot true k))

/-- REMOTE_SLOT_ANSWER: the pair is recorded and the slot's number written, or the slot is freed and the result is all ones (R391). -/
def execRemoteSlotAnswer (link id : Nat) (ok : Bool) (peerSlot : Nat) (s : State) : Host.Outcome State Fault Refusal :=
  .next (match s.domOps.find? (fun o => o.id == id && o.kind == 1 && o.link == link) with
    | none => s
    | some o =>
      match o.slot with
      | none => s
      | some k =>
        if ok then
          (s.onLink link (fun l => { l with pairs := l.pairs ++ [(o.dom, k, peerSlot)] })).answerOp
            { o with slot := none, res := BitVec.ofNat 64 k }
        else (s.closeSlot o.dom k).answerOp { o with slot := none, res := allOnes64 })

/-- The pair of an own slot that the other side of a link asserts: the initiator's ASSERT names a slot of the inbound domain (R391);
one of the peer's own program names the slot of the pair that this side initiated (entry 83). -/
def NLink.assertedPair (l : NLink) (slot : Nat) : Option (Nat × Nat × Nat) :=
  (l.pairs.find? (fun p => p.1 == l.domain && p.2.1 == slot)).or (l.pairs.find? (fun p => p.2.1 == slot))

/-- REMOTE_ASSERT: this side asserts its paired slot and acknowledges (R103). -/
def execRemoteAssert (link slot : Nat) (s : State) : Host.Outcome State Fault Refusal :=
  let l := s.nlink link
  .next (match l.assertedPair slot with
    | none => s
    | some p =>
      if l.state != .active then s
      else if !s.resident (s.domBase p.1) then s.plan 64 0 (.remoteAssert link slot) {}
      else (s.assertSlot p.1 slot).toLink link (.assertAck link slot))

/-- ASSERT_ACK: the initiator asserts its slot, and its ASSERT writes 0 (R103, R281). -/
def execAssertAck (link slot : Nat) (s : State) : Host.Outcome State Fault Refusal :=
  let mine : DomOp → Bool := fun o =>
    o.kind == 3 && o.link == link && (match o.slot with
      | none => false
      | some k => (s.nlink link).pairs.contains (o.dom, k, slot))
  .next (match s.domOps.find? mine with
    | none => s
    | some o =>
      let k := o.slot.getD 0
      let s1 := s.assertSlot o.dom k
      s1.answerOp { o with slot := none, res := 0#64, change := [.assert (s1.domUpdate o.dom) k] })

/-! ## Training (R386) and the end of ACTIVE (R390, R391) -/

/-- Limits of the training states in microseconds (R386). -/
def limitOf (st : NState) : Option Nat :=
  match st with
  | .equalise => some 2000
  | .deskew => some 50
  | .exchange => some 10
  | _ => none

/-- What this module's capability flit on link `n` tells: identity, link number, inbound domain, feature mask (R378, R386, R391). -/
def State.linkCaps (s : State) (n : Nat) : LinkCaps :=
  { identity := Config.moduleIdentity, number := n, domain := (s.nlink n).domain, features := s.features.foldl (fun m f => m + 2 ^ f.1) 0 }

/-- A link in EXCHANGE fixes the inbound domain that its INCFG names, and sends its capability flit (R386, R391). -/
def State.exchange (s : State) (n : Nat) : State :=
  let s1 := s.onLink n (fun l => { l with domain := bits l.inCfg.toNat 49 40, peer := none })
  s1.toLink n (.caps (s1.linkCaps n))

/-- A link enters a state; one with a limit leaves it for DOWN when the limit passes (R386). -/
def State.enterLink (s : State) (n : Nat) (st : NState) : State :=
  let s1 := s.onLink n (fun l => { l with state := st, entered := s.now })
  let s2 := if st = .exchange then s1.exchange n else s1
  match limitOf st with
  | none => s2
  | some us => s2.plan (s.micros us) 0 .nelrekStateTimeout { a := n, b := s.now }

/-- What is outstanding over a link parks with a record of KIND 2 (R390). -/
def State.parkLink (s : State) (n : Nat) : State :=
  let rs := s.reqs.filter (fun r => r.link == some n)
  let s1 := rs.foldl (fun s r => (s.onReq r.id (fun q => { q with link := none })).parkReq { r with link := none } 2) s
  let across : Job → Bool := fun j => match j.away with
    | none => false
    | some va => match s.translate va with
      | .leaf l _ => l.remote && l.link == n
      | .park _ => false
  let js := (s.mill ++ s.clusters.flatMap (fun c => c.2.jobs)).filter across
  js.foldl (fun s j => s.onJob j.id (fun j => { j with away := none, got := [] }) false 2) s1

/-- A domain operation that waits for a link which is gone, `q` the messages that it had not sent: a transaction ANEW frees its slot and
writes all ones, as where the peer has no free slot (R278 and R391 name that case and a link not in operation, not a link that fails while
the answer is awaited: DESIGN CHOICE; entry 87). An ASSERT's slot is retracted; it writes 1 where the link had not sent it, else 2 (R103,
R391). -/
def State.dropDomOp (s : State) (n : Nat) (q : List LinkMsg) (o : DomOp) : State :=
  match o.slot with
  | none => s
  | some k =>
    if o.link != n then s
    else if o.kind = 1 then (s.closeSlot o.dom k).answerOp { o with slot := none, res := allOnes64 }
    else
      let unsent := match s.pairOf o.dom k with
        | some p => q.contains (.assertSlot n p.2)
        | none => false
      let s1 := match s.retractSlot o.dom k with | .inl _ => s | .inr s1 => s1
      s1.answerOp { o with
        slot := none, res := if unsent then 1#64 else 2#64, change := [.nogood (s1.domUpdate o.dom) (slotBit k)] }

/-- A pair whose link is gone: its slot is retracted, and a later ASSERT of it writes 1 (R103, R391). -/
def State.dropPair (s : State) (p : Nat × Nat × Nat) : State :=
  match s.retractSlot p.1 p.2.1 with
  | .inl _ => s
  | .inr s1 => { s1 with aborted := s1.aborted ++ [(p.1, p.2.1)] }

/-- Is a step the reading of a flit that link `n` has taken? -/
def drains (n : Nat) (x : Todo) : Bool :=
  match x.what with
  | .flitReceive m _ => m == n && x.who.a == 1
  | _ => false

/-- Is a request one that the peer of link `n` has made? -/
def Req.isPeer (n : Nat) (r : Req) : Bool :=
  match r.op with
  | .peer m _ => m == n
  | _ => false

/-- A link leaves for DOWN, and with it what ACTIVE held: the flits that it kept and had taken, the pairs, and what the peer had asked
(R386, R390, R391; entry 16). -/
def State.linkDown (s : State) (n : Nat) : State :=
  let was := s.nlink n
  let s1 := { s.onLink n (fun l =>
    { l with
      state := .down, entered := s.now, downs := (l.downs + 1) % 2 ^ 16, rxSeq := 0, txSeq := 0, replayBuf := [], replays := 0,
      stop := 0#8, stopIn := 0#8, rxCount := Vector.replicate 8 0, sendq := [], peer := none }) with
    agenda := s.agenda.filter (fun x => !drains n x) }
  let s2 := if was.state = .active then
      let t1 := s.domOps.foldl (fun s o => s.dropDomOp n was.sendq o) s1
      let t2 := (t1.nlink n).pairs.foldl State.dropPair t1
      let t3 := (t2.onLink n (fun l => { l with pairs := [] })).parkLink n
      { t3 with reqs := t3.reqs.filter (fun r => !r.isPeer n), parked := t3.parked.filter (fun p =>
          p.isJob || !(t3.reqs.any (fun r => r.id == p.id && r.isPeer n))) }
    else s1
  s2.plan (1 + s.freeN n) 0 .nelrekRetry { a := n }

/-- Have both sides acknowledged the other's capability flit (R386)? -/
def NLink.exchanged (l : NLink) : Bool := l.state == .exchange && l.peer.isSome && l.replayBuf.isEmpty && l.sendq.isEmpty

/-- NELREK_STATE_ADVANCE: the exit condition of the link's state holds; that of EXCHANGE is the link's own to see (R386). -/
def execNelrekStateAdvance (s : State) : Host.Outcome State Fault Refusal :=
  let n := s.subj.a
  .next (if 16 ≤ n || s.railOff then s
    else match (s.nlink n).state with
    | .detect => s.enterLink n .equalise
    | .equalise => s.enterLink n .deskew
    | .deskew => s.enterLink n .exchange
    | .exchange => if (s.nlink n).exchanged then s.enterLink n .active else s
    | .active => s.linkDown n
    | .down => s)

/-- NELREK_STATE_TIMEOUT: the limit of the state that the link entered has passed (R386). -/
def execNelrekStateTimeout (s : State) : Host.Outcome State Fault Refusal :=
  let l := s.nlink s.subj.a
  .next (if (limitOf l.state).isSome && l.entered == s.subj.b then s.linkDown s.subj.a else s)

/-- NELREK_RETRY: a DOWN link trains again from DETECT (R386). -/
def execNelrekRetry (s : State) : Host.Outcome State Fault Refusal :=
  .next (if (s.nlink s.subj.a).state = .down then s.enterLink s.subj.a .detect else s)

/-! ## Flits (R387, R388; entry 16) -/

/-- Is a flit whole: 240 bytes of payload and the CRC of its first 248 bytes (R387)? -/
def flitWhole (f : Flit) : Bool := f.payload.length == 240 && crc64 (leBytes 8 f.header.toNat ++ f.payload) == f.crc

/-- STOP of a lane with `free` places: set at 8 or fewer, cleared at 32 or more (R388). -/
def stopAt (stop : BitVec 8) (lane free : Nat) : BitVec 8 :=
  if free ≤ 8 then stop ||| (1#8 <<< lane) else if 32 ≤ free then stop &&& ~~~(1#8 <<< lane) else stop

/-- A flit taken, in its turn: it stands in its lane until it is read, and it is acknowledged. The peer's capability flit, in EXCHANGE, is
read at once (R386 to R388). -/
def State.takeFlit (s : State) (n : Nat) (f : Flit) : State :=
  let l := s.nlink n
  let lane := f.header.toNat % 8
  let held := vget l.rxCount lane 0 + 1
  let caps := if l.state = .exchange && l.peer.isNone then
      (Config.readCaps f.payload).map (fun c => ({ identity := c.1, number := c.2.1, domain := c.2.2.1, features := c.2.2.2 } : LinkCaps))
    else none
  let s1 := s.bump.onLink n (fun l => { l with
    rxSeq := (l.rxSeq + 1) % 4096, rxCount := vset l.rxCount lane held, stop := stopAt l.stop lane (64 - held), peer := l.peer.or caps })
  (s1.plan (1 + s.freeN lane % 64) 0 (.flitReceive n f) { a := 1, b := lane, c := s.nextId, d := if caps.isSome then 1 else 0 }).reply n false

/-- Both sides have acknowledged: the link is in ACTIVE (R386). -/
def State.activate (s : State) (n : Nat) : State := if (s.nlink n).exchanged then s.enterLink n .active else s

/-- What a flit's header says about the flits sent to its sender: those up to the acknowledged one leave the replay buffer; NAK asks for the
rest again, and the eighth time in a row for one flit ends the link; STOP bits hold lanes (R387, R388). -/
def State.takeHeader (s : State) (n : Nat) (h : Nat) : State :=
  let l := s.nlink n
  let ack := bits h 26 15
  let buf := if l.replayBuf.any (fun q => q.1 == ack) then (l.replayBuf.dropWhile (fun q => q.1 != ack)).drop 1 else l.replayBuf
  let again := if buf.head? = l.replayBuf.head? then l.replays else 0
  let s1 := s.onLink n (fun l => { l with replayBuf := buf, replays := again, stopIn := BitVec.ofNat 8 (bits h 35 28) })
  if bitAt h 27 && !buf.isEmpty then
    if 8 ≤ again + 1 then s1.linkDown n
    else
      let s2 := s1.onLink n (fun l => { l with replays := again + 1 })
      { s2 with linkOut := s2.linkOut ++ buf.map (fun q => s2.flitOf n q.1 q.2) }
  else (s1.activate n).pump n

/-- Is a step one that a message of the peer of link `n` asks for here? -/
def peerStep (n : Nat) (i : Instr) : Bool :=
  match i with
  | .remoteWindowAccess m _ | .remoteSlotOpen m _ | .remoteSlotAnswer m _ _ _ | .remoteAssert m _ | .assertAck m _ => m == n
  | .remoteAccessAnswer _ _ _ => true
  | _ => false

/-- A flit that stood in its lane is read, after those that came before it: its place is free, and its message takes effect (R387, R388). -/
def State.readFlit (s : State) (n : Nat) (f : Flit) : State :=
  let lane := s.subj.b
  let l := s.nlink n
  let held := vget l.rxCount lane 0 - 1
  let stop := stopAt l.stop lane (64 - held)
  if s.agenda.any (fun x => drains n x && x.who.b == lane && decide (x.who.c < s.subj.c)) then s.plan 1 0 (.flitReceive n f) s.subj
  else
    let s1 := s.onLink n (fun l => { l with rxCount := vset l.rxCount lane held, stop := stop })
    let s2 := if stop = l.stop then s1 else s1.reply n false
    match Config.readPayload f.payload with
    | none => s2
    | some i => if s.subj.d = 0 && peerStep n i then s2.plan 0 0 i {} else s2

/-- FLIT_RECEIVE (R387): a flit arrives: one with a bad CRC, or that leaves a gap in the sequence, is answered by NAK; one that repeats the
number of the last flit taken carries its header alone. With `a` = 1, a flit taken before is read from its lane. -/
def execFlitReceive (link : Nat) (flit : Flit) (s : State) : Host.Outcome State Fault Refusal :=
  let l := s.nlink link
  let h := flit.header.toNat
  .next (if !l.sends || s.railOff then s
    else if s.subj.a = 1 then s.readFlit link flit
    else if !flitWhole flit then s.reply link true
    else if bits h 14 3 = l.rxSeq then (s.takeFlit link flit).takeHeader link h
    else if bits h 14 3 = (l.rxSeq + 4095) % 4096 then s.takeHeader link h
    else (s.reply link true).takeHeader link h)

end Sys2Proof.Machine
end

