-- ==== Sys2Proof/Machine/Dispatch.lean ====
section
/-! DEFINITION. Sys2Proof/Machine/Dispatch.lean: one arm per row of the opcode table, each one call of that row's meaning. -/

namespace Sys2Proof.Machine
open Host

/-- The meaning of every instruction and step. -/
def exec (i : Instr) (s : State) : Host.Outcome State Fault Refusal :=
  match i with
  | .nop k => Sys2Proof.Machine.execNop k s
  | .halt k => Sys2Proof.Machine.execHalt k s
  | .br k off => Sys2Proof.Machine.execBr k off s
  | .brc k a b cond off => Sys2Proof.Machine.execBrc k a b cond off s
  | .brz k a off => Sys2Proof.Machine.execBrz k a off s
  | .brnz k a off => Sys2Proof.Machine.execBrnz k a off s
  | .brv k a off => Sys2Proof.Machine.execBrv k a off s
  | .call k off => Sys2Proof.Machine.execCall k off s
  | .callr k a => Sys2Proof.Machine.execCallr k a s
  | .ret k => Sys2Proof.Machine.execRet k s
  | .jmpr k a => Sys2Proof.Machine.execJmpr k a s
  | .loop k d off => Sys2Proof.Machine.execLoop k d off s
  | .hstart k d a b off => Sys2Proof.Machine.execHstart k d a b off s
  | .hend k => Sys2Proof.Machine.execHend k s
  | .hjoin k a => Sys2Proof.Machine.execHjoin k a s
  | .yield k n => Sys2Proof.Machine.execYield k n s
  | .trap k n => Sys2Proof.Machine.execTrap k n s
  | .brk k n => Sys2Proof.Machine.execBrk k n s
  | .add k d a b => Sys2Proof.Machine.execAdd k d a b s
  | .addi k d a imm => Sys2Proof.Machine.execAddi k d a imm s
  | .sub k d a b => Sys2Proof.Machine.execSub k d a b s
  | .mul k d a b => Sys2Proof.Machine.execMul k d a b s
  | .mulh k d a b => Sys2Proof.Machine.execMulh k d a b s
  | .mulhu k d a b => Sys2Proof.Machine.execMulhu k d a b s
  | .div k d a b => Sys2Proof.Machine.execDiv k d a b s
  | .divu k d a b => Sys2Proof.Machine.execDivu k d a b s
  | .rem k d a b => Sys2Proof.Machine.execRem k d a b s
  | .remu k d a b => Sys2Proof.Machine.execRemu k d a b s
  | .and k d a b => Sys2Proof.Machine.execAnd k d a b s
  | .andi k d a imm => Sys2Proof.Machine.execAndi k d a imm s
  | .or k d a b => Sys2Proof.Machine.execOr k d a b s
  | .ori k d a imm => Sys2Proof.Machine.execOri k d a imm s
  | .xor k d a b => Sys2Proof.Machine.execXor k d a b s
  | .xori k d a imm => Sys2Proof.Machine.execXori k d a imm s
  | .shl k d a b => Sys2Proof.Machine.execShl k d a b s
  | .shli k d a sh => Sys2Proof.Machine.execShli k d a sh s
  | .shr k d a b => Sys2Proof.Machine.execShr k d a b s
  | .shri k d a sh => Sys2Proof.Machine.execShri k d a sh s
  | .sar k d a b => Sys2Proof.Machine.execSar k d a b s
  | .sari k d a sh => Sys2Proof.Machine.execSari k d a sh s
  | .min k d a b => Sys2Proof.Machine.execMin k d a b s
  | .max k d a b => Sys2Proof.Machine.execMax k d a b s
  | .minu k d a b => Sys2Proof.Machine.execMinu k d a b s
  | .maxu k d a b => Sys2Proof.Machine.execMaxu k d a b s
  | .slt k d a b => Sys2Proof.Machine.execSlt k d a b s
  | .sltu k d a b => Sys2Proof.Machine.execSltu k d a b s
  | .seq k d a b => Sys2Proof.Machine.execSeq k d a b s
  | .sel k d a b c => Sys2Proof.Machine.execSel k d a b c s
  | .clz k d a => Sys2Proof.Machine.execClz k d a s
  | .popc k d a => Sys2Proof.Machine.execPopc k d a s
  | .bfx k d a sx width pos => Sys2Proof.Machine.execBfx k d a sx width pos s
  | .bfi k d a width pos => Sys2Proof.Machine.execBfi k d a width pos s
  | .li k d imm => Sys2Proof.Machine.execLi k d imm s
  | .liw k d imm => Sys2Proof.Machine.execLiw k d imm s
  | .lea k d a b sh imm => Sys2Proof.Machine.execLea k d a b sh imm s
  | .srd k d n => Sys2Proof.Machine.execSrd k d n s
  | .swr k a n => Sys2Proof.Machine.execSwr k a n s
  | .ld k d a off w z lc => Sys2Proof.Machine.execLd k d a off w z lc s
  | .st k a b off w lc => Sys2Proof.Machine.execSt k a b off w lc s
  | .ldacq k d a off w z lc => Sys2Proof.Machine.execLdacq k d a off w z lc s
  | .strel k a b off w lc => Sys2Proof.Machine.execStrel k a b off w lc s
  | .amo k d a b off w op => Sys2Proof.Machine.execAmo k d a b off w op s
  | .cas k d a b c w off => Sys2Proof.Machine.execCas k d a b c w off s
  | .red k a b off w op => Sys2Proof.Machine.execRed k a b off w op s
  | .redc k a b off => Sys2Proof.Machine.execRedc k a b off s
  | .fence k scope => Sys2Proof.Machine.execFence k scope s
  | .pref k a off => Sys2Proof.Machine.execPref k a off s
  | .rinv k a b => Sys2Proof.Machine.execRinv k a b s
  | .rwb k a b => Sys2Proof.Machine.execRwb k a b s
  | .rflush k a b => Sys2Proof.Machine.execRflush k a b s
  | .publish k d a => Sys2Proof.Machine.execPublish k d a s
  | .vadd k d a b vm => Sys2Proof.Machine.execVadd k d a b vm s
  | .vsub k d a b vm => Sys2Proof.Machine.execVsub k d a b vm s
  | .vmul k d a b vm => Sys2Proof.Machine.execVmul k d a b vm s
  | .vmulh k d a b vm => Sys2Proof.Machine.execVmulh k d a b vm s
  | .vand k d a b vm => Sys2Proof.Machine.execVand k d a b vm s
  | .vor k d a b vm => Sys2Proof.Machine.execVor k d a b vm s
  | .vxor k d a b vm => Sys2Proof.Machine.execVxor k d a b vm s
  | .vnot k d a vm => Sys2Proof.Machine.execVnot k d a vm s
  | .vshl k d a b vm => Sys2Proof.Machine.execVshl k d a b vm s
  | .vshr k d a b vm => Sys2Proof.Machine.execVshr k d a b vm s
  | .vsar k d a b vm => Sys2Proof.Machine.execVsar k d a b vm s
  | .vmin k d a b vm => Sys2Proof.Machine.execVmin k d a b vm s
  | .vmax k d a b vm => Sys2Proof.Machine.execVmax k d a b vm s
  | .vminu k d a b vm => Sys2Proof.Machine.execVminu k d a b vm s
  | .vmaxu k d a b vm => Sys2Proof.Machine.execVmaxu k d a b vm s
  | .vcmp k d a b vm cond => Sys2Proof.Machine.execVcmp k d a b vm cond s
  | .vsel k d a b vm svec => Sys2Proof.Machine.execVsel k d a b vm svec s
  | .viota k d a vm => Sys2Proof.Machine.execViota k d a vm s
  | .vpopm k d a vm => Sys2Proof.Machine.execVpopm k d a vm s
  | .vfirst k d a vm => Sys2Proof.Machine.execVfirst k d a vm s
  | .vmv k d a vm => Sys2Proof.Machine.execVmv k d a vm s
  | .vbcast k d a vm => Sys2Proof.Machine.execVbcast k d a vm s
  | .vext k d a vm n => Sys2Proof.Machine.execVext k d a vm n s
  | .vins k d a vm n => Sys2Proof.Machine.execVins k d a vm n s
  | .vclz k d a vm => Sys2Proof.Machine.execVclz k d a vm s
  | .vpopc k d a vm => Sys2Proof.Machine.execVpopc k d a vm s
  | .vmatch k d a b vm side => Sys2Proof.Machine.execVmatch k d a b vm side s
  | .vred k d a vm op => Sys2Proof.Machine.execVred k d a vm op s
  | .vfadd k d a b vm => Sys2Proof.Machine.execVfadd k d a b vm s
  | .vfsub k d a b vm => Sys2Proof.Machine.execVfsub k d a b vm s
  | .vfmul k d a b vm => Sys2Proof.Machine.execVfmul k d a b vm s
  | .vfma k d a b c vm => Sys2Proof.Machine.execVfma k d a b c vm s
  | .vfms k d a b c vm => Sys2Proof.Machine.execVfms k d a b c vm s
  | .vfnma k d a b c vm => Sys2Proof.Machine.execVfnma k d a b c vm s
  | .vfmin k d a b vm => Sys2Proof.Machine.execVfmin k d a b vm s
  | .vfmax k d a b vm => Sys2Proof.Machine.execVfmax k d a b vm s
  | .vfabs k d a vm => Sys2Proof.Machine.execVfabs k d a vm s
  | .vfneg k d a vm => Sys2Proof.Machine.execVfneg k d a vm s
  | .vfcmp k d a b vm cond => Sys2Proof.Machine.execVfcmp k d a b vm cond s
  | .vfclass k d a vm => Sys2Proof.Machine.execVfclass k d a vm s
  | .vdiv k d a b vm => Sys2Proof.Machine.execVdiv k d a b vm s
  | .vsqrt k d a vm => Sys2Proof.Machine.execVsqrt k d a vm s
  | .vrsqrt k d a vm => Sys2Proof.Machine.execVrsqrt k d a vm s
  | .vrcp k d a vm => Sys2Proof.Machine.execVrcp k d a vm s
  | .vsqd k d a b vm => Sys2Proof.Machine.execVsqd k d a b vm s
  | .vfred k d a vm => Sys2Proof.Machine.execVfred k d a vm s
  | .vfdot k d a b vm => Sys2Proof.Machine.execVfdot k d a b vm s
  | .vfsgn k d a b vm mode => Sys2Proof.Machine.execVfsgn k d a b vm mode s
  | .vfrnd k d a vm => Sys2Proof.Machine.execVfrnd k d a vm s
  | .vld k d a vm lc off => Sys2Proof.Machine.execVld k d a vm lc off s
  | .vst k a b vm lc off => Sys2Proof.Machine.execVst k a b vm lc off s
  | .vlds k d a b vm lc => Sys2Proof.Machine.execVlds k d a b vm lc s
  | .vsts k d a b vm lc => Sys2Proof.Machine.execVsts k d a b vm lc s
  | .vldx k d a b vm lc scale => Sys2Proof.Machine.execVldx k d a b vm lc scale s
  | .vstx k d a b vm lc scale => Sys2Proof.Machine.execVstx k d a b vm lc scale s
  | .vldb k d a vm lc off => Sys2Proof.Machine.execVldb k d a vm lc off s
  | .vperm k d a b vm => Sys2Proof.Machine.execVperm k d a b vm s
  | .vslide k d a b vm n => Sys2Proof.Machine.execVslide k d a b vm n s
  | .vzip k d a b vm half => Sys2Proof.Machine.execVzip k d a b vm half s
  | .vunzip k d a b vm half => Sys2Proof.Machine.execVunzip k d a b vm half s
  | .vcvt k d a vm u => Sys2Proof.Machine.execVcvt k d a vm u s
  | .vpack k d a b vm => Sys2Proof.Machine.execVpack k d a b vm s
  | .vunpack k d a vm half => Sys2Proof.Machine.execVunpack k d a vm half s
  | .vqld k d a b vm lc => Sys2Proof.Machine.execVqld k d a b vm lc s
  | .vqdec k d a vm part => Sys2Proof.Machine.execVqdec k d a vm part s
  | .vqst k d a b c vm mask => Sys2Proof.Machine.execVqst k d a b c vm mask s
  | .vqenc k d a vm mask slot => Sys2Proof.Machine.execVqenc k d a vm mask slot s
  | .vhdr k d a vm slot => Sys2Proof.Machine.execVhdr k d a vm slot s
  | .vhdrw k d a vm slot => Sys2Proof.Machine.execVhdrw k d a vm slot s
  | .mma k d a b c tb ty sp zc => Sys2Proof.Machine.execMma k d a b c tb ty sp zc s
  | .mmar k d a b c tb ty sp zc => Sys2Proof.Machine.execMmar k d a b c tb ty sp zc s
  | .mzero k d => Sys2Proof.Machine.execMzero k d s
  | .mst k a b c off => Sys2Proof.Machine.execMst k a b c off s
  | .mld k d b c off => Sys2Proof.Machine.execMld k d b c off s
  | .mrdv k d a vm r => Sys2Proof.Machine.execMrdv k d a vm r s
  | .mwrv k d a vm r => Sys2Proof.Machine.execMwrv k d a vm r s
  | .mscale k d a vm => Sys2Proof.Machine.execMscale k d a vm s
  | .mqst k a b c ty co mask => Sys2Proof.Machine.execMqst k a b c ty co mask s
  | .mwait k => Sys2Proof.Machine.execMwait k s
  | .cpy k d a b => Sys2Proof.Machine.execCpy k d a b s
  | .cpyt k d a b => Sys2Proof.Machine.execCpyt k d a b s
  | .cpyu k d a b => Sys2Proof.Machine.execCpyu k d a b s
  | .cpyg k d a b => Sys2Proof.Machine.execCpyg k d a b s
  | .cpys k d a b => Sys2Proof.Machine.execCpys k d a b s
  | .cpyf k d a b => Sys2Proof.Machine.execCpyf k d a b s
  | .cpyq k d a b => Sys2Proof.Machine.execCpyq k d a b s
  | .accsv k d a b evl eve weirn wpe => Sys2Proof.Machine.execAccsv k d a b evl eve weirn wpe s
  | .accrs k d a b evl eve weirn wpe => Sys2Proof.Machine.execAccrs k d a b evl eve weirn wpe s
  | .xfer k d a b n => Sys2Proof.Machine.execXfer k d a b n s
  | .xferq k d a b n => Sys2Proof.Machine.execXferq k d a b n s
  | .weir k b wn => Sys2Proof.Machine.execWeir k b wn s
  | .weira k b wn => Sys2Proof.Machine.execWeira k b wn s
  | .weirw k wn => Sys2Proof.Machine.execWeirw k wn s
  | .weirx k wn => Sys2Proof.Machine.execWeirx k wn s
  | .evwaitLine k idx => Sys2Proof.Machine.execEvwaitLine k idx s
  | .evwaitMutex k idx => Sys2Proof.Machine.execEvwaitMutex k idx s
  | .evwaitBarrier k idx => Sys2Proof.Machine.execEvwaitBarrier k idx s
  | .evsigLine k a far idx => Sys2Proof.Machine.execEvsigLine k a far idx s
  | .evsigMutex k idx => Sys2Proof.Machine.execEvsigMutex k idx s
  | .tlwaitMem k a b => Sys2Proof.Machine.execTlwaitMem k a b s
  | .tlwaitSluice k b => Sys2Proof.Machine.execTlwaitSluice k b s
  | .tlwaitMillrace k b idx => Sys2Proof.Machine.execTlwaitMillrace k b idx s
  | .tlwaitUpdate k b => Sys2Proof.Machine.execTlwaitUpdate k b s
  | .tlsig k a b => Sys2Proof.Machine.execTlsig k a b s
  | .comm k => Sys2Proof.Machine.execComm k s
  | .sendf k b f => Sys2Proof.Machine.execSendf k b f s
  | .anew k d => Sys2Proof.Machine.execAnew k d s
  | .anewTx k d link => Sys2Proof.Machine.execAnewTx k d link s
  | .lapply k d a b vm v => Sys2Proof.Machine.execLapply k d a b vm v s
  | .amb k a => Sys2Proof.Machine.execAmb k a s
  | .nogood k a => Sys2Proof.Machine.execNogood k a s
  | .assert k d a => Sys2Proof.Machine.execAssert k d a s
  | .retract k a => Sys2Proof.Machine.execRetract k a s
  | .vjoin k d a b vm => Sys2Proof.Machine.execVjoin k d a b vm s
  | .lget k d a vm v => Sys2Proof.Machine.execLget k d a vm v s
  | .lstrip k d a vm v => Sys2Proof.Machine.execLstrip k d a vm v s
  | .lread k d a n => Sys2Proof.Machine.execLread k d a n s
  | .ltest k d a vm v cond => Sys2Proof.Machine.execLtest k d a vm v cond s
  | .lfence k => Sys2Proof.Machine.execLfence k s
  | .settle k d => Sys2Proof.Machine.execSettle k d s
  | .lscrub k d a evl eve weirn wpe => Sys2Proof.Machine.execLscrub k d a evl eve weirn wpe s
  | .srreg k a b => Sys2Proof.Machine.execSrreg k a b s
  | .srvFinish k n => Sys2Proof.Machine.execSrvFinish k n s
  | .srvSummarise k => Sys2Proof.Machine.execSrvSummarise k s
  | .srvRefuse k => Sys2Proof.Machine.execSrvRefuse k s
  | .release k => Sys2Proof.Machine.execRelease k s
  | .lease k d a b => Sys2Proof.Machine.execLease k d a b s
  | .plbset k d a b => Sys2Proof.Machine.execPlbset k d a b s
  | .replay k d => Sys2Proof.Machine.execReplay k d s
  | .flushcode k d a => Sys2Proof.Machine.execFlushcode k d a s
  | .idle k => Sys2Proof.Machine.execIdle k s
  | .fpkt k d a => Sys2Proof.Machine.execFpkt k d a s
  | .resume k d a => Sys2Proof.Machine.execResume k d a s
  | .kill k d a => Sys2Proof.Machine.execKill k d a s
  | .qprio k a b => Sys2Proof.Machine.execQprio k a b s
  | .aperset k d a b => Sys2Proof.Machine.execAperset k d a b s
  | .snap k d a b => Sys2Proof.Machine.execSnap k d a b s
  | .migrateMove k d a b => Sys2Proof.Machine.execMigrateMove k d a b s
  | .migrateFlush k d a => Sys2Proof.Machine.execMigrateFlush k d a s
  | .registerCacheFill core ctx reg => Sys2Proof.Machine.execRegisterCacheFill core ctx reg s
  | .flumeDelivery src dst off words => Sys2Proof.Machine.execFlumeDelivery src dst off words s
  | .hostBar2Read tenant off width => Sys2Proof.Machine.execHostBar2Read tenant off width s
  | .hostBar2Write tenant off width data => Sys2Proof.Machine.execHostBar2Write tenant off width data s
  | .physicalWindowAccess write off width data => Sys2Proof.Machine.execPhysicalWindowAccess write off width data s
  | .tflushWrite va => Sys2Proof.Machine.execTflushWrite va s
  | .queueDoorbell tenant queue tail => Sys2Proof.Machine.execQueueDoorbell tenant queue tail s
  | .queueCfgWrite tenant queue cfg => Sys2Proof.Machine.execQueueCfgWrite tenant queue cfg s
  | .faultBufferHeadWrite tenant v => Sys2Proof.Machine.execFaultBufferHeadWrite tenant v s
  | .failureAnswer tenant gen host => Sys2Proof.Machine.execFailureAnswer tenant gen host s
  | .nqheadWrite tenant v => Sys2Proof.Machine.execNqheadWrite tenant v s
  | .pubvUpdate tenant addr count => Sys2Proof.Machine.execPubvUpdate tenant addr count s
  | .directoryWrite n entry => Sys2Proof.Machine.execDirectoryWrite n entry s
  | .pcapWrite v => Sys2Proof.Machine.execPcapWrite v s
  | .registerWrite reg v => Sys2Proof.Machine.execRegisterWrite reg v s
  | .attestReadPage page => Sys2Proof.Machine.execAttestReadPage page s
  | .powerUp outcome => Sys2Proof.Machine.execPowerUp outcome s
  | .moduleReset outcome => Sys2Proof.Machine.execModuleReset outcome s
  | .telemetrySample samples rest calm => Sys2Proof.Machine.execTelemetrySample samples rest calm s
  | .flitReceive link flit => Sys2Proof.Machine.execFlitReceive link flit s
  | .remoteWindowAccess link acc => Sys2Proof.Machine.execRemoteWindowAccess link acc s
  | .remoteSlotOpen link peerSlot => Sys2Proof.Machine.execRemoteSlotOpen link peerSlot s
  | .remoteAssert link slot => Sys2Proof.Machine.execRemoteAssert link slot s
  | .assertAck link slot => Sys2Proof.Machine.execAssertAck link slot s
  | .hostReadResponse id ok words => Sys2Proof.Machine.execHostReadResponse id ok words s
  | .hostWriteThroughComplete id => Sys2Proof.Machine.execHostWriteThroughComplete id s
  | .unassignedEncoding word => Sys2Proof.Machine.execUnassignedEncoding word s
  | .pcieLinkStateChange link up => Sys2Proof.Machine.execPcieLinkStateChange link up s
  | .uncorrectableError site => Sys2Proof.Machine.execUncorrectableError site s
  | .remoteAccessAnswer id ok words => Sys2Proof.Machine.execRemoteAccessAnswer id ok words s
  | .remoteSlotAnswer link id ok peerSlot => Sys2Proof.Machine.execRemoteSlotAnswer link id ok peerSlot s
  | .icacheFill => Sys2Proof.Machine.execIcacheFill s
  | .resultLanding => Sys2Proof.Machine.execResultLanding s
  | .tagFree => Sys2Proof.Machine.execTagFree s
  | .gapExpiry => Sys2Proof.Machine.execGapExpiry s
  | .homeAccess => Sys2Proof.Machine.execHomeAccess s
  | .partialCombine => Sys2Proof.Machine.execPartialCombine s
  | .nearCacheFill => Sys2Proof.Machine.execNearCacheFill s
  | .translationWalk => Sys2Proof.Machine.execTranslationWalk s
  | .leafReturn => Sys2Proof.Machine.execLeafReturn s
  | .memoryFill => Sys2Proof.Machine.execMemoryFill s
  | .writeBack => Sys2Proof.Machine.execWriteBack s
  | .faultRecordArrival => Sys2Proof.Machine.execFaultRecordArrival s
  | .labelResolve => Sys2Proof.Machine.execLabelResolve s
  | .internProbe => Sys2Proof.Machine.execInternProbe s
  | .sluiceCapture => Sys2Proof.Machine.execSluiceCapture s
  | .sluiceJobStart => Sys2Proof.Machine.execSluiceJobStart s
  | .sluiceWriteLanding => Sys2Proof.Machine.execSluiceWriteLanding s
  | .sluiceJobComplete => Sys2Proof.Machine.execSluiceJobComplete s
  | .millraceCapture => Sys2Proof.Machine.execMillraceCapture s
  | .millraceJobEnd => Sys2Proof.Machine.execMillraceJobEnd s
  | .gangStart => Sys2Proof.Machine.execGangStart s
  | .gangColumnComplete => Sys2Proof.Machine.execGangColumnComplete s
  | .mmarInboundLanding => Sys2Proof.Machine.execMmarInboundLanding s
  | .weirArrivalCounted => Sys2Proof.Machine.execWeirArrivalCounted s
  | .weirRelease => Sys2Proof.Machine.execWeirRelease s
  | .holdingDeparture => Sys2Proof.Machine.execHoldingDeparture s
  | .eventSignalEffect => Sys2Proof.Machine.execEventSignalEffect s
  | .eventWake => Sys2Proof.Machine.execEventWake s
  | .eventLineStore => Sys2Proof.Machine.execEventLineStore s
  | .barrierTargetStore => Sys2Proof.Machine.execBarrierTargetStore s
  | .domainHomeOperation => Sys2Proof.Machine.execDomainHomeOperation s
  | .domainAnswer => Sys2Proof.Machine.execDomainAnswer s
  | .eraRewriteDone => Sys2Proof.Machine.execEraRewriteDone s
  | .helperRetire => Sys2Proof.Machine.execHelperRetire s
  | .haltWake => Sys2Proof.Machine.execHaltWake s
  | .recallDelivery => Sys2Proof.Machine.execRecallDelivery s
  | .finishDeadline => Sys2Proof.Machine.execFinishDeadline s
  | .surrenderOverrun => Sys2Proof.Machine.execSurrenderOverrun s
  | .faultReport => Sys2Proof.Machine.execFaultReport s
  | .faultPacketOffer => Sys2Proof.Machine.execFaultPacketOffer s
  | .distributorRound => Sys2Proof.Machine.execDistributorRound s
  | .launchBind => Sys2Proof.Machine.execLaunchBind s
  | .launchEndSweep => Sys2Proof.Machine.execLaunchEndSweep s
  | .preemption => Sys2Proof.Machine.execPreemption s
  | .restore => Sys2Proof.Machine.execRestore s
  | .snapshotCopy => Sys2Proof.Machine.execSnapshotCopy s
  | .migrationCopyDone => Sys2Proof.Machine.execMigrationCopyDone s
  | .faultBufferFlush => Sys2Proof.Machine.execFaultBufferFlush s
  | .tenantReset => Sys2Proof.Machine.execTenantReset s
  | .attestMakeReport => Sys2Proof.Machine.execAttestMakeReport s
  | .attestFetchKey => Sys2Proof.Machine.execAttestFetchKey s
  | .attestReportReady => Sys2Proof.Machine.execAttestReportReady s
  | .configRequest => Sys2Proof.Machine.execConfigRequest s
  | .pcieTrainTimeout => Sys2Proof.Machine.execPcieTrainTimeout s
  | .nelrekStateAdvance => Sys2Proof.Machine.execNelrekStateAdvance s
  | .nelrekStateTimeout => Sys2Proof.Machine.execNelrekStateTimeout s
  | .nelrekRetry => Sys2Proof.Machine.execNelrekRetry s
  | .divideUnitFree => Sys2Proof.Machine.execDivideUnitFree s

end Sys2Proof.Machine
end

