-- ==== Sys2Proof/Machine/Cycle.lean ====
section
/-! DEFINITION. Sys2Proof/Machine/Cycle.lean: the end of a cycle: accesses to cluster memory land (R45), contexts' waiting times are
counted (R112, R139), and evicted register lines go back to their images (R110). -/

namespace Sys2Proof.Machine

/-- Would a context's next instruction stall: for a full store buffer or sluice queue, busy resolve slots, an unjoined gang (R112)? -/
def State.wouldStall (s : State) (k t pc : Nat) (i : Instr) : Bool :=
  !s.overBound k t &&
  (match exec i (s.toIssue k t pc) with
   | .next u => (u.ctxAt k t).stalled == s.now + 1
   | _ => false)

/-- Is a context ready in this cycle (R112)? -/
def State.isReady (s : State) (k t : Nat) : Bool :=
  match s.status k t with
  | .ready pc i => !s.wouldStall k t pc i
  | _ => false

/-- How long each context has been ready without issuing (R112), and the weir wait count (R139). -/
def State.countWaits (s : State) (k : Nat) : State :=
  let ready := (List.range 11).map (s.isReady k)
  s.onCore k (fun c =>
    let c1 := (List.range 11).foldl (fun c t =>
      let x := c.ctx t
      c.setCtx t { x with waited := if ready.getD t false && !(c.issuedAt == s.now + 1 && c.lastCtx == t) then x.waited + 1 else 0 }) c
    if (List.range 11).any (fun t => match (c1.ctx t).wait with | .weir _ => true | _ => false) then c1.count 11 1 else c1)

/-- A doubleword of a context's image written at its home. -/
def State.imageToHome (s : State) (k t base o : Nat) : State := s.put64 (base + o) (s.imageWord k t o)

/-- An evicted register line written back to the context's image (R109, R110). A scalar's line has one label of the four in a
doubleword. -/
def State.writeBackReg (s : State) (k t : Nat) (r : RegRef) : State :=
  match s.launchOf k with
  | none => s
  | some l =>
    let base := l.imageAddr (s.core k).holding (k % 8) t
    if !(s.ctxAt k t).live then s
    else match r with
    | .s n =>
      let o := 0x180 + 2 * n.toNat
      let a := base + o / 8 * 8
      let s1 := s.imageToHome k t base (0x080 + 8 * n.toNat)
      s1.put64 a (mergeDword (s1.home64 a) (o % 8) 2 ((s.ctxAt k t).sreg n).2.toNat)
    | .v n =>
      (((List.range 8).map (fun i => 0x1C0 + 64 * n.toNat + 8 * i)) ++ ((List.range 4).map (fun i => 0x9C0 + 32 * n.toNat + 8 * i)) ++
        [0xDC0 + 8 * n.toNat]).foldl (fun s o => s.imageToHome k t base o) s

/-- The register lines that a core evicted in this cycle go back to the images (R110). -/
def State.writeBackRegs (s : State) (k : Nat) : State :=
  match (s.core k).regOut with
  | [] => s
  | l => (l.foldl (fun s p => s.writeBackReg k p.1 p.2) s).onCore k (fun c => { c with regOut := [] })

/-- The end of a cycle: accesses to cluster memory land, waiting times are counted, evicted register lines go back, CYCLE advances
(R45, R110, R112, R139). -/
def State.tick (s : State) : State :=
  let s1 := s.cores.foldl (fun s p => (s.countWaits p.1).writeBackRegs p.1) s.performLate
  { s1 with now := s1.now + 1 }

end Sys2Proof.Machine
end

