-- ==== Sys2Proof/Machine/Step.lean ====
section
/-! DEFINITION. Sys2Proof/Machine/Step.lean: one step of the module (entry 1): a step of the agenda that is due before issue, else
what the next core has to do in this cycle, else a step that follows issue, else the end of the cycle. -/

namespace Sys2Proof.Machine

/-- The state in which an agenda item runs: taken off the agenda, its operands named. -/
def State.begin (s : State) (t : Todo) (rest : List Todo) : State := { s with agenda := rest, subj := t.who }

/-- A new step: the free values of the last one are not used again (entry 2). -/
def State.renew (s : State) : State := { s with fresh := s.fresh + 1 }

/-- What a core has to do, done. -/
def runTask (x : Task) (s : State) : Host.Outcome State Fault Refusal :=
  match x with
  | .fetch k t b => .next (s.startFetch k t b)
  | .regs k t rs => .next (s.startRegs k t rs)
  | .issue k t pc i =>
    if s.overBound k t then exec .surrenderOverrun { s with subj := { a := k, b := t } }
    else exec i (s.toIssue k t pc)

/-- The steps of a cycle that follow its agenda up to issue. -/
def stepCores (s : State) : Host.Outcome State Fault Refusal :=
  match s.nextTask with
  | some x => runTask x s
  | none =>
    match s.agenda with
    | t :: rest => if t.key ≤ 4 * s.now + 3 then exec t.what (s.begin t rest) else .next s.tick
    | [] => .next s.tick

/-- One step of the module. -/
def step (s0 : State) : Host.Outcome State Fault Refusal :=
  let s := s0.renew
  match s.agenda with
  | t :: rest => if t.key ≤ 4 * s.now + 1 then exec t.what (s.begin t rest) else stepCores s
  | [] => stepCores s

/-- The state in which `step` fetches and runs the instruction with bits `w` (entry 5). -/
def State.withFetchWord (s : State) (nbits w : Nat) : State := s.place (BitVec.ofNat 128 (w % 2 ^ nbits))

end Sys2Proof.Machine
end

