-- ==== Sys2Proof/Machine/HostMap.lean ====
section
/-! DEFINITION. Sys2Proof/Machine/HostMap.lean: what the host finds at each 8-byte word of the module's BARs (R374 to R378, R382, R384,
R385, R389, R392, R395): the value that a read returns, which changes no state, and the steps of the module that a write takes. An offset
that no table lists reads as zero and takes no step. -/

namespace Sys2Proof.Machine

/-- Steps that a host write takes, each with its operands. -/
abbrev HostSteps := List (Instr × Subj)

/-- CAPHEAD and the capability records, once they are published (R374, R378, R393). -/
def State.capWord (s : State) (off : Nat) : Dword := ((s.caps.find? (fun p => p.1 == off)).map (·.2)).getD 0#64

/-! ## BAR 0 of the physical functions (R375 to R377, R389) -/

/-- A word of a tenant table entry (R377). -/
def Tenant.tableWord (x : Tenant) (o : Nat) : Dword :=
  match o with
  | 0x00 => x.wBase
  | 0x08 => x.wCfg
  | 0x10 => x.saveBase
  | 0x18 => x.saveCnt
  | 0x20 => if x.resetBusy then 1#64 else 0#64
  | 0x28 => x.rThresh
  | _ => 0#64

/-- A link's state as LSTAT codes it (R386, R389). -/
def NState.code (x : NState) : Nat :=
  match x with
  | .detect => 0
  | .equalise => 1
  | .deskew => 2
  | .exchange => 3
  | .active => 4
  | .down => 5

/-- A word of a link table entry (R389). -/
def NLink.tableWord (l : NLink) (o : Nat) : Dword :=
  match o with
  | 0x00 => l.inBase
  | 0x08 => l.inCfg
  | 0x10 => BitVec.ofNat 64 (l.state.code + l.downs % 2 ^ 16 * 2 ^ 32)
  | _ => 0#64

/-- Eight owner bytes (R375). -/
def State.ownerWord (s : State) (o : Nat) : Dword :=
  BitVec.ofNat 64 (leNat ((List.range 8).map (fun i => s.aperOwner.get (o + i) 0#8)))

/-- A read of the physical function's BAR 0 (R375, R376). -/
def State.physRead (s : State) (off : Nat) : Dword :=
  if off < 0x1000 then s.capWord off
  else if 0x10000 ≤ off ∧ off < 0x12000 then BitVec.ofNat 64 (s.dirEntry ((off - 0x10000) / 8))
  else if 0x20000 ≤ off ∧ off < 0x20800 then (s.tenant ((off - 0x20000) / 64)).tableWord (off % 64)
  else if 0x30000 ≤ off ∧ off < 0x30300 then s.ownerWord (off - 0x30000)
  else if 0x40000 ≤ off ∧ off < 0x40200 then (s.nlink ((off - 0x40000) / 32)).tableWord (off % 32)
  else if off = 0x80000 then s.pwBase
  else if off = 0x80008 then (if s.tflushBusy then 1#64 else 0#64)
  else if 0x90000 ≤ off ∧ off < 0xA0000 then
    (if s.windowOk s.pwBase.toNat then BitVec.ofNat 64 (s.ram (s.pwBase.toNat + (off - 0x90000)) 8) else 0#64)
  else 0#64

/-- A write of the physical function's BAR 0 (R375 to R377, R389). -/
def physWrite (off : Nat) (v : Dword) : HostSteps :=
  if 0x10000 ≤ off ∧ off < 0x12000 then [(.directoryWrite ((off - 0x10000) / 8) v, {})]
  else if 0x20000 ≤ off ∧ off < 0x20800 then
    let t := (off - 0x20000) / 64
    match off % 64 with
    | 0x00 => [(.registerWrite (.wBase t) v, {})]
    | 0x08 => [(.registerWrite (.wCfg t) v, {})]
    | 0x10 => [(.registerWrite (.saveBase t) v, {})]
    | 0x18 => [(.registerWrite (.saveCnt t) v, {})]
    | 0x20 => if v = 1#64 then [(.tenantReset, { a := t })] else []
    | 0x28 => [(.registerWrite (.rThresh t) v, {})]
    | _ => []
  else if 0x30000 ≤ off ∧ off < 0x30300 then
    (List.range 8).map (fun i =>
      let n := off - 0x30000 + i
      (.registerWrite (.aperOwner (n / 16) (n % 16)) (BitVec.ofNat 64 (bits v.toNat (8 * i + 7) (8 * i))), {}))
  else if 0x40000 ≤ off ∧ off < 0x40200 then
    let l := (off - 0x40000) / 32
    match off % 32 with
    | 0x00 => [(.registerWrite (.inBase l) v, {})]
    | 0x08 => [(.registerWrite (.inCfg l) v, {})]
    | _ => []
  else if off = 0x80000 then [(.registerWrite .pwBase v, {})]
  else if off = 0x80008 then [(.tflushWrite v, {})]
  else if 0x90000 ≤ off ∧ off < 0xA0000 then [(.physicalWindowAccess true (off - 0x90000) 8 v, {})]
  else []

/-! ## BAR 0 of tenant `t`'s virtual function (R374, R379) -/

/-- A read of a virtual function's BAR 0: its own tenant's words (R374, R379, R382, R384, R385). -/
def State.virtRead (s : State) (t off : Nat) : Dword :=
  let x := s.tenant t
  if off < 0x1000 then s.capWord off
  else if off < 0x2000 then BitVec.ofNat 64 ((x.queue ((off - 0x1000) / 64)).word (off % 64 / 8))
  else if 0x2200 ≤ off ∧ off < 0x2300 then
    let n := (off - 0x2200) / 16
    if off % 16 = 0 then x.puba.get n 0#64 else x.pubv.get n 0#64
  else match off with
  | 0x2000 => x.ansPage
  | 0x2100 => x.nqBase
  | 0x2108 => x.nqCfg
  | 0x2110 => BitVec.ofNat 64 x.nqHead
  | 0x2118 => BitVec.ofNat 64 x.nqTail
  | 0x2120 => if x.nqOvf then 1#64 else 0#64
  | 0x2300 => x.spBase
  | 0x2308 => BitVec.ofNat 64 (x.spCount % 2 ^ 32)
  | _ => 0#64

/-- A write of a virtual function's BAR 0 (R321, R352, R374, R382, R384, R385). -/
def virtWrite (t off : Nat) (v : Dword) : HostSteps :=
  if 0x1000 ≤ off ∧ off < 0x2000 then
    let q := (off - 0x1000) / 64
    match off % 64 with
    | 0x00 => [(.registerWrite (.queueBase t q) v, {})]
    | 0x08 => [(.queueCfgWrite t q v, {})]
    | 0x18 => [(.queueDoorbell t q v, {})]
    | _ => []
  else if 0x2200 ≤ off ∧ off < 0x2300 then
    if off % 16 = 0 then [(.registerWrite (.puba t ((off - 0x2200) / 16)) v, {})] else []
  else match off with
  | 0x2000 => [(.registerWrite (.ansPage t) v, {})]
  | 0x2008 => [(.failureAnswer t v true, {})]
  | 0x2100 => [(.registerWrite (.nqBase t) v, {})]
  | 0x2108 => [(.registerWrite (.nqCfg t) v, {})]
  | 0x2110 => [(.nqheadWrite t v, {})]
  | 0x2120 => [(.registerWrite (.nqStat t) v, {})]
  | 0x2300 => [(.registerWrite (.spBase t) v, {})]
  | 0x2308 => [(.registerWrite (.spCount t) v, {})]
  | _ => []

/-! ## BAR 4: the controller (R392, R395) -/

/-- A word of the attestation mailbox: CMD is written only (R395). -/
def Mailbox.word (m : Mailbox) (o : Nat) : Dword :=
  if o < 0x20 then BitVec.ofNat 64 (leNat ((m.nonce.drop o).take 8))
  else if o = 0x28 then BitVec.ofNat 64 m.astat
  else if 0x400 ≤ o ∧ o < 0x800 then BitVec.ofNat 64 (leNat ((List.range 8).map (fun i => m.data (o - 0x400 + i))))
  else 0#64

/-- A read of BAR 4 (R392, R395). -/
def State.mgmtRead (s : State) (off : Nat) : Dword :=
  if off = 0 then BitVec.ofNat 64 s.mstate
  else if off = 8 then BitVec.ofNat 64 s.watts
  else if off = 0x10 then BitVec.ofNat 64 s.pstate
  else if 0x100 ≤ off ∧ off < 0x400 then
    let x := s.telemetry.getD ((off - 0x100) / 16) (0, 0)
    BitVec.ofNat 64 (if off % 16 = 0 then x.1 % 2 ^ 32 else x.2 % 2 ^ 16)
  else if 0x800 ≤ off ∧ off < 0x1000 then s.mailbox.word (off - 0x800)
  else 0#64

/-- A write of BAR 4: an OP that CMD does not list is ignored (R392, R395). -/
def mgmtWrite (off : Nat) (v : Dword) : HostSteps :=
  if off = 8 then [(.pcapWrite v, {})]
  else if 0x800 ≤ off ∧ off < 0x820 then [(.registerWrite (.nonce ((off - 0x800) / 8)) v, {})]
  else if off = 0x820 then
    match bits v.toNat 7 0 with
    | 1 => [(.attestMakeReport, {})]
    | 2 => [(.attestReadPage (BitVec.ofNat 8 (bits v.toNat 15 8)), {})]
    | 4 => [(.attestFetchKey, {})]
    | _ => []
  else []

end Sys2Proof.Machine
end

