-- ==== Sys2Proof/Safety.lean ====
section
/-! DEFINITION. Sys2Proof/Safety.lean: what counts as a run without a stop of the model. -/

namespace Sys2Proof

/-- A step that neither faults nor is refused. -/
def StepSafe (s : Machine.State) : Prop := ∃ t, Machine.step s = .next t

end Sys2Proof
end

