-- ==== Sys2Proof/Certificates/Slice0/Obligations.lean ====
section
/-! DEFINITION. Sys2Proof/Certificates/Slice0/Obligations.lean: the statements for the provers. `Claims` holds the words they are
made of; each value there is written from the rule it cites, in integers where the rule speaks of numbers. -/

namespace Sys2Proof.Claims
open Sys2Proof.Machine

/-- Instruction `i` of the current context passes the checks made before its entry's own: it has a live context, the mode it
needs, and every register it takes from the result history; no earlier access that it consumes met a fault (R116, R137, R138,
R343). -/
structure Issues (i : Instr) (s : State) (m : Meta) : Prop where
  info : i.info = some m
  live : s.me.live = true
  mode : m.priv = true → s.supervised s.curCore = true
  fieldA : histOk s.me.hist m.ctl.pa.toNat m.aReg = true
  fieldB : histOk s.me.hist m.ctl.pb.toNat m.bReg = true
  met : s.metFault i m = none

/-- `i` issues with effect `u`, and its context continues with the next instruction (R112, R113). -/
def Goes (i : Instr) (s : State) (m : Meta) (u : State) : Prop :=
  exec i s = .next (u.issued m (s.me.pc + BitVec.ofNat 64 m.len) m.ctl.gap.toNat (m.ctl.y == 1#1))

/-- `i` issues with effect `u`, and its context continues at `pc`, `extra` cycles later than its GAP says (R173). -/
def Jumps (i : Instr) (s : State) (m : Meta) (u : State) (pc : Dword) (extra : Nat) : Prop :=
  exec i s = .next (u.issued m pc (m.ctl.gap.toNat + extra) (m.ctl.y == 1#1))

/-- The state in which `i` has issued with effect `u` and its context sleeps in `w`, its PC unmoved (R264). -/
def asleep (s : State) (m : Meta) (u : State) (w : Wait) : State :=
  (u.issued m s.me.pc m.ctl.gap.toNat (m.ctl.y == 1#1)).onMe (fun x => { x with wait := w })

/-- `i` issues with effect `u` and its context sleeps in `w`. -/
def Sleeps (i : Instr) (s : State) (m : Meta) (u : State) (w : Wait) : Prop := exec i s = .next (asleep s m u w)

/-- `i` cannot issue in this cycle: nothing but the context's stall mark changes (R112). -/
def Stalls (i : Instr) (s : State) : Prop :=
  exec i s = .next (s.onMe (fun x => { x with stalled := s.now + 1, waited := 0 }))

/-- `i` completes with effect `u` in every state in which it passes those checks. -/
def Completes (i : Instr) (s : State) (u : State) : Prop := ∀ m, Issues i s m → Goes i s m u

/-! ## Scalar results -/

/-- What a scalar instruction of Fixed latency delivers: register, latency, value, and the operand labels it combines. -/
structure Scalar where
  d : BitVec 5
  lat : Nat
  v : Dword
  labels : List Handle

/-- The values of R183's additions and multiplications: exact in integers, then narrowed to 64 bits. -/
def arithmetic (s : State) (i : Instr) : Option Scalar :=
  match i with
  | .add _ d a b =>
    some ⟨d, 1, BitVec.ofInt 64 ((s.srcS a).1.toInt + (s.srcS b).1.toInt), [(s.srcS a).2, (s.srcS b).2]⟩
  | .addi _ d a imm => some ⟨d, 1, BitVec.ofInt 64 ((s.srcS a).1.toInt + imm.toInt), [(s.srcS a).2]⟩
  | .sub _ d a b =>
    some ⟨d, 1, BitVec.ofInt 64 ((s.srcS a).1.toInt - (s.srcS b).1.toInt), [(s.srcS a).2, (s.srcS b).2]⟩
  | .mul _ d a b =>
    some ⟨d, 3, BitVec.ofInt 64 ((s.srcS a).1.toInt * (s.srcS b).1.toInt), [(s.srcS a).2, (s.srcS b).2]⟩
  | .mulh _ d a b =>
    some ⟨d, 3, BitVec.ofInt 64 ((s.srcS a).1.toInt * (s.srcS b).1.toInt / 2 ^ 64), [(s.srcS a).2, (s.srcS b).2]⟩
  | .mulhu _ d a b =>
    some ⟨d, 3, BitVec.ofNat 64 ((s.srcS a).1.toNat * (s.srcS b).1.toNat / 2 ^ 64), [(s.srcS a).2, (s.srcS b).2]⟩
  | _ => none

/-- The values of R183's bitwise instructions and of R184's shifts; a shift counts by its amount modulo 64. -/
def logic (s : State) (i : Instr) : Option Scalar :=
  match i with
  | .and _ d a b => some ⟨d, 1, (s.srcS a).1 &&& (s.srcS b).1, [(s.srcS a).2, (s.srcS b).2]⟩
  | .andi _ d a imm => some ⟨d, 1, (s.srcS a).1 &&& imm.signExtend 64, [(s.srcS a).2]⟩
  | .or _ d a b => some ⟨d, 1, (s.srcS a).1 ||| (s.srcS b).1, [(s.srcS a).2, (s.srcS b).2]⟩
  | .ori _ d a imm => some ⟨d, 1, (s.srcS a).1 ||| imm.signExtend 64, [(s.srcS a).2]⟩
  | .xor _ d a b => some ⟨d, 1, (s.srcS a).1 ^^^ (s.srcS b).1, [(s.srcS a).2, (s.srcS b).2]⟩
  | .xori _ d a imm => some ⟨d, 1, (s.srcS a).1 ^^^ imm.signExtend 64, [(s.srcS a).2]⟩
  | .shl _ d a b =>
    some ⟨d, 1, BitVec.ofNat 64 ((s.srcS a).1.toNat * 2 ^ ((s.srcS b).1.toNat % 64)), [(s.srcS a).2, (s.srcS b).2]⟩
  | .shli _ d a sh => some ⟨d, 1, BitVec.ofNat 64 ((s.srcS a).1.toNat * 2 ^ (sh.toNat % 64)), [(s.srcS a).2]⟩
  | .shr _ d a b =>
    some ⟨d, 1, BitVec.ofNat 64 ((s.srcS a).1.toNat / 2 ^ ((s.srcS b).1.toNat % 64)), [(s.srcS a).2, (s.srcS b).2]⟩
  | .shri _ d a sh => some ⟨d, 1, BitVec.ofNat 64 ((s.srcS a).1.toNat / 2 ^ (sh.toNat % 64)), [(s.srcS a).2]⟩
  | .sar _ d a b =>
    some ⟨d, 1, BitVec.ofInt 64 ((s.srcS a).1.toInt / 2 ^ ((s.srcS b).1.toNat % 64)), [(s.srcS a).2, (s.srcS b).2]⟩
  | .sari _ d a sh => some ⟨d, 1, BitVec.ofInt 64 ((s.srcS a).1.toInt / 2 ^ (sh.toNat % 64)), [(s.srcS a).2]⟩
  | _ => none

/-- The values of R183's minima, maxima, comparisons and selection. -/
def comparison (s : State) (i : Instr) : Option Scalar :=
  match i with
  | .min _ d a b => some ⟨d, 1, BitVec.ofInt 64 (min (s.srcS a).1.toInt (s.srcS b).1.toInt), [(s.srcS a).2, (s.srcS b).2]⟩
  | .max _ d a b => some ⟨d, 1, BitVec.ofInt 64 (max (s.srcS a).1.toInt (s.srcS b).1.toInt), [(s.srcS a).2, (s.srcS b).2]⟩
  | .minu _ d a b => some ⟨d, 1, BitVec.ofNat 64 (min (s.srcS a).1.toNat (s.srcS b).1.toNat), [(s.srcS a).2, (s.srcS b).2]⟩
  | .maxu _ d a b => some ⟨d, 1, BitVec.ofNat 64 (max (s.srcS a).1.toNat (s.srcS b).1.toNat), [(s.srcS a).2, (s.srcS b).2]⟩
  | .slt _ d a b => some ⟨d, 1, if (s.srcS a).1.toInt < (s.srcS b).1.toInt then 1#64 else 0#64, [(s.srcS a).2, (s.srcS b).2]⟩
  | .sltu _ d a b => some ⟨d, 1, if (s.srcS a).1.toNat < (s.srcS b).1.toNat then 1#64 else 0#64, [(s.srcS a).2, (s.srcS b).2]⟩
  | .seq _ d a b => some ⟨d, 1, if (s.srcS a).1 = (s.srcS b).1 then 1#64 else 0#64, [(s.srcS a).2, (s.srcS b).2]⟩
  | .sel _ d a b c =>
    some ⟨d, 1, if (s.srcS c).1 = 0#64 then (s.srcS b).1 else (s.srcS a).1, [(s.srcS a).2, (s.srcS b).2, (s.srcS c).2]⟩
  | _ => none

/-- The field of `width` bits at `pos`, as a number (R186). -/
def field (x : Dword) (width pos : Nat) : Nat := x.toNat / 2 ^ pos % 2 ^ width

/-- The values of R183's and R186's bit instructions, of the constants and of LEA (R187). -/
def bitsAndConstants (s : State) (i : Instr) : Option Scalar :=
  match i with
  | .clz _ d a => some ⟨d, 1, BitVec.ofNat 64 (if (s.srcS a).1 = 0#64 then 64 else 63 - Nat.log2 (s.srcS a).1.toNat), [(s.srcS a).2]⟩
  | .popc _ d a => some ⟨d, 1, BitVec.ofNat 64 ((List.range 64).countP (fun n => (s.srcS a).1.getLsbD n)), [(s.srcS a).2]⟩
  | .bfx _ d a sx width pos =>
    some ⟨d, 1,
      if sx = 1#1 ∧ 2 ^ (width.toNat - 1) ≤ field (s.srcS a).1 width.toNat pos.toNat
      then BitVec.ofInt 64 ((field (s.srcS a).1 width.toNat pos.toNat : Int) - 2 ^ width.toNat)
      else BitVec.ofNat 64 (field (s.srcS a).1 width.toNat pos.toNat), [(s.srcS a).2]⟩
  | .bfi _ d a width pos =>
    some ⟨d, 1, BitVec.ofFnLE (fun (n : Fin 64) => if pos.toNat ≤ n.val ∧ n.val < pos.toNat + width.toNat
      then (s.srcS a).1.getLsbD (n.val - pos.toNat) else (s.srcS d).1.getLsbD n.val), [(s.srcS d).2, (s.srcS a).2]⟩
  | .li _ d imm => some ⟨d, 1, imm.signExtend 64, []⟩
  | .liw _ d imm => some ⟨d, 1, imm, []⟩
  | .lea _ d a b sh imm =>
    some ⟨d, 1, BitVec.ofInt 64 ((s.srcS a).1.toInt + (s.srcS b).1.toInt * 2 ^ sh.toNat + imm.toInt), [(s.srcS a).2, (s.srcS b).2]⟩
  | _ => none

/-- The scalar results of the reductions over the active lanes of a vector register (R202, R208 to R210, R219, R233). -/
def laneReductions (s : State) (i : Instr) : Option Scalar :=
  match i with
  | .vpopm _ d a vm => some ⟨d, 2, BitVec.ofNat 64 ((s.lanes vm).countP (fun i => ((s.srcV a).lane i).1.getLsbD 0)), s.reduceLabels vm [a]⟩
  | .vfirst _ d a vm =>
    some ⟨d, 2, BitVec.ofNat 64 (((s.lanes vm).find? (fun i => ((s.srcV a).lane i).1.getLsbD 0)).getD 16), s.reduceLabels vm [a]⟩
  | .vext _ d a vm n =>
    some ⟨d, 2, if vm.ty = 0#3 then ((s.srcV a).lane n.toNat).1.signExtend 64 else ((s.srcV a).lane n.toNat).1.setWidth 64,
      [((s.srcV a).lane n.toNat).2]⟩
  | .vred _ d a vm op =>
    let f : Word → Word → Word := match op.toNat with
      | 0 => fun x y => x + y
      | 1 => fun x y => x &&& y
      | 2 => fun x y => x ||| y
      | 3 => fun x y => x ^^^ y
      | 4 => fun x y => if x.toInt ≤ y.toInt then x else y
      | 5 => fun x y => if y.toInt ≤ x.toInt then x else y
      | 6 => fun x y => if x.toNat ≤ y.toNat then x else y
      | _ => fun x y => if y.toNat ≤ x.toNat then x else y
    let z : Word := match op.toNat with
      | 1 | 6 => 0xFFFFFFFF#32
      | 4 => 0x7FFFFFFF#32
      | 5 => 0x80000000#32
      | _ => 0#32
    let v := (s.lanes vm).foldl (fun acc i => f acc ((s.srcV a).lane i).1) z
    some ⟨d, 4, if vm.ty = 0#3 then v.signExtend 64 else v.setWidth 64, s.reduceLabels vm [a]⟩
  | .vhdr _ d a vm slot =>
    some ⟨d, 2, (vget (s.srcV a).side slot.toNat 0#16).setWidth 64,
      (blockLanes (isB4 vm.ty) slot.toNat).map (fun i => ((s.srcV a).lane i).2)⟩
  | _ => none

/-- An instruction that delivers `r` completes: its result is in flight for `r.lat` cycles, labelled with the combine of its
operands' labels and AMBIENT (R88, R114). -/
def Delivers (i : Instr) (s : State) (r : Scalar) : Prop :=
  ∀ m u h, Issues i s m → i.wellFormed = true → s.formWith r.labels = some (u, h) →
    Goes i s m (u.produce (tagOf m.ctl) r.lat [.s r.d r.v h] 0 [.s r.d])

/-! ## Vector results -/

/-- What a lane-wise instruction delivers: latency, register, modifiers, each active lane's value with the labels it combines,
STICKY flags, and header slots. -/
structure Lanes where
  lat : Nat
  d : BitVec 5
  vm : VMod
  f : Nat → Word × List Handle
  flags : Nat
  sides : List RegWrite

/-- A lane-wise instruction completes with `r`, once the label unit takes its combines (R88, R107, R319). -/
def DeliversLanes (i : Instr) (s : State) (r : Lanes) : Prop :=
  ∀ m u, Issues i s m → i.wellFormed = true →
    s.vresultAt m.ctl r.lat r.lat r.d r.vm (s.laneOuts r.vm r.f) r.flags r.sides = .go u → Goes i s m u

/-- One operand's lane function. -/
def one (s : State) (a : BitVec 5) (f : Word → Word) : Nat → Word × List Handle :=
  fun i => (f ((s.srcV a).lane i).1, [((s.srcV a).lane i).2])

/-- Two operands' lane function; B is a scalar under BS (R132). -/
def two (s : State) (vm : VMod) (a b : BitVec 5) (f : Word → Word → Word) : Nat → Word × List Handle :=
  fun i => (f ((s.srcV a).lane i).1 (s.laneB vm b i).1, [((s.srcV a).lane i).2, (s.laneB vm b i).2])

/-- The lane values of the vector integer instructions (R206 to R209, R211), in integers. -/
def vectorInteger (s : State) (i : Instr) : Option Lanes :=
  match i with
  | .vadd _ d a b vm => some ⟨2, d, vm, two s vm a b (fun x y => BitVec.ofInt 32 (x.toInt + y.toInt)), 0, []⟩
  | .vsub _ d a b vm => some ⟨2, d, vm, two s vm a b (fun x y => BitVec.ofInt 32 (x.toInt - y.toInt)), 0, []⟩
  | .vmul _ d a b vm => some ⟨2, d, vm, two s vm a b (fun x y => BitVec.ofInt 32 (x.toInt * y.toInt)), 0, []⟩
  | .vmulh _ d a b vm =>
    some ⟨2, d, vm, two s vm a b (fun x y => if vm.ty = 0#3 then BitVec.ofInt 32 (x.toInt * y.toInt / 2 ^ 32)
      else BitVec.ofNat 32 (x.toNat * y.toNat / 2 ^ 32)), 0, []⟩
  | .vand _ d a b vm => some ⟨2, d, vm, two s vm a b (fun x y => x &&& y), 0, []⟩
  | .vor _ d a b vm => some ⟨2, d, vm, two s vm a b (fun x y => x ||| y), 0, []⟩
  | .vxor _ d a b vm => some ⟨2, d, vm, two s vm a b (fun x y => x ^^^ y), 0, []⟩
  | .vshl _ d a b vm => some ⟨2, d, vm, two s vm a b (fun x y => BitVec.ofNat 32 (x.toNat * 2 ^ (y.toNat % 32))), 0, []⟩
  | .vshr _ d a b vm => some ⟨2, d, vm, two s vm a b (fun x y => BitVec.ofNat 32 (x.toNat / 2 ^ (y.toNat % 32))), 0, []⟩
  | .vsar _ d a b vm => some ⟨2, d, vm, two s vm a b (fun x y => BitVec.ofInt 32 (x.toInt / 2 ^ (y.toNat % 32))), 0, []⟩
  | .vmin _ d a b vm => some ⟨2, d, vm, two s vm a b (fun x y => if x.toInt ≤ y.toInt then x else y), 0, []⟩
  | .vmax _ d a b vm => some ⟨2, d, vm, two s vm a b (fun x y => if y.toInt ≤ x.toInt then x else y), 0, []⟩
  | .vminu _ d a b vm => some ⟨2, d, vm, two s vm a b (fun x y => if x.toNat ≤ y.toNat then x else y), 0, []⟩
  | .vmaxu _ d a b vm => some ⟨2, d, vm, two s vm a b (fun x y => if y.toNat ≤ x.toNat then x else y), 0, []⟩
  | .vnot _ d a vm => some ⟨2, d, vm, one s a (fun x => BitVec.ofNat 32 (2 ^ 32 - 1 - x.toNat)), 0, []⟩
  | .vclz _ d a vm => some ⟨2, d, vm, one s a (fun x => BitVec.ofNat 32 (if x = 0#32 then 32 else 31 - Nat.log2 x.toNat)), 0, []⟩
  | .vpopc _ d a vm => some ⟨2, d, vm, one s a (fun x => BitVec.ofNat 32 ((List.range 32).countP (fun n => x.getLsbD n))), 0, []⟩
  | .vcmp _ d a b vm cond =>
    some ⟨2, d, vm, two s vm a b (fun x y =>
      let less := if vm.ty = 0#3 then decide (x.toInt < y.toInt) else decide (x.toNat < y.toNat)
      let holds := match cond.toNat with
        | 0 => decide (x = y)
        | 1 => decide (x ≠ y)
        | 2 => less
        | _ => !less
      if holds then 1#32 else 0#32), 0, []⟩
  | .vsel _ d a b vm c =>
    some ⟨2, d, vm, fun i =>
      (if ((s.srcV c).lane i).1.getLsbD 0 then ((s.srcV a).lane i).1 else (s.laneB vm b i).1,
       [((s.srcV a).lane i).2, (s.laneB vm b i).2, ((s.srcV c).lane i).2]), 0, []⟩
  | .viota _ d a vm =>
    some ⟨2, d, vm, fun i =>
      (BitVec.ofNat 32 ((s.lanes vm).countP (fun j => ((s.srcV a).lane j).1.getLsbD 0 && decide (j < i))),
       ((s.lanes vm).filter (fun j => decide (j < i))).flatMap (fun j => ((s.srcV a).lane j).2 :: s.maskLabel vm j)), 0, []⟩
  | .vmv _ d a vm =>
    some ⟨2, d, vm, one s a id, 0,
      if vm.me = 1#1 then [] else (List.range 4).map (fun j => .side d j (vget (s.srcV a).side j 0#16))⟩
  | .vbcast _ d a vm => some ⟨2, d, vm, fun _ => ((s.srcS a).1.setWidth 32, [(s.srcS a).2]), 0, []⟩
  | .vmatch _ d a b vm side =>
    let m := matchFrom (s.srcV a).lanes.toList (s.srcV b).lanes.toList 0 0 32
    some ⟨4, d, vm, fun i =>
      (match m[i]? with
       | none => 0xFFFFFFFF#32
       | some p => BitVec.ofNat 32 (if side = 0#1 then p.1 else p.2),
       (s.srcV a).labels.toList ++ (s.srcV b).labels.toList), 0, []⟩
  | _ => none

/-- A lane value of 32 bits with its flags, over one operand. -/
def fone (s : State) (a : BitVec 5) (f : Nat → Nat × Nat) : Nat → (Nat × Nat) × List Handle :=
  fun i => (f ((s.srcV a).lane i).1.toNat, [((s.srcV a).lane i).2])

/-- A lane value of 32 bits with its flags, over two operands. -/
def ftwo (s : State) (vm : VMod) (a b : BitVec 5) (f : Nat → Nat → Nat × Nat) : Nat → (Nat × Nat) × List Handle :=
  fun i => (f ((s.srcV a).lane i).1.toNat (s.laneB vm b i).1.toNat, [((s.srcV a).lane i).2, (s.laneB vm b i).2])

/-- A lane value of 32 bits with its flags, over three operands. -/
def fthree (s : State) (vm : VMod) (a b c : BitVec 5) (f : Nat → Nat → Nat → Nat × Nat) : Nat → (Nat × Nat) × List Handle :=
  fun i => (f ((s.srcV a).lane i).1.toNat (s.laneB vm b i).1.toNat ((s.srcV c).lane i).1.toNat,
    [((s.srcV a).lane i).2, (s.laneB vm b i).2, ((s.srcV c).lane i).2])

/-- A float result: the lanes' values, and the union of the active lanes' flags (R58). -/
def floating (s : State) (lat : Nat) (d : BitVec 5) (vm : VMod) (g : Nat → (Nat × Nat) × List Handle) : Lanes :=
  ⟨lat, d, vm, fun i => (BitVec.ofNat 32 (g i).1.1, (g i).2), unite ((s.lanes vm).map (fun i => (g i).1.2)), []⟩

/-- The lane values of the vector float instructions (R212 to R216), of the conversions (R226, R227) and of VQDEC (R230), by the
arithmetic of Machine/Float.lean under the rounding mode of R57 and R63. -/
def vectorFloat (s : State) (i : Instr) : Option Lanes :=
  match i with
  | .vfadd _ d a b vm => some (floating s 4 d vm (ftwo s vm a b (fAdd (s.mode vm.rm))))
  | .vfsub _ d a b vm => some (floating s 4 d vm (ftwo s vm a b (fSub (s.mode vm.rm))))
  | .vfmul _ d a b vm => some (floating s 4 d vm (ftwo s vm a b (fMul (s.mode vm.rm))))
  | .vfma _ d a b c vm => some (floating s 4 d vm (fthree s vm a b c (fFma (s.mode vm.rm) false false)))
  | .vfms _ d a b c vm => some (floating s 4 d vm (fthree s vm a b c (fFma (s.mode vm.rm) false true)))
  | .vfnma _ d a b c vm => some (floating s 4 d vm (fthree s vm a b c (fFma (s.mode vm.rm) true false)))
  | .vfmin _ d a b vm => some (floating s 2 d vm (ftwo s vm a b (fMinMax false)))
  | .vfmax _ d a b vm => some (floating s 2 d vm (ftwo s vm a b (fMinMax true)))
  | .vfabs _ d a vm => some (floating s 2 d vm (fone s a (fun x => (x % 2 ^ 31, 0))))
  | .vfneg _ d a vm => some (floating s 2 d vm (fone s a (fun x => ((x + 2 ^ 31) % 2 ^ 32, 0))))
  | .vfclass _ d a vm => some (floating s 2 d vm (fone s a (fun x => (fClass x, 0))))
  | .vfcmp _ d a b vm cond =>
    some (floating s 2 d vm (ftwo s vm a b (fun x y => (if (fCmp cond.toNat x y).1 then 1 else 0, (fCmp cond.toNat x y).2))))
  | .vfsgn _ d a b vm mode =>
    some ⟨2, d, vm, two s vm a b (fun x y =>
      let sign : Bool := match mode.toNat with
        | 0 => y.msb
        | 1 => !y.msb
        | _ => x.msb != y.msb
      BitVec.ofNat 32 (x.toNat % 2 ^ 31 + if sign then 2 ^ 31 else 0)), 0, []⟩
  | .vfrnd _ d a vm => some (floating s 4 d vm (fone s a (fRnd (s.mode vm.rm))))
  | .vcvt _ d a vm u => some (floating s 4 d vm (fone s a (convert vm.ty u (s.mode vm.rm))))
  | .vpack _ d a b vm =>
    some (floating s 4 d vm (fun i =>
      let x := s.cat a b (2 * i)
      let y := s.cat a b (2 * i + 1)
      let lo := fNarrow (halfFmt vm.ty) (s.mode vm.rm) x.1.toNat
      let hi := fNarrow (halfFmt vm.ty) (s.mode vm.rm) y.1.toNat
      ((lo.1 + hi.1 * 2 ^ 16, flagOr lo.2 hi.2), [x.2, y.2])))
  | .vunpack _ d a vm half =>
    some (floating s 4 d vm (fun i =>
      let e := 16 * half.toNat + i
      ((fWiden (halfFmt vm.ty) (((s.srcV a).lane (e / 2)).1.toNat / 2 ^ (16 * (e % 2)) % 2 ^ 16), 0), [((s.srcV a).lane (e / 2)).2])))
  | .vqdec _ d a vm part =>
    some (floating s 4 d vm (fun i =>
      let e := 16 * part.toNat + i
      ((decodeElem (isB4 vm.ty) (vget (s.srcV a).side (e / 32) 0#16) (codeOf (isB4 vm.ty) (s.srcV a) e)).toF32,
       [((s.srcV a).lane (if isB4 vm.ty then e / 8 else e / 4)).2])))
  | _ => none

/-- The instructions of the divide unit (R205, R217, R218): busy time, latency of lanes 0 to 7, register, modifiers, lane values. -/
def dividing (s : State) (i : Instr) : Option (Nat × Nat × BitVec 5 × VMod × (Nat → (Nat × Nat) × List Handle)) :=
  match i with
  | .vdiv _ d a b vm => some (2, 14, d, vm, ftwo s vm a b (fDiv (s.mode vm.rm)))
  | .vsqrt _ d a vm => some (2, 14, d, vm, fone s a (fSqrt (s.mode vm.rm)))
  | .vrsqrt _ d a vm => some (2, 14, d, vm, fone s a (fRsqrt (s.mode vm.rm)))
  | .vrcp _ d a vm => some (2, 14, d, vm, fone s a (fRcp (s.mode vm.rm)))
  | .vsqd _ d a b vm => some (4, 28, d, vm, ftwo s vm a b (fSqd (s.mode vm.rm)))
  | _ => none

/-- A finite F32 is a whole number of units of 2^-149: its value in that unit (R57). -/
def units (x : Nat) : Int :=
  let m : Int := if x / 2 ^ 23 % 2 ^ 8 = 0 then (x % 2 ^ 23 : Nat) else ((2 ^ 23 + x % 2 ^ 23) * 2 ^ (x / 2 ^ 23 % 2 ^ 8 - 1) : Nat)
  if x / 2 ^ 31 % 2 = 1 then -m else m

/-- An encoding of a finite number (R57). -/
def isFinite (x : Nat) : Prop := x < 2 ^ 32 ∧ x / 2 ^ 23 % 2 ^ 8 < 255

/-- An encoding of a NaN, and of a signalling one (R59). -/
def isNaN32 (x : Nat) : Bool := x / 2 ^ 23 % 2 ^ 8 == 255 && x % 2 ^ 23 != 0
def isSignalling (x : Nat) : Bool := isNaN32 x && x / 2 ^ 22 % 2 == 0

/-- `r` is the number `p / d`, in units of 2^-149, rounded by mode 0 RNE, 1 RTZ, 2 RDN, 3 RUP to the spacing `g` of the floats about it, with the
flags of R58 (R57, R58): bit 2 FP_OF, bit 3 FP_UF, bit 4 FP_NX. -/
def Rounded (mode : Nat) (r : Nat × Nat) (p : Int) (d : Nat) : Prop :=
  let g : Int := 2 ^ (Nat.log2 (p.natAbs / d) - 23)
  let x := units r.1
  let ovf := r.2 / 4 % 2 = 1
  (p.natAbs ≤ (2 ^ 24 - 1) * 2 ^ 253 * d → ¬ovf) ∧ (2 ^ 277 * d ≤ p.natAbs → ovf) ∧
  (ovf → r.2 = 0x14 ∧ r.1 = (if p < 0 then 2 ^ 31 else 0) +
    (if mode = 0 ∨ (mode = 2 ∧ p < 0) ∨ (mode = 3 ∧ 0 < p) then 0x7F800000 else 0x7F7FFFFF)) ∧
  (¬ovf → isFinite r.1 ∧ (r.2 = 0 ∨ r.2 = 0x10 ∨ r.2 = 0x18) ∧ (r.2 = 0 ↔ x * d = p) ∧ (r.2 = 0x18 → p.natAbs < 2 ^ 23 * d) ∧
    (mode = 0 → 2 * (x * d - p).natAbs ≤ g * d ∧ (2 * (x * d - p).natAbs = g * d → x / g % 2 = 0)) ∧
    (mode = 1 → (x * d).natAbs ≤ p.natAbs ∧ p.natAbs < (x * d).natAbs + g * d) ∧
    (mode = 2 → x * d ≤ p ∧ p < x * d + g * d) ∧ (mode = 3 → p ≤ x * d ∧ x * d - g * d < p))

/-- The lane values of the permutes (R225): lanes of vA followed by vB. -/
def permuting (s : State) (i : Instr) : Option Lanes :=
  match i with
  | .vperm _ d a b vm =>
    some ⟨2, d, vm, fun i =>
      let x := (s.srcV b).lane i
      if x.1.toNat < 16 then (((s.srcV a).lane x.1.toNat).1, [x.2, ((s.srcV a).lane x.1.toNat).2]) else (0#32, [x.2]), 0, []⟩
  | .vslide _ d a b vm n => some ⟨2, d, vm, fun i => ((s.cat a b (i + n.toNat)).1, [(s.cat a b (i + n.toNat)).2]), 0, []⟩
  | .vzip _ d a b vm half =>
    some ⟨2, d, vm, fun i =>
      let w := if i % 2 = 0 then (s.srcV a).lane (i / 2 + 8 * half.toNat) else (s.srcV b).lane (i / 2 + 8 * half.toNat)
      (w.1, [w.2]), 0, []⟩
  | .vunzip _ d a b vm half => some ⟨2, d, vm, fun i => ((s.cat a b (2 * i + half.toNat)).1, [(s.cat a b (2 * i + half.toNat)).2]), 0, []⟩
  | _ => none

/-! ## Control transfers -/

/-- A branch to a relative target (R173 to R175): whether it is taken, where to, and the labels it reads. -/
structure Branch where
  taken : Prop
  target : Dword
  labels : List Handle

/-- PC + 4 × a signed offset (R135). -/
def target {n : Nat} (s : State) (off : BitVec n) : Dword := BitVec.ofInt 64 (s.me.pc.toInt + 4 * off.toInt)

/-- The conditions of the branches (R174, R175). -/
def branching (s : State) (i : Instr) : Option Branch :=
  match i with
  | .br _ off => some ⟨True, target s off, []⟩
  | .brc _ a b cond off =>
    some ⟨match cond.toNat with
      | 0 => (s.srcS a).1 = (s.srcS b).1
      | 1 => (s.srcS a).1 ≠ (s.srcS b).1
      | 2 => (s.srcS a).1.toInt < (s.srcS b).1.toInt
      | 3 => (s.srcS b).1.toInt ≤ (s.srcS a).1.toInt
      | 4 => (s.srcS a).1.toNat < (s.srcS b).1.toNat
      | _ => (s.srcS b).1.toNat ≤ (s.srcS a).1.toNat, target s off, [(s.srcS a).2, (s.srcS b).2]⟩
  | .brz _ a off => some ⟨(s.srcS a).1 = 0#64, target s off, [(s.srcS a).2]⟩
  | .brnz _ a off => some ⟨(s.srcS a).1 ≠ 0#64, target s off, [(s.srcS a).2]⟩
  | .brv _ a off => some ⟨isVoid (s.check s.curCore s.curCtx (s.srcS a).2) = true, target s off, [(s.srcS a).2]⟩
  | _ => none

/-- A transfer through a register: the register, and whether s31 is written (R176). -/
def registerJump (i : Instr) : Option (BitVec 5 × Bool) :=
  match i with
  | .callr _ a => some (a, true)
  | .ret _ => some (31#5, false)
  | .jmpr _ a => some (a, false)
  | _ => none

/-! ## Exceptions -/

/-- The next state of an instruction that faults at issue: with nothing else done, the exception is taken, with the instruction's PC, and
RESUME would issue it again (R342, R343). -/
def Faults (i : Instr) (s : State) (cause : Nat) (addr : Dword) : Prop :=
  exec i s = .next (s.takeFault s.curCore s.curCtx cause s.me.pc addr s.me.pc)

/-- The next state of an instruction whose access lies outside its launch's leases: with nothing else done, the launch ends (R190, R357). -/
def EndsLaunch (i : Instr) (s : State) (addr : Dword) : Prop :=
  exec i s = .next (s.outOfLease (s.here.launch.getD 0) s.curCore s.curCtx s.me.pc addr)

/-- The register `r` that field value `p` takes from the result history is there: entry `p` holds it, and no newer entry does (R116). -/
def Forwarded (s : State) (p : BitVec 2) (r : Option RegRef) : Prop :=
  p = 0#2 ∨ ∃ x, r = some x ∧ s.me.hist.getD (p.toNat - 1) none = some x ∧ some x ∉ s.me.hist.take (p.toNat - 1)

/-! ## Memory -/

/-- s[A] + offset, modulo 2^64 (R190). -/
def address (s : State) (a : BitVec 5) (off : Int) : Nat := (BitVec.ofInt 64 ((s.srcS a).1.toInt + off)).toNat

/-- s[A]'s label reads as VOID.POISON (R86). -/
def poisoned (s : State) (a : BitVec 5) : Bool := s.check s.curCore s.curCtx (s.srcS a).2 = hPoison

/-- An access to cluster memory is held back behind a STREL or a pending label (R191, R303). -/
def held (s : State) (va : Nat) : Bool := (localOf s.curCore va).isSome && s.localHeld s.curCore

/-- The fields of LD and LDACQ (R191): destination, address register, offset, width code, ZX, LC, acquire. -/
structure Load where
  k : Ctl
  d : BitVec 5
  a : BitVec 5
  off : BitVec 14
  w : BitVec 2
  z : BitVec 1
  lc : BitVec 1
  acq : Bool

def loading (i : Instr) : Option Load :=
  match i with
  | .ld k d a off w z lc => some ⟨k, d, a, off, w, z, lc, false⟩
  | .ldacq k d a off w z lc => some ⟨k, d, a, off, w, z, lc, true⟩
  | _ => none

/-- A value of `n` bytes as a register takes it: zero-extended under ZX, else sign-extended (R55). -/
def extended (n v : Nat) (zx : Bool) : Dword :=
  if zx = true ∨ v % 2 ^ (8 * n) < 2 ^ (8 * n - 1) then BitVec.ofNat 64 (v % 2 ^ (8 * n))
  else BitVec.ofInt 64 ((v % 2 ^ (8 * n) : Nat) - 2 ^ (8 * n) : Int)

/-- The stores of a scalar register (R191, R193): address register and address, width, value register, operation; the release first under
STREL. -/
structure Storing where
  a : BitVec 5
  va : Nat
  poison : Bool
  acc : Acc
  width : Nat
  lc : Bool
  b : BitVec 5
  op : ReqOp
  rel : Bool

def storing (s : State) (i : Instr) : Option Storing :=
  match i with
  | .st _ a b off w lc => some ⟨a, address s a off.toInt, poisoned s a, .store, 2 ^ w.toNat, lc == 1#1, b, .store, false⟩
  | .strel _ a b off w lc => some ⟨a, address s a off.toInt, poisoned s a, .store, 2 ^ w.toNat, lc == 1#1, b, .strel, true⟩
  | .red _ a b off w op => some ⟨a, address s a off.toInt, poisoned s a, .red, 2 ^ w.toNat, false, b, .red op.toNat, false⟩
  | _ => none

/-- The atomics (R192 to R194): address register and address, width, operation, the operand and comparand registers' values and labels. -/
structure Atomic where
  k : Ctl
  d : BitVec 5
  a : BitVec 5
  va : Nat
  poison : Bool
  width : Nat
  op : ReqOp
  data : Dword
  cmp : Dword
  labels : List Handle

def atomic (s : State) (i : Instr) : Option Atomic :=
  match i with
  | .amo k d a b off w op =>
    some ⟨k, d, a, address s a off.toInt, poisoned s a, 2 ^ w.toNat, .amo op.toNat, (s.srcS b).1, 0#64, [(s.srcS b).2]⟩
  | .cas k d a b c w off =>
    some ⟨k, d, a, address s a off.toInt, poisoned s a, 2 ^ w.toNat, .cas, (s.srcS b).1, (s.srcS c).1, [(s.srcS b).2, (s.srcS c).2]⟩
  | _ => none

/-- Every byte of memory that the module holds, and every line above it, is as it was (R19, R36, R45). -/
structure SameMemory (s t : State) : Prop where
  mem : t.mem = s.mem
  lines : t.lines = s.lines
  ecc : t.ecc = s.ecc
  cluster : ∀ k, (t.core k).lmem = (s.core k).lmem ∧ (t.core k).lplane = (s.core k).lplane

/-- Every register of every context, with its label, is as it was: general registers and their sideband, AMBIENT, FPCTL, STICKY
and the surrender routine's (R104, R108); and so is every accumulator (R124). -/
structure SameRegisters (s t : State) : Prop where
  general : ∀ k c, (t.ctxAt k c).sv = (s.ctxAt k c).sv ∧ (t.ctxAt k c).sl = (s.ctxAt k c).sl ∧ (t.ctxAt k c).vr = (s.ctxAt k c).vr
  control : ∀ k c, (t.ctxAt k c).ambient = (s.ctxAt k c).ambient ∧ (t.ctxAt k c).fpctl = (s.ctxAt k c).fpctl ∧
    (t.ctxAt k c).sticky = (s.ctxAt k c).sticky ∧ (t.ctxAt k c).srLink = (s.ctxAt k c).srLink ∧
    (t.ctxAt k c).srCause = (s.ctxAt k c).srCause
  accumulators : ∀ q, (t.cluster q).accv = (s.cluster q).accv ∧ (t.cluster q).accl = (s.cluster q).accl

/-! ## Vector memory -/

/-- Where lane `i` of a vector access lies (R220), and whether its address is poisoned (R221). -/
abbrev Address := Nat → Nat × Bool

/-- Vector loads: register, modifiers, LC, latency with LC, lane addresses, the labels of the address operands, whether one access serves
every lane, and whether the lanes may form a small gather (R38, R220, R222). -/
structure VLoad where
  k : Ctl
  d : BitVec 5
  vm : VMod
  lc : BitVec 1
  lat : Nat
  addr : Address
  reads : List Handle
  single : Bool
  gather : Bool

def unit (s : State) (a : BitVec 5) (off : Int) : Address := fun i => ((address s a off + 4 * i) % 2 ^ 64, poisoned s a)
def stride (s : State) (a b : BitVec 5) : Address := fun i => ((address s a 0 + i * (s.srcS b).1.toNat) % 2 ^ 64, poisoned s a)
def indexed (s : State) (a b : BitVec 5) (scale : BitVec 2) : Address := fun i =>
  ((address s a 0 + ((s.srcV b).lane i).1.toNat * 2 ^ scale.toNat) % 2 ^ 64,
   poisoned s a || s.check s.curCore s.curCtx ((s.srcV b).lane i).2 = hPoison)

/-- The labels of an indexed access's address operands: s[A] and the active lanes of vB (R220). -/
def indexLabels (s : State) (a b : BitVec 5) (vm : VMod) : List Handle := (s.srcS a).2 :: (s.lanes vm).map (fun j => ((s.srcV b).lane j).2)

def vectorLoad (s : State) (i : Instr) : Option VLoad :=
  match i with
  | .vld k d a vm lc off => some ⟨k, d, vm, lc, 2, unit s a (off.toInt * 64), [(s.srcS a).2], false, false⟩
  | .vlds k d a b vm lc => some ⟨k, d, vm, lc, 3, stride s a b, [(s.srcS a).2, (s.srcS b).2], false, false⟩
  | .vldx k d a b vm lc scale => some ⟨k, d, vm, lc, 4, indexed s a b scale, indexLabels s a b vm, false, true⟩
  | .vldb k d a vm lc off => some ⟨k, d, vm, lc, 2, fun _ => (address s a (off.toInt * 4), poisoned s a), [(s.srcS a).2], true, false⟩
  | _ => none

/-- Vector stores: data register, modifiers, LC, lane addresses, the labels of the address operands (R220). -/
def vectorStore (s : State) (i : Instr) : Option (BitVec 5 × VMod × BitVec 1 × Address × List Handle) :=
  match i with
  | .vst _ a b vm lc off => some (b, vm, lc, unit s a (off.toInt * 64), [(s.srcS a).2])
  | .vsts _ d a b vm lc => some (d, vm, lc, stride s a b, [(s.srcS a).2, (s.srcS b).2])
  | .vstx _ d a b vm lc scale => some (d, vm, lc, indexed s a b scale, indexLabels s a b vm)
  | _ => none

/-! ## Engines -/

/-- A sluice job's submission (R251, R256, R286): destination, the address register and the other operand, its mode, bank, event and
weir; ACCSV issues while no restore of the bank is pending, ACCRS while no operation, save or restore of it is (R242, R256). -/
structure Submission where
  k : Ctl
  d : BitVec 5
  addr : Dword × Handle
  others : List Handle
  mode : Nat
  bank : Nat
  amend : Option Word
  evl : Option Nat
  weir : Option Nat

def fireOf {n : Nat} (x : BitVec n) (e : BitVec 1) : Option Nat := if e = 1#1 then some x.toNat else none

def copyOf (s : State) (k : Ctl) (d a b : BitVec 5) (mode : Nat) : Submission :=
  ⟨k, d, s.srcS a, if b = 0#5 then [] else [(s.srcS b).2], mode, 0, if b = 0#5 then none else some ((s.srcS b).1.setWidth 32), none, none⟩

def submission (s : State) (i : Instr) : Option Submission :=
  match i with
  | .cpy k d a b => some (copyOf s k d a b 0)
  | .cpyt k d a b => some (copyOf s k d a b 1)
  | .cpyu k d a b => some (copyOf s k d a b 2)
  | .cpyg k d a b => some (copyOf s k d a b 3)
  | .cpys k d a b => some (copyOf s k d a b 4)
  | .cpyf k d a b => some (copyOf s k d a b 5)
  | .cpyq k d a b => some (copyOf s k d a b 6)
  | .accsv k d a b evl eve wn wpe => if s.jobOn (s.curCore / 8) 8 a.toNat = true then none else some ⟨k, d, s.srcS b, [], 7, a.toNat, none, fireOf evl eve, fireOf wn wpe⟩
  | .accrs k d a b evl eve wn wpe => if s.writeWaits a.toNat = true then none else some ⟨k, d, s.srcS b, [], 8, a.toNat, none, fireOf evl eve, fireOf wn wpe⟩
  | .lscrub k d a evl eve wn wpe =>
    if (s.domainOf s.curCore).isSome then some ⟨k, d, s.srcS a, [], 9, 0, none, fireOf evl eve, fireOf wn wpe⟩ else none
  | _ => none

/-- The job of a submission, as yet uncaptured. -/
def Submission.job (r : Submission) (s : State) : Job :=
  { s.newJob r.mode r.addr.1 with bank := r.bank, amend := r.amend, evl := r.evl, weir := r.weir }

/-- What a partial line's element becomes, and the FP flags: `CB` 0 adds floats with RNE, 1 adds integers, 2 and 3 take the larger and the smaller
signed one (R39). -/
def combined (cb : Nat) (x y : Word) : Word × Nat :=
  match cb with
  | 0 => (BitVec.ofNat 32 (fAdd 0 x.toNat y.toNat).1, (fAdd 0 x.toNat y.toNat).2)
  | 1 => (BitVec.ofInt 32 (x.toInt + y.toInt), 0)
  | 2 => (if x.toInt < y.toInt then y else x, 0)
  | _ => (if y.toInt < x.toInt then y else x, 0)

/-- The gang instructions (R125, R236, R248): the encoded operation that every member must share, and the registers read. -/
def gangOp (i : Instr) : Option (GangOp × List RegRef) :=
  match i with
  | .mma _ d a b c tb ty sp zc => some (⟨0, d, a, b, c, ty, tb, sp, zc, 0#4⟩, productRegs sp ty tb a b c)
  | .mmar _ d a b c tb ty sp zc => some (⟨1, d, a, b, c, ty, tb, sp, zc, 0#4⟩, productRegs sp ty tb a b c)
  | .mqst _ a b c ty co mask => some (⟨2, 0#5, a, b, c, ty, 0#3, co, 0#1, mask⟩, [.s b, .s (b + 1#5), .s c])
  | _ => none

/-! ## Domains -/

/-- The domain operations (R278, R280, R281): kind, operand with its label, link, destination. -/
structure DomAsk where
  k : Ctl
  kind : Nat
  v : Dword
  labels : List Handle
  link : Nat
  d : BitVec 5

def domainAsk (s : State) (i : Instr) : Option DomAsk :=
  match i with
  | .anew k d => some ⟨k, 0, 0#64, [], 0, d⟩
  | .anewTx k d link => some ⟨k, 1, 0#64, [], link.toNat, d⟩
  | .assert k d a => some ⟨k, 3, (s.srcS a).1, [(s.srcS a).2], 0, d⟩
  | .settle k d => some ⟨k, 5, 0#64, [], 0, d⟩
  | _ => none

/-- A value that a label instruction gives (R283): the handle itself, or whether it passes LTEST's condition. -/
def labelValue (i : Instr) : Option (Ctl × BitVec 5 × BitVec 5 × VMod × BitVec 1 × (Handle → Nat)) :=
  match i with
  | .lget k d a vm v => some (k, d, a, vm, v, BitVec.toNat)
  | .ltest k d a vm v cond =>
    some (k, d, a, vm, v, fun h =>
      let void := 0xFFF8 ≤ h.toNat ∧ h.toNat ≤ 0xFFFB
      if (match cond.toNat with
        | 0 => decide void
        | 1 => decide (h = 0x0000#16)
        | 2 => decide (h = 0xFFF8#16)
        | 3 => decide (h = 0xFFF9#16)
        | 4 => decide (h = 0xFFFA#16)
        | 5 => decide (h = 0xFFFB#16)
        | _ => decide (¬void)) then 1 else 0)
  | _ => none

/-! ## System instructions -/

/-- A system instruction that passes its own checks and is sent to where it is performed (R293 to R299): kind, place, data. -/
structure Sent where
  k : Ctl
  d : BitVec 5
  kind : Nat
  va : Nat
  data : Dword
  cmp : Dword
  labels : List Handle

def leasedTo (s : State) (v : Dword) : Bool := isGlobal v.toNat && s.leased s.myTenant v.toNat 1

def sent (s : State) (i : Instr) : Option Sent :=
  match i with
  | .replay k d => some ⟨k, d, 0, 0, 0#64, 0#64, []⟩
  | .flushcode k d a =>
    match s.launchOperand (s.srcS a).1 with
    | .inl n => some ⟨k, d, 6, 0, 0#64, BitVec.ofNat 64 n, [(s.srcS a).2]⟩
    | .inr _ => none
  | .resume k d a =>
    let v := (s.srcS a).1.toNat
    if v < 2 ^ 26 ∧ s.ownedBy (coreOfId v) s.myTenant = true ∧ coreId (coreOfId v) = v
    then some ⟨k, d, 1, coreOfId v, 0#64, 0#64, [(s.srcS a).2]⟩ else none
  | .aperset k d a b =>
    let v := (s.srcS a).1.toNat
    if v < 2 ^ 14 ∧ bits v 7 6 = 0 ∧ bits v 13 12 ≠ 3 ∧ v % 64 < 48 ∧ s.aperTenant (v % 64 * 16 + bits v 11 8) = some s.myTenant
    then some ⟨k, d, 2, v % 64 * 16 + bits v 11 8, (s.srcS b).1, BitVec.ofNat 64 (bits v 13 12), [(s.srcS a).2, (s.srcS b).2]⟩ else none
  | .snap k d a b =>
    let v := (s.srcS a).1.toNat
    let n := (s.srcS b).1.toNat
    if v % smallPage = 0 ∧ n % smallPage = 0 ∧ (n = 0 ∨ s.leased s.myTenant v n = true)
    then some ⟨k, d, 3, v, (s.srcS b).1, 0#64, [(s.srcS a).2, (s.srcS b).2]⟩ else none
  | .migrateMove k d a b =>
    if leasedTo s (s.srcS a).1 then some ⟨k, d, 5, (s.srcS a).1.toNat, (s.srcS b).1, 0#64, [(s.srcS a).2, (s.srcS b).2]⟩ else none
  | .migrateFlush k d a =>
    if leasedTo s (s.srcS a).1 then some ⟨k, d, 4, (s.srcS a).1.toNat, 0#64, 0#64, [(s.srcS a).2]⟩ else none
  | _ => none

/-! ## Further words of the statements -/

/-- The next state of instruction `i` is `t`. -/
def Does (i : Instr) (s t : State) : Prop := exec i s = .next t

/-- The reductions of floats, with the flags they set (R75, R219): a masked-off lane is -0.0. -/
def floatReductions (s : State) (i : Instr) : Option (Scalar × Nat) :=
  match i with
  | .vfred _ d a vm =>
    let r := treeSum ((List.range 16).map (fun i => if i ∈ s.lanes vm then ((s.srcV a).lane i).1.toNat else 2 ^ 31))
    some (⟨d, 12, BitVec.ofNat 64 r.1, s.reduceLabels vm [a]⟩, r.2)
  | .vfdot _ d a b vm =>
    let ps := (List.range 16).map (fun i =>
      if i ∈ s.lanes vm then fMul 0 ((s.srcV a).lane i).1.toNat ((s.srcV b).lane i).1.toNat else (2 ^ 31, 0))
    let r := treeSum (ps.map (·.1))
    some (⟨d, 16, BitVec.ofNat 64 r.1, s.reduceLabels vm [a, b]⟩, flagOr (unite (ps.map (·.2))) r.2)
  | _ => none

/-- A state that differs from `s` in nothing but what the label unit holds: its slots, its counters and its steps (R93, R139). -/
structure OnlyLabels (s u : State) : Prop where
  registers : SameRegisters s u
  memory : SameMemory s u
  now : u.now = s.now
  current : u.curCore = s.curCore ∧ u.curCtx = s.curCtx

/-- The access that a vector instruction makes in each lane passes its checks and is not held back (R190, R191, R221). -/
structure LanesPass (s : State) (acc : Acc) (ls : List Nat) (addr : Address) (width : Nat) (lc : Bool) : Prop where
  checks : ∀ j ∈ ls, s.checkAccess acc (addr j).1 width lc (addr j).2 = none
  free : ∀ j ∈ ls, held s (addr j).1 = false

/-- The issuing core may arrive and wait at weir `n` (R260, R263, R290). -/
def AtWeir (s : State) (n : Nat) (addend : Dword) : Prop :=
  s.me.sr = false ∧ s.withdrew s.curCore n = false ∧ addend.toNat < 2 ^ 40 ∧
  ∃ l, s.launchOf s.curCore = some l ∧ l.member n s.curCore = true

/-- The issuing context is a holder control context outside its surrender routine, or in it (R287). -/
def Holder (s : State) (inRoutine : Bool) : Prop := s.curCtx = 0 ∧ s.curCore % 8 = 0 ∧ s.me.sr = inRoutine

/-- The words of core `k`'s slice of an accumulator bank, row by row (R124, R245). -/
def slice (k : Nat) : List (Nat × Nat) := (List.range 32).flatMap (fun i => (List.range 4).map (fun n => (i, 4 * (k % 8) + n)))

/-- Where word `n` of a slice lies for MST and MLD, and whether its address is poisoned (R247). -/
def sliceAt (s : State) (b c : BitVec 5) (off : BitVec 32) : Address := fun n =>
  ((BitVec.ofInt 64 (address s b off.toInt + (n / 4 : Nat) * (s.srcS c).1.toInt + (16 * (s.curCore % 8) + 4 * (n % 4) : Nat))).toNat,
   poisoned s b)

/-- Base and pitch of MST and MLD are multiples of 16, and the base is not poisoned (R247). -/
def sliceOk (s : State) (b c : BitVec 5) (off : BitVec 32) : Prop :=
  poisoned s b = false ∧ address s b off.toInt % 16 = 0 ∧ (s.srcS c).1.toNat % 16 = 0

/-! ## Where an instruction completes -/

/-- The stores of an instruction fit the store buffer (R44). -/
def storesFit (s : State) (vas : List Nat) : Prop := s.bufferFull s.curCore ((vas.filter (fun a => isGlobal a)).map (fun a => a / 64)) = false

/-- The issuing core may hand its cluster's sluice a job (R48, R191). -/
def sluiceOpen (s : State) : Prop := (s.cluster (s.curCore / 8)).jobs.length < 16 ∧ s.localHeld s.curCore = false

/-- What the manual asks of the state and the operands for `i` to have its effect and its context to go on with the next instruction. An
instruction whose result carries a combined label is given the eight resolve slots (R93, R319); some forms ask for less. TRAP and BRK, whose effect is
an exception, and the steps of the module have no next instruction. -/
def completesWhen (s : State) (i : Instr) : Prop :=
  let slots := s.here.freeSlots = 8
  let held1 (va : Nat) := held s va = false
  match i with
  | .nop _ | .fence _ _ | .pref _ _ _ => True
  | .add .. | .addi .. | .sub .. | .mul .. | .mulh .. | .mulhu .. | .and .. | .andi .. | .or .. | .ori .. | .xor .. | .xori .. | .shl ..
  | .shli .. | .shr .. | .shri .. | .sar .. | .sari .. | .min .. | .max .. | .minu .. | .maxu .. | .slt .. | .sltu .. | .seq .. | .sel ..
  | .clz .. | .popc .. | .bfx .. | .bfi .. | .li .. | .liw .. | .lea .. => slots
  | .vadd .. | .vsub .. | .vmul .. | .vmulh .. | .vand .. | .vor .. | .vxor .. | .vnot .. | .vshl .. | .vshr .. | .vsar .. | .vmin ..
  | .vmax .. | .vminu .. | .vmaxu .. | .vcmp .. | .vsel .. | .viota .. | .vpopm .. | .vfirst .. | .vmv .. | .vbcast .. | .vext .. | .vins ..
  | .vclz .. | .vpopc .. | .vmatch .. | .vred .. | .vfadd .. | .vfsub .. | .vfmul .. | .vfma .. | .vfms .. | .vfnma .. | .vfmin ..
  | .vfmax .. | .vfabs .. | .vfneg .. | .vfcmp .. | .vfclass .. | .vfred .. | .vfdot .. | .vfsgn .. | .vfrnd .. | .vperm .. | .vslide ..
  | .vzip .. | .vunzip .. | .vcvt .. | .vpack .. | .vunpack .. | .vqdec .. | .vqenc .. | .vhdr .. => slots
  | .div .. | .divu .. | .rem .. | .remu .. => slots ∧ s.here.sdivFree ≤ s.now
  | .vdiv .. | .vsqrt .. | .vrsqrt .. | .vrcp .. | .vsqd .. => slots ∧ s.here.divFree ≤ s.now
  | .hstart .. => slots ∧ s.me.sr = false ∧ s.here.freeHelper ≠ none
  | .hend _ => s.curCtx ≠ 0 ∧ s.holdsMutex s.curCore s.curCtx = false
  | .hjoin _ a => let n := (s.srcS a).1.toNat
    1 ≤ n ∧ n ≤ 10 ∧ n ≠ s.curCtx ∧ (s.here.ctx n).live = false
  | .halt _ => s.curCtx = 0 ∧ s.me.sr = false ∧ s.here.noHelper = true
  | .srd _ _ n => s.sysReg n.toNat ≠ none
  | .swr _ a n => let h : Handle := (s.srcS a).1.setWidth 16
    n = 0x008#12 ∨ n = 0x009#12 ∨
      (n = 0x00A#12 ∧ isPend (s.srcS a).2 = false ∧ (h.toNat < 0xFFF0 ∨ (0xFFF8 ≤ h.toNat ∧ h.toNat < 0xFFFC)))
  | .ld .. | .ldacq .. => slots ∧ ∀ r, loading i = some r → let va := address s r.a r.off.toInt
    s.checkAccess .load va (2 ^ r.w.toNat) (r.lc == 1#1) (poisoned s r.a) = none ∧ held1 va
  | .st .. | .strel .. | .red .. => slots ∧ ∀ r, storing s i = some r →
    s.checkAccess r.acc r.va r.width r.lc r.poison = none ∧ held1 r.va ∧ (isGlobal r.va = true → s.bufferFull s.curCore [r.va / 64] = false)
  | .amo .. | .cas .. => ∀ r, atomic s i = some r → s.checkAccess .atomic r.va r.width false r.poison = none ∧ held1 r.va
  | .redc _ a _ off => slots ∧ s.checkAccess .redc (address s a off.toInt) 4 false (poisoned s a) = none
  | .publish _ _ a => slots ∧ s.checkAccess .publish (address s a 0) 8 false (poisoned s a) = none
  | .rinv _ a b | .rwb _ a b | .rflush _ a b => let base := (s.srcS a).1.toNat
    let len := (s.srcS b).1.toNat
    s.checkRange base len (poisoned s a) = none ∧
      ∀ r ∈ s.reqs, r.core = s.curCore → r.isStore = true → r.away = false → base + len ≤ r.va ∨ r.va + r.width ≤ base
  | .vld .. | .vlds .. | .vldx .. | .vldb .. => ∀ r, vectorLoad s i = some r →
    LanesPass s .load (if r.single then (s.lanes r.vm).take 1 else s.lanes r.vm) r.addr 4 (r.lc == 1#1)
  | .vst .. | .vsts .. | .vstx .. => slots ∧ ∀ v vm lc addr rs, vectorStore s i = some (v, vm, lc, addr, rs) →
    LanesPass s .store (s.lanes vm) addr 4 (lc == 1#1) ∧ storesFit s ((s.lanes vm).map (fun j => (addr j).1))
  | .vqld _ _ a b vm lc => let ha : Address := fun j => ((address s b 0 + 2 * j) % 2 ^ 64, poisoned s b)
    let hs := List.range (if vm.ty = 6#3 then 4 else 2)
    LanesPass s .load (List.range 16) (unit s a 0) 4 (lc == 1#1) ∧ LanesPass s .load hs ha 2 (lc == 1#1) ∧
      (lc = 1#1 → slots ∧ (s.me.fpctl.getLsbD 3 = true → ∀ j ∈ hs, headerBad (s.ownHalf (ha j).1) = false))
  | .vqst _ _ a _ c vm _ => let cs := List.range (if vm.ty = 6#3 then 4 else 8)
    let ha : Address := fun j => ((address s c 0 + 2 * j) % 2 ^ 64, poisoned s c)
    slots ∧ LanesPass s .store cs (unit s a 0) 4 false ∧ LanesPass s .store [0] ha 2 false ∧
      storesFit s (cs.map (fun j => (unit s a 0 j).1) ++ [(ha 0).1])
  | .vhdrw _ _ a _ _ => slots ∧ (headerBad ((s.srcS a).1.setWidth 16) = true → s.me.fpctl.getLsbD 3 = false)
  | .mzero _ d => s.writeWaits d.toNat = false
  | .mscale _ d _ _ | .mwrv _ d _ _ _ => slots ∧ s.writeWaits d.toNat = false
  | .mrdv _ _ a _ _ => s.jobOn (s.curCore / 8) 8 a.toNat = false
  | .mst _ a b c off => let at_ := sliceAt s b c off
    slots ∧ sliceOk s b c off ∧ LanesPass s .store (List.range 128) at_ 4 false ∧ s.jobOn (s.curCore / 8) 8 a.toNat = false ∧
      storesFit s ((List.range 128).map (fun n => (at_ n).1))
  | .mld _ d b c off => sliceOk s b c off ∧ LanesPass s .load (List.range 128) (sliceAt s b c off) 4 false ∧ s.writeWaits d.toNat = false
  | .mwait _ => s.gangOpen s.curCore = false
  | .cpy .. | .cpyt .. | .cpyu .. | .cpyg .. | .cpys .. | .cpyf .. | .cpyq .. => sluiceOpen s
  | .accsv _ _ a .. => sluiceOpen s ∧ s.jobOn (s.curCore / 8) 8 a.toNat = false
  | .accrs _ _ a .. => sluiceOpen s ∧ s.writeWaits a.toNat = false
  | .lscrub .. => sluiceOpen s ∧ s.domainOf s.curCore ≠ none
  | .xfer .. | .xferq .. => s.localHeld s.curCore = false
  | .weira _ b n => AtWeir s n.toNat (s.srcS b).1
  | .weirx _ n => AtWeir s n.toNat 0#64
  | .weirw _ n => AtWeir s n.toNat 0#64 ∧ s.here.arr.getLsbD n.toNat = false
  | .weir _ b n => AtWeir s n.toNat (s.srcS b).1 ∧ s.me.ap = true ∧ s.me.weirN = n ∧ s.here.arr.getLsbD n.toNat = false
  | .evwaitLine _ n => 0 < (vget ((s.afterSignals (fun c => c == 0) n.toNat).cluster (s.curCore / 8)).lines n.toNat default).count
  | .evwaitMutex _ n => s.ownsMutex s.curCore s.curCtx n.toNat = false ∧
    (vget ((s.afterSignals (fun c => decide (0 < c) && decide (c < 100)) n.toNat).cluster (s.curCore / 8)).mutexes n.toNat default).owner = none
  | .evsigLine _ a far _ => far = 1#1 → s.phased s.curCore = false ∧
    ∃ l, s.launchOf s.curCore = some l ∧ l.holds (clusterOfId (s.srcS a).1.toNat) = true
  | .evsigMutex _ n => s.ownsMutex s.curCore s.curCtx n.toNat = true
  | .tlwaitMem _ a b => s.checkAccess .tlwait (address s a 0) 8 false (poisoned s a) = none ∧
    ∃ o, placeOf s.curCore (address s a 0) = .control o ∧
      (s.srcS b).1.toNat ≤ (s.tenant (s.tenantOf s.curCore)).mill.get ((o % 0x80000000000 - 0x1000) / 8) 0
  | .tlwaitSluice _ b => (s.srcS b).1.toNat ≤ s.me.jobLast ∧ (s.srcS b).1.toNat ≤ s.me.timeline
  | .tlwaitMillrace _ b n => (s.srcS b).1.toNat ≤ (s.tenant (s.tenantOf s.curCore)).mill.get n.toNat 0
  | .tlwaitUpdate _ b => ∃ d, s.domainOf s.curCore = some d ∧ (s.srcS b).1.toNat ≤ s.domUpdate d
  | .tlsig _ a _ => s.checkAccess .tlsig (address s a 0) 8 false (poisoned s a) = none
  | .comm _ => s.here.pk = false
  | .sendf _ _ f => s.here.flume f.toNat ≠ none ∧ s.here.pk = true ∧ s.here.slotTab.contains (s.phaseCyc s.curCore, f.toNat) = true
  | .anew .. | .anewTx .. | .assert .. | .settle .. | .vjoin .. => slots ∧ s.domainOf s.curCore ≠ none
  | .nogood .. | .retract .. | .lfence _ => s.domainOf s.curCore ≠ none
  | .lapply _ _ _ b _ _ => slots ∧ ∃ n, s.domainOf s.curCore = some n ∧ s.namesFree n (s.srcS b).1 = false
  | .amb _ a => slots ∧ ∃ n, s.domainOf s.curCore = some n ∧ s.namesFree n (s.srcS a).1 = false
  | .lget _ _ a vm v | .ltest _ _ a vm v _ =>
    if v = 1#1 then ∀ j ∈ s.lanes vm, isPend ((s.srcV a).lane j).2 = false else isPend (s.srcS a).2 = false
  | .lstrip _ _ a vm v => slots ∧ (∃ n, s.domainOf s.curCore = some n ∧ s.stripOk n = true) ∧
    if v = 1#1 then ∀ j ∈ s.lanes vm, isPend ((s.srcV a).lane j).2 = false else isPend (s.srcS a).2 = false
  | .lread _ _ a _ => s.domainOf s.curCore ≠ none ∧ isPend (s.srcS a).2 = false
  | .srreg _ a b => Holder s false ∧ (s.srcS a).1.toNat % 4 = 0 ∧
    ((s.srcS b).1 = 0#64 ∨ (16 ≤ (s.srcS b).1.toNat ∧ (s.srcS b).1.toNat ≤ 4096))
  | .srvSummarise _ => Holder s true ∧ s.me.srVerdict = false
  | .release _ => Holder s false ∨ (Holder s true ∧ s.me.srVerdict = true)
  | .lease _ _ a _ => slots ∧ s.me.sr = false ∧ (s.srcS a).1 ≠ 0#64 ∧ (s.srcS a).1.toNat ≤ 1024
  | .plbset _ _ a b => slots ∧ s.localHeld s.curCore = false ∧ (s.srcS a).1.toNat < 2 ^ 36 ∧
    (∃ l, s.launch ((s.srcS a).1.toNat % 2 ^ 32) = some l ∧ l.tenant = s.myTenant) ∧
    ∃ o, placeOf s.curCore (s.srcS b).1.toNat = .own o ∧ (s.srcS b).1.toNat % 16 = 0 ∧
      plbOf (leNat (Sparse.bytes s.here.lmem o 8)) (leNat (Sparse.bytes s.here.lmem (o + 8) 8)) ≠ none
  | .replay .. => slots
  | .flushcode _ _ a | .kill _ _ a => slots ∧ ∃ n, s.launchOperand (s.srcS a).1 = .inl n
  | .idle _ => (s.tenant s.myTenant).packets ≠ []
  | .fpkt _ _ a => slots ∧ s.localHeld s.curCore = false ∧ (∃ o, placeOf s.curCore (s.srcS a).1.toNat = .own o) ∧ (s.srcS a).1.toNat % 64 = 0
  | .resume _ _ a => let v := (s.srcS a).1.toNat
    slots ∧ v < 2 ^ 26 ∧ s.ownedBy (coreOfId v) s.myTenant = true ∧ coreId (coreOfId v) = v
  | .qprio _ a b => (s.srcS a).1.toNat < 64 ∧ (s.srcS b).1.toNat < 8
  | .aperset _ _ a _ => let v := (s.srcS a).1.toNat
    slots ∧ v < 2 ^ 14 ∧ bits v 7 6 = 0 ∧ bits v 13 12 ≠ 3 ∧ v % 64 < 48 ∧ s.aperTenant (v % 64 * 16 + bits v 11 8) = some s.myTenant
  | .snap _ _ a b => slots ∧ (s.srcS a).1.toNat % 65536 = 0 ∧ (s.srcS b).1.toNat % 65536 = 0 ∧
    ((s.srcS b).1 = 0#64 ∨ s.leased s.myTenant (s.srcS a).1.toNat (s.srcS b).1.toNat = true)
  | .migrateMove _ _ a _ | .migrateFlush _ _ a => slots ∧ leasedTo s (s.srcS a).1 = true
  | _ => False

/-- What a transfer asks for (R173 to R177, R289), whether it is taken, and where it then goes. -/
structure Transfer where
  when : Prop
  taken : Prop
  goal : Dword

def transfer (s : State) (i : Instr) : Option Transfer :=
  let slots := s.here.freeSlots = 8
  let good (a : BitVec 5) : Prop := (s.srcS a).1.toNat % 4 = 0 ∧ poisoned s a = false
  match i with
  | .br .. | .brc .. | .brz .. | .brnz .. => (branching s i).map (fun r => ⟨True, r.taken, r.target⟩)
  | .brv _ a _ => (branching s i).map (fun r => ⟨isPend (s.srcS a).2 = false, r.taken, r.target⟩)
  | .loop _ d off => some ⟨slots, BitVec.ofInt 64 ((s.srcS d).1.toInt - 1) ≠ 0#64, target s off⟩
  | .call _ off => some ⟨slots, True, target s off⟩
  | .callr _ a => some ⟨slots ∧ good a, True, (s.srcS a).1⟩
  | .ret _ => some ⟨good 31#5, True, (s.srcS 31#5).1⟩
  | .jmpr _ a => some ⟨good a, True, (s.srcS a).1⟩
  | .srvFinish _ n => some ⟨Holder s true ∧ s.me.srVerdict = false ∧ n ≠ 0#4, True, s.me.srLink⟩
  | .srvRefuse _ => some ⟨Holder s true ∧ s.me.srVerdict = false, True, s.me.srLink⟩
  | _ => none

/-- What a wait asks for where it does not pass at once, and the wait that its context then sleeps in (R179, R180, R245, R260 to R273,
R296). -/
def sleeps (s : State) (i : Instr) : Option (Prop × Wait) :=
  let v (b : BitVec 5) := (s.srcS b).1.toNat
  match i with
  | .hjoin _ a => some (1 ≤ v a ∧ v a ≤ 10 ∧ v a ≠ s.curCtx ∧ (s.here.ctx (v a)).live = true, .hjoin (v a))
  | .halt _ => some (s.curCtx = 0 ∧ s.me.sr = false ∧ s.here.noHelper = false, .halt)
  | .mwait _ => some (s.gangOpen s.curCore = true, .mwait)
  | .weir _ b n => some (AtWeir s n.toNat (s.srcS b).1 ∧ (s.me.ap = false ∨ s.me.weirN ≠ n ∨ s.here.arr.getLsbD n.toNat = true),
      .weir n.toNat)
  | .weirw _ n => some (AtWeir s n.toNat 0#64 ∧ s.here.arr.getLsbD n.toNat = true, .weir n.toNat)
  | .evwaitLine _ n =>
    some ((vget ((s.afterSignals (fun c => c == 0) n.toNat).cluster (s.curCore / 8)).lines n.toNat default).count = 0, .line n.toNat)
  | .evwaitMutex _ n => some (s.ownsMutex s.curCore s.curCtx n.toNat = false ∧
      (vget ((s.afterSignals (fun c => decide (0 < c) && decide (c < 100)) n.toNat).cluster (s.curCore / 8)).mutexes n.toNat default).owner ≠
        none, .mutex n.toNat)
  | .evwaitBarrier _ n => some ((vget (s.cluster (s.curCore / 8)).barriers n.toNat default).target ≠ 0, .barrier n.toNat)
  | .tlwaitMem _ a b => some (s.checkAccess .tlwait (address s a 0) 8 false (poisoned s a) = none ∧
      placeOf s.curCore (address s a 0) = .global, .tlMem (address s a 0) (v b))
  | .tlwaitSluice _ b => some (v b ≤ s.me.jobLast ∧ s.me.timeline < v b, .tlSluice (v b))
  | .tlwaitMillrace _ b n => some ((s.tenant (s.tenantOf s.curCore)).mill.get n.toNat 0 < v b, .tlMill n.toNat (v b))
  | .tlwaitUpdate _ b => some (∃ d, s.domainOf s.curCore = some d ∧ s.domUpdate d < v b, .tlUpdate (v b))
  | .idle _ => some ((s.tenant s.myTenant).packets = [], .idle)
  | _ => none

/-- A member of a gang may issue (R125, R191, R238, R256). -/
def memberMay (s : State) (o : GangOp) (regs : List RegRef) : Prop :=
  s.here.gangBusy = false ∧ (∀ r ∈ gangReads s.curCore regs, s.regPending r = false) ∧ isPend s.me.ambient = false ∧
  s.jobOn (s.curCore / 8) 8 o.bank = false ∧ (o.kind = 2 ∨ o.flag = 1#1 → s.localHeld s.curCore = false)

end Sys2Proof.Claims

open Sys2Proof Sys2Proof.Machine Sys2Proof.Claims

/-! ## Scalar instructions -/

/-- ADD, ADDI, SUB, MUL, MULH, MULHU deliver the exact integer result narrowed to 64 bits, 3 cycles for the products, 1 for the
others (R183); a wrap sets no flag. -/
def Sys2Proof.Claims.ScalarArithmetic : Prop := ∀ s i r, arithmetic s i = some r → Delivers i s r

/-- AND, OR, XOR and the shifts, with their immediate forms (R183, R184). -/
def Sys2Proof.Claims.ScalarLogic : Prop := ∀ s i r, logic s i = some r → Delivers i s r

/-- MIN, MAX, MINU, MAXU, SLT, SLTU, SEQ, SEL (R183); SEL's label combines all three operands'. -/
def Sys2Proof.Claims.ScalarComparison : Prop := ∀ s i r, comparison s i = some r → Delivers i s r

/-- CLZ, POPC, BFX, BFI (R183, R186), LI, LIW, LEA (R187). -/
def Sys2Proof.Claims.ScalarBits : Prop := ∀ s i r, bitsAndConstants s i = some r → Delivers i s r

/-- The scalar instructions of Fixed latency deliver their values, labelled with the combine of their operands' labels (R183, R184, R186,
R187). -/
def Obligations.ScalarResults : Prop := Claims.ScalarArithmetic ∧ Claims.ScalarLogic ∧ Claims.ScalarComparison ∧ Claims.ScalarBits

/-- DIV, DIVU, REM, REMU need a tag and wait while the core's divider is busy. They complete 12 to 44 cycles after issue, 12 where the divisor is
zero or the dividend has the smaller magnitude, with the truncated quotient or the remainder that has the dividend's sign; a zero divisor
gives all ones and sets INT_DIV0 when the result lands (R185). -/
def Obligations.ScalarDivides : Prop := ∀ s m k d a b, ∀ i ∈ [Instr.div k d a b, .divu k d a b, .rem k d a b, .remu k d a b],
  let x := (s.srcS a).1
  let y := (s.srcS b).1
  (k.alloc = 0#3 → i.wellFormed = false) ∧ (Issues i s m → s.now < s.here.sdivFree → Stalls i s) ∧
  (∀ u h, Issues i s m → s.here.sdivFree ≤ s.now → s.formWith [(s.srcS a).2, (s.srcS b).2] = some (u, h) →
    ∃ t p, exec i s = .next t ∧ t.me.pc = s.me.pc + 8#64 ∧ t.here.pend = s.here.pend ++ [p] ∧ t.here.sdivFree = p.due ∧
      p.ctx = s.curCtx ∧ p.tag = k.alloc.toNat ∧ s.now + 12 ≤ p.due ∧ p.due ≤ s.now + 44 ∧
      (y = 0#64 ∨ (match i with
        | .div _ _ _ _ | .rem _ _ _ _ => x.toInt.natAbs < y.toInt.natAbs
        | _ => x.toNat < y.toNat) → p.due = s.now + 12) ∧ p.flags = (if y = 0#64 then 0x20#64 else 0#64) ∧
      p.writes = [.s d (if y = 0#64 then 0xFFFFFFFFFFFFFFFF#64 else match i with
        | .div _ _ _ _ => BitVec.ofInt 64 (x.toInt.tdiv y.toInt)
        | .divu _ _ _ _ => BitVec.ofNat 64 (x.toNat / y.toNat)
        | .rem _ _ _ _ => BitVec.ofInt 64 (x.toInt.tmod y.toInt)
        | _ => BitVec.ofNat 64 (x.toNat % y.toNat)) h])

/-- What a scalar instruction leaves alone at issue: every register of every context and every byte of memory; its destination
is written when its result lands (R115, R183). -/
def Obligations.ScalarFrame : Prop := ∀ s i m t, (∃ r, arithmetic s i = some r ∨ logic s i = some r ∨ comparison s i = some r ∨
    bitsAndConstants s i = some r) → Issues i s m → exec i s = .next t → SameRegisters s t ∧ SameMemory s t

/-- What the landing of result `p` leaves: its words written but for those that a later producer has written, its STICKY flags set, its tag
free; no other tag, register or context changes, and nothing else of the context but, where it was the last of a vector result's late lanes,
its wait for them; memory is as it was, and so is the cluster where no word is an accumulator's and no acquire is due (R114, R115, R319). -/
def Sys2Proof.Claims.Landed (s t : State) (k n : Nat) (p : Pend) : Prop := ∃ w, ∃ g : BitVec 8,
  t.ctxAt k p.ctx = { (p.writes.filter (fun w => !p.dead.contains w.key)).foldl Ctx.write (s.ctxAt k p.ctx) with
    sticky := (s.ctxAt k p.ctx).sticky ||| p.flags, wait := w, tags := g } ∧
  (∀ j, j < 8 → g.getLsbD j = ((s.ctxAt k p.ctx).tags.getLsbD j && !(decide (0 < p.tag) && decide (j = p.tag)))) ∧
  (p.lanes = false ∨ (s.ctxAt k p.ctx).wait ≠ .lanes → w = (s.ctxAt k p.ctx).wait) ∧ (w = (s.ctxAt k p.ctx).wait ∨ w = .none) ∧
  (∀ c, c ≠ p.ctx → t.ctxAt k c = s.ctxAt k c) ∧ t.pendAt k n = none ∧ t.mem = s.mem ∧
  (p.acquire = true → (t.core k).viewStamp = s.now) ∧
  (p.acquire = false → (∀ x ∈ p.writes, ∀ b i j v h, x ≠ .acc b i j v h) → t.clusters = s.clusters)

/-- A result that lands has its words written and its flags set; the flags are set here and not sooner by the model's choice (R114, R115,
R319; entry 32). -/
def Sys2Proof.Claims.ResultLanding : Prop := ∀ s k n p, s.subj.a = k → s.subj.b = n → s.pendAt k n = some p → p.bad = none →
  p.ctx < 11 → p.tag = 0 → ∃ t, exec .resultLanding s = .next t ∧ Claims.Landed s t k n p

/-- The result of a divide, a load or an atomic lands under its tag in the same way, and frees that tag and no other; one without words
still to decode (R114, R115; entry 32). One that met a fault writes nothing, frees its tag and stays for its consumer (R200, R343). -/
def Sys2Proof.Claims.TagFree : Prop := ∀ s k n p, s.subj.a = k → s.subj.b = n → s.pendAt k n = some p → p.fin = none →
  p.ctx < 11 → 0 < p.tag → p.tag < 8 →
    (p.bad = none → ∃ t, exec .tagFree s = .next t ∧ Claims.Landed s t k n p) ∧
    (∀ f, p.bad = some f → ∃ t, exec .tagFree s = .next t ∧ SameRegisters s t ∧ SameMemory s t ∧
      (∀ j, j < 8 → (t.ctxAt k p.ctx).tags.getLsbD j = ((s.ctxAt k p.ctx).tags.getLsbD j && decide (j ≠ p.tag))) ∧
      ∃ q, t.pendAt k n = some q ∧ q.bad = some f ∧ q.writes = [])

/-- A result that lands (R114, R115). -/
def Obligations.Landing : Prop := Claims.ResultLanding ∧ Claims.TagFree

/-- s0 reads as zero with label TRUE, and a write to it changes nothing (R105). -/
def Obligations.RegisterZero : Prop := ∀ (s : State) (k t : Nat) (x : Ctx) (v : Dword) (h : Handle),
  s.readS k t 0#5 = (0#64, 0x0000#16) ∧ x.setS 0#5 v h = x ∧ x.write (.s 0#5 v h) = x

/-- What every issued instruction leaves in its context and core: the PC, the history with its destination in front, ISSUED one
higher, the gap, and who issued last (R112, R113, R116, R139). -/
def Obligations.IssueLeaves : Prop := ∀ (s : State) (m : Meta) pc gap y, s.curCtx < 11 →
  let t := s.issued m pc gap y
  t.me.pc = pc ∧ t.me.hist = pushHist s.me.hist m.dst ∧ t.me.gapUntil = (if gap = 0 then 0 else s.now + 1 + gap) ∧
  vget t.here.cnt 0 0#64 = vget s.here.cnt 0 0#64 + 1#64 ∧ t.here.lastCtx = s.curCtx ∧ t.here.yielded = y ∧
  t.here.issuedAt = s.now + 1 ∧ SameRegisters s t ∧ SameMemory s t

/-! ## Issue checks and exceptions -/

/-- A privileged instruction issued by a core of a launch that is no supervisor's faults with PRIV, whatever else is wrong with it
(R137, R138, R293, R323). -/
def Obligations.PrivilegedOnly : Prop := ∀ i s m, i.info = some m → m.priv = true → s.me.live = true →
  s.supervised s.curCore = false → Faults i s 0x16 0#64

/-- An instruction of any kind one of whose fields names a register through a history entry which does not hold it, or which a newer entry
holds too, faults with FORWARD_MISMATCH (R116). -/
def Sys2Proof.Claims.ForwardMismatch : Prop := ∀ i s m, i.info = some m → s.me.live = true → (m.priv = true → s.supervised s.curCore = true) →
  ¬Forwarded s m.ctl.pa m.aReg ∨ ¬Forwarded s m.ctl.pb m.bReg → Faults i s 0x02 0#64

/-- An encoding that is no instruction raises ILLEGAL with its PC (R137). -/
def Sys2Proof.Claims.IllegalEncoding : Prop := ∀ s w, s.me.live = true → Faults (.unassignedEncoding w) s 0x01 0#64

/-- Encodings and forwarding fields that fault at issue (R116, R137). -/
def Obligations.IssueFaults : Prop := Claims.ForwardMismatch ∧ Claims.IllegalEncoding

/-- TRAP and BRK complete and then raise TRAP or BREAKPOINT: the packet carries their PC and N, and RESUME continues with the next
instruction (R182). -/
def Obligations.TrapAndBreak : Prop := ∀ s m k n,
  (Issues (.trap k n) s m → exec (.trap k n) s = .next ((s.issued m (s.me.pc + 8#64) 0 false).takeFault s.curCore s.curCtx 0x0F
    s.me.pc (n.setWidth 64) (s.me.pc + 8#64))) ∧
  (Issues (.brk k n) s m → exec (.brk k n) s = .next ((s.issued m (s.me.pc + 8#64) 0 false).takeFault s.curCore s.curCtx 0x10
    s.me.pc (n.setWidth 64) (s.me.pc + 8#64)))

/-- TAKING AN EXCEPTION under a live supervisor with room in its packet queue: the core freezes and names the context and the cause,
the context stands at the PC at which RESUME continues, and the packet with core, launch, PC, address and cause is queued; no
register and no byte of memory changes (R297, R342 to R345). -/
def Obligations.FaultEntry : Prop := ∀ (s : State) k t cause pc addr resume c, t < 11 →
  s.supCore (s.tenantOf k) = some c → ¬(c = k ∧ t = 0) → cause < 256 → (s.tenant (s.tenantOf k)).packets.length < 256 →
    let u := s.takeFault k t cause pc addr resume
    (u.core k).frozen = true ∧ (u.core k).dbgCtx = t ∧ (u.core k).dbgCause = cause ∧ (u.ctxAt k t).pc = resume ∧
    (u.tenant (s.tenantOf k)).packets = (s.tenant (s.tenantOf k)).packets ++
      [{ core := BitVec.ofNat 64 (coreId k), launch := match s.launchOf k with | none => 0#64 | some l => l.id, pc := pc, addr := addr,
         info := BitVec.ofNat 64 (t * 256 + cause), gen := BitVec.ofNat 64 (s.tenant (s.tenantOf k)).gen }] ∧
    SameRegisters s u ∧ SameMemory s u

/-- A core that is frozen issues nothing: none of its contexts is ready (R342). -/
def Sys2Proof.Claims.FrozenCoreIdle : Prop := ∀ (s : State) k t, (s.core k).frozen = true → s.status k t = .idle

/-- THE RETURN FROM AN EXCEPTION: a core that RESUME releases is no longer frozen and has acquired, unless it holds another report,
which it then takes at once (R344, R350). -/
def Sys2Proof.Claims.FaultReturn : Prop := ∀ (s : State) k,
  ((s.core k).held = [] → ((s.resumeCore k).core k).frozen = false ∧ ((s.resumeCore k).core k).viewStamp = s.now ∧
    (∀ t, (s.resumeCore k).ctxAt k t = s.ctxAt k t)) ∧
  (∀ r rest, (s.core k).held = r :: rest → ∃ v : State, v.mem = s.mem ∧ (v.core k).held = rest ∧ s.resumeCore k = v.takeReport k r)

/-- A frozen core issues nothing until it is resumed (R342, R344, R350). -/
def Obligations.FrozenAndResumed : Prop := Claims.FrozenCoreIdle ∧ Claims.FaultReturn

/-- The model never stops: an instruction that a live context issues, and every step of the module between issues, answers a next
state. EVERY INSTRUCTION COMPLETES: one that issues, on state and operands as its entry asks, answers the state in which it has issued with
its effect and its context goes on with the next instruction, at the target of a transfer, or sleeps in its wait; a member of a gang
sleeps until the gang has joined. YIELD goes on after the longer of GAP and N. TRAP and BRK take their exception (R112, R125, R138, R173, R181, R182, R264). -/
def Obligations.NothingStops : Prop :=
  (∀ i s, s.me.live = true ∨ (i.info = none ∧ ∀ w, i ≠ .unassignedEncoding w) → ∃ t, exec i s = .next t) ∧
  (∀ i s m, Issues i s m → i.wellFormed = true →
    let next := s.me.pc + BitVec.ofNat 64 m.len
    let gap := m.ctl.gap.toNat
    let y := m.ctl.y == 1#1
    (completesWhen s i → ∃ u : State, exec i s = .next (u.issued m next gap y)) ∧
    (∀ x, transfer s i = some x → x.when →
      (x.taken → ∃ (u : State) (n : Nat), exec i s = .next (u.issued m x.goal n y)) ∧ (¬x.taken → ∃ u : State, exec i s = .next (u.issued m next gap y))) ∧
    (∀ p w, sleeps s i = some (p, w) → p → ∃ u : State, exec i s = .next ((u.issued m s.me.pc gap y).onMe (fun x => { x with wait := w }))) ∧
    (∀ o regs, gangOp i = some (o, regs) → memberMay s o regs → ∃ u : State,
      exec i s = .next (((u.issued m s.me.pc gap y).onMe (fun x => { x with wait := .gang })).joinGang (s.curCore / 8))) ∧
    (∀ k n, i = .yield k n → exec i s = .next (s.issued m next (max gap n.toNat) true)) ∧
    (∀ k n, i = .trap k n → exec i s = .next ((s.issued m next 0 false).takeFault s.curCore s.curCtx 0x0F s.me.pc (n.setWidth 64) next)) ∧
    (∀ k n, i = .brk k n → exec i s = .next ((s.issued m next 0 false).takeFault s.curCore s.curCtx 0x10 s.me.pc (n.setWidth 64) next)))

/-! ## Control transfers and system registers -/

/-- BR, BRC, BRZ, BRNZ, BRV: a taken branch continues at PC + 4 × offset, two cycles late; one not taken with the next instruction
(R173 to R175). BRV's label is no longer pending. -/
def Sys2Proof.Claims.Branches : Prop := ∀ s i r m, branching s i = some r → Issues i s m →
  (∀ k a off, i = .brv k a off → isPend (s.srcS a).2 = false) →
    (r.taken → Jumps i s m (s.countVoids [plainIn r.labels]) r.target 2) ∧ (¬r.taken → Goes i s m (s.countVoids [plainIn r.labels]))

/-- BRV waits while its label is pending (R175). -/
def Sys2Proof.Claims.BrvWaits : Prop := ∀ s k a off m, Issues (.brv k a off) s m → isPend (s.srcS a).2 = true → Stalls (.brv k a off) s

/-- The conditional transfers (R173 to R175). -/
def Obligations.Branching : Prop := Claims.Branches ∧ Claims.BrvWaits

/-- LOOP's counter falls by one, modulo 2^64, with the combine of its own label and AMBIENT, readable one cycle later; it transfers while the
counter is not zero. LOOP with D = 0 is no instruction, and LOOP enters s[D] into the result history (R177). -/
def Obligations.CountedLoop : Prop := ∀ (s u : State) k d off h m,
  (Instr.loop k 0#5 off).wellFormed = false ∧ (d ≠ 0#5 → (Instr.loop k d off).info.map (·.dst) = some (some (.s d))) ∧
  (Issues (.loop k d off) s m → s.formWith [(s.srcS d).2] = some (u, h) →
    let v := BitVec.ofInt 64 ((s.srcS d).1.toInt - 1)
    let w := u.produce (tagOf k) 1 [.s d v h] 0 [.s d]
    (v ≠ 0#64 → Jumps (.loop k d off) s m w (target s off) 2) ∧ (v = 0#64 → Goes (.loop k d off) s m w))

/-- CALL and CALLR write s31 with PC + 8 and the combine of AMBIENT, and enter s31 into the result history; CALLR reads its target first. RET and
JMPR transfer to s31 and s[A], and write and enter nothing (R176). A register's target must be a multiple of 4 and not poisoned (R173). -/
def Obligations.CallsAndReturns : Prop := ∀ s m,
  (∀ k off u h, Issues (.call k off) s m → s.formWith [] = some (u, h) →
    Jumps (.call k off) s m (u.produce (tagOf k) 1 [.s 31#5 (s.me.pc + 8#64) h] 0 [.s 31#5]) (target s off) 2) ∧
  (∀ k a off, (Instr.call k off).info.map (·.dst) = some (some (.s 31#5)) ∧ (Instr.callr k a).info.map (·.dst) = some (some (.s 31#5)) ∧
    (Instr.ret k).info.map (·.dst) = some none ∧ (Instr.jmpr k a).info.map (·.dst) = some none) ∧
  (∀ i a link, registerJump i = some (a, link) → Issues i s m →
    let x := s.srcS a
    let s0 := s.countVoids [plainIn [x.2]]
    (x.1.toNat % 4 ≠ 0 → Faults i s 0x04 x.1) ∧
    (x.1.toNat % 4 = 0 → s.check s.curCore s.curCtx x.2 = hPoison → Faults i s 0x0E x.1) ∧
    (x.1.toNat % 4 = 0 → s.check s.curCore s.curCtx x.2 ≠ hPoison →
      (link = false → Jumps i s m s0 x.1 2) ∧
      (link = true → ∀ u h, s0.formWith [] = some (u, h) →
        Jumps i s m (u.produce (tagOf m.ctl) 1 [.s 31#5 (s.me.pc + 8#64) h] 0 [.s 31#5]) x.1 2)))

/-- NOP only advances. YIELD waits for the longer of GAP and N and lets another context go first. HEND ends a helper that holds no
mutex. HJOIN passes for a context that is not live and sleeps for one that is. HALT without live helpers ends the control context
and withdraws its core from its weirs; with them it sleeps (R179 to R181, R263). -/
def Obligations.Pauses : Prop := ∀ s m k,
  (Issues (.nop k) s m → Goes (.nop k) s m s) ∧
  (∀ n, Issues (.yield k n) s m → exec (.yield k n) s = .next (s.issued m (s.me.pc + 8#64) (max k.gap.toNat n.toNat) true)) ∧
  (Issues (.hend k) s m → s.curCtx ≠ 0 → s.holdsMutex s.curCore s.curCtx = false →
    Goes (.hend k) s m ((s.onMe (fun x => { x with ending := true })).plan 1 0 .helperRetire { a := s.curCore, b := s.curCtx })) ∧
  (∀ a, Issues (.hjoin k a) s m → let n := (s.srcS a).1.toNat
    1 ≤ n → n ≤ 10 → n ≠ s.curCtx → let u := s.countVoids [plainIn [(s.srcS a).2]]
    ((s.here.ctx n).live = false → Goes (.hjoin k a) s m u) ∧ ((s.here.ctx n).live = true → Sleeps (.hjoin k a) s m u (.hjoin n))) ∧
  (Issues (.halt k) s m → s.curCtx = 0 → s.me.sr = false →
    (s.here.noHelper = true → Goes (.halt k) s m (s.haltCore s.curCore)) ∧ (s.here.noHelper = false → Sleeps (.halt k) s m s .halt))

/-- HSTART starts the lowest helper that is not live at PC + 4 × offset, with s1 and s2 from its operands and the starter's ambient
label, every other register zero with label TRUE, and delivers the helper's number (R106, R178). -/
def Obligations.HelperStart : Prop := ∀ (s u : State) k d a b off h l m, Issues (.hstart k d a b off) s m → s.me.sr = false →
  s.here.freeHelper = some h → (s.countVoids [plainIn [(s.srcS a).2, (s.srcS b).2]]).formWith [] = some (u, l) →
    ∃ t, exec (.hstart k d a b off) s = .next t ∧ t.me.pc = s.me.pc + 12#64 ∧
      (t.here.ctx h).live = true ∧ (t.here.ctx h).pc = target s off ∧ (t.here.ctx h).ambient = s.me.ambient ∧
      (t.here.ctx h).sreg 1#5 = s.srcS a ∧ (t.here.ctx h).sreg 2#5 = s.srcS b ∧
      (∀ r : BitVec 5, r ≠ 1#5 → r ≠ 2#5 → (t.here.ctx h).sreg r = (0#64, 0x0000#16)) ∧ (t.here.ctx h).vr = Ctx.zero.vr ∧
      ∃ p, t.here.pend = s.here.pend ++ [p] ∧ p.writes = [.s d (BitVec.ofNat 64 h) l]

/-- SRD delivers a system register with label TRUE, and faults with ILLEGAL at a number that names none; STICKY, FPCTL, AMBIENT,
CYCLE and the counters among them (R139 to R142, R188). -/
def Sys2Proof.Claims.SystemRegisterRead : Prop := ∀ (s : State) k d (n : BitVec 12) m, Issues (.srd k d n) s m →
  (s.sysReg n.toNat = none → Faults (.srd k d n) s 0x01 0#64) ∧
  (∀ v, s.sysReg n.toNat = some v → Goes (.srd k d n) s m (s.produce (tagOf k) 1 [.s d (BitVec.ofNat 64 v) 0x0000#16] 0 [.s d])) ∧
  s.sysReg 0x001 = some s.curCtx ∧ s.sysReg 0x008 = some s.me.sticky.toNat ∧ s.sysReg 0x009 = some s.me.fpctl.toNat ∧
  s.sysReg 0x00A = some s.me.ambient.toNat ∧ s.sysReg 0x00C = some s.now ∧
  (∀ c, c < 12 → s.sysReg (0x020 + c) = some (vget s.here.cnt c 0#64).toNat) ∧ s.sysReg 0x010 ≠ none ∧ s.sysReg 0x018 = none

/-- SWR clears the STICKY flags whose bit is one, writes FPCTL's defined bits, and writes AMBIENT unless the value is a pending or
reserved handle (R63, R64, R87, R188); a VOID label of the value read is counted (R92); any other number faults with ILLEGAL. -/
def Sys2Proof.Claims.SystemRegisterWrite : Prop := ∀ (s : State) k a (n : BitVec 12) m, Issues (.swr k a n) s m →
  let v := (s.srcS a).1
  let u := s.countVoids [plainIn [(s.srcS a).2]]
  (n = 0x008#12 → Goes (.swr k a n) s m ((u.onMe (fun x => { x with sticky := x.sticky &&& ~~~v })).tagOnly k 1)) ∧
  (n = 0x009#12 → Goes (.swr k a n) s m ((u.onMe (fun x => { x with fpctl := v &&& 0xF#64 })).tagOnly k 1)) ∧
  (n = 0x00A#12 → isPend (s.srcS a).2 = false →
    ((v.setWidth 16 : Handle).toNat < 0xFFF0 ∨ (0xFFF8 ≤ (v.setWidth 16 : Handle).toNat ∧ (v.setWidth 16 : Handle).toNat < 0xFFFC) →
      Goes (.swr k a n) s m ((u.onMe (fun x => { x with ambient := v.setWidth 16 })).tagOnly k 1)) ∧
    (¬((v.setWidth 16 : Handle).toNat < 0xFFF0 ∨ (0xFFF8 ≤ (v.setWidth 16 : Handle).toNat ∧ (v.setWidth 16 : Handle).toNat < 0xFFFC)) →
      Faults (.swr k a n) s 0x01 0#64)) ∧
  (n ≠ 0x008#12 → n ≠ 0x009#12 → n ≠ 0x00A#12 → Faults (.swr k a n) s 0x01 0#64)

/-- SRD and SWR (R63, R64, R87, R139 to R142, R188). -/
def Obligations.SystemRegisters : Prop := Claims.SystemRegisterRead ∧ Claims.SystemRegisterWrite


/-! ## Decoding and the step -/

/-- Words written out in the manual's own listings decode to the instructions of their source lines, one or more of each group of R136. -/
def Obligations.DecodeWords : Prop :=
  let k : Ctl := ⟨0, 0, 0, 0, 0, 0⟩
  decodeWords [0x00500001, 0xFFFFC020] = .brnz k 4 (-2) ∧
  decodeWords [0xC4000001, 0x00000208] = .add k 3 1 2 ∧
  decodeWords [0x04100001, 0xFFFF0021] = .addi k 4 4 (-8) ∧
  decodeWords [0xC6300003, 0x00000001, 0x00000800, 0x00123400] = .liw k 7 0x0012340000000800 ∧
  decodeWords [0x88000001, 0x0042C049] = .ld k 6 9 16 2 1 1 ∧
  decodeWords [0xCCF00009, 0x01084929] = .vcmp { k with gap := 1 } 7 5 9 ⟨0, 0, 0, 1, 0, 1⟩ 2 ∧
  decodeWords [0x5000001D, 0x3E100311] = .vfadd { k with gap := 3, y := 1 } 5 2 3 ⟨7, 1, 1, 0, 0, 2⟩ ∧
  decodeWords [0x1032285E, 0x00108341, 0x00000000] = .vfma ⟨17, 2, 0, 1, 3, 1⟩ 4 8 3 4 ⟨0, 0, 0, 0, 0, 2⟩ ∧
  decodeWords [0x14100201, 0x00000318] = .vst { k with pb := 2 } 3 3 ⟨0, 0, 0, 0, 0, 0⟩ 0 0 ∧
  decodeWords [0x58000402, 0x0318E410, 0x00000001] = .mma { k with alloc := 1 } 1 2 4 7 3 3 0 1 ∧
  decodeWords [0x9C000401, 0x0000005A] = .cpy { k with alloc := 1 } 10 11 0 ∧
  decodeWords [0x20000001, 0x00002000] = .weir k 0 1 ∧
  decodeWords [0x24100001, 0x36040B21] = .lapply k 4 4 11 ⟨6, 1, 1, 0, 0, 0⟩ 1 ∧
  decodeWords [0x28000001, 0x000015A0] = .srreg k 20 21 ∧
  decodeWords [0xAC500801, 0x00000021] = .resume { k with alloc := 2 } 6 4 ∧
  decodeWords [0x00000000] = .unassignedEncoding 0 ∧
  decodeWords [0x01200001, 0x00000000] = .unassignedEncoding 0x01200001 ∧
  decodeWords [0x10300001, 0x00000000] = .unassignedEncoding 0x10300001

/-- What the decoder accepts: a word that is the layout of a well-formed instruction, and no other (R131, R136, R137). -/
def Obligations.DecodeMeaning : Prop := ∀ w i, decodeBits w = some i ↔ i.bits = w ∧ i.wellFormed = true

/-- Decoding the words that a well-formed instruction encodes to gives the instruction back, with every operand, and there are as many
words as its length code says (R127 to R136). -/
def Obligations.CodecRoundTrip : Prop := ∀ i, i.wellFormed = true → decodeWords (encode i) = i ∧ 4 * (encode i).length = lenBytes i.bits

/-- A STEP RUNS THE DECODED INSTRUCTION. With nothing due before issue, the next core's issuing context executes the instruction that its
fetch block holds at its PC past PAD words (R112, R117, R127); a core's only ready context is the one that issues. -/
def Obligations.StepRunsDecoded : Prop :=
  (∀ (s : State) k t pc i, (∀ x rest, s.agenda = x :: rest → 4 * s.now + 1 < x.key) → s.renew.nextTask = some (.issue k t pc i) →
    s.renew.overBound k t = false → step s = exec i (s.renew.toIssue k t pc)) ∧
  (∀ (s : State) k t pc i, s.nextTask = some (.issue k t pc i) → s.status k t = .ready pc i) ∧
  (∀ (s : State) k t pc i, s.status k t = .ready pc i →
    ∃ b, s.block k (pc / 32) = some b ∧ i = instrAt b (pc % 32 / 4) ∧ (s.ctxAt k t).live = true ∧ (s.core k).frozen = false ∧
      ∀ m, i.info = some m → tagsFree (s.ctxAt k t) m = true ∧ (s.core k).missing t (i.regsAt m k) = []) ∧
  (∀ (b : IBlock) n i rest, i.wellFormed = true → b.words.drop n = encode i ++ rest → instrAt b n = i) ∧
  (∀ (s : State) k t pc i, t < 11 → (∀ u, u < 11 → u ≠ t → s.status k u = .idle) → s.status k t = .ready pc i →
    (s.core k).issuedAt ≠ s.now + 1 → s.coreTask k = some (.issue k t pc i))

/-! ## The label unit -/

/-- A scalar label forms whenever a resolve slot is free, and changes nothing but the label unit; TRUE operands under a TRUE ambient label
give TRUE, and an operand that reads as VOID.POISON gives VOID.POISON (R81, R83, R88, R93). -/
def Sys2Proof.Claims.LabelUnit : Prop := ∀ (s : State) hs,
  (0 < s.here.freeSlots → ∃ u h, s.formWith hs = some (u, h) ∧ OnlyLabels s u) ∧
  ((∀ h ∈ hs, h = 0x0000#16) → s.me.ambient = 0x0000#16 → ∃ u, s.formWith hs = some (u, 0x0000#16) ∧ OnlyLabels s u) ∧
  (∀ h ∈ hs, s.check s.curCore s.curCtx h = 0xFFFA#16 → ∃ u, s.formWith hs = some (u, 0xFFFA#16))

/-- A vector result is accepted whenever all eight resolve slots are free. With every label TRUE it writes each active lane with label
TRUE, and each masked-off lane with 0 and label TRUE unless MU keeps it (R88, R107, R319). -/
def Sys2Proof.Claims.VectorResult : Prop := ∀ (s : State) k lo hi d vm (outs : List LaneOut) flags sides,
  (s.here.freeSlots = 8 → ∃ u, s.vresultAt k lo hi d vm outs flags sides = .go u) ∧
  ((∀ o ∈ outs, ∃ hs, o.2.2 = plainIn hs ∧ ∀ h ∈ hs, h = 0x0000#16) → s.me.ambient = 0x0000#16 → lo = hi →
    ∃ v, OnlyLabels s v ∧ s.vresultAt k lo hi d vm outs flags sides = .go (v.produce (tagOf k) hi
      (outs.map (fun o => .lane d o.1 o.2.1 0x0000#16) ++
       (if vm.mu = 1#1 then []
        else ((List.range 16).filter (fun i => decide (i ∉ s.lanes vm))).map (fun i => .lane d i 0#32 0x0000#16)) ++ sides)
      flags [.v d]))

/-- The label of a scalar or vector result (R81, R83, R88, R93, R107, R319). -/
def Obligations.LabelForming : Prop := Claims.LabelUnit ∧ Claims.VectorResult

/-- Check (R85): TRUE and pending handles pass; reserved ones read as VOID.POISON; without a domain every other handle but VOID.POISON and
VOID.LOST reads as VOID.LOST; with one, VOID.HIDDEN, VOID.OVER and table handles read as VOID.LOST in a past era, a table handle also where
its entry is free, as VOID.HIDDEN when every environment of it is refuted, else as itself. That the era compared with is the domain's of this
moment, also between SETTLE and the view's change, is the model's reading (entry 47). -/
def Obligations.LabelCheck : Prop := ∀ (s : State) dom (v : View) (h : Handle),
  let pending := 0xFFF0 ≤ h.toNat ∧ h.toNat < 0xFFF8
  let table := 0 < h.toNat ∧ h.toNat < 0xFFF0
  (h = 0x0000#16 ∨ pending → s.checkIn dom v h = h) ∧
  (0xFFFC ≤ h.toNat → s.checkIn dom v h = 0xFFFA#16) ∧
  (dom = none → (h = 0xFFFA#16 ∨ h = 0xFFFB#16 → s.checkIn dom v h = h) ∧
    (h = 0xFFF8#16 ∨ h = 0xFFF9#16 ∨ table → s.checkIn dom v h = 0xFFFB#16)) ∧
  (∀ n, dom = some n → (h = 0xFFFA#16 ∨ h = 0xFFFB#16 → s.checkIn dom v h = h) ∧
    (h = 0xFFF8#16 ∨ h = 0xFFF9#16 → s.checkIn dom v h = if v.era.toNat = s.domEra n then h else 0xFFFB#16) ∧
    (table → v.era.toNat ≠ s.domEra n → s.checkIn dom v h = 0xFFFB#16) ∧
    (table → v.era.toNat = s.domEra n →
      (s.tableEntry n h.toNat = [] → s.checkIn dom v h = 0xFFFB#16) ∧
      (s.tableEntry n h.toNat ≠ [] →
        ((∀ e ∈ s.tableEntry n h.toNat, ∃ g ∈ v.nogoods, g &&& (e &&& ~~~v.asserted) = g) → s.checkIn dom v h = 0xFFF8#16) ∧
        (¬(∀ e ∈ s.tableEntry n h.toNat, ∃ g ∈ v.nogoods, g &&& (e &&& ~~~v.asserted) = g) → s.checkIn dom v h = h))))

/-! ## Vector instructions -/

/-- VPOPM, VFIRST, VEXT, VRED, VHDR deliver a scalar labelled with the active lanes' labels (R202, R208 to R210, R233); VFRED and VFDOT
also set the flags of their tree (R75, R219). -/
def Obligations.LaneReductions : Prop := ∀ s i,
  (∀ r, laneReductions s i = some r → Delivers i s r) ∧
  (∀ r f, floatReductions s i = some (r, f) → ∀ m u h, Issues i s m → i.wellFormed = true → s.formWith r.labels = some (u, h) →
    Goes i s m (u.produce (tagOf m.ctl) r.lat [.s r.d r.v h] f [.s r.d]))

/-- The vector integer instructions and the permutes deliver, lane by lane, the values of R206 to R211 and R225. -/
def Sys2Proof.Claims.VectorInteger : Prop := ∀ s i r, vectorInteger s i = some r ∨ permuting s i = some r → DeliversLanes i s r

/-- VINS writes one lane with the scalar's low word, and leaves the others and their labels alone (R208). -/
def Sys2Proof.Claims.VectorInsert : Prop := ∀ s k d a vm (n : BitVec 4) m u h, Issues (.vins k d a vm n) s m →
  s.formWith [(s.srcS a).2] = some (u, h) →
    Goes (.vins k d a vm n) s m (u.produce (tagOf k) 2 [.lane d n.toNat ((s.srcS a).1.setWidth 32) h] 0 [.v d])

/-- The vector integer instructions, the permutes and VINS (R206 to R211, R225). -/
def Obligations.VectorIntegers : Prop := Claims.VectorInteger ∧ Claims.VectorInsert

/-- The vector float instructions, the conversions and VQDEC deliver their lanes' values and unite the flags of the active lanes (R58, R212
to R216, R226, R227, R230). -/
def Sys2Proof.Claims.VectorFloat : Prop := ∀ s i r, vectorFloat s i = some r → DeliversLanes i s r

/-- VDIV, VSQRT, VRSQRT, VRCP, VSQD take the divide unit for their busy time; lanes 8 to 15 land one cycle after the others; while it is
busy they cannot issue (R205, R217, R218). -/
def Sys2Proof.Claims.VectorDivides : Prop := ∀ s i busy lat d vm g m, dividing s i = some (busy, lat, d, vm, g) → Issues i s m →
  i.wellFormed = true →
    (s.now < s.here.divFree → Stalls i s) ∧
    (s.here.divFree ≤ s.now → ∀ u, s.vresultAt m.ctl lat (lat + 1) d vm (s.floatOuts vm g).1 (s.floatOuts vm g).2 [] = .go u →
      Goes i s m ((u.onHere (fun c => { c with divFree := s.now + busy })).plan busy 0 .divideUnitFree { a := s.curCore }))

/-- What the float operations deliver. A NaN operand comes first, in the order a, b, c, quieted, and signals FP_NV if it is a signalling one (R59).
Sums, products, fused sums, quotients, square roots and converted integers of finite operands are the exact value rounded once (R57, R58); ∞ - ∞ is cause 3, 0 × ∞ cause 4,
0 / 0, ∞ / ∞ and the root of a negative number cause 5, and a finite number over zero is ∞ with FP_DZ (R58, R59, R213, R217). -/
def Sys2Proof.Claims.FloatValues : Prop := ∀ mode a b c, mode < 4 → a < 2 ^ 32 → b < 2 ^ 32 → c < 2 ^ 32 →
  let quieted (x : Nat) : Nat := if isSignalling x then x + 2 ^ 22 else x
  let sign (x : Nat) : Nat := x / 2 ^ 31 % 2
  let inf (x : Nat) : Prop := x % 2 ^ 31 = 0x7F800000
  let crossed := (sign a + sign b) % 2 * 2 ^ 31
  let invalid (l : List Nat) (fl : Nat) : Prop := fl = 1 ∧ (∃ x ∈ l, isSignalling x) ∨ fl = 0 ∧ ∀ x ∈ l, ¬isSignalling x
  (∀ f ∈ [fAdd mode, fMul mode, fDiv mode],
    (isNaN32 a → (f a b).1 = quieted a ∧ invalid [a, b] (f a b).2) ∧
    (¬isNaN32 a → isNaN32 b → (f a b).1 = quieted b ∧ invalid [a, b] (f a b).2)) ∧
  (∀ np nc, (isNaN32 a → (fFma mode np nc a b c).1 = quieted a) ∧ (¬isNaN32 a → isNaN32 b → (fFma mode np nc a b c).1 = quieted b) ∧
    (¬isNaN32 a → ¬isNaN32 b → isNaN32 c → (fFma mode np nc a b c).1 = quieted c) ∧
    ((isNaN32 a ∨ isNaN32 b ∨ isNaN32 c) → invalid [a, b, c] (fFma mode np nc a b c).2)) ∧
  (¬isNaN32 b → fSub mode a b = fAdd mode a (if sign b = 1 then b - 2 ^ 31 else b + 2 ^ 31)) ∧ (isNaN32 b → fSub mode a b = fAdd mode a b) ∧
  (inf a → inf b → a ≠ b → fAdd mode a b = (0x7FC00003, 1)) ∧ (inf a → inf b → a = b → fAdd mode a b = (a, 0)) ∧
  (inf a → isFinite b → fAdd mode a b = (a, 0) ∧ fAdd mode b a = (a, 0)) ∧
  (isFinite a → isFinite b → units a + units b = 0 → fAdd mode a b =
    (if units a = 0 ∧ sign a = sign b then a else if mode = 2 then 2 ^ 31 else 0, 0)) ∧
  (isFinite a → isFinite b → units a + units b ≠ 0 → Rounded mode (fAdd mode a b) (units a + units b) 1) ∧
  (inf a → (inf b ∨ isFinite b ∧ units b ≠ 0) → fMul mode a b = (crossed + 0x7F800000, 0) ∧ fMul mode b a = (crossed + 0x7F800000, 0)) ∧
  (inf a → isFinite b → units b = 0 → fMul mode a b = (0x7FC00004, 1) ∧ fMul mode b a = (0x7FC00004, 1)) ∧
  (isFinite a → isFinite b → units a * units b = 0 → fMul mode a b = (crossed, 0)) ∧
  (isFinite a → isFinite b → units a * units b ≠ 0 → Rounded mode (fMul mode a b) (units a * units b) (2 ^ 149)) ∧
  (∀ np nc, isFinite a → isFinite b → isFinite c →
    let p := (if np then -(units a * units b) else units a * units b) + (if nc then -(units c * 2 ^ 149) else units c * 2 ^ 149)
    p ≠ 0 → Rounded mode (fFma mode np nc a b c) p (2 ^ 149)) ∧
  (∀ np nc, ¬isNaN32 c → ((inf a ∧ isFinite b ∧ units b = 0) ∨ (inf b ∧ isFinite a ∧ units a = 0)) → fFma mode np nc a b c = (0x7FC00004, 1)) ∧
  ((isFinite a ∧ isFinite b ∧ units a = 0 ∧ units b = 0) ∨ (inf a ∧ inf b) → fDiv mode a b = (0x7FC00005, 1)) ∧
  (isFinite a → units a ≠ 0 → isFinite b → units b = 0 → fDiv mode a b = (crossed + 0x7F800000, 2)) ∧
  (isFinite a → inf b → fDiv mode a b = (crossed, 0)) ∧ (inf a → isFinite b → fDiv mode a b = (crossed + 0x7F800000, 0)) ∧
  (isFinite a → isFinite b → units a ≠ 0 → units b ≠ 0 →
    Rounded mode (fDiv mode a b) (if units b < 0 then -(units a * 2 ^ 149) else units a * 2 ^ 149) (units b).natAbs) ∧
  (isFinite a → units a = 0 → fSqrt mode a = (a, 0)) ∧ (isFinite a ∧ units a < 0 ∨ a = 0xFF800000 → fSqrt mode a = (0x7FC00005, 1)) ∧
  (fSqrt mode 0x7F800000 = (0x7F800000, 0)) ∧
  (isFinite a → 0 < units a →
    let r := fSqrt mode a
    let x := units r.1
    let p := units a * 2 ^ 149
    let g : Int := 2 ^ (Nat.log2 p.toNat / 2 - 23)
    isFinite r.1 ∧ (r.2 = 0 ∨ r.2 = 0x10) ∧ (r.2 = 0 ↔ x * x = p) ∧
    (mode = 0 → (2 * x - g) * (2 * x - g) < 4 * p ∧ 4 * p < (2 * x + g) * (2 * x + g)) ∧
    (mode = 1 ∨ mode = 2 → x * x ≤ p ∧ p < (x + g) * (x + g)) ∧ (mode = 3 → (x - g) * (x - g) < p ∧ p ≤ x * x)) ∧
  (∀ v : Int, v ≠ 0 → -(2 ^ 31) ≤ v → v < 2 ^ 32 → Rounded mode (fOfInt mode v) (v * 2 ^ 149) 1) ∧ fOfInt mode 0 = (0, 0)

/-- The vector float instructions, and the values of the float operations (R57 to R59, R205, R212 to R218, R226, R227, R230). -/
def Obligations.VectorFloats : Prop := Claims.VectorFloat ∧ Claims.VectorDivides ∧ Claims.FloatValues

/-! ## Memory instructions -/

/-- The order of the checks of an access (R190): VOID.POISON addresses, LC outside the core's local memory, alignment; then a hole or a
global address in no range; local and cluster memory admits loads, stores and atomics. -/
def Obligations.AccessChecks : Prop := ∀ (s : State) acc va width lc poison,
  let p := placeOf s.curCore va
  let fault (c : Nat) := s.checkAccess acc va width lc poison = some (.fault c (BitVec.ofNat 64 va))
  let misplaced := lc = true ∧ ∀ o, p ≠ .own o
  (poison = true → fault 0x0E) ∧ (poison = false → misplaced → fault 0x03) ∧
  (poison = false → ¬misplaced → va % width ≠ 0 → fault 0x04) ∧
  (poison = false → ¬misplaced → va % width = 0 →
    (s.phased s.curCore = true → acc = .tlwait ∨ acc = .tlsig → fault 0x0C) ∧
    (s.phased s.curCore = false ∨ (acc ≠ .tlwait ∧ acc ≠ .tlsig) →
      (p = .outside → s.checkAccess acc va width lc poison = some (.lease (BitVec.ofNat 64 va))) ∧ (p = .hole → fault 0x06)) ∧
    ((∃ o, p = .own o) ∨ (∃ b o, p = .bank b o) → acc = .load ∨ acc = .store ∨ acc = .atomic ∨ acc = .red →
      s.checkAccess acc va width lc poison = none) ∧
    (p = .global → s.phased s.curCore = true → fault 0x0C) ∧
    (p = .global → s.phased s.curCore = false →
      (s.here.range va = none → s.checkAccess acc va width lc poison = some (.lease (BitVec.ofNat 64 va))) ∧
      (∀ r, s.here.range va = some r →
        (r.allows acc = false → fault 0x06) ∧
        (r.allows acc = true → acc = .load → s.checkAccess acc va width lc poison = none) ∧
        (r.allows acc = true → acc = .store → s.decodeView va = false → s.checkAccess acc va width lc poison = none) ∧
        (r.allows acc = true → acc = .store → s.decodeView va = true → fault 0x06))))

/-- LD and LDACQ. With LC, the bytes of local memory, little-endian, extended, two cycles later. Without it, a load under the tag of its
Minimum latency is on its way; a VOID label of the address is counted (R55, R92, R190, R191). -/
def Sys2Proof.Claims.ScalarLoads : Prop := ∀ s i r m, loading i = some r → Issues i s m → i.wellFormed = true →
  let va := address s r.a r.off.toInt
  let n := 2 ^ r.w.toNat
  let s0 := s.countReads [(s.srcS r.a).2]
  s.checkAccess .load va n (r.lc == 1#1) (poisoned s r.a) = none → held s va = false →
    (r.lc = 1#1 → ∀ o u h, placeOf s.curCore va = .own o →
      s0.loadLabel (if n = 8 then [(s.lword s.curCore o).2, (s.lword s.curCore (o + 4)).2] else [(s.lword s.curCore o).2]) = some (u, h) →
        Goes i s m (u.produceIn (tagOf r.k) 2 2 [.s r.d (extended n (leNat (Sparse.bytes s.here.lmem o n)) (r.z == 1#1)) h] 0 r.acq
          [.s r.d])) ∧
    (r.lc = 0#1 →
      let lat := s.loadLatency s.curCore va
      let w := s0.await (tagOf r.k) lat 1 [] none r.acq [.s r.d]
      Goes i s m (w.startLoad { w.mkReq .load va n with dst := .s r.d (r.z == 1#1), seq := s.nextId } lat))

/-- ST and STREL enter the store buffer or their bank with the operand's label combined with AMBIENT, RED with both for one combine where it
is performed; STREL releases first; a store that would need a 65th line of the buffer cannot issue (R44, R88, R191, R193). -/
def Sys2Proof.Claims.ScalarStores : Prop := ∀ s i r m, storing s i = some r → Issues i s m → i.wellFormed = true →
  s.checkAccess r.acc r.va r.width r.lc r.poison = none → held s r.va = false →
    (isGlobal r.va = true → s.bufferFull s.curCore [r.va / 64] = true → Stalls i s) ∧
    ((isGlobal r.va = true → s.bufferFull s.curCore [r.va / 64] = false) →
      (r.acc = .store → ∀ u h, (s.countReads [(s.srcS r.a).2]).formWith [(s.srcS r.b).2] = some (u, h) →
        let w := if r.rel then u.release else u
        Goes i s m (w.putStore { w.mkReq r.op r.va r.width with data := (s.srcS r.b).1, lbl := h })) ∧
      (r.acc = .red →
        let w := s.countReads [(s.srcS r.a).2, (s.srcS r.b).2]
        Goes i s m (w.putStore { w.mkReq r.op r.va r.width with
          data := (s.srcS r.b).1, more := [s.check s.curCore s.curCtx (s.srcS r.b).2, s.ambientNow] })))

/-- LD, LDACQ, ST, STREL and RED (R44, R55, R88, R190, R191, R193). -/
def Obligations.ScalarMemory : Prop := Claims.ScalarLoads ∧ Claims.ScalarStores

/-- An access that a check refuses performs nothing: every load, store and atomic refused with a fault takes that fault precisely, with its
address, and one refused outside its leases ends its launch (R190, R343, R357). -/
def Sys2Proof.Claims.RefusedAccesses : Prop := ∀ s i m, Issues i s m → i.wellFormed = true →
  let refused (r : Option Eff) : Prop := (∀ c x, r = some (.fault c x) → Faults i s c x) ∧ (∀ x, r = some (.lease x) → EndsLaunch i s x)
  (∀ r, loading i = some r → refused (s.checkAccess .load (address s r.a r.off.toInt) (2 ^ r.w.toNat) (r.lc == 1#1) (poisoned s r.a))) ∧
  (∀ r, storing s i = some r → refused (s.checkAccess r.acc r.va r.width r.lc r.poison)) ∧
  (∀ r, atomic s i = some r → refused (s.checkAccess .atomic r.va r.width false r.poison))

/-- Taking a fault under a live supervisor leaves every register and every byte of memory as it was, and sends nothing towards memory; a
launch that ends for OUT_OF_LEASE is no longer bound, and none of its accesses is left (R343, R357, R364). -/
def Sys2Proof.Claims.NothingPerformed : Prop := ∀ (s : State) k t,
  (∀ cause pc addr resume c, t < 11 → s.supCore (s.tenantOf k) = some c → ¬(c = k ∧ t = 0) →
    let u := s.takeFault k t cause pc addr resume
    SameMemory s u ∧ SameRegisters s u ∧ u.reqs = s.reqs ∧ u.late = s.late) ∧
  (∀ n l pc addr, s.launch n = some l →
    (s.outOfLease n k t pc addr).launch n = none ∧ ∀ r ∈ (s.outOfLease n k t pc addr).late, r.2.launch ≠ n)

/-- A refused access performs nothing (R190, R343, R357). -/
def Obligations.AccessFaults : Prop := Claims.RefusedAccesses ∧ Claims.NothingPerformed

/-- A store that lands in a core's bank writes its bytes, little-endian, at its address, and leaves every other byte of every bank as it
was; a whole word takes the store's label (R2, R45, R191). -/
def Obligations.BankStores : Prop := ∀ (s : State) (r : Req) b o w, localOf r.core r.va = some (b, o) → r.op = .store → w < 4 →
  r.width = 2 ^ w → o % 2 ^ w = 0 → (s.core b).lmem.wf = true →
    let t := s.performLocal r
    (∀ a, o ≤ a → a < o + r.width → (t.core b).lmem.get a = BitVec.ofNat 8 (r.data.toNat / 2 ^ (8 * (a - o)))) ∧
    (∀ a, ¬(o ≤ a ∧ a < o + r.width) → (t.core b).lmem.get a = (s.core b).lmem.get a) ∧
    (∀ q, q ≠ b → (t.core q).lmem = (s.core q).lmem) ∧
    (r.width = 4 → (s.core b).lplane.wf = true → (t.core b).lplane.get (o / 4) = r.lbl)

/-- AMO and CAS are sent to their bank or home with their operands, and the old value comes back under the tag, of a global one never sooner
than from its home slice (R15, R192 to R194). -/
def Sys2Proof.Claims.Atomics : Prop := ∀ s i r m, atomic s i = some r → Issues i s m → i.wellFormed = true →
  s.checkAccess .atomic r.va r.width false r.poison = none → held s r.va = false →
    let n := if isGlobal r.va then 16 + homePath s.curCore r.va else s.loadLatency s.curCore r.va
    let w := (s.countReads ((s.srcS r.a).2 :: r.labels)).await (tagOf r.k) n 1 [] none false [.s r.d]
    let ls := r.labels.map (s.check s.curCore s.curCtx) ++ [s.ambientNow]
    let q : Req := { w.mkReq r.op r.va r.width with data := r.data, cmp := r.cmp, more := ls, dst := .s r.d false, seq := s.nextId }
    match localOf s.curCore r.va with
    | some (b, _) =>
      if ls.any isPend then Goes i s m (w.send q 1) else Goes i s m { w.bump with late := w.late ++ [(portOf s.curCore b, q)] }
    | none => Goes i s m ((w.markWrite s.curCore (r.va / 64)).send q (1 + homePath s.curCore r.va))

/-- The values that AMO's operations give, in integers (R192). -/
def Sys2Proof.Claims.AtomicValues : Prop := ∀ width old v : Nat, width = 4 ∨ width = 8 → old < 2 ^ (8 * width) →
  v < 2 ^ (8 * width) →
    let sg (n : Nat) : Int := if 2 ^ (8 * width - 1) ≤ n then (n : Int) - 2 ^ (8 * width) else n
    let f (op : Nat) := (amoValue op width old v).1
    f 0 = (old + v) % 2 ^ (8 * width) ∧ f 1 = old &&& v ∧ f 2 = old ||| v ∧ f 3 = old ^^^ v ∧
    sg (f 4) = min (sg old) (sg v) ∧ sg (f 5) = max (sg old) (sg v) ∧ f 6 = min old v ∧ f 7 = max old v ∧ f 8 = v ∧
    (∀ op, op < 9 → f op < 2 ^ (8 * width))

/-- AMO and CAS (R192 to R194). -/
def Obligations.AtomicMemory : Prop := Claims.Atomics ∧ Claims.AtomicValues

/-- REDC (R39, R40, R195): the element of the core's partial line combines with the operand; a new partial line starts as the range's
identity. An addition sets the issuing context's FP flags, which R39 to R41 and R195 do not say of REDC: the model reads R58 so (entry 84). -/
def Obligations.PartialLines : Prop := ∀ s k a b (off : BitVec 12) m r, Issues (.redc k a b off) s m →
  let va := address s a off.toInt
  let s0 := s.countReads [(s.srcS a).2]
  let era := s.eraNow s.curCore
  let done (u : State) (f : List Partial → List Partial) (fl : Nat) : State :=
    (u.bump.onHere (fun c => { c with partials := f c.partials })).onMe (fun x => { x with sticky := x.sticky ||| BitVec.ofNat 64 fl })
  s.checkAccess .redc va 4 false (poisoned s a) = none → s.here.range va = some r →
    (∀ p u h, s.here.partials.find? (fun p => p.line == va / 64) = some p →
      let q := p.inEra era
      let e := q.words.getD (va / 4 % 16) (0#32, 0x0000#16)
      s0.formWith [e.2, (s.srcS b).2] = some (u, h) →
        let v := combined r.cop.toNat e.1 ((s.srcS b).1.setWidth 32)
        let p' : Partial := { q with words := q.words.set (va / 4 % 16) (v.1, u.storeHandle s.curCore s.curCtx h) }
        Goes (.redc k a b off) s m (done u (fun l => l.map (fun x => if x.line = va / 64 then p' else x)) v.2)) ∧
    (∀ u h, s.here.partials.find? (fun p => p.line == va / 64) = none → u.partialCount (s.curCore / 8) < 64 →
      s0.formWith [0x0000#16, (s.srcS b).2] = some (u, h) →
        let e : Word := match r.cop.toNat with
          | 0 => 0x80000000#32
          | 1 => 0#32
          | 2 => 0x80000000#32
          | _ => 0x7FFFFFFF#32
        let v := combined r.cop.toNat e ((s.srcS b).1.setWidth 32)
        let ws := (List.replicate 16 (e, 0x0000#16)).set (va / 4 % 16) (v.1, u.storeHandle s.curCore s.curCtx h)
        let p : Partial := { era := era, line := va / 64, age := s.nextId, pc := s.me.pc, ctx := s.curCtx, cop := r.cop, words := ws }
        Goes (.redc k a b off) s m (done u (fun l => l ++ [p]) v.2))

/-- FENCE holds its context until the core's earlier stores are performed at its scope (R196). PREF brings a line towards the near cache,
and does nothing where a check fails (R197). PUBLISH releases, and its count comes back under the tag (R199). -/
def Sys2Proof.Claims.Fences : Prop := ∀ s m k,
  (∀ scope, Issues (.fence k scope) s m → Goes (.fence k scope) s m (s.onMe (fun x => { x with wait := .fence s.nextId scope.toNat }))) ∧
  (∀ a off, Issues (.pref k a off) s m →
    let va := address s a off.toInt
    let u := s.countReads [(s.srcS a).2]
    (s.checkAccess .load va 1 false (poisoned s a) ≠ none ∨ isGlobal va = false → Goes (.pref k a off) s m u) ∧
    (s.checkAccess .load va 1 false (poisoned s a) = none → isGlobal va = true →
      Goes (.pref k a off) s m (u.send (u.mkReq .pref (va / 64 * 64) 64) (homePath s.curCore va)))) ∧
  (∀ d a u h, Issues (.publish k d a) s m →
    let va := address s a 0
    let n := 16 + homePath s.curCore va
    let s0 := (s.countReads [(s.srcS a).2]).release.markWrite s.curCore (va / 64)
    let w := s0.await (tagOf k) n 1 [] none false [.s d]
    s.checkAccess .publish va 8 false (poisoned s a) = none → w.formWith [] = some (u, h) →
      Goes (.publish k d a) s m (u.send { u.mkReq .publish va 8 with dst := .s d true, seq := s0.nextId, more := [h] } n))

/-- RINV, RWB, RFLUSH: every held line of the range is maintained and the tag frees; an empty range needs no work (R198). How
long a range takes is the model's choice, above the least that the rule gives (entry 3). -/
def Sys2Proof.Claims.RangeMaintenance : Prop := ∀ s m k a b, ∀ x ∈ [(Instr.rwb k a b, 0), (.rinv k a b, 1), (.rflush k a b, 2)],
  Issues x.1 s m →
  let base := (s.srcS a).1.toNat
  let len := (s.srcS b).1.toNat
  s.checkRange base len (poisoned s a) = none →
  (∀ r ∈ s.reqs, r.core = s.curCore → r.isStore = true → r.away = false → base + len ≤ r.va ∨ r.va + r.width ≤ base) →
    let s0 := s.countVoids [plainIn [(s.srcS a).2, (s.srcS b).2]]
    let s1 := (s.heldLines (s.curCore / 8) base len).foldl (fun s l => s.maintain s.curCore l x.2) s0
    let n := if len = 0 then 1 else 16 + homePath s.curCore base + s.freeN 1 % 64
    Goes x.1 s m (s1.produceIn (tagOf k) n n [] 0 false [])

/-- FENCE, PREF, PUBLISH and the line-maintenance instructions (R196 to R199). -/
def Obligations.Ordering : Prop := Claims.Fences ∧ Claims.RangeMaintenance

/-- VLD, VLDS, VLDX, VLDB: with LC every active lane's word of local memory after the row's latency, its label after Check; without it one
access a lane, or one for VLDB, under the tag, those of a VLDX whose lines share a home slice as one small gather; masked-off lanes as
R107 says; VOID labels of the operands are counted (R38, R92, R220 to R223). -/
def Sys2Proof.Claims.VectorLoads : Prop := ∀ s i r m, vectorLoad s i = some r → Issues i s m → i.wellFormed = true →
  let ls := s.lanes r.vm
  let acc := if r.single then ls.take 1 else ls
  let s0 := s.countReads r.reads
  LanesPass s .load acc r.addr 4 (r.lc == 1#1) →
    (r.lc = 1#1 → Goes i s m ((s0.countReads (acc.map (fun j => s0.ownLabel (r.addr j).1))).produce (tagOf r.k) r.lat
      (ls.map (fun j => .lane r.d j (s0.ownWord (r.addr j).1).1 (s0.ownWord (r.addr j).1).2) ++ s0.offLanes r.vm r.d) 0 [.v r.d])) ∧
    (r.lc = 0#1 → acc = [] → Goes i s m (s0.produce (tagOf r.k) 2 (s0.offLanes r.vm r.d) 0 [.v r.d])) ∧
    (r.lc = 0#1 → acc ≠ [] →
      let n := (acc.map (fun j => s0.loadLatency s.curCore (r.addr j).1)).foldl max 0
      let g := if r.gather = true ∧ sameHome (acc.map (fun j => (r.addr j).1)) = true then s0.nextId + 1 else 0
      Goes i s m (acc.foldl (fun st j => st.startLoad
          { st.mkReq .load (r.addr j).1 4 with
            dst := if r.single then .bcast r.d ls else .lane r.d j, seq := s0.nextId, grp := g } n)
        (s0.await (tagOf r.k) n acc.length (s0.offLanes r.vm r.d) none false [.v r.d])))

/-- VST, VSTS, VSTX: each active lane's word is stored at its address, in ascending order of lane (R220 to R223). With every label TRUE and
room in the store buffer the stores are accepted. -/
def Sys2Proof.Claims.VectorStores : Prop := ∀ s i v vm lc addr rs m, vectorStore s i = some (v, vm, lc, addr, rs) → Issues i s m →
  i.wellFormed = true → LanesPass s .store (s.lanes vm) addr 4 (lc == 1#1) →
    let its : List StoreItem := (s.lanes vm).map (fun j => ((addr j).1, 4, ((s.srcV v).lane j).1.toNat, plainIn [((s.srcV v).lane j).2]))
    (∀ u ls, (s.countReads rs).storeItems its = some (u, ls) → Goes i s m u) ∧
    ((∀ j ∈ s.lanes vm, ((s.srcV v).lane j).2 = 0x0000#16) → s.me.ambient = 0x0000#16 →
      s.bufferFull s.curCore ((its.filter (fun x => isGlobal x.1)).map (fun x => x.1 / 64)) = false →
        ∃ w ls, OnlyLabels s w ∧ (s.countReads rs).storeItems its = some (its.foldl (fun st x =>
          st.putStore { st.mkReq .store x.1 x.2.1 with data := BitVec.ofNat 64 x.2.2.1, lbl := 0x0000#16 }) w, ls))

/-- The vector loads and stores (R220 to R223). -/
def Obligations.VectorMemory : Prop := Claims.VectorLoads ∧ Claims.VectorStores

/-! ## Block formats -/

/-- VQLD: code words and headers come under the tag without LC; with LC and TRUE labels they are read at once; a corrupt header raises
FORMAT under FPCTL.FMTTRAP (R67, R229). -/
def Sys2Proof.Claims.BlockLoads : Prop := ∀ s k d a b vm lc m, Issues (.vqld k d a b vm lc) s m →
  let ca := unit s a 0
  let ha : Address := fun j => ((address s b 0 + 2 * j) % 2 ^ 64, poisoned s b)
  let hs := List.range (if vm.ty = 6#3 then 4 else 2)
  LanesPass s .load (List.range 16) ca 4 (lc == 1#1) → LanesPass s .load hs ha 2 (lc == 1#1) →
    (lc = 0#1 →
      let s0 := s.countReads [(s.srcS a).2, (s.srcS b).2]
      let n := ((List.range 16).map (fun j => s0.loadLatency s.curCore (ca j).1) ++
        hs.map (fun j => s0.loadLatency s.curCore (ha j).1)).foldl max 0
      let s1 := s0.await (tagOf k) n (16 + hs.length) [] (some { r := d, ty := vm.ty, hdrVa := (ha 0).1 }) false [.v d]
      let s2 := (List.range 16).foldl (fun st j => st.startLoad { st.mkReq .load (ca j).1 4 with dst := .raw j, seq := s0.nextId } n) s1
      Goes (.vqld k d a b vm lc) s m (hs.foldl (fun st j =>
        st.startLoad { st.mkReq .load (ha j).1 2 with dst := .raw (16 + j), seq := s0.nextId } n) s2)) ∧
    (lc = 1#1 → (hs.map (fun j => s.ownHalf (ha j).1)).any headerBad = true → s.me.fpctl.getLsbD 3 = true →
      ∃ x, Faults (.vqld k d a b vm lc) s 0x0D x) ∧
    (lc = 1#1 → (∀ j ∈ hs, headerBad (s.ownHalf (ha j).1) = false) → s.me.ambient = 0x0000#16 →
      (∀ i ∈ List.range 16, (s.ownWord (ca i).1).2 = 0x0000#16) → (∀ j ∈ hs, (s.ownWord (ha j).1).2 = 0x0000#16) →
        ∃ v, OnlyLabels s v ∧ Goes (.vqld k d a b vm lc) s m (v.produce (tagOf k) 2
          ((List.range 16).map (fun i => .lane d i (s.ownWord (ca i).1).1 0x0000#16) ++
           (List.range 4).map (fun j => .side d j ((hs.map (fun j => s.ownHalf (ha j).1)).getD j 0#16))) 0 [.v d]))

/-- VQENC quantises a register pair into one block and its header; VQST stores codes and header and delivers the header; VHDRW writes a
header, and a corrupt one poisons its lanes or raises FORMAT (R67, R71, R231 to R233). -/
def Sys2Proof.Claims.BlockWrites : Prop := ∀ s k m,
  (∀ d a vm mask slot u h, Issues (.vqenc k d a vm mask slot) s m →
    let q := s.quantisePair a vm mask
    s.formWith q.2.2.2 = some (u, h) → Goes (.vqenc k d a vm mask slot) s m (u.produce (tagOf k) 12
      ((blockLanes (isB4 vm.ty) slot.toNat).map (fun i =>
        RegWrite.lane d i (BitVec.ofNat 32 (q.2.1.getD (i % lanesOf (isB4 vm.ty)) 0)) h) ++
       (RegWrite.side d slot.toNat q.1 :: if vm.ty = 6#3 then [] else [.side d 2 0#16, .side d 3 0#16])) q.2.2.1 [.v d])) ∧
  (∀ d a b c vm mask u ls h, Issues (.vqst k d a b c vm mask) s m →
    let cs := List.range (if vm.ty = 6#3 then 4 else 8)
    let ca := unit s a 0
    let ha : Address := fun j => ((address s c 0 + 2 * j) % 2 ^ 64, poisoned s c)
    let q := s.quantisePair b vm mask
    let i := plainIn q.2.2.2
    LanesPass s .store cs ca 4 false → LanesPass s .store [0] ha 2 false →
    (s.countReads [(s.srcS a).2, (s.srcS c).2]).storeItems (cs.map (fun j => ((ca j).1, 4, q.2.1.getD j 0, i)) ++ [((ha 0).1, 2, q.1.toNat, i)]) = some (u, ls) →
    labelIn ls (s.checkedIn i [s.ambientNow]) = .now h →
      Goes (.vqst k d a b c vm mask) s m (u.produce (tagOf k) 12 [.s d (q.1.setWidth 64) h] q.2.2.1 [.s d])) ∧
  (∀ d a vm slot, Issues (.vhdrw k d a vm slot) s m →
    let x := s.srcS a
    let h : BitVec 16 := x.1.setWidth 16
    let bl := blockLanes (isB4 vm.ty) slot.toNat
    (headerBad h = true → s.me.fpctl.getLsbD 3 = true → Faults (.vhdrw k d a vm slot) s 0x0D 0#64) ∧
    (headerBad h = true → s.me.fpctl.getLsbD 3 = false → Goes (.vhdrw k d a vm slot) s m
      ((s.countVoids [plainIn [x.2]]).produce (tagOf k) 2
        (bl.map (fun i => RegWrite.lane d i ((s.srcV d).lane i).1 0xFFFA#16) ++ [.side d slot.toNat h]) 0x800 [.v d])) ∧
    (headerBad h = false → ∀ u, s.vresultAt k 2 2 d vm
        (bl.map (fun i => (i, ((s.srcV d).lane i).1, plainIn [((s.srcV d).lane i).2, x.2]))) 0 [.side d slot.toNat h] = .go u →
      Goes (.vhdrw k d a vm slot) s m u))

/-- The block-format instructions that touch memory or headers (R67, R71, R229, R231 to R233). -/
def Obligations.BlockFormats : Prop := Claims.BlockLoads ∧ Claims.BlockWrites


/-! ## The matrix array -/

/-- MZERO, MSCALE, MRDV, MWRV, MST, MLD, MWAIT: what they do with the core's slice of a bank once nothing holds the bank (R242, R245 to
R247). -/
def Sys2Proof.Claims.AccumulatorSlices : Prop := ∀ s k m,
  (∀ d, Issues (.mzero k d) s m → s.writeWaits d.toNat = false →
    Goes (.mzero k d) s m (s.produce (tagOf k) 2 ((slice s.curCore).map (fun p => .acc d.toNat p.1 p.2 0#32 0x0000#16)) 0 [])) ∧
  (∀ d a vm u ws, Issues (.mscale k d a vm) s m → s.writeWaits d.toNat = false →
    let f (p : Nat × Nat) := fMul (s.mode vm.rm) (s.readAcc d.toNat p.1 p.2).1.toNat ((s.srcS a).1.toNat % 2 ^ 32)
    s.formWrites 4 [] ((slice s.curCore).map (fun p => (RegWrite.acc d.toNat p.1 p.2 (BitVec.ofNat 32 (f p).1) 0x0000#16,
      plainIn [(s.readAcc d.toNat p.1 p.2).2, (s.srcS a).2]))) = some (u, ws) →
        Goes (.mscale k d a vm) s m (u.produce (tagOf k) 4 ws (unite ((slice s.curCore).map (fun p => (f p).2))) [])) ∧
  (∀ d a vm r, Issues (.mrdv k d a vm r) s m → s.jobOn (s.curCore / 8) 8 a.toNat = false →
    let hs := (s.lanes vm).map (fun i => (s.readAcc a.toNat (4 * r.toNat + i / 4) (4 * (s.curCore % 8) + i % 4)).2)
    Goes (.mrdv k d a vm r) s m ((s.countReads hs).produce (tagOf k) 3 ((s.lanes vm).map (fun i =>
      let w := s.readAcc a.toNat (4 * r.toNat + i / 4) (4 * (s.curCore % 8) + i % 4)
      RegWrite.lane d i w.1 (s.check s.curCore s.curCtx w.2)) ++ s.offLanes vm d) 0 [.v d])) ∧
  (∀ d a vm r u ws, Issues (.mwrv k d a vm r) s m → s.writeWaits d.toNat = false →
    s.formWrites 2 [] ((s.lanes vm).map (fun i => (RegWrite.acc d.toNat (4 * r.toNat + i / 4) (4 * (s.curCore % 8) + i % 4)
      ((s.srcV a).lane i).1 0x0000#16, plainIn [((s.srcV a).lane i).2]))) = some (u, ws) →
        Goes (.mwrv k d a vm r) s m (u.produce (tagOf k) 2 ws 0 [])) ∧
  (Issues (.mwait k) s m → (s.gangOpen s.curCore = false → Goes (.mwait k) s m s) ∧
    (s.gangOpen s.curCore = true → Sleeps (.mwait k) s m s .mwait))

/-- MST and MLD: word n of the slice lies at s[B] + OFF + (n / 4) × s[C] + 16 × core + 4 × (n % 4); base and pitch must be multiples of 16
(R247). -/
def Sys2Proof.Claims.SliceMemory : Prop := ∀ s k (b c : BitVec 5) (off : BitVec 32) m,
  let base := address s b off.toInt
  let at_ : Address := fun n => ((BitVec.ofInt 64 (base + (n / 4 : Nat) * (s.srcS c).1.toInt + (16 * (s.curCore % 8) + 4 * (n % 4) : Nat))).toNat,
    poisoned s b)
  let ok := poisoned s b = false ∧ base % 16 = 0 ∧ (s.srcS c).1.toNat % 16 = 0
  let s0 := s.countReads [(s.srcS b).2, (s.srcS c).2]
  (∀ a, Issues (.mst k a b c off) s m → ok → LanesPass s .store (List.range 128) at_ 4 false → s.jobOn (s.curCore / 8) 8 a.toNat = false →
    ∀ u ls, s0.storeItems (((slice s.curCore).zipIdx).map (fun p =>
      ((at_ p.2).1, 4, (s.readAcc a.toNat p.1.1 p.1.2).1.toNat, plainIn [(s.readAcc a.toNat p.1.1 p.1.2).2]))) = some (u, ls) →
        Goes (.mst k a b c off) s m u) ∧
  (∀ d, Issues (.mld k d b c off) s m → ok → LanesPass s .load (List.range 128) at_ 4 false → s.writeWaits d.toNat = false →
    let n := ((List.range 128).map (fun j => s0.loadLatency s.curCore (at_ j).1)).foldl max 0
    let w := (s0.await (tagOf k) n 128 [] none false []).onPend s.curCore s0.nextId (fun p => { p with bank := some d.toNat })
    Goes (.mld k d b c off) s m (((slice s.curCore).zipIdx).foldl (fun st p => st.startLoad
      { st.mkReq .load (at_ p.2).1 4 with dst := .acc d.toNat p.1.1 p.1.2, seq := s0.nextId } n) w))

/-- The accumulator instructions (R242, R245 to R247). -/
def Obligations.Accumulators : Prop := Claims.AccumulatorSlices ∧ Claims.SliceMemory

/-- MMA, MMAR, MQST: the core's member of the gang is added with its operands latched, its context sleeps, and the gang joins if it can
(R125, R236, R238). -/
def Sys2Proof.Claims.GangIssue : Prop := ∀ s i o regs m, gangOp i = some (o, regs) → Issues i s m → i.wellFormed = true →
  s.here.gangBusy = false → (∀ r ∈ gangReads s.curCore regs, s.regPending r = false) → isPend s.me.ambient = false →
  s.jobOn (s.curCore / 8) 8 o.bank = false → (o.kind = 2 ∨ o.flag = 1#1 → s.localHeld s.curCore = false) →
    let kk := chunkOf o.ty o.tb
    let tiles := o.kind = 2 ∨ o.flag = 1#1
    let x : Member := { core := s.curCore, ctx := s.curCtx, seq := s.nextId, pc := s.me.pc, op := o, amb := s.ambientNow,
                        va := if tiles then [] else s.latch o.a o.ty kk, vb := if tiles then [] else s.latch o.b o.tb kk, ha := [], hb := [] }
    let u := ((s.await (tagOf m.ctl) 0 1 [] none false []).onHere (fun c => { c with gangBusy := true })).onCluster (s.curCore / 8)
      (fun c => { c with gang := c.gang ++ [x] })
    Does i s ((asleep s m u .gang).joinGang (s.curCore / 8))

/-- A gang joins when its eight members have issued the same operation and none of their cores is frozen (R125). Different operations fault
GANG_MISMATCH in every member. The addresses and counts of the member of the lowest core are checked: a poisoned tile address is POISON_ADDR, an MMAR of a launch
without a ring ILLEGAL, and any failed check faults every member. Otherwise the operation starts two cycles later, every member that still sleeps
goes on with its next instruction, and one that is in its surrender routine returns to it (R236, R238, R239, R248). -/
def Sys2Proof.Claims.GangJoin : Prop := ∀ (s : State) q x ms, gangOrder (s.cluster q).gang = x :: ms → ms.length = 7 →
  (∀ y ∈ x :: ms, (s.core y.core).frozen = false) →
    let reg (n : BitVec 5) : Dword × Handle := s.readS x.core x.ctx n
    let addrs := if x.op.kind = 2 then [reg x.op.b, reg (x.op.b + 1#5)]
      else if x.op.flag = 1#1 then [reg x.op.a, reg (x.op.a + 1#5), reg x.op.b, reg (x.op.b + 1#5)] else []
    let n := (reg x.op.c).1.toNat
    let rows := if x.op.c = 0#5 then 32 else min 32 (n % 2 ^ 7)
    let cols := if x.op.c = 0#5 then 32 else min 32 (n / 2 ^ 8 % 2 ^ 7)
    let found := s.joinCheck q x rows cols addrs
    ((∃ y ∈ ms, y.op ≠ x.op) → s.joinGang q = s.faultGang q (x :: ms) 0x12 0#64) ∧
    ((∃ a ∈ addrs, s.check (q * 8) x.ctx a.2 = 0xFFFA#16) → found.1 = some (0x0E, (addrs.headD (0#64, 0x0000#16)).1)) ∧
    ((∀ a ∈ addrs, s.check (q * 8) x.ctx a.2 ≠ 0xFFFA#16) → x.op.kind = 1 → (∀ l, s.clusterLaunch q = some l → l.ring q = []) →
      found.1 = some (0x01, 0#64)) ∧
    (x.op.kind = 0 → x.op.flag = 0#1 → found = (none, false)) ∧
    (∀ l, x.op.kind = 1 → x.op.flag = 0#1 → s.clusterLaunch q = some l → l.ring q ≠ [] → found = (none, false)) ∧
    ((∀ y ∈ ms, y.op = x.op) → ∀ e, found.1 = some e → s.joinGang q = s.faultGang q (x :: ms) e.1 e.2) ∧
    ((∀ y ∈ ms, y.op = x.op) → found.1 = none → ((x :: ms).map (fun y => (y.core, y.ctx))).Nodup → (∀ y ∈ x :: ms, y.ctx < 11) →
      ∃ o : MatOp, o.op = x.op ∧ o.members = x :: ms ∧ o.rows = rows ∧ o.cols = cols ∧ o.addrs = addrs.map (·.1) ∧ o.start = s.now + 2 ∧
        o.begun = false ∧ ((s.joinGang q).cluster q).gang = [] ∧ ((s.joinGang q).cluster q).mats = (s.cluster q).mats ++ [o] ∧
        (∀ y ∈ x :: ms, ((s.joinGang q).core y.core).gangBusy = false ∧
          let u := s.ctxAt y.core y.ctx
          (u.wait = .gang → (s.joinGang q).ctxAt y.core y.ctx =
            { u with wait := .none, pc := if u.pc = y.pc then u.pc + 12#64 else u.pc }) ∧
          (u.wait ≠ .gang → u.sr = true → u.srLink = y.pc → (s.joinGang q).ctxAt y.core y.ctx = { u with srLink := u.srLink + 12#64 })) ∧
        ((s.joinGang q).agenda = agendaInsert s.agenda
          { key := 4 * (s.now + 2) + 1, what := .gangStart, who := { a := q, b := s.nextId } }))

/-- The gang instructions (R125, R236, R238, R248). -/
def Obligations.Gangs : Prop := Claims.GangIssue ∧ Claims.GangJoin

/-! ## Engines -/

/-- The sluice instructions queue their job and await its number; a full queue holds the instruction back (R48, R251, R256, R286).
That the description is captured at the end of the issue cycle is the model's choice (entry 37). -/
def Sys2Proof.Claims.SluiceSubmit : Prop := ∀ s i r m, submission s i = some r → Issues i s m → i.wellFormed = true →
  (16 ≤ (s.cluster (s.curCore / 8)).jobs.length → Stalls i s) ∧
  ((s.cluster (s.curCore / 8)).jobs.length < 16 → s.localHeld s.curCore = false →
    let w := (s.countVoids [plainIn (r.addr.2 :: r.others)]).await (tagOf r.k) 4 1 [] none false [.s r.d]
    Goes i s m ((w.onCluster (s.curCore / 8) (fun c => { c with jobs := c.jobs ++ [r.job s] })).plan 0 2 .sluiceCapture
      { a := s.nextId, b := r.d.toNat, c := if s.check s.curCore s.curCtx r.addr.2 = 0xFFFA#16 then 1 else 0 }))

/-- XFER and XFERQ hand a job to a millrace engine for timeline N and await its number (R257). The
capture at the end of the issue cycle and the time until the number is given are the model's choices (entries 3, 37, 44). -/
def Sys2Proof.Claims.MillraceSubmit : Prop := ∀ s m k d a b (n : BitVec 6), ∀ x ∈ [(Instr.xfer k d a b n, 0), (.xferq k d a b n, 6)],
  Issues x.1 s m → s.localHeld s.curCore = false →
    let hs := (s.srcS a).2 :: if b = 0#5 then [] else [(s.srcS b).2]
    let j : Job := { s.newJob x.2 (s.srcS a).1 with
                     amend := if b = 0#5 then none else some ((s.srcS b).1.setWidth 32), timeline := some n.toNat }
    let w := (s.countVoids [plainIn hs]).await (tagOf k) (16 + s.freeN 3 % 1024) 1 [] none false [.s d]
    Goes x.1 s m ({ w with mill := w.mill ++ [j] }.plan 0 2 .millraceCapture
      { a := s.nextId, b := d.toNat, c := if s.check s.curCore s.curCtx (s.srcS a).2 = 0xFFFA#16 then 1 else 0 })

/-- The sluice and millrace instructions (R48, R251, R256, R257, R286). -/
def Obligations.EngineSubmissions : Prop := Claims.SluiceSubmit ∧ Claims.MillraceSubmit

/-! ## Synchronisation -/

/-- WEIRA, WEIRX, WEIRW, WEIR: arrivals are releases that take effect once the core's earlier stores are performed; WEIR sleeps until the
release, WEIRW while ARR is 1; a WEIR issued again after an interruption waits as WEIRW does (R260 to R264). -/
def Sys2Proof.Claims.WeirInstructions : Prop := ∀ s m k n,
  (∀ b, Issues (.weira k b n) s m → AtWeir s n.toNat (s.srcS b).1 →
    Goes (.weira k b n) s m ((s.countVoids [plainIn [(s.srcS b).2]]).release.arriveAt s.curCore n.toNat (s.srcS b).1.toNat false 0)) ∧
  (Issues (.weirx k n) s m → AtWeir s n.toNat 0#64 → Goes (.weirx k n) s m (s.release.arriveAt s.curCore n.toNat 0 true 0)) ∧
  (Issues (.weirw k n) s m → AtWeir s n.toNat 0#64 →
    (s.here.arr.getLsbD n.toNat = true → Sleeps (.weirw k n) s m s (.weir n.toNat)) ∧
    (s.here.arr.getLsbD n.toNat = false → Goes (.weirw k n) s m (s.onMe (fun x => { x with ap := false })))) ∧
  (∀ b, Issues (.weir k b n) s m → AtWeir s n.toNat (s.srcS b).1 → s.me.ap = true → s.me.weirN = n →
    (s.here.arr.getLsbD n.toNat = true → Sleeps (.weir k b n) s m s (.weir n.toNat)) ∧
    (s.here.arr.getLsbD n.toNat = false → Goes (.weir k b n) s m (s.onMe (fun x => { x with ap := false })))) ∧
  (∀ b, Issues (.weir k b n) s m → AtWeir s n.toNat (s.srcS b).1 → s.me.ap = false ∨ s.me.weirN ≠ n →
    Sleeps (.weir k b n) s m (((s.countVoids [plainIn [(s.srcS b).2]]).release.arriveAt s.curCore n.toNat (s.srcS b).1.toNat false
      (s.curCtx + 1)).onMe (fun x => { x with arriving := some n.toNat })) (.weir n.toNat))

/-- EVWAIT and EVSIG: behind the signals of its cycle from lower cores and contexts, a positive count or a free mutex passes at once as an
acquire, else the context queues and sleeps; a barrier arrival and every signal is a release that takes effect later; a waiter that owns the mutex, a barrier without a TARGET, and a signal of a mutex
not owned are ILLEGAL (R267 to R271). -/
def Sys2Proof.Claims.EventInstructions : Prop := ∀ s m k,
  let q := s.curCore / 8
  let me := (s.curCore, s.curCtx)
  (∀ n, Issues (.evwaitLine k n) s m →
    let u := s.afterSignals (fun c => c == 0) n.toNat
    (0 < (vget (u.cluster q).lines n.toNat default).count → Goes (.evwaitLine k n) s m
      ((u.onCluster q (fun c => c.onLine n.toNat (fun e => { e with count := e.count - 1 }))).acquire u.curCore)) ∧
    ((vget (u.cluster q).lines n.toNat default).count = 0 → Sleeps (.evwaitLine k n) s m
      (u.onCluster q (fun c => c.onLine n.toNat (fun e => { e with sleepers := e.sleepers ++ [(u.curCore, u.curCtx)] }))) (.line n.toNat))) ∧
  (∀ n, Issues (.evwaitMutex k n) s m →
    let u := s.afterSignals (fun c => decide (0 < c) && decide (c < 100)) n.toNat
    (s.ownsMutex s.curCore s.curCtx n.toNat = true → Faults (.evwaitMutex k n) s 0x01 0#64) ∧
    (s.ownsMutex s.curCore s.curCtx n.toNat = false → (vget (u.cluster q).mutexes n.toNat default).owner = none →
      Goes (.evwaitMutex k n) s m ((u.onCluster q (fun c => c.onMutex n.toNat (fun e => { e with owner := some me }))).acquire u.curCore)) ∧
    (s.ownsMutex s.curCore s.curCtx n.toNat = false → (vget (u.cluster q).mutexes n.toNat default).owner ≠ none →
      Sleeps (.evwaitMutex k n) s m
        (u.onCluster q (fun c => c.onMutex n.toNat (fun e => { e with sleepers := e.sleepers ++ [me] }))) (.mutex n.toNat))) ∧
  (∀ n, Issues (.evwaitBarrier k n) s m →
    ((vget (s.cluster q).barriers n.toNat default).target = 0 → Faults (.evwaitBarrier k n) s 0x01 0#64) ∧
    ((vget (s.cluster q).barriers n.toNat default).target ≠ 0 → Sleeps (.evwaitBarrier k n) s m
      (s.release.signal q (101 + s.curCtx) n.toNat) (.barrier n.toNat))) ∧
  (∀ a n, Issues (.evsigLine k a 0#1 n) s m → Goes (.evsigLine k a 0#1 n) s m (s.release.signal q 0 n.toNat)) ∧
  (∀ a n l, Issues (.evsigLine k a 1#1 n) s m →
    let z := clusterOfId (s.srcS a).1.toNat
    (s.phased s.curCore = true → Faults (.evsigLine k a 1#1 n) s 0x0C 0#64) ∧
    (s.phased s.curCore = false → s.launchOf s.curCore = some l → l.holds z = false → Faults (.evsigLine k a 1#1 n) s 0x06 0#64) ∧
    (s.phased s.curCore = false → s.launchOf s.curCore = some l → l.holds z = true → Goes (.evsigLine k a 1#1 n) s m
      (((s.countVoids [plainIn [(s.srcS a).2]]).release.signal z 0 n.toNat).onHere (fun c =>
        { c with evOut := if z = q then c.evOut else c.evOut + 1 })))) ∧
  (∀ n, Issues (.evsigMutex k n) s m →
    (s.ownsMutex s.curCore s.curCtx n.toNat = true → Goes (.evsigMutex k n) s m (s.release.signal q (1 + s.curCtx) n.toNat)) ∧
    (s.ownsMutex s.curCore s.curCtx n.toNat = false → Faults (.evsigMutex k n) s 0x01 0#64))

/-- The weir and event instructions (R260 to R264, R267 to R270). -/
def Obligations.Synchronisation : Prop := Claims.WeirInstructions ∧ Claims.EventInstructions

/-- TLWAIT passes at once, as an acquire, when its timeline has the value, else sleeps; TLWAIT mem is watched by its home; an unissued
sluice job number is ILLEGAL; TLSIG is a release (R272 to R274). -/
def Sys2Proof.Claims.Timelines : Prop := ∀ s m k,
  (∀ a b, Issues (.tlwaitMem k a b) s m →
    let va := address s a 0
    let u := s.countVoids [plainIn [(s.srcS a).2, (s.srcS b).2]]
    s.checkAccess .tlwait va 8 false (poisoned s a) = none → placeOf s.curCore va = .global →
      Sleeps (.tlwaitMem k a b) s m (u.send { u.mkReq .watch va 8 with data := (s.srcS b).1 } (homePath s.curCore va)) (.tlMem va (s.srcS b).1.toNat)) ∧
  (∀ b, Issues (.tlwaitSluice k b) s m →
    let v := (s.srcS b).1.toNat
    let u := s.countVoids [plainIn [(s.srcS b).2]]
    (s.me.jobLast < v → Faults (.tlwaitSluice k b) s 0x01 0#64) ∧
    (v ≤ s.me.jobLast → v ≤ s.me.timeline → Goes (.tlwaitSluice k b) s m (u.acquire s.curCore)) ∧
    (v ≤ s.me.jobLast → s.me.timeline < v → Sleeps (.tlwaitSluice k b) s m u (.tlSluice v))) ∧
  (∀ b n, Issues (.tlwaitMillrace k b n) s m →
    let v := (s.srcS b).1.toNat
    let now := (s.tenant (s.tenantOf s.curCore)).mill.get n.toNat 0
    let u := s.countVoids [plainIn [(s.srcS b).2]]
    (v ≤ now → Goes (.tlwaitMillrace k b n) s m (u.acquire s.curCore)) ∧
    (now < v → Sleeps (.tlwaitMillrace k b n) s m u (.tlMill n.toNat v))) ∧
  (∀ b, Issues (.tlwaitUpdate k b) s m →
    let v := (s.srcS b).1.toNat
    let u := s.countVoids [plainIn [(s.srcS b).2]]
    (s.domainOf s.curCore = none → Faults (.tlwaitUpdate k b) s 0x01 0#64) ∧
    (∀ d, s.domainOf s.curCore = some d →
      (v ≤ s.domUpdate d → Goes (.tlwaitUpdate k b) s m ((u.acquire s.curCore).takeView s.curCore false)) ∧
      (s.domUpdate d < v → Sleeps (.tlwaitUpdate k b) s m u (.tlUpdate v)))) ∧
  (∀ a b, Issues (.tlsig k a b) s m →
    let va := address s a 0
    let u := (s.countVoids [plainIn [(s.srcS a).2, (s.srcS b).2]]).release
    s.checkAccess .tlsig va 8 false (poisoned s a) = none → Goes (.tlsig k a b) s m
      ((u.markWrite s.curCore (va / 64)).send { u.mkReq .tlsig va 8 with data := (s.srcS b).1 } (1 + homePath s.curCore va)))

/-- COMM arms the next release in a compute phase and is ILLEGAL in a communication phase (R121, R275). SENDF sends the register's lanes,
pending labels as VOID.OVER, in a cycle of its slot table, to the next place of the flume's ring; else SLOT (R95, R123, R276). -/
def Sys2Proof.Claims.PhaseInstructions : Prop := ∀ s m k,
  (Issues (.comm k) s m → (s.here.pk = true → Faults (.comm k) s 0x01 0#64) ∧
    (s.here.pk = false → Goes (.comm k) s m (s.onHere (fun c => { c with arm := true })))) ∧
  (∀ b f, Issues (.sendf k b f) s m →
    (s.here.flume f.toNat = none ∨ s.here.pk = false ∨ s.here.slotTab.contains (s.phaseCyc s.curCore, f.toNat) = false →
      Faults (.sendf k b f) s 0x0B 0#64) ∧
    (∀ u, s.here.flume f.toNat = some u → s.here.pk = true → s.here.slotTab.contains (s.phaseCyc s.curCore, f.toNat) = true →
      let ws := (List.range 16).map (fun i => (s.srcV b).lane i)
      let w := (s.countReads (ws.map (·.2))).onHere (fun c => { c with
        flumes := c.flumes.map (fun x => if x.f = u.f then { x with sent := x.sent + 1 } else x), evOut := c.evOut + 1 })
      Goes (.sendf k b f) s m ((if ws.any (fun w => isPend w.2) then w.flag s.curCore s.curCtx 0x100#64 else w).plan
        (2 + pathCost (coreX s.curCore) (coreY s.curCore) (coreX u.dst) (coreY u.dst)) 2
        (.flumeDelivery s.curCore u.dst (u.base + 64 * (u.sent % max 1 u.depth))
          (ws.map (fun w => if isPend w.2 then (w.1, 0xFFF9#16) else w)))
        { a := s.here.launch.getD 0 })))

/-- The timeline and phase instructions (R121, R123, R272 to R276). -/
def Obligations.TimelinesAndPhases : Prop := Claims.Timelines ∧ Claims.PhaseInstructions

/-! ## Domains and labels as values -/

/-- ANEW, ASSERT and SETTLE ask the domain home and await its answer under the tag; NOGOOD and RETRACT ask it too; in a launch without a
domain each is ILLEGAL (R82, R278, R280, R281). -/
def Obligations.DomainInstructions : Prop := ∀ s m,
  (∀ i r, domainAsk s i = some r → Issues i s m → i.wellFormed = true →
    (s.domainOf s.curCore = none → Faults i s 0x01 0#64) ∧
    (∀ n u l, s.domainOf s.curCore = some n → (s.countVoids [plainIn r.labels]).formWith [] = some (u, l) →
      Goes i s m (u.askDomain r.k r.kind r.v r.link r.d l n))) ∧
  (∀ k a, ∀ x ∈ [(Instr.nogood k a, 2), (.retract k a, 4)], Issues x.1 s m →
    (s.domainOf s.curCore = none → Faults x.1 s 0x01 0#64) ∧
    (∀ n, s.domainOf s.curCore = some n → Goes x.1 s m
      ((s.countVoids [plainIn [(s.srcS a).2]]).askDomain k x.2 (s.srcS a).1 0 0#5 0x0000#16 n)))

/-- LGET and LTEST read labels as values, LREAD an environment; each waits for a pending label and delivers label TRUE (R94, R283).
How long LREAD takes above its least is the model's choice (entry 3). -/
def Sys2Proof.Claims.LabelsAsValues : Prop := ∀ s m,
  (∀ i k d a vm v f, labelValue i = some (k, d, a, vm, v, f) → Issues i s m → i.wellFormed = true →
    (v = 0#1 → isPend (s.srcS a).2 = true → Stalls i s) ∧
    (v = 0#1 → isPend (s.srcS a).2 = false → Goes i s m ((s.countVoids [plainIn [(s.srcS a).2]]).produce (tagOf k) 1
      [.s d (BitVec.ofNat 64 (f (s.check s.curCore s.curCtx (s.srcS a).2))) 0x0000#16] 0 [.s d])) ∧
    (v = 1#1 → (∀ j ∈ s.lanes vm, isPend ((s.srcV a).lane j).2 = false) → Goes i s m
      ((s.countVoids [plainIn ((s.lanes vm).map (fun j => ((s.srcV a).lane j).2))]).produce (tagOf k) 2
        ((s.lanes vm).map (fun j =>
          .lane d j (BitVec.ofNat 32 (f (s.check s.curCore s.curCtx ((s.srcV a).lane j).2))) 0x0000#16) ++ s.offLanes vm d) 0 [.v d]))) ∧
  (∀ k d a (n : BitVec 2), Issues (.lread k d a n) s m →
    (s.domainOf s.curCore = none → Faults (.lread k d a n) s 0x01 0#64) ∧
    (∀ dom, s.domainOf s.curCore = some dom → isPend (s.srcS a).2 = false → Goes (.lread k d a n) s m
      ((s.countVoids [plainIn [(s.srcS a).2]]).produceIn (tagOf k) 2 (2 + s.freeN 0 % 64)
        [.s d (s.readEnv dom (viewOf s.here s.me) (s.check s.curCore s.curCtx (s.srcS a).2) n.toNat) 0x0000#16] 0 false [.s d])))

/-- LAPPLY labels a value with an environment, AMB the context, VJOIN joins the labels of equal lanes and sets LBL_OVER where lanes differ,
LSTRIP drops a label where the directory permits it, LFENCE waits for pending labels (R84, R102, R279, R282, R284, R285). An environment
that names a free slot is ILLEGAL. LAPPLY combines its operands' labels as entry 17 says, and a lane of VJOIN whose values differ takes VOID.OVER
without AMBIENT (entry 53): the model's choices. -/
def Sys2Proof.Claims.LabelInstructions : Prop := ∀ s m k n, s.domainOf s.curCore = some n →
  (∀ d a b vm, Issues (.lapply k d a b vm 0#1) s m →
    let e := s.srcS b
    let x := s.srcS a
    (s.namesFree n e.1 = true → Faults (.lapply k d a b vm 0#1) s 0x01 0#64) ∧
    (s.namesFree n e.1 = false → ∀ u, s.resultOf k 1 d x.1 (envIn [x.2, e.2] e.1) 0 = .go u → Goes (.lapply k d a b vm 0#1) s m u)) ∧
  (∀ d a b vm, Issues (.lapply k d a b vm 1#1) s m →
    let e := s.srcS b
    (s.namesFree n e.1 = true → Faults (.lapply k d a b vm 1#1) s 0x01 0#64) ∧
    (s.namesFree n e.1 = false → ∀ u, s.vresult k 2 d vm ((s.lanes vm).map (fun i =>
      (i, ((s.srcV a).lane i).1, envIn [((s.srcV a).lane i).2, e.2] e.1))) 0 = .go u → Goes (.lapply k d a b vm 1#1) s m u)) ∧
  (∀ a u h, Issues (.amb k a) s m →
    (s.namesFree n (s.srcS a).1 = true → Faults (.amb k a) s 0x01 0#64) ∧
    (s.namesFree n (s.srcS a).1 = false → (s.countVoids [plainIn [(s.srcS a).2]]).formOne (envIn [] (s.srcS a).1) = some (u, h) →
      Goes (.amb k a) s m (u.onMe (fun x => { x with ambient := h })))) ∧
  (∀ d a b vm, Issues (.vjoin k d a b vm) s m →
    let same (i : Nat) : Bool := ((s.srcV a).lane i).1 == (s.laneB vm b i).1
    let apart := (s.lanes vm).filter (fun i => !same i)
    ∀ u, (s.countVoids (apart.map (fun i => plainIn [((s.srcV a).lane i).2, (s.laneB vm b i).2]))).vresultAt k 2 2 d vm
      (((s.lanes vm).filter same).map (fun i =>
        (i, ((s.srcV a).lane i).1, { hs := [], env := none, join := some (((s.srcV a).lane i).2, (s.laneB vm b i).2) })))
      (if apart = [] then 0 else 0x100) (apart.map (fun i => .lane d i ((s.srcV a).lane i).1 0xFFF9#16)) = .go u →
        Goes (.vjoin k d a b vm) s m u) ∧
  (∀ d a vm, Issues (.lstrip k d a vm 0#1) s m →
    let x := s.srcS a
    (s.stripOk n = false → Faults (.lstrip k d a vm 0#1) s 0x01 0#64) ∧
    (s.stripOk n = true → isPend x.2 = true → Stalls (.lstrip k d a vm 0#1) s) ∧
    (s.stripOk n = true → isPend x.2 = false → ∀ u h,
      (s.stripReads [x.2]).formWith (if s.check s.curCore s.curCtx x.2 = 0xFFFA#16 then [0xFFFA#16] else []) = some (u, h) →
        Goes (.lstrip k d a vm 0#1) s m (u.produce (tagOf k) 1 [.s d x.1 h] 0 [.s d]))) ∧
  (∀ d a vm, Issues (.lstrip k d a vm 1#1) s m →
    let hs := (s.lanes vm).map (fun i => ((s.srcV a).lane i).2)
    (s.stripOk n = false → Faults (.lstrip k d a vm 1#1) s 0x01 0#64) ∧
    (s.stripOk n = true → (∃ h ∈ hs, isPend h = true) → Stalls (.lstrip k d a vm 1#1) s) ∧
    (s.stripOk n = true → (∀ h ∈ hs, isPend h = false) → ∀ u, (s.stripReads hs).vresult k 2 d vm ((s.lanes vm).map (fun i =>
      (i, ((s.srcV a).lane i).1, plainIn (if s.check s.curCore s.curCtx ((s.srcV a).lane i).2 = 0xFFFA#16 then [0xFFFA#16] else [])))) 0 = .go u →
        Goes (.lstrip k d a vm 1#1) s m u)) ∧
  (Issues (.lfence k) s m → Goes (.lfence k) s m (s.onMe (fun x => { x with wait := .lfence })))

/-- The label instructions of a core (R84, R94, R102, R279, R282 to R285). -/
def Obligations.LabelsAndValues : Prop := Claims.LabelsAsValues ∧ Claims.LabelInstructions

/-! ## Holdings and the system instructions -/

/-- SRREG, SRV FINISH, SRV SUMMARISE, SRV REFUSE, RELEASE: the holder control context's own, outside its routine or in it; LEASE queues a
request and delivers its number (R287 to R292). That the number comes after the distributor's next round, and that a member of a gang waits
for it again after SRV, are the model's choices (entries 61, 52). -/
def Obligations.HoldingInstructions : Prop := ∀ s m k,
  let me := s.myHolding
  let back (u : State) : State := u.onMe (fun x => { x with wait := if s.gangOf s.curCore s.curCtx s.me.srLink then .gang else .none })
  (∀ a b, Issues (.srreg k a b) s m → Holder s false → (s.srcS b).1 = 0#64 ∨ (16 ≤ (s.srcS b).1.toNat ∧ (s.srcS b).1.toNat ≤ 4096) →
    (s.srcS a).1.toNat % 4 = 0 → Goes (.srreg k a b) s m
      (((s.countVoids [plainIn [(s.srcS a).2, (s.srcS b).2]]).onHolding me.1 me.2 (fun h =>
        { h with routine := (s.srcS a).1, bound := if (s.srcS b).1 = 0#64 then 256 else (s.srcS b).1.toNat })).tagOnly k 1)) ∧
  (∀ n, Issues (.srvFinish k n) s m → Holder s true → s.me.srVerdict = false → n ≠ 0#4 →
    Jumps (.srvFinish k n) s m (back (s.leaveRoutine.onHolding me.1 me.2 (fun h => { h with finish := some n.toNat }))) s.me.srLink 0) ∧
  (Issues (.srvSummarise k) s m → Holder s true → s.me.srVerdict = false →
    Goes (.srvSummarise k) s m ((s.onMe (fun x => { x with srVerdict := true })).onHolding me.1 me.2 (fun h =>
      { h with summarised := true }))) ∧
  (∀ l r, Issues (.srvRefuse k) s m → Holder s true → s.me.srVerdict = false → s.launch me.1 = some l →
    (l.holding me.2).serving = some r →
      Jumps (.srvRefuse k) s m (back (s.leaveRoutine.refuseRecall me.1 me.2 r)) s.me.srLink 0) ∧
  (Issues (.release k) s m → Holder s false ∨ (Holder s true ∧ s.me.srVerdict = true) →
    Goes (.release k) s m ((s.release.beginDeparture me.1 me.2).onMe (fun x => { x with wait := .releasing }))) ∧
  (∀ d a b u h l, Issues (.lease k d a b) s m → s.me.sr = false → (s.srcS a).1 ≠ 0#64 → (s.srcS a).1.toNat ≤ 1024 →
    s.formWith [] = some (u, h) → s.here.launch = some me.1 → s.launch me.1 = some l →
      Goes (.lease k d a b) s m (((u.countVoids [plainIn [(s.srcS a).2, (s.srcS b).2]]).onLaunch me.1 (fun l' =>
        { l' with leaseNum := l.leaseNum + 1, asks := l'.asks ++ [{ count := (s.srcS a).1.toNat, named := (s.srcS b).1.toNat }] })).produceIn
        (tagOf k) 1 (65 - s.now % 64) [.s d (BitVec.ofNat 64 (l.leaseNum + 1)) h] 0 false [.s d]))

/-- FPKT and PLBSET wait for the local stores that the core still holds. IDLE passes while a packet waits, else sleeps; FPKT takes the oldest packet to local memory; KILL ends a launch at once; QPRIO sets a
queue's priority; PLBSET replaces a range of a launch in every core it holds (R293 to R298, R333). That KILL, PLBSET and QPRIO act in their
issue cycle and FPKT at its end, and how long their results take, are the model's choices (entries 61, 3). -/
def Sys2Proof.Claims.SystemNow : Prop := ∀ s m k,
  let f : Nat := s.freeN 0 % 64
  (Issues (.idle k) s m → ((s.tenant s.myTenant).packets ≠ [] → Goes (.idle k) s m s) ∧
    ((s.tenant s.myTenant).packets = [] → Sleeps (.idle k) s m s .idle)) ∧
  (∀ d a u h o, Issues (.fpkt k d a) s m → s.localHeld s.curCore = false → placeOf s.curCore (s.srcS a).1.toNat = .own o → (s.srcS a).1.toNat % 64 = 0 →
    (s.countVoids [plainIn [(s.srcS a).2]]).formWith [] = some (u, h) →
      ((s.tenant s.myTenant).packets = [] →
        Goes (.fpkt k d a) s m (u.produceIn (tagOf k) 2 (2 + f) [.s d 0#64 h] 0 false [.s d])) ∧
      (∀ p rest, (s.tenant s.myTenant).packets = p :: rest → ∃ t, Does (.fpkt k d a) s t ∧
        (t.tenant s.myTenant).packets = rest ∧ t.me.pc = s.me.pc + 8#64 ∧
        t.late.map (fun x => (x.2.va, x.2.data)) = s.late.map (fun x => (x.2.va, x.2.data)) ++
          ([p.core, p.launch, p.pc, p.addr, p.info, p.gen, 0#64, 0#64].zipIdx).map (fun w => ((s.srcS a).1.toNat + 8 * w.2, w.1)))) ∧
  (∀ d a u h n, Issues (.kill k d a) s m → s.launchOperand (s.srcS a).1 = .inl n →
    (s.countVoids [plainIn [(s.srcS a).2]]).formWith [] = some (u, h) → Goes (.kill k d a) s m
      ((u.produceIn (tagOf k) 1 (1 + f) [.s d (if (s.launch n).isSome then 0#64 else 1#64) h] 0 false [.s d]).endNow n 0 4)) ∧
  (∀ a b, Issues (.qprio k a b) s m → (s.srcS a).1.toNat < 64 → (s.srcS b).1.toNat < 8 → Goes (.qprio k a b) s m
    (((s.countVoids [plainIn [(s.srcS a).2, (s.srcS b).2]]).onTenant s.myTenant (fun t => t.onQueue (s.srcS a).1.toNat (fun q =>
      { q with cfg := (q.cfg &&& ~~~0x700#64) ||| ((s.srcS b).1 <<< 8) }))).tagOnly k 1)) ∧
  (∀ d a b u h l o p, Issues (.plbset k d a b) s m → s.localHeld s.curCore = false →
    (s.srcS a).1.toNat < 2 ^ 36 → s.launch ((s.srcS a).1.toNat % 2 ^ 32) = some l →
    l.tenant = s.myTenant → placeOf s.curCore (s.srcS b).1.toNat = .own o → (s.srcS b).1.toNat % 16 = 0 →
    plbOf (leNat (Sparse.bytes s.here.lmem o 8)) (leNat (Sparse.bytes s.here.lmem (o + 8) 8)) = some p →
    (s.countVoids [plainIn [(s.srcS a).2, (s.srcS b).2]]).formWith [] = some (u, h) →
      Goes (.plbset k d a b) s m ((u.produceIn (tagOf k) 1 (1 + f) [.s d 0#64 h] 0 false [.s d]).setPlb ((s.srcS a).1.toNat % 2 ^ 32)
        (bits (s.srcS a).1.toNat 35 32) p))

/-- REPLAY, FLUSHCODE, RESUME, APERSET, SNAP and MIGRATE are sent to where they are performed, and their results come back under the tag
with the ambient label; REPLAY is a release (R293 to R299, R350, R355). -/
def Sys2Proof.Claims.SystemSent : Prop := ∀ s i r m, sent s i = some r → Issues i s m → i.wellFormed = true →
  let s0 := if r.kind = 0 then s.release else s
  ∀ u h, (s0.countVoids [plainIn r.labels]).formWith [] = some (u, h) →
    ∃ n, let q : Req := { u.mkReq (.sys r.kind) r.va 8 with data := r.data, cmp := r.cmp, lbl := h, dst := .s r.d true, seq := u.nextId }
      let w := (u.await (tagOf r.k) 1 1 [] none false [.s r.d]).plan n 0 .homeAccess { a := q.id }
      1 ≤ n ∧ Goes i s m { w with reqs := w.reqs ++ [q] }

/-- The instructions of a supervisor, and REPLAY (R293 to R299, R333, R350, R355). -/
def Obligations.SystemInstructions : Prop := Claims.SystemNow ∧ Claims.SystemSent

/-! ## The steps of the module between issues -/

/-- The steps of a core (R19, R110, R113, R118, R179, R180, R205, R290, R342 to R345): fetch blocks and register lines arrive, gaps end, the
divide unit becomes free, helpers and control contexts end, held reports are taken and packets offered, an overrun routine is left. That a block
without X is CODE_PERM when its fetch arrives (entry 60), that a packet is offered again each 64 cycles (entry 95), and that an overrun routine
is left at SR_LINK with the ambient label it was entered with (entry 51) are the model's choices. -/
def Obligations.CoreSteps : Prop := ∀ s : State,
  let k := s.subj.a
  let t := s.subj.b
  (∀ x xs p r, s.fetchers k t = x :: xs → (s.core k).range (t * 32) = some p → s.req s.subj.c = some r →
    (p.x = true → Does .icacheFill s ((s.dropReq s.subj.c).deliverBlock k
      { block := t, words := (List.range 8).map (fun n => (r.words.getD (t % 2 * 8 + n) (0#32, 0#16)).1) })) ∧
    (p.x = false → Does .icacheFill s ((s.dropReq s.subj.c).fetchFail k t 0x17))) ∧
  (∀ b : IBlock, k / 8 ∈ s.fillClusters k b.block → b ∈ ((s.deliverBlock k b).cluster (k / 8)).icache) ∧
  (∀ c u reg, ∃ v, Does (.registerCacheFill c u reg) s v ∧ (u, reg) ∈ (v.core c).regCache ∧ v.mem = s.mem ∧
    ((s.ctxAt c u).wait = .regMiss → (∀ x ∈ s.agenda, ∀ r, x.what ≠ .registerCacheFill c u r) → (v.ctxAt c u).wait = .none)) ∧
  (t < 11 → (s.ctxAt k t).gapUntil ≤ s.now → ∃ v, Does .gapExpiry s v ∧ v.ctxAt k t = { s.ctxAt k t with gapUntil := 0 }) ∧
  ((s.core k).divFree ≤ s.now → ∃ v, Does .divideUnitFree s v ∧ v.core k = { s.core k with divFree := 0 }) ∧
  ((s.ctxAt k t).live = true → (s.ctxAt k t).ending = true → (s.ctxAt k t).tags = 0#8 → s.pendingLabels k t = false → t < 11 →
    ∃ v, Does .helperRetire s v ∧ (v.ctxAt k t).live = false ∧ (v.ctxAt k t).jobLast = (s.ctxAt k t).jobLast ∧ v.mem = s.mem ∧
      ∀ u, u < 11 → u ≠ t → (s.ctxAt k u).wait = .hjoin t → v.ctxAt k u = (s.ctxAt k u).woken) ∧
  ((s.ctxAt k 0).wait = .halt → (s.core k).noHelper = true → (s.core k).frozen = false →
    ∃ v, Does .haltWake s v ∧ v = s.haltCore k ∧ (v.ctxAt k 0).live = false) ∧
  (∀ r rest, (s.core k).held = r :: rest →
    ((s.core k).frozen = false → (∀ l, s.launchOf k = some l → l.state = .bound) →
      Does .faultReport s ((s.onCore k (fun c => { c with held := rest })).takeReport k r)) ∧
    ((s.core k).frozen = true → Does .faultReport s s)) ∧
  (∀ p c, t = 0 → (s.core k).packet = some p → s.supCore (s.tenantOf k) = some c → ¬(c = k ∧ p.info.toNat / 256 % 16 = 0) →
    ((s.tenant (s.tenantOf k)).packets.length < 256 → ∃ v, Does .faultPacketOffer s v ∧ (v.core k).packet = none ∧
      (v.tenant (s.tenantOf k)).packets = (s.tenant (s.tenantOf k)).packets ++ [p]) ∧
    (256 ≤ (s.tenant (s.tenantOf k)).packets.length → Does .faultPacketOffer s (s.plan (64 - s.now % 64) 0 .faultPacketOffer { a := k }))) ∧
  (t ≠ 0 → let x := s.tenant (t - 1)
    let n := 256 - x.packets.length
    ∃ v, Does .faultPacketOffer s v ∧ (v.tenant (t - 1)).packets = x.packets ++ x.offers.take n ∧
      (v.tenant (t - 1)).offers = x.offers.drop n) ∧
  (t < 11 → ∃ v, Does .surrenderOverrun s v ∧ (v.ctxAt k t).sr = false ∧ (v.ctxAt k t).pc = (s.ctxAt k t).srLink ∧
    (v.ctxAt k t).ambient = (s.ctxAt k t).savAmb)

/-- An uncorrectable error leaves the bits and makes the affected words read as VOID.POISON: of a sector of memory where a line is filled from it, of
a register, of cluster memory, of an accumulator, and of an operand of a running MMA (R19, R363). -/
def Obligations.UncorrectableErrors : Prop := ∀ s : State,
  (∀ n, ∃ v, Does (.uncorrectableError (.sector n)) s v ∧ n ∈ v.ecc ∧ v.mem = s.mem) ∧
  (∀ l z va j, j < 16 → let a := l.frame + (va / 64 * 64 + 4 * j) % z
    a / 2 ^ 40 % 4 ≠ 3 → a / 32 ∈ s.ecc → (s.fillLine l z va).1[j]? = some (BitVec.ofNat 32 (s.ram a 4), 0xFFFA#16)) ∧
  (∀ k t r, (s.ctxAt k t).live = true → r ≠ 0#5 → t < 11 → ∃ v, Does (.uncorrectableError (.reg k t (.s r))) s v ∧
    (v.ctxAt k t).sreg r = (((s.ctxAt k t).sreg r).1, 0xFFFA#16)) ∧
  (∀ k t r, (s.ctxAt k t).live = true → t < 11 → ∃ v, Does (.uncorrectableError (.reg k t (.v r))) s v ∧
    ∀ i, i < 16 → ((v.ctxAt k t).vreg r).lane i = ((((s.ctxAt k t).vreg r).lane i).1, 0xFFFA#16)) ∧
  (∀ k w, (s.core k).lplane.wf = true → ∃ v, Does (.uncorrectableError (.local k w)) s v ∧ (v.core k).lplane.get (w % 6144) = 0xFFFA#16 ∧
    (v.core k).lmem = (s.core k).lmem) ∧
  (∀ q b i j, (s.cluster q).accv.wf = true → ∃ v, Does (.uncorrectableError (.acc q b i j)) s v ∧
    (v.cluster q).acc b i j = (((s.cluster q).acc b i j).1, 0xFFFA#16)) ∧
  (∀ q n c isB r i o, s.matOp q n = some o → ∃ v x, Does (.uncorrectableError (.operand q n c isB r i)) s v ∧ v.matOp q n = some x ∧
    (o.begun = false ∨ o.colsDone = true → x = o) ∧
    (∀ m, o.begun = true → o.colsDone = false → o.members[c]? = some m → i < 16 → ∃ y, x.members[c]? = some y ∧
      (isB = false → ∀ w, m.va[r]? = some w → ∃ w', y.va[r]? = some w' ∧ w'.lane i = ((w.lane i).1, 0xFFFA#16)) ∧
      (isB = true → ∀ w, m.vb[r]? = some w → ∃ w', y.vb[r]? = some w' ∧ w'.lane i = ((w.lane i).1, 0xFFFA#16))))

/-- What a home does with an access to global memory (R25, R34, R37, R351, R381, R389): it waits for earlier ones of its core to the line,
for a walk or a fill, parks, or is performed. A load is answered from the line; a store of a word writes that word, and no other word of
any line changes. A load takes its core's earlier stores with it (entry 35), and one of a line present needs no leaf (entry 36): the model's choices. -/
def Obligations.HomeAccesses : Prop := ∀ (s : State) r, s.req s.subj.a = some r → r.away = false → (∀ n, r.op ≠ .sys n) →
  placeOf r.core r.va = .global →
    let g := s.gate (s.reqTenant r) (!r.isLoad) r.va
    (s.blocked r = true → Does .homeAccess s (s.retry r 1)) ∧
    (s.blocked r = false →
      (g = .walk → Does .homeAccess s (s.plan 1 0 .translationWalk { a := r.id })) ∧
      (∀ e, g = .fill e → ∃ n, 1 ≤ n ∧ Does .homeAccess s (s.plan n 0 .memoryFill { a := r.id })) ∧
      (g = .wait → Does .homeAccess s (s.retry r 16)) ∧
      (∀ n, g = .park n → Does .homeAccess s (s.parkReq r n)) ∧
      (g = .rights → Does .homeAccess s (s.refuse r 0x06)) ∧
      (∀ e l, g = .ready e → r.op = .load → r.grp = 0 → s.line (r.va / 64) = some l →
        let w := fun va => (let x := l.words.getD (va / 4 % 16) (0#32, 0x0000#16)
          (x.1, s.readHandle (s.domainOf r.core) e x.2))
        Does .homeAccess s ((s.onReq r.id (fun q => { q with
          words := l.words, data := BitVec.ofNat 64 s.now, cmp := (s.writersOf (r.core / 8) (r.va / 64)).setWidth 64, away := true,
          leaf := e, fwd := s.forward r (w r.va) (w (r.va + 4)), more := if l.corrupt then [0xFFFA#16] else [] })).plan
            (homePath r.core r.va) 0 .nearCacheFill { a := r.id })) ∧
      (∀ e, g = .ready e → r.op = .store → r.grp = 0 → s.homeStore r.core r.ctx e r.va r.width r.data.toNat r.lbl = none →
        Does .homeAccess s (s.refuse r 0x09)) ∧
      (∀ e l, g = .ready e → (∀ x, e = some x → x.leaf.hl = false) → r.op = .store → r.grp = 0 → r.width = 4 → r.lbl = 0x0000#16 →
        s.line (r.va / 64) = some l → l.words.length = 16 →
          ∃ v, Does .homeAccess s v ∧ v.slotWord r.va = (r.data.setWidth 32, 0x0000#16) ∧ v.req r.id = none ∧
            (∀ a, a / 4 ≠ r.va / 4 → v.slotWord a = s.slotWord a) ∧ v.mem = s.mem))

/-- The steps between a home and memory (R19, R25, R36, R41, R354): a walk ends, a leaf is cached, a line arrives, a dirty line is written
back to its frame and its label page, a partial line is combined, a fault record reaches its ring. -/
def Sys2Proof.Claims.MemorySteps : Prop := ∀ (s : State) r, s.req s.subj.a = some r →
  (∀ l z, s.walk r.va = .leaf l z → ∃ n, 1 ≤ n ∧
    Does .translationWalk s ((s.onReq r.id (fun q => { q with
      leaf := some { slice := homeSlice r.va, page := r.va / z, size := z, leaf := l } })).plan n 0 .leafReturn { a := r.id })) ∧
  (∀ n, s.walk r.va = .park n → Does .translationWalk s (s.parkReq r n)) ∧
  (∀ e, r.leaf = some e → s.cachedLeaf r.va = none → ∃ v, Does .leafReturn s v ∧
    v.cachedLeaf r.va = some { slice := homeSlice r.va, page := r.va / e.size, size := e.size, leaf := e.leaf } ∧ v.mem = s.mem) ∧
  (∀ e, s.line (r.va / 64) = none → s.cachedLeaf r.va = some e → s.lineOk e.leaf e.size r.va = false → Does .memoryFill s (s.parkReq r 2)) ∧
  (∀ e, s.line (r.va / 64) = none → s.cachedLeaf r.va = some e → s.lineOk e.leaf e.size r.va = true → ∃ v l, Does .memoryFill s v ∧ v.line (r.va / 64) = some l ∧
    l.words = (s.fillLine e.leaf e.size r.va).1 ∧ l.dirty = false) ∧
  (∀ cop e v, r.op = .part cop → r.grp = 0 → s.blocked r = false → s.gate (s.reqTenant r) true r.va = .ready e →
    (∀ x, e = some x → x.leaf.hl = false) → s.homePartial r cop e = some v → Does .partialCombine s (v.dropReq r.id)) ∧
  (let c : Copy :=
     { id := s.nextId, line := r.va / 64, words := r.words, stamp := r.data.toNat, readers := 0#8,
       writers := r.cmp.setWidth 8 ||| s.writersOf (r.core / 8) (r.va / 64), used := s.now, page := r.leaf,
       corrupt := r.more.contains 0xFFFA#16 }
   let kept := (s.bump.installCopy (r.core / 8) c).onCore r.core (fun c => c.count 10 1)
   let again (v : State) : Prop := ∃ q x, v.req r.id = some q ∧ q.away = false ∧ q.words = [] ∧ x ∈ v.agenda ∧ x.what = .homeAccess ∧
     x.who.a = r.id ∧ x.key = 4 * (s.now + homePath r.core r.va)
   let word (u : State) (q : Copy) (va : Nat) := u.mergeStores r.core va r.id (u.copyWord r.core q va)
   r.value = none →
    (r.op = .pref → Does .nearCacheFill s (kept.dropReq r.id)) ∧
    (r.op = .load → s.overtaken r = true → ∃ v, Does .nearCacheFill s v ∧ again v) ∧
    (∀ q, r.op = .load → s.overtaken r = false → s.nearCopy r.core (r.va / 64) = some q → Does .nearCacheFill s
      (((s.dropReq r.id).markRead r.core q).deliverWords { r with more := [] } (word s q r.va) (word s q (r.va + 4)) q.corrupt 0)) ∧
    (r.op = .load → s.overtaken r = false → s.nearCopy r.core (r.va / 64) = none →
      (r.data.toNat < (kept.core r.core).viewStamp → ∃ v, Does .nearCacheFill s v ∧ again v) ∧
      ((kept.core r.core).viewStamp ≤ r.data.toNat → r.fwd = [] → Does .nearCacheFill s
        (((kept.dropReq r.id).markRead r.core c).deliverWords { r with more := [] } (word kept c r.va) (word kept c (r.va + 4)) c.corrupt 0))))

/-- A dirty line written back is clean; its bytes reach its frame and its handles the label page (R33, R36). A fault record of the current
generation enters its tenant's ring while that has room; else FBOVF is set (R354). -/
def Sys2Proof.Claims.WriteBackAndRecords : Prop := ∀ s : State,
  (let va := s.subj.a * 64
   ∀ x l z, s.line s.subj.a = some x → x.dirty = true → x.words.length = 16 → s.translate va = .leaf l z →
    (∀ m ∈ s.moves, m.copied = true → m.page / z ≠ va / z) →
    (l.hl = false → s.mcOk (l.phys z va) 64 = true ∧ l.phys z va / 2 ^ 40 % 4 ≠ 3) →
    (l.labelled = true → s.mcOk (l.labelAt z va) 32 = true ∧ l.labelAt z va / 2 ^ 40 % 4 ≠ 3) →
      ∃ v y, Does .writeBack s v ∧ v.line s.subj.a = some y ∧ y.dirty = false ∧ y.words = x.words ∧
        v.mem = (let m := if l.hl then s.mem else Sparse.putBytes s.mem (l.phys z va) (x.words.flatMap (fun w => leBytes 4 w.1.toNat))
          if l.labelled then Sparse.putBytes m (l.labelAt z va) (x.words.flatMap (fun w => leBytes 2 w.2.toNat)) else m)) ∧
  (∀ f, s.recording.find? (fun f => f.id == s.subj.a) = some f →
    let x := s.tenant f.tenant
    (f.rcd.gen.toNat = x.gen → x.fbTail - x.fbHead < 2016 → ∃ v, Does .faultRecordArrival s v ∧
      (v.tenant f.tenant).fbTail = x.fbTail + 1 ∧ (v.tenant f.tenant).ring.get (x.fbTail % 2016) default = f.rcd) ∧
    (f.rcd.gen.toNat = x.gen → 2016 ≤ x.fbTail - x.fbHead → ∃ v, Does .faultRecordArrival s v ∧ (v.tenant f.tenant).fbOvf = true ∧
      (v.tenant f.tenant).fbTail = x.fbTail) ∧
    (f.rcd.gen.toNat ≠ x.gen → ∃ v, Does .faultRecordArrival s v ∧ v.tenants = s.tenants))

/-- The steps between a home, its slice and memory (R19, R25, R33, R36, R41, R354). -/
def Obligations.MemoryTransfers : Prop := Claims.MemorySteps ∧ Claims.WriteBackAndRecords

/-- An access parked with `kind` waits with it. -/
def Sys2Proof.Claims.ParkedWith (s : State) (r : Req) (kind : Nat) : Prop := ∃ p ∈ s.parked, p.id = r.id ∧ p.isJob = false ∧ p.va = r.va ∧ p.kind = kind

/-- No access of a tenant's page waits any longer: each that waited in `s` is at its home again in the next cycle (R22, R351). -/
def Sys2Proof.Claims.PageReleased (s t : State) (tenant page : Nat) : Prop := (∀ p ∈ t.parked, ¬(p.tenant = tenant ∧ p.page = page)) ∧
  ∀ p ∈ s.parked, p.tenant = tenant → p.page = page → p.isJob = false → ∀ r, s.req p.id = some r →
    ∃ x ∈ t.agenda, (x.what = .homeAccess ∨ x.what = .partialCombine) ∧ x.who.a = p.id ∧ x.key = 4 * (s.now + 1)

/-- What a host answers (R299, R351, R381, R384): an error parks the access with KIND 5; a line of an owned host page is kept by its slice, one of
a page that the module does not own is used once; a write-through is over; a PUBLISH count reaches each window of its page and its register. -/
def Sys2Proof.Claims.HostAnswers : Prop := ∀ s : State,
  (∀ id words r, s.req id = some r → r.op ≠ .sys 5 → r.op ≠ .sys 7 →
    Does (.hostReadResponse id false words) s (s.parkReq r 5) ∧
    (r.op = .load ∨ r.op = .store ∨ r.op = .fetch ∨ r.op = .watch ∨ r.op = .cas → Claims.ParkedWith (s.parkReq r 5) r 5)) ∧
  (∀ id words r e, s.req id = some r → r.op = .load → s.cachedLeaf r.va = some e → s.lineOk e.leaf e.size r.va = true →
    let u := s.unstaged id
    let ws := words.zipIdx.map (fun p => (p.1, s.storedLabel e.leaf e.size (r.va / 64 * 64 + 4 * p.2)))
    let x : Line := { line := r.va / 64, words := ws, dirty := false, used := s.now, corrupt := false }
    (e.leaf.owned = true → Does (.hostReadResponse id true words) s ((if (s.line (r.va / 64)).isSome then u else u.addLine x).retry r 0)) ∧
    (e.leaf.owned = false → ∃ v q y, Does (.hostReadResponse id true words) s v ∧ v.req id = some q ∧ q.words = ws ∧ q.away = true ∧
      v.lines = s.lines ∧ y ∈ v.agenda ∧ y.what = .nearCacheFill ∧ y.who.a = id ∧ y.key = 4 * (s.now + homePath r.core r.va))) ∧
  (∀ id r, s.req id = some r → r.op ≠ .publish → (∀ n a, r.op ≠ .peer n a) → Does (.hostWriteThroughComplete id) s (s.dropReq id)) ∧
  (∀ id r n a, s.req id = some r → r.op = .peer n a → Does (.hostWriteThroughComplete id) s ((s.dropReq id).toLink n (.answer n true []))) ∧
  (∀ id r, s.req id = some r → r.op = .publish → ∃ v, Does (.hostWriteThroughComplete id) s v ∧ v.req id = none ∧
    ∀ p ∈ (s.tenant (s.launchTenant r.launch)).puba, p.2.toNat = r.va → ∃ x ∈ v.agenda, x.key = 4 * (s.now + 1) ∧
      x.what = .pubvUpdate (s.launchTenant r.launch) (BitVec.ofNat 64 r.va) r.data) ∧
  (∀ t a c, a ≠ 0#64 → ∃ v, Does (.pubvUpdate t a c) s v ∧ ∀ p ∈ (s.tenant t).puba, p.2 = a → (v.tenant t).pubv.get p.1 0#64 = c)

/-- The leaf that a moved page takes (R299, R385): its new frame, and neither write-back nor host bits; a copied one also loses CW and takes its new
label page. Written, it is the entry that a walk finds. -/
def Sys2Proof.Claims.MovedLeaf : Prop := ∀ (l : Leaf) f p, f < 2 ^ 50 → f % 65536 = 0 → p < 2 ^ 50 → p % 32768 = 0 →
  (l.moved f).frame = f ∧ (l.moved f).wb = false ∧ (l.moved f).hl = false ∧ (l.moved f).cw = l.cw ∧ (l.moved f).v = l.v ∧ (l.moved f).w1 = l.w1 ∧
  (l.copied f p).frame = f ∧ (l.copied f p).cw = false ∧ (l.copied f p).hl = false ∧ (l.copied f p).wb = l.wb ∧ (l.copied f p).v = l.v ∧
  (l.labelled = true → (l.copied f p).lpage = p) ∧ (l.labelled = false → (l.copied f p).w1 = l.w1) ∧
  ∀ (s : State) va a z, Memory.wf s.mem = true → s.leafAt va = some (a, z) →
    (s.putLeaf va l false).entryAt a = l ∧ (∀ b, b < a ∨ a + 16 ≤ b → (s.putLeaf va l false).mem.get b = s.mem.get b) ∧
    (s.putLeaf va l false).cachedLeaf va = none

/-- A snapshot copy takes its frames from the pool, changes the leaf and releases the accesses that waited; without a frame, or of a 32 MiB page,
they wait with KIND 3 (R385). A copied page that moves takes its new frame once no launch holds code of it, and the accesses that met the
write-back find the leaf without it (R299). -/
def Sys2Proof.Claims.PageMoves : Prop := ∀ s : State,
  (let t := s.subj.a
   let page := s.subj.b
   ∀ l z, s.moves.find? (fun m => m.page == page * 65536) = none → s.walk (page * 65536) = .leaf l z →
    (l.cw = false → ∃ v, Does .snapshotCopy s v ∧ v.mem = s.mem ∧ Claims.PageReleased s v t page) ∧
    (l.cw = true → z ≠ 65536 ∨ s.poolHas t l = false → ∃ v, Does .snapshotCopy s v ∧ v.mem = s.mem ∧
      ∀ p ∈ s.parked, p.tenant = t → p.page = page → { p with kind := 3 } ∈ v.parked) ∧
    (l.cw = true → z = 65536 → s.poolHas t l = true → l.hl = false → l.remote = false → s.pageOk l z (page * 65536) = true →
      let n := (s.tenant t).spCount - 1
      let a := s.takeFrame t
      let b := if l.labelled then a.1.takeFrame t else (a.1, l.lpage)
      a.2 = s.home64 ((s.tenant t).spBase.toNat + 8 * n) ∧
      (l.labelled = true → b.2 = s.home64 ((s.tenant t).spBase.toNat + 8 * (n - 1))) ∧
      ((l.copied a.2 b.2).remote = false → (s.tenant t).nqCfg.getLsbD 63 = false → ∃ v, Does .snapshotCopy s v ∧
        (v.tenant t).spCount = (if l.labelled then n - 1 else n) ∧ Claims.PageReleased s v t page ∧
        v.mem = ((b.1.copyFrame (page * 65536) 65536 l (l.copied a.2 b.2)).putLeaf (page * 65536) (l.copied a.2 b.2) false).mem))) ∧
  (∀ m r l z, s.moves.find? (fun m => m.id == s.subj.a) = some m → s.req s.subj.a = some r → m.copied = true → m.snap = none →
    s.pinners m.page = [] → s.walk m.page = .leaf l z → ∃ v, Does .migrationCopyDone s v ∧ (∀ x ∈ v.moves, x.id ≠ m.id) ∧
      v.mem = (s.putLeaf m.page (l.moved m.frame) false).mem ∧ v.cachedLeaf m.page = none ∧ v.req s.subj.a = none) ∧
  (∀ m r l z k, s.moves.find? (fun m => m.id == s.subj.a) = some m → s.req s.subj.a = some r → m.copied = true → m.snap = none →
    s.pinners m.page = [k] → k.stopped = false → s.walk m.page = .leaf l z → ∃ v, Does .migrationCopyDone s v ∧ v.mem = s.mem ∧
      ∃ x ∈ v.agenda, x.what = .migrationCopyDone ∧ x.who = s.subj ∧ x.key = 4 * (s.now + 64))

/-- Host pages, snapshots and moves (R199, R299, R351, R381, R384, R385). -/
def Obligations.HostPages : Prop := Claims.HostAnswers ∧ Claims.MovedLeaf ∧ Claims.PageMoves

/-- The sluice and the millrace engines (R48 to R54, R251 to R258): a capture that fails its checks queues nothing; one that passes takes the
next number; jobs start in order, four at once; their writes land; a timeline passes completed jobs once their
writes have landed. That a job's writes are put to the banks in one step is the model's choice (entry 28). -/
def Obligations.EngineSteps : Prop := ∀ s : State,
  (∀ j, s.findJob s.subj.a = some j → j.captured = false → (j.mode = 6 → isPend (s.ctxAt j.core j.ctx).ambient = false) →
    let d := s.readDesc j
    (∀ e, s.captureCheck d.1 (s.subj.c = 1) d.2 = some e → Does .sluiceCapture s (s.captureFail d.1 e.1 e.2)) ∧
    (s.captureCheck d.1 (s.subj.c = 1) d.2 = none → ∃ v i, Does .sluiceCapture s v ∧ v.findJob s.subj.a = some i ∧ i.captured = true ∧
      i.num = (s.ctxAt j.core j.ctx).jobLast + 1 ∧ (j.ctx < 11 → (v.ctxAt j.core j.ctx).jobLast = i.num) ∧
      (v.core j.core).evOut = (s.core j.core).evOut + 1) ∧
    (s.engineLoad (s.engineOf d.1) < 256 →
      (∀ e, s.captureCheck d.1 (s.subj.c = 1) d.2 = some e → Does .millraceCapture s (s.captureFail d.1 e.1 e.2)) ∧
      (s.captureCheck d.1 (s.subj.c = 1) d.2 = none → ∃ v i, Does .millraceCapture s v ∧ v.findJob s.subj.a = some i ∧ i.captured = true ∧
        i.num = (s.tenant (s.launchTenant j.launch)).millLast.get (j.timeline.getD 0) 0 + 1 ∧
        (v.tenant (s.launchTenant j.launch)).millLast.get (j.timeline.getD 0) 0 = i.num))) ∧
  (let q := s.subj.a
   ∀ j, (s.cluster q).jobs.find? (fun j => j.captured && !j.started) = some j →
    ((s.cluster q).running < 4 → ∃ n, 4 ≤ n ∧ Does .sluiceJobStart s (((s.setJob { j with started := true }).plan n 0
      .sluiceWriteLanding { a := q, b := j.id }).plan 0 2 .sluiceJobStart { a := q })) ∧
    (4 ≤ (s.cluster q).running → Does .sluiceJobStart s s)) ∧
  (∀ j, (s.cluster s.subj.a).jobs.find? (fun j => j.id == s.subj.b) = some j →
    (j.landed = false → j.stopped = false → s.jobHeld j = false → s.jobGang j = false →
      (∀ u i, s.workJob j = (u, i, .done) → j.mode ≠ 9 → Does .sluiceWriteLanding s (((u.setJob { i with landed := true }).plan 1 0
        .sluiceJobComplete s.subj).plan 0 0 .sluiceJobStart { a := s.subj.a })) ∧
      (∀ u i h, s.workJob j = (u, i, .halt h) → Does .sluiceWriteLanding s (u.jobHalt i h))) ∧
    (s.stopResumed j = true → s.jobLands j = false → Does .sluiceJobComplete s (s.advanceSluice j.core j.ctx)) ∧
    (s.stopResumed j = false ∨ s.jobLands j = true → Does .sluiceJobComplete s (s.plan 1 0 .sluiceJobComplete s.subj))) ∧
  (∀ j, s.mill.find? (fun j => j.id == s.subj.a) = some j → j.landed = false → j.stopped = false → j.globalEnds = true →
    s.subj.c ≠ 1 → s.copyFirst j.bank = false →
    (∀ u i, s.workJob j = (u, i, .done) → Does .millraceJobEnd s (u.millDone i)) ∧
    (∀ u i h, s.workJob j = (u, i, .halt h) → Does .millraceJobEnd s (u.jobHalt i h)))

/-- A joined gang operation starts when it may, from registers, a scratchpad or, as MQST, an accumulator bank; MMA and MMAR complete 36 cycles after
the start and MQST 40, its stores queued one cycle before. An MMAR sends its operands A and B to its west and north neighbours as it starts, and an inbound operand that has
arrived lands, a tile's words one cycle before; an MMAR whose group has lost a holding completes without starting (R125, R236, R239, R241 to R244, R248). A corrupt header of a tile that is found at the start under
FMTTRAP faults every member with FORMAT (R67; that it is looked for again there is the model's choice, entry 25). -/
def Obligations.GangSteps : Prop := ∀ (s : State) o l,
  let q := s.subj.a
  let id := s.subj.b
  let trap := (s.ctxAt (q * 8) (((o.members.head?).map (·.ctx)).getD 0)).fpctl.getLsbD 3
  s.matOp q id = some o →
    (o.begun = false → o.lost = false → (o.op.kind = 1 → s.clusterLaunch q = some l ∧ l.rotLost = false) →
      (s.gangReady q o = false → Does .gangStart s (s.plan 1 1 .gangStart { a := q, b := id })) ∧
      (s.gangReady q o = true → s.tilesBad q o = true → trap = true → Does .gangStart s (s.faultMat q o 0x0D (o.addrs.getD 0 0#64))) ∧
      (s.gangReady q o = true → s.tilesBad q o = false ∨ trap = false → ∃ v i x, Does .gangStart s v ∧ v.matOp q id = some i ∧
        i.begun = true ∧ i.start = s.now ∧ i.fmt = s.tilesBad q o ∧ i.members = s.loadTiles q o ∧
        (o.op.kind = 2 ∨ o.op.flag = 0#1 → i.members = o.members ∧ i.fmt = false) ∧ (v.cluster q).lastStart = s.now ∧
        x ∈ v.agenda ∧ x.what = .gangColumnComplete ∧ x.who = { a := q, b := id } ∧
        x.key = (if o.op.kind = 2 then 4 * (s.now + 39) + 2 else 4 * (s.now + 36)) ∧
        (o.op.kind = 1 →
          (∀ w, l.neighbour q (-1) 0 = some w →
            (⟨o.num, 0, q, s.now, i.members.map (fun m => (m.va, m.ha))⟩ : Inbound) ∈ (v.cluster w).inbound) ∧
          (∀ w, l.neighbour q 0 (-1) = some w →
            (⟨o.num, 1, q, s.now, i.members.map (fun m => (m.vb, m.hb))⟩ : Inbound) ∈ (v.cluster w).inbound)))) ∧
    (o.begun = false → o.lost = false → o.op.kind = 1 → s.clusterLaunch q = some l → l.rotLost = true → Does .gangStart s (s.loseMmar q o)) ∧
    (o.op.kind = 2 → (s.subj.c = 0 → Does .gangColumnComplete s ((s.gangQuantise q o).plan 1 0 .gangColumnComplete { s.subj with c := 1 })) ∧
      (s.subj.c ≠ 0 → Does .gangColumnComplete s ((s.onMat q id (fun o => { o with colsDone := true })).settleMat q id))) ∧
    (o.op.kind ≠ 2 → Does .gangColumnComplete s (((o.members.zipIdx.foldl (fun u p =>
      let r := u.gangCore q o p.2 p.1
      r.1.flag p.1.core p.1.ctx (BitVec.ofNat 64 r.2 ||| (if o.fmt then 0x800#64 else 0#64))) s).onMat q id (fun o =>
        { o with colsDone := true })).settleMat q id)) ∧
    ((s.cluster q).inbound.find? (fun t => t.num == o.num && t.dir == s.subj.c) = none → Does .mmarInboundLanding s s) ∧
    (∀ x, (s.cluster q).inbound.find? (fun t => t.num == o.num && t.dir == s.subj.c) = some x →
      let isA := x.dir = 0
      (o.op.flag = 0#1 → Does .mmarInboundLanding s ((o.members.zipIdx.foldl (fun u p => u.inboundReg p.1 (if isA then o.op.a else o.op.b)
        (if isA then o.op.ty else o.op.tb) (x.ops.getD p.2 ([], [])).1) s).landedTile q id x)) ∧
      (o.op.flag = 1#1 → s.subj.d ≠ 1 → Does .mmarInboundLanding s ((o.members.zipIdx.foldl (fun u p => u.inboundTile p.1
        (if isA then tileOf (o.addrs.getD 0 0#64) (o.addrs.getD 1 0#64) else tileOf (o.addrs.getD 2 0#64) (o.addrs.getD 3 0#64))
        (if isA then o.op.ty else o.op.tb) (chunkOf o.op.ty o.op.tb) p.2 (x.ops.getD p.2 ([], [])).1 (x.ops.getD p.2 ([], [])).2) s).plan 1 0
          .mmarInboundLanding { s.subj with d := 1 })) ∧
      (o.op.flag = 1#1 → s.subj.d = 1 → Does .mmarInboundLanding s (s.landedTile q id x)))

/-- Context `p` is woken by a signal: its wait is over, it goes on with its next instruction, and it is ready, as an acquire, two cycles later or when
its gap ends (R113, R267, R270). -/
def Sys2Proof.Claims.Woken (s t : State) (p : Nat × Nat) : Prop :=
  t.ctxAt p.1 p.2 = { s.ctxAt p.1 p.2 with
    wait := .none, pc := (s.ctxAt p.1 p.2).pc + 8#64, gapUntil := max (s.ctxAt p.1 p.2).gapUntil (s.now + 2) } ∧
  ∃ x ∈ t.agenda, x.what = .eventWake ∧ x.who.a = p.1 ∧ x.who.b = p.2 ∧ x.key = 4 * (s.now + 2)

/-- Weirs (R121, R259 to R264): an arrival sets ARR once the core's earlier stores are performed, and waits while they are not; a release clears it
and turns the phase of every member that has not withdrawn or left. -/
def Sys2Proof.Claims.WeirSteps : Prop := ∀ s : State,
  let u := s.subj
  ((s.core u.a).launch = some (u.e / 2) → (s.core u.a).frozen = false → s.outstanding u.a u.d = false → u.f = 0 → u.b < 16 →
    ∃ v, Does .weirArrivalCounted s v ∧ (v.core u.a).arr.getLsbD u.b = true ∧ v.mem = s.mem ∧
      (v.core u.a).gone.getLsbD u.b = ((s.core u.a).gone.getLsbD u.b || u.e % 2 == 1)) ∧
  ((s.core u.a).launch = some (u.e / 2) → s.outstanding u.a u.d = true → Does .weirArrivalCounted s (s.plan 1 2 .weirArrivalCounted u)) ∧
  (∀ l, s.launch u.a = some l → (l.weir u.b).due = s.now → s.weirMet l u.b = true → 0 < u.b → u.b < 16 → (l.members u.b).Nodup →
    ∃ v, Does .weirRelease s v ∧ ∀ k ∈ l.members u.b, (s.core k).launch = some u.a → (s.core k).gone.getLsbD u.b = false →
      (v.core k).arr.getLsbD u.b = false ∧ (v.core k).viewStamp = s.now ∧ (v.core k).pk = (!(s.core k).pk && (s.core k).arm))

/-- A signal that reaches its event unit raises COUNT or wakes the first sleeper (R267), frees a mutex or hands it to its first sleeper (R268), or is an
arrival at a barrier, which opens for every waiter when TARGET is reached (R269); it waits while an earlier store of its core is not performed, and then for its way
to another cluster (R270). -/
def Sys2Proof.Claims.Signals : Prop := ∀ s : State,
  let u := s.subj
  (s.outstanding u.a u.e = true → Does .eventSignalEffect s (s.planSignal 1 u)) ∧
  (s.outstanding u.a u.e = false → u.f % 2 = 1 → ∃ x, Does .eventSignalEffect s { s with agenda := signalInsert s.agenda x } ∧
    x.what = .eventSignalEffect ∧ x.who = { u with e := 0, f := u.f / 2 * 2 } ∧ 4 * (s.now + 2) + 2 ≤ x.key) ∧
  (s.outstanding u.a u.e = false → u.f % 2 = 0 → u.b = u.a / 8 → (s.core (u.b * 8)).launch = some (u.f / 2) →
    (u.c = 0 → u.d < 32 →
      let e := vget (s.cluster u.b).lines u.d default
      (e.sleepers = [] → ∃ v, Does .eventSignalEffect s v ∧
        (vget (v.cluster u.b).lines u.d default).count = min 0xFFFFFFFF (e.count + 1)) ∧
      (∀ p rest, e.sleepers = p :: rest → p.2 < 11 → ∃ v, Does .eventSignalEffect s v ∧
        vget (v.cluster u.b).lines u.d default = { e with sleepers := rest } ∧ Claims.Woken s v p)) ∧
    (∀ t, u.c = 1 + t → t < 11 → u.d < 8 →
      let e := vget (s.cluster u.b).mutexes u.d default
      (e.owner ≠ some (u.a, t) → Does .eventSignalEffect s s) ∧
      (e.owner = some (u.a, t) → e.sleepers = [] → ∃ v, Does .eventSignalEffect s v ∧ (vget (v.cluster u.b).mutexes u.d default).owner = none) ∧
      (∀ p rest, e.owner = some (u.a, t) → e.sleepers = p :: rest → p.2 < 11 → ∃ v, Does .eventSignalEffect s v ∧
        vget (v.cluster u.b).mutexes u.d default = { owner := some p, sleepers := rest } ∧ Claims.Woken s v p)) ∧
    (∀ t, u.c = 101 + t → t < 11 → u.d < 4 → (s.ctxAt u.a t).wait = .barrier u.d →
      let e := vget (s.cluster u.b).barriers u.d default
      (u.a, t) ∉ e.waiting → e.target ≠ 0 →
        (e.waiting.length + 1 < e.target → ∃ v, Does .eventSignalEffect s v ∧
          vget (v.cluster u.b).barriers u.d default = { e with waiting := e.waiting ++ [(u.a, t)] } ∧ ∀ k c, v.ctxAt k c = s.ctxAt k c) ∧
        (e.target ≤ e.waiting.length + 1 → e.waiting.Nodup → (∀ p ∈ e.waiting, p.2 < 11 ∧ (s.ctxAt p.1 p.2).wait = .barrier u.d) →
          ∃ v, Does .eventSignalEffect s v ∧ vget (v.cluster u.b).barriers u.d default = { e with waiting := [] } ∧
            ∀ p ∈ e.waiting ++ [(u.a, t)], Claims.Woken s v p)))

/-- Stores of event-unit words, wake-ups and flumes (R45, R121, R123, R265, R267, R269, R276): a store of COUNT wakes as many sleepers; a TARGET is at most
88, and 0 releases every waiter; a flume's words land in the destination while it is of the launch. -/
def Sys2Proof.Claims.EventStores : Prop := ∀ s : State,
  let u := s.subj
  (∃ v, Does .eventWake s v ∧ (v.core u.a).viewStamp = s.now ∧
    (u.b < 11 → (s.ctxAt u.a u.b).gapUntil ≤ s.now → (v.ctxAt u.a u.b).gapUntil = 0)) ∧
  (u.d = 0 → u.b < 32 →
    let e := vget (s.cluster u.a).lines u.b default
    let n := u.c % 2 ^ 32
    let m := min n e.sleepers.length
    e.sleepers.Nodup → (∀ p ∈ e.sleepers, p.2 < 11) → ∃ v, Does .eventLineStore s v ∧
      vget (v.cluster u.a).lines u.b default = { count := n - m, sleepers := e.sleepers.drop m } ∧ ∀ p ∈ e.sleepers.take m, Claims.Woken s v p) ∧
  (u.d = 0 → u.b < 4 → ∃ v, Does .barrierTargetStore s v ∧ (vget (v.cluster u.a).barriers u.b default).target = min 88 (u.c % 256) ∧
    (u.c % 256 = 0 → let ws := (vget (s.cluster u.a).barriers u.b default).waiting
      ws.Nodup → (∀ p ∈ ws, p.2 < 11 ∧ (s.ctxAt p.1 p.2).wait = .barrier u.b) → ∀ p ∈ ws, Claims.Woken s v p)) ∧
  (∀ src dst off words,
    ((s.core dst).launch = some u.a → ∃ v, Does (.flumeDelivery src dst off words) s v ∧
      v.late.map (fun x => (x.1, x.2.core, x.2.va, x.2.data, x.2.lbl)) = s.late.map (fun x => (x.1, x.2.core, x.2.va, x.2.data, x.2.lbl)) ++
        words.zipIdx.map (fun p => (1, dst, 0xFF000000000000 + off + 4 * p.2, p.1.1.setWidth 64, p.1.2))) ∧
    ((s.core dst).launch ≠ some u.a → ∃ v, Does (.flumeDelivery src dst off words) s v ∧ v.late = s.late))

/-- Weirs, the event unit and flumes (R45, R121, R123, R259 to R271, R276). -/
def Obligations.SyncSteps : Prop := Claims.WeirSteps ∧ Claims.Signals ∧ Claims.EventStores

/-- The label unit (R91 to R94): a probe finds the list, or an empty entry, or goes on to the next; a resolved slot's handle replaces its pending
label in every register of its core. -/
def Sys2Proof.Claims.LabelSlots : Prop := ∀ s : State,
  let u := s.subj
  (∀ x n l rest, (s.core u.a).slotAt u.b = some x → s.domainOf u.a = some n → x.ready = u.d → x.got = none → x.lost = false →
    (s.core u.a).probesLater u.b x = false → s.resident (s.domBase n + 0x10000) = true → x.todo = l :: rest →
      let q := probeAt (internStart l) u.c
      let y : Slot := { x with todo := [l] }
      (s.tableEntry n q = l → Does .internProbe s (s.slotDone u.a u.b y (BitVec.ofNat 16 q) false false)) ∧
      (s.tableEntry n q ≠ l → s.tableEntry n q ≠ [] → u.c < 31 → Does .internProbe s ((s.onCore u.a (fun c => c.setSlot u.b (some y))).plan
        (1 + homePath u.a (s.domBase n + 0x10000 + 32 * q)) 0 .internProbe { u with c := u.c + 1 })) ∧
      (s.tableEntry n q ≠ l → s.tableEntry n q = [] ∨ 31 ≤ u.c → Does .internProbe s
        ((s.intern n l).1.slotDone u.a u.b y (s.intern n l).2.1 (s.intern n l).2.2 false))) ∧
  (∀ x h, (s.core u.a).slotAt u.b = some x → x.got = some h → x.ready = u.d → u.b < 8 → isPend h = false →
    ∃ v, Does .labelResolve s v ∧ v.mem = s.mem ∧ ∀ t, t < 11 → ∀ r : BitVec 5,
      ((v.ctxAt u.a t).sreg r).1 = ((s.ctxAt u.a t).sreg r).1 ∧
      ((v.ctxAt u.a t).sreg r).2 = (if r ≠ 0#5 ∧ ((s.ctxAt u.a t).sreg r).2 = BitVec.ofNat 16 (0xFFF0 + u.b) then h
        else ((s.ctxAt u.a t).sreg r).2))

/-- Operation `o` of a domain is performed: its answer, as `y`, sets out for the core (R280). -/
def Sys2Proof.Claims.AnsweredAs (s v : State) (o y : DomOp) : Prop :=
  y ∈ v.domOps ∧ ∃ x ∈ v.agenda, x.what = .domainAnswer ∧ x.who.a = o.id ∧ x.key = 4 * (s.now + 1 + homePath o.core (s.domBase o.dom))

/-- The words of a domain after one change: OPEN, ASSERTED and RETRACTED as given, UPDATE one higher, the era as it was (R77, R78). -/
def Sys2Proof.Claims.DomainIs (s v : State) (n opn asserted retracted : Nat) : Prop :=
  v.domOpen n = opn ∧ v.domAsserted n = asserted ∧ v.domRetracted n = retracted ∧
  v.domUpdate n = (s.domUpdate n + 1) % 2 ^ 64 ∧ v.domEra n = s.domEra n

/-- What a domain's home does, with the domain's words in its slice (R78, R79, R97, R98, R278, R281). ANEW opens the lowest free slot. NOGOOD and
RETRACT record a nogood, its asserted slots cleared, that names no free slot, unless one recorded already refutes it; where the list has no room they fault with NOGOOD_FULL.
ASSERT and RETRACT close an open slot; of any other slot they are ILLEGAL. SETTLE of a domain without open slots or live pages of its next era begins that era. What faults changes nothing. -/
def Sys2Proof.Claims.DomainHome : Prop := ∀ (s : State) o, s.domOps.find? (fun o => o.id == s.subj.a) = some o →
  let n := o.dom
  let k := o.val.toNat
  let opn := s.domOpen n
  let asserted := s.domAsserted n
  let retracted := s.domRetracted n
  let there (a : Nat) : Prop := ∃ x, s.line a = some x ∧ x.words.length = 16
  let done (f : State → Prop) : Prop := ∃ v, Does .domainHomeOperation s v ∧ f v
  let said (v : State) (y : DomOp) : Prop := Claims.AnsweredAs s v o y
  let refused (c : Nat) : Prop := done (fun v => v.lines = s.lines ∧ v.mem = s.mem ∧ said v { o with fault := some (c, 0#64) })
  let bit : Nat := 2 ^ k
  let is := Claims.DomainIs s
  let recorded (m : Dword) (but : Option Nat) (more : State → Prop) : Prop :=
    let room := 64 - s.pairedOpen n but
    let l := insertSorted m ((s.domNogoods n).filter (fun g => !subset m g))
    (∀ i, i < 8 → there (s.domBase n / 64 + 4 + i)) →
    (m &&& BitVec.ofNat 64 retracted ≠ 0#64 ∨ (∃ g ∈ s.domNogoods n, g &&& m = g) → done (fun v => v.domNogoods n = s.domNogoods n ∧ more v)) ∧
    (m &&& BitVec.ofNat 64 retracted = 0#64 → (∀ g ∈ s.domNogoods n, g &&& m ≠ g) →
      (room < l.length → refused 0x0A) ∧ (l.length ≤ room → done (fun v => v.domNogoods n = l ∧ more v)))
  (s.resident (s.domBase n) = false → Does .domainHomeOperation s (s.plan 64 0 .domainHomeOperation s.subj)) ∧
  (s.resident (s.domBase n) = true → there (s.domBase n / 64) → s.domNgCount n ≤ 64 →
    (∀ i, o.kind = 0 → s.lowestFree n = some i →
      done (fun v => is v n (opn ||| 2 ^ i) asserted retracted ∧ said v { o with res := BitVec.ofNat 64 i })) ∧
    (o.kind = 0 → s.lowestFree n = none → done (fun v => v.lines = s.lines ∧ said v { o with res := 0xFFFFFFFFFFFFFFFF#64 })) ∧
    (o.kind = 2 →
      let m := o.val &&& ~~~BitVec.ofNat 64 asserted
      (m = 0#64 ∨ m &&& s.domFree n ≠ 0#64 → refused 0x01) ∧
      (m ≠ 0#64 → m &&& s.domFree n = 0#64 → recorded m none (fun v => is v n opn asserted retracted ∧
        said v { o with change := [.nogood ((s.domUpdate n + 1) % 2 ^ 64) m] }))) ∧
    (o.kind = 3 → (64 ≤ k → refused 0x01) ∧
      (k < 64 → (o.dom, k) ∈ s.aborted → done (fun v => v.lines = s.lines ∧ said v { o with res := 1#64 })) ∧
      (k < 64 → (o.dom, k) ∉ s.aborted → opn.testBit k = false → refused 0x01) ∧
      (k < 64 → (o.dom, k) ∉ s.aborted → opn.testBit k = true → s.pairOf n k = none →
        done (fun v => is v n (opn - bit) (asserted ||| bit) retracted ∧
          said v { o with res := 0#64, change := [.assert ((s.domUpdate n + 1) % 2 ^ 64) k] })) ∧
      (∀ l p, k < 64 → (o.dom, k) ∉ s.aborted → opn.testBit k = true → s.pairOf n k = some (l, p) → ∃ v : State, Does .domainHomeOperation s
        (v.toLink l (.assertSlot l p)) ∧ v.lines = s.lines ∧ { o with slot := some k, link := l } ∈ v.domOps)) ∧
    (o.kind = 4 → (64 ≤ k ∨ opn.testBit k = false → refused 0x01) ∧
      (k < 64 → opn.testBit k = true → asserted.testBit k = false → retracted.testBit k = false →
        recorded (BitVec.ofNat 64 bit) (some k) (fun v => is v n (opn - bit) asserted (retracted ||| bit) ∧
          said v { o with change := [.nogood ((s.domUpdate n + 1) % 2 ^ 64) (BitVec.ofNat 64 bit)] }))) ∧
    (o.kind = 5 → (opn ≠ 0 → done (fun v => v.lines = s.lines ∧ said v { o with res := 1#64 })) ∧
      (opn = 0 → s.domLive n ((s.domEra n + 1) % 16) ≠ 0 → done (fun v => v.lines = s.lines ∧ said v { o with res := 2#64 })) ∧
      (opn = 0 → s.domLive n ((s.domEra n + 1) % 16) = 0 →
        (s.outstanding o.core o.id = true → Does .domainHomeOperation s (s.plan 1 0 .domainHomeOperation { a := o.id })) ∧
        (s.outstanding o.core o.id = false → done (fun v => v.domOpen n = 0 ∧ v.domAsserted n = 0 ∧ v.domRetracted n = 0 ∧ v.domNgCount n = 0 ∧
          v.domEra n = (s.domEra n + 1) % 16 ∧ v.domUpdate n = (s.domUpdate n + 1) % 2 ^ 64 ∧
          (∀ x ∈ v.lines, s.domBase n + 0x10000 ≤ x.line * 64 → x.line * 64 < s.domBase n + 0x210000 → ∀ w ∈ x.words, w = (0#32, 0x0000#16)) ∧
          said v { o with res := 0#64, change := [.settle ((s.domUpdate n + 1) % 2 ^ 64) (BitVec.ofNat 4 ((s.domEra n + 1) % 16))] })))))

/-- An answer reaches its core (R96, R100, R280, R281): a change that the core's view does not hold yet enters the overlay of the context that asked, and of no
other; a new era makes its labels VOID.LOST but for TRUE, pending and VOID.POISON; a fault is precise, its context standing at the instruction; and the
result is the register's last missing word. -/
def Sys2Proof.Claims.DomainAnswers : Prop := ∀ (s : State) o, s.domOps.find? (fun o => o.id == s.subj.a) = some o → o.ctx < 11 →
  let x := s.ctxAt o.core o.ctx
  let aged (h : Handle) : Handle := if h = 0x0000#16 ∨ h = 0xFFFA#16 ∨ (0xFFF0 ≤ h.toNat ∧ h.toNat < 0xFFF8) then h else 0xFFFB#16
  let rest : State := { s with domOps := s.domOps.filter (fun x => x.id != o.id) }
  (o.fault = none → o.kind < 2 → o.change = [] → Does .domainAnswer s (rest.arrive o.core o.seq 0 [.s o.reg o.res o.lbl])) ∧
  (∀ c, o.fault = none → 2 ≤ o.kind → o.change = [c] → ∃ v, Does .domainAnswer s v ∧ (v.ctxAt o.core o.ctx).wait = .none ∧
    (∀ y ∈ v.domOps, y.id ≠ o.id) ∧ (∀ t, t ≠ o.ctx → v.ctxAt o.core t = s.ctxAt o.core t) ∧ (v.core o.core).view = (s.core o.core).view ∧
    (c.upd ≤ (s.core o.core).view.update → (v.ctxAt o.core o.ctx).overlay = x.overlay) ∧
    ((s.core o.core).view.update < c.upd → (v.ctxAt o.core o.ctx).overlay = x.overlay ++ [c] ∧
      (∀ u e, c = .settle u e → (v.ctxAt o.core o.ctx).era = e ∧ (v.ctxAt o.core o.ctx).ambient = aged x.ambient ∧
        ∀ r : BitVec 5, (v.ctxAt o.core o.ctx).sl[r.toNat]? = (x.sl[r.toNat]?).map aged))) ∧
  (∀ f, o.fault = some f → ∃ v, Does .domainAnswer s v ∧ (v.ctxAt o.core o.ctx).wait = .none ∧ (v.ctxAt o.core o.ctx).hist = o.hist ∧
    SameMemory s v ∧ (v.core o.core).held = holdReport (s.core o.core).held
      { arrived := s.now, cause := f.1, ctx := o.ctx, pc := o.pc, addr := f.2, resume := some o.pc } ∧
    ∃ y ∈ v.agenda, y.what = .faultReport ∧ y.who.a = o.core) ∧
  (∃ v, Does .eraRewriteDone s v ∧ v.core s.subj.a = { s.core s.subj.a with eraTodo := false })

/-- Label slots and domain homes (R78, R79, R91 to R94, R96, R98, R100, R278 to R281). -/
def Obligations.LabelSteps : Prop := Claims.LabelSlots ∧ Claims.DomainHome ∧ Claims.DomainAnswers

/-- Why a record is refused, by the detail's number (R328), on the record's words as R322 to R327 lay them out: a reserved field that is not
zero, a size out of range or an address not aligned; a domain that is not the tenant's; SUP without PRIV or beside another supervisor; a
lease entry that R295 refuses; no lease for the context area; a weir or the rotation group that leaves the region; a flume that R123
refuses, that leaves the region, or whose sends clash at ORIGIN; a region that leaves the grid. -/
def Sys2Proof.Claims.RefusedFor (s : State) (t : Nat) (q : Queue) (r : List Dword) (detail : Nat) : Prop :=
  let w (i : Nat) : Nat := (r.getD i 0#64).toNat
  let f (i hi lo : Nat) : Nat := w i / 2 ^ lo % 2 ^ (hi + 1 - lo)
  let wide := f 2 8 0
  let high := f 2 24 16
  let ctx := w 6
  match detail with
  | 1 => f 1 63 37 ≠ 0 ∨ f 1 15 14 ≠ 0 ∨ f 2 63 49 ≠ 0 ∨ f 2 31 25 ≠ 0 ∨ f 2 15 9 ≠ 0 ∨ f 20 62 20 ≠ 0 ∨ f 20 2 0 ≠ 0 ∨ f 18 62 44 ≠ 0 ∨
      w 21 ≠ 0 ∨ w 22 ≠ 0 ∨ w 23 ≠ 0 ∨ ¬(1 ≤ wide ∧ wide ≤ 256) ∨ ¬(1 ≤ high ∧ high ≤ 384) ∨ ¬(1 ≤ f 2 48 32 ∧ f 2 48 32 ≤ wide * high) ∨
      ¬(1 ≤ f 1 36 32 ∧ f 1 36 32 ≤ 16) ∨ ¬(f 1 31 19 = 0 ∨ (16 ≤ f 1 31 19 ∧ f 1 31 19 ≤ 4096)) ∨
      w 0 % 4 ≠ 0 ∨ w 3 % 16 ≠ 0 ∨ w 4 % 8 ≠ 0 ∨ w 5 % 8 ≠ 0 ∨ w 6 % 65536 ≠ 0 ∨ w 7 % 4 ≠ 0 ∨ w 16 % 8 ≠ 0 ∨
      ∃ i, i < 4 ∧ w (8 + 2 * i) ≠ 0 ∧ w (8 + 2 * i) % 8 ≠ 0
  | 2 => f 1 3 3 = 1 ∧ ¬((s.dirEntry (f 1 13 4)).testBit 63 = true ∧ s.dirEntry (f 1 13 4) / 2 ^ 57 % 32 = t)
  | 3 => f 1 2 2 = 1 ∧ (q.cfg.getLsbD 62 = false ∨ ∃ p ∈ s.launches, p.2.sup = true ∧ p.2.tenant = t)
  | 4 => ∃ i, i < f 1 36 32 ∧ plbOf (s.home64 (w 3 + 16 * i)) (s.home64 (w 3 + 16 * i + 8)) = none
  | 5 => ¬∃ p, some p ∈ s.leaseEntries r ∧ p.valid = true ∧ p.r = true ∧ p.w = true ∧ p.base.toNat ≤ ctx / 65536 ∧
      (ctx + wide * high * 0x51200 - 1) / 65536 ≤ p.last.toNat
  | 6 => ∃ v, (v ∈ s.weirWords r ∨ v = w 18) ∧ ∃ x y a b m, rectOf v = some (x, y, a, b, m) ∧ (wide < x + a ∨ high < y + b)
  | 7 => s.routeBad r = true ∨ (f 20 63 63 = 1 ∧ s.clashAt r (f 20 19 12) (f 20 11 3) = true)
  | 8 => f 20 63 63 = 1 ∧ (256 < f 20 19 12 + wide ∨ 384 < f 20 11 3 + high)
  | _ => False

/-- The records that the distributor takes (R123, R321, R327, R328, R332): each is refused with the first failing condition; two sends clash
only if they are different cores', and do if they land in one local memory in one cycle (whether two use one link in one cycle depends on
paths that the manual leaves open, which the model takes as a free value: its choice, entry 94); a refused record sets SKIPS to 0, advances
HEAD, writes STATUS with outcome 3 and raises DONE. -/
def Sys2Proof.Claims.Records : Prop := ∀ (s : State) t q (r : List Dword),
  let qu := s.queueAt (t, q)
  (∀ d, s.recordDetail t qu r = some d ↔ 1 ≤ d ∧ d ≤ 8 ∧ Claims.RefusedFor s t qu r d ∧ ∀ e, e < d → ¬Claims.RefusedFor s t qu r e) ∧
  (∀ x y, s.clashAt r x y = true ↔ ¬((s.sends r).map (sendAt x y (max 1 (recW r)))).Pairwise (fun a b => sendsClash a b = false)) ∧
  (∀ a b, (a.1 = b.1 → sendsClash a b = false) ∧
    (a.1 ≠ b.1 → a.2.1 = b.2.1 → a.2.2 + sendTime a = b.2.2 + sendTime b → sendsClash a b = true)) ∧
  (∀ d, s.refuseRecord t q r d =
    ((((s.onTenant t (fun x => x.onQueue q (fun y => { y with head := y.head + 1#64, skips := 0#64 }))).put64
      (qu.headAddr + 0x98) (d * 256 + 3)).msi t 2).raise t (r.getD 16 0#64).toNat (r.getD 17 0#64).toNat))

/-- Who may be recalled (R334): by placement at priority `p`, a present negotiated holding of a bound launch of a strictly lower priority
whose recall queue has room; by name, one of the launch that LEASE names, of the same tenant, at most the requester's priority, and strictly
below it if the holding came by a recall. -/
def Sys2Proof.Claims.Recalls : Prop := ∀ (s : State) (l : Launch) c p m h k, s.holderOf c = some (m, h) → s.launch m = some k →
  let open_ := k.state = .bound ∧ k.forced = [] ∧ k.firm ≤ h ∧ (k.holding h).present = true ∧ (k.holding h).departing = false ∧
    (k.holding h).recalls.length < 4
  (s.canRecall c p = true ↔ open_ ∧ k.prio < p) ∧
  (∀ named, s.canName l c named = true ↔ open_ ∧ named ≠ 0 ∧ k.id.toNat = named ∧ k.tenant = l.tenant ∧
    (if (k.holding h).byRecall.isSome then k.prio < l.prio else k.prio ≤ l.prio))

/-- Which queues the distributor visits and where it places a record (R330): eligibility, effective priority, the order of visits, the
target die, and the coverable rectangle nearest to it, ties to the lower y and then the lower x. -/
def Sys2Proof.Claims.Placement : Prop := ∀ (s : State) (r : List Dword) t q p,
  (∀ u : Queue, u.effective = min 7 (u.cfg.toNat / 2 ^ 8 % 8 + u.skips.toNat / 32) ∧
    (s.eligible u = true ↔ u.cfg.getLsbD 63 = true ∧ u.head.toNat < u.tail.toNat ∧ u.tail.toNat - u.head.toNat ≤ 2 ^ (u.cfg.toNat % 32) ∧
      u.selected = none ∧ s.resident u.headAddr = true ∧
      ∀ i, i < 4 → let a := (s.home64 (u.headAddr + 8 * (8 + 2 * i))) % 2 ^ 64
        a ≠ 0 → s.home64 (u.headAddr + 8 * (9 + 2 * i)) % 2 ^ 64 ≤ s.waitWord a)) ∧
  (∀ v, v ∈ s.visits ↔ v ∈ s.allQueues ∧ s.eligible (s.queueAt v) = true) ∧
  s.visits.Pairwise (fun a b => (s.queueAt b).effective ≤ (s.queueAt a).effective) ∧
  (∀ e z, s.lastBound.find e = some z → s.visits.Pairwise (fun a b => (s.queueAt a).effective = e → (s.queueAt b).effective = e →
    z.1 * 64 + z.2 < b.1 * 64 + b.2 → z.1 * 64 + z.2 < a.1 * 64 + a.2)) ∧
  (∀ x y, s.coverable t q p r x y = true ↔ ∀ i, i < (if recDefer r then recFirm r else recW r * recH r) →
    let c := (y + i / recW r) * 256 + x + i % recW r
    s.clusterFree t q c = true ∨ s.canRecall c p = true) ∧
  (∀ ls d, d < 48 → leasedOn ls d ≤ leasedOn ls (targetDie ls) ∧ (d < targetDie ls → leasedOn ls d < leasedOn ls (targetDie ls))) ∧
  ((rw r 20).testBit 63 = true → s.placement t q p r =
    let o := (rw r 20 / 2 ^ 12 % 2 ^ 8, rw r 20 / 2 ^ 3 % 2 ^ 9)
    if s.coverable t q p r o.1 o.2 then some o else none) ∧
  ((rw r 20).testBit 63 = false → 0 < recW r → recW r ≤ 256 → 0 < recH r → recH r ≤ 384 →
    let fits (o : Nat × Nat) : Prop := o.1 + recW r ≤ 256 ∧ o.2 + recH r ≤ 384 ∧ s.coverable t q p r o.1 o.2 = true
    let far (o : Nat × Nat) : Nat := centreDist (targetDie ((s.leaseEntries r).filterMap (fun e => e))) o.1 o.2 (recW r) (recH r)
    (s.placement t q p r = none ↔ ∀ o, ¬fits o) ∧
    (∀ o, s.placement t q p r = some o → fits o ∧ ∀ o', fits o' →
      far o < far o' ∨ (far o = far o' ∧ (o.2 < o'.2 ∨ (o.2 = o'.2 ∧ o.1 ≤ o'.1)))))

/-- Rounds of the distributor (R321, R330): a queue whose TAIL is out of bounds is turned off, the LEASE requests are taken, the eligible
queues are visited in order, and the next round is 64 cycles later. A visit does nothing to a queue that is no longer eligible; it refuses a
record that fails R328; it adds 1 to SKIPS where nothing covers the record; a record placed where its sends clash is refused with detail 7;
else the record is selected: its free clusters are held for it, its other clusters recalled at the queue's effective priority. When a round
after the selection binds is open in the manual, which the model takes as a free value (its choice, entry 3), and words that a record waits
for in pages of the host or behind a link are read for the next round (entry 109). -/
def Sys2Proof.Claims.Rounds : Prop := ∀ s : State,
  (s.fatal = true → Does .distributorRound s s) ∧
  (s.fatal = false → Does .distributorRound s
    (let off := s.allQueues.foldl (fun s p => if (s.queueAt p).broken then
        s.onTenant p.1 (fun t => t.onQueue p.2 (fun q => { q with cfg := q.cfg &&& 0x7FFFFFFFFFFFFFFF#64 })) else s) s
     (((off.leases.visits).foldl State.visit off.leases).probeWaits).plan 64 0 .distributorRound {})) ∧
  (∀ v, let q := s.queueAt v
    let r := s.readRecord q.headAddr
    let skipped := s.onTenant v.1 (fun x => x.onQueue v.2 (fun q => { q with skips := q.skips + 1#64 }))
    (s.eligible q = false → s.visit v = s) ∧
    (∀ d, s.eligible q = true → s.recordDetail v.1 q r = some d → s.visit v = s.refuseRecord v.1 v.2 r d) ∧
    (s.eligible q = true → s.recordDetail v.1 q r = none →
      (s.placement v.1 v.2 q.effective r = none → s.visit v = skipped) ∧
      (∀ x y, s.placement v.1 v.2 q.effective r = some (x, y) →
        (s.clashAt r x y = true → s.visit v = s.refuseRecord v.1 v.2 r 7) ∧
        (s.clashAt r x y = false →
          let free := (recClusters r x y).filter (fun c => s.clusterFree v.1 v.2 c)
          let taken := (recClusters r x y).filter (fun c => !s.clusterFree v.1 v.2 c)
          let z : Select := ⟨s.nextId, r, x, y, q.effective, free, taken, []⟩
          s.visit v = ((taken.foldl (fun w c => w.sendRecall c ⟨v.1, 0, q.effective, 1, v.2, z.num⟩)
            (s.bump.onTenant v.1 (fun t => t.onQueue v.2 (fun q => { q with selected := some z })))).plan
              (1 + s.freeN (v.1 * 64 + v.2) % 256) 0 .launchBind { a := v.1, b := v.2 }))))) ∧
  (∀ c r m h, s.holderOf c = some (m, h) → s.sendRecall c r =
    (s.onHolding m h (fun x => { x with recalls := x.recalls ++ [r] })).plan 1 0 .recallDelivery { a := m, b := h })

/-- Holdings (R290 to R292, R335 to R340): a recall is delivered into the registered routine, and answered as a refusal where there is none; it
releases at once a holding whose control context is not live; a missed FINISH forces its recall, at most once for a holding, and the first
forced recall of a bound launch pre-empts it; a departed holding leaves its cores and its cluster zero but for what caches hold. -/
def Sys2Proof.Claims.Holdings : Prop := ∀ s : State,
  let ln := s.subj.a
  let h := s.subj.b
  (∀ l r rest, s.launch ln = some l → (l.holding h).recalls = r :: rest → (l.holding h).present = true → (l.holding h).departing = false →
    (l.holding h).serving = none → l.forced = [] →
      let k := l.cluster h * 8
      let taken := s.onHolding ln h (fun y => { y with recalls := rest, serving := some r, summarised := false })
      ((s.ctxAt k 0).live = true → s.deliverable l h = true → (l.holding h).routine ≠ 0#64 →
        ∃ v, Does .recallDelivery s v ∧ (v.ctxAt k 0).sr = true ∧ (v.ctxAt k 0).pc = (l.holding h).routine ∧
          (v.ctxAt k 0).srLink = (s.ctxAt k 0).pc ∧ (v.ctxAt k 0).savAmb = (s.ctxAt k 0).ambient ∧ (v.ctxAt k 0).ambient = 0x0000#16 ∧
          (v.ctxAt k 0).hist = [none, none, none]) ∧
      ((s.ctxAt k 0).live = true → s.deliverable l h = true → (l.holding h).routine = 0#64 →
        Does .recallDelivery s (taken.refuseRecall ln h r)) ∧
      ((s.ctxAt k 0).live = true → s.deliverable l h = false → Does .recallDelivery s (s.plan 1 0 .recallDelivery s.subj)) ∧
      ((s.ctxAt k 0).live = false → (s.core k).frozen = false → Does .recallDelivery s (s.beginDeparture ln h))) ∧
  (∀ l, s.launch ln = some l → l.state = .bound ∨ l.state = .preempting → (l.holding h).recalls = [] →
    ((∀ f ∈ l.forced, f.1 ≠ h) → ∃ v l', Does .finishDeadline s v ∧ v.launch ln = some l' ∧
      l'.forced = l.forced ++ [(h, (l.holding h).serving)] ∧ (h < l.holdings.length → (l'.holding h).serving = none) ∧
      (l.forced = [] → l.state = .bound → ∃ y ∈ v.agenda, y.what = .preemption ∧ y.who.a = ln)) ∧
    ((∃ f ∈ l.forced, f.1 = h) → Does .finishDeadline s s)) ∧
  (∀ l, s.launch ln = some l → (l.holding h).departing = true → (l.holding h).present = true →
    (s.departureDone (l.cluster h) = false → Does .holdingDeparture s (s.plan 1 0 .holdingDeparture s.subj)) ∧
    (s.departureDone (l.cluster h) = true → (l.holding h).serving = none → (l.holding h).recalls = [] → ∃ v, Does .holdingDeparture s v ∧
      (∀ c, c < 8 → v.core (l.cluster h * 8 + c) = { Core.zero with regOld := (s.core (l.cluster h * 8 + c)).regOld }) ∧
      v.cluster (l.cluster h) = { Cluster.zero with icache := (s.cluster (l.cluster h)).icache } ∧
      ∃ l', v.launch ln = some l' ∧ (l'.holding h).present = false))

/-- Binding, the end of a launch, pre-emption and restoring (R329 to R332, R339, R358 to R362). -/
def Sys2Proof.Claims.LaunchLives : Prop := ∀ s : State,
  let ln := s.subj.a
  let h := s.subj.b
  (∀ sel, (s.queueAt (ln, h)).selected = some sel → sel.want = [] →
    let w := s.onTenant ln (fun x => x.onQueue h (fun y => { y with selected := some { sel with want := [], got := sel.got ++ [] } }))
    let n := recW sel.rcd * recH sel.rcd
    (w.freeSaves ln n).length = n → w.leasesResident sel.rcd = true → w.rangeResident (rw sel.rcd 6) (ctxBytes sel.rcd) = true →
    (∀ r ∈ w.freeSaves ln n, w.rangeResident ((w.tenant ln).saveBase.toNat + r * Config.saveSize) Config.saveSize = true) →
      Does .launchBind s (w.bind ln h { sel with want := [], got := sel.got ++ [] } (w.freeSaves ln n))) ∧
  (∀ sel, (s.queueAt (ln, h)).selected = some sel → sel.want ≠ [] → (∀ c ∈ sel.want, s.clusterFree ln h c = false) →
    (∀ x ∈ s.agenda, x.what = .launchBind → ¬(x.who.a = ln ∧ x.who.b = h)) →
    ∃ w : State, Does .launchBind s ((w.bringHome ln sel.rcd).plan (64 - s.now % 64) 0 .launchBind s.subj) ∧
      ∃ z : Select, (w.queueAt (ln, h)).selected = some z ∧ z.want = sel.want ∧ z.got = sel.got ∧ w.launches = s.launches) ∧
  (∀ r, s.leasesResident r = true ↔ ∀ va ∈ s.leasedPages r, s.homeResident va = true) ∧
  (∀ t q sel saves, let l := s.launchOfSel t q sel saves
    ∀ i ∈ l.here, ∀ c, c < 8 → ((s.bind t q sel saves).ctxAt (l.cluster i * 8 + c) 0).live = true ∧
      ((s.bind t q sel saves).ctxAt (l.cluster i * 8 + c) 0).pc = BitVec.ofNat 64 (l.word 0)) ∧
  (∀ l, s.launch ln = some l → l.state = .bound → (∀ k ∈ l.cores, ∀ t, t < 11 → (s.ctxAt k t).live = false) →
    let out := l.outGone + (l.cores.map (fun k => (s.core k).evOut)).foldl (· + ·) 0
    out = l.inGone + (l.cores.map (fun k => (s.core k).evIn)).foldl (· + ·) 0 → l.sweep = some (out, out) →
    (∀ r ∈ s.reqs, r.launch = ln → r.isStore = false) → (∀ r ∈ s.late, r.2.launch ≠ ln) → Does .launchEndSweep s (s.retire ln 0 2)) ∧
  (∀ l, s.launch ln = some l →
    (l.state = .bound → l.forced ≠ [] → s.preemptHeld l = false → Does .preemption s ((s.stopLaunch l).plan 1 0 .preemption s.subj)) ∧
    (l.state = .bound → l.forced ≠ [] → s.preemptHeld l = true → Does .preemption s (s.plan 1 0 .preemption s.subj)) ∧
    (l.state = .preempting → s.quiet l = true → Does .preemption s (s.sealLaunch l)) ∧
    (l.state = .preempting → s.quiet l = false → Does .preemption s (s.plan 1 0 .preemption s.subj)) ∧
    (l.state = .preempted → (∀ i ∈ l.here, s.positionFree l i = true) → s.restorable l = true →
      Does .restore s ((s.beginRestore l).plan 1 0 .restore s.subj)) ∧
    (l.state = .restoring → (∀ q ∈ l.here.map l.cluster, ∀ j ∈ (s.cluster q).jobs, j.captured = true ∨ j.landed = true) →
      Does .restore s (s.endRestore l)))

/-- Launches and their holdings (R290 to R292, R321, R327 to R340, R358 to R362). -/
def Obligations.LaunchSteps : Prop :=
  Claims.Records ∧ Claims.Recalls ∧ Claims.Placement ∧ Claims.Rounds ∧ Claims.Holdings ∧ Claims.LaunchLives

/-- An access of the host through BAR 2 (R34, R379): over a link that is down nothing arrives; outside the window or without its right in WCFG a
read completes with Completer Abort and a write is discarded; else the access is a request at the home of WBASE + o (as entry 66 says, the
model's choice: it walks and fills as any other). There a write waits for the page's move, and a page with CW is copied first; a page
unmapped, of the host, or that the access may not touch ends it as above; else a read answers with the line's bytes, and a write puts its
bytes into the line, which is dirty then: a word that it completes takes label TRUE, another keeps its label. -/
def Sys2Proof.Claims.HostAccesses : Prop := ∀ (s : State) t off w d, 0 < w → w ≤ 8 →
  let va := (s.tenant t).wBase.toNat + off
  let sent (write : Bool) (d : Dword) : State :=
    { s with nextId := s.nextId + 1, reqs := s.reqs ++ [s.outsideReq t (.bar write) va w d] }
  let rd : Req := s.outsideReq t (.bar false) va w 0#64
  let wr : Req := s.outsideReq t (.bar true) va w d
  let aborts : Prop := ∃ v, Does (.hostBar2Read t off w) s v ∧ v.hostOut = s.hostOut ++ [.abort t] ∧ v.lines = s.lines ∧ v.mem = s.mem
  let discards : Prop := ∃ v, Does (.hostBar2Write t off w d) s v ∧ v.hostOut = s.hostOut ∧ v.lines = s.lines ∧ v.mem = s.mem
  let first : Prop := ∀ q ∈ s.reqs, q.core = 2 ^ 20 + t → q.op = .bar true → s.nextId ≤ q.id
  (s.reaches t = false → Does (.hostBar2Read t off w) s s ∧ Does (.hostBar2Write t off w d) s s) ∧
  (s.reaches t = true → (s.bar2Ok t off w 8 = false → aborts) ∧ (s.bar2Ok t off w 9 = false → discards)) ∧
  (s.reaches t = true → s.bar2Ok t off w 8 = true → first → let g := s.gate t false va
    ((∃ e, g = .host e) ∨ (∃ k, g = .park k) → aborts) ∧
    (g = .walk → Does (.hostBar2Read t off w) s ((sent false 0#64).plan 1 0 .translationWalk { a := rd.id })) ∧
    (∀ e l, g = .ready (some e) → e.leaf.hl = true → s.line (va / 64) = some l → aborts) ∧
    (∀ e l, g = .ready (some e) → e.leaf.hl = false → s.line (va / 64) = some l → va % 64 + w ≤ 64 →
      ∃ v, Does (.hostBar2Read t off w) s v ∧ v.lines = s.lines ∧ v.hostOut = s.hostOut ++ [.data t (BitVec.ofNat 64 (leNat
        ((List.range w).map (fun i => BitVec.ofNat 8 ((l.words.getD ((va + i) / 4 % 16) (0#32, 0x0000#16)).1.toNat / 2 ^ (8 * ((va + i) % 4)) % 256)))))])) ∧
  (s.reaches t = true → s.bar2Ok t off w 9 = true → first → let g := s.gate t true va
    ((∃ e, g = .host e) ∨ (∃ k, g = .park k) ∨ g = .rights → discards) ∧
    (g = .walk → Does (.hostBar2Write t off w d) s ((sent true d).plan 1 0 .translationWalk { a := wr.id })) ∧
    (g = .wait → Does (.hostBar2Write t off w d) s ((sent true d).retry wr 16)) ∧
    (∀ e, g = .cow e → Does (.hostBar2Write t off w d) s ((sent true d).parkCow ((sent true d).reqPark wr 3) e.leaf e.size)) ∧
    (∀ e l, g = .ready (some e) → e.leaf.hl = false → s.line (va / 64) = some l → l.words.length = 16 → va % 4 + w ≤ 4 →
      ∃ v x, Does (.hostBar2Write t off w d) s v ∧ v.mem = s.mem ∧ v.hostOut = s.hostOut ∧ v.line (va / 64) = some x ∧ x.dirty = true ∧
        v.slotWord va = (mergeWord (s.slotWord va).1 (va % 4) w d.toNat, if w = 4 then 0x0000#16 else (s.slotWord va).2) ∧
        ∀ a, a / 4 ≠ va / 4 → v.slotWord a = s.slotWord a))

/-- What the host does to the module's registers and windows (R27, R321, R352, R356, R372 to R380, R393): what arrives over a link that is not in L0
does nothing (which of the host's words go over a tenant's link is entry 115, the model's choice); the physical window reads and writes memory itself; a
TFLUSH drops the leaf after a time that the manual leaves open (entry 3), and BUSY reads 1 until the last invalidation under way is done;
a doorbell out of bounds turns its queue off; a failure answer of the current generation ends the accesses parked on its page (one page may
be 32 MiB) and frees the page's staging page, one of another generation frees that alone; a tenant reset turns the queues off, and after a
time that the manual leaves open kills the launches, advances GEN and fires vector 3 (entries 68 and 71: the model's choices). -/
def Sys2Proof.Claims.HostSteps : Prop := ∀ s : State,
  (∀ off w d, let pa := s.pwBase.toNat + off
    (s.windowOk s.pwBase.toNat = true → off + w ≤ 65536 →
      (∃ v, Does (.physicalWindowAccess true off w d) s v ∧ v.mem = Sparse.putBytes s.mem pa (leBytes w d.toNat) ∧ v.lines = s.lines) ∧
      Does (.physicalWindowAccess false off w d) s { s with hostOut := s.hostOut ++ [.window (BitVec.ofNat 64 (leNat (Sparse.bytes s.mem pa w)))] }) ∧
    (s.windowOk s.pwBase.toNat = false → Does (.physicalWindowAccess true off w d) s s ∧
      Does (.physicalWindowAccess false off w d) s { s with hostOut := s.hostOut ++ [.window 0#64] })) ∧
  (∀ va : Dword,
    (s.subj.a = 1 → ∃ v, Does (.tflushWrite va) s v ∧
      (v.tflushBusy = true ↔ ∃ x ∈ s.agenda, (∃ u, x.what = .tflushWrite u) ∧ x.who.a = 1) ∧
      (∀ e ∈ v.tcache, ¬(e.page = va.toNat / e.size ∧ e.slice / 128 = homeDie va.toNat))) ∧
    (s.subj.a ≠ 1 → ∃ v x, Does (.tflushWrite va) s v ∧ v.tflushBusy = true ∧ v.tcache = s.tcache ∧ x ∈ v.agenda ∧
      x.what = .tflushWrite va ∧ x.who.a = 1)) ∧
  (∀ t q x, (s.subj.a = 0 → s.reaches t = false → Does (.queueDoorbell t q x) s s ∧ Does (.queueCfgWrite t q x) s s) ∧
    (s.subj.a ≠ 0 ∨ s.reaches t = true →
      (∃ v, Does (.queueDoorbell t q x) s v ∧ ((v.tenant t).queue q).tail = x ∧
        ((x.toNat < ((s.tenant t).queue q).head.toNat ∨
            2 ^ (((s.tenant t).queue q).cfg.toNat % 32) < x.toNat - ((s.tenant t).queue q).head.toNat) →
          ((v.tenant t).queue q).cfg.getLsbD 63 = false)) ∧
      (∃ v, Does (.queueCfgWrite t q x) s v ∧ ((v.tenant t).queue q).cfg.getLsbD 63 = x.getLsbD 63 ∧
        ((v.tenant t).queue q).cfg.toNat % 32 = min 16 (x.toNat % 32) ∧ ((v.tenant t).queue q).cfg.toNat / 2 ^ 8 % 8 = x.toNat / 2 ^ 8 % 8))) ∧
  (∀ t x, ∃ v, Does (.faultBufferHeadWrite t x) s v ∧
    (v.tenant t).fbHead = if x.toNat ≤ (s.tenant t).fbTail then x.toNat else (s.tenant t).fbHead) ∧
  (∃ v, Does .faultBufferFlush s v ∧ (v.tenant s.subj.a).fbHead = (s.tenant s.subj.a).fbTail ∧
    (v.tenant s.subj.a).gen = (s.tenant s.subj.a).gen + 1) ∧
  (∀ t (g : Dword) b, let page := (s.tenant t).ansPage.toNat / 2 ^ 16 % 2 ^ 40
    (b = true → s.reaches t = false → Does (.failureAnswer t g b) s s) ∧
    (b = false ∨ s.reaches t = true →
      (g.toNat ≠ (s.tenant t).gen → Does (.failureAnswer t g b) s (if b then s.unstage t page else s)) ∧
      (g.toNat = (s.tenant t).gen → Does (.failureAnswer t g b) s
        ((s.unstage t page).unpark (fun p => p.tenant == t && page * 65536 / p.size == p.va / p.size)
          (fun s r => if r.op = .sys 5 then s.refuseMove r else s.refuse r 0x08) (fun s j => s.jobHalt j (.bad 0x08 (page * 65536))))))) ∧
  (∀ t x, (s.reaches t = false → Does (.nqheadWrite t x) s s) ∧ (s.reaches t = true → ∃ v, Does (.nqheadWrite t x) s v ∧
    (v.tenant t).nqHead = if x.toNat ≤ (s.tenant t).nqTail then x.toNat else (s.tenant t).nqHead)) ∧
  (∀ n x, ((∃ p ∈ s.launches, p.2.domain = some n) → Does (.directoryWrite n x) s s) ∧
    ((∀ p ∈ s.launches, p.2.domain ≠ some n) → ∃ v, Does (.directoryWrite n x) s v ∧
      v.directory.get n 0#64 = (x &&& 0xFEFFFFFFFFFF0000#64))) ∧
  (∀ i up, i < 4 → ∃ v, Does (.pcieLinkStateChange i up) s v ∧ v.pcie.getLsbD i = (if s.linksL0.getLsbD i then up else s.pcie.getLsbD i)) ∧
  (let t := s.subj.a
   (s.subj.b = 0 → (s.tenant t).resetBusy = false → ∃ v, Does .tenantReset s v ∧ (v.tenant t).resetBusy = true ∧
     ∀ p ∈ (v.tenant t).queues, p.2.cfg.getLsbD 63 = false) ∧
   (s.subj.b = 0 → (s.tenant t).resetBusy = true → Does .tenantReset s s) ∧
   (s.subj.b ≠ 0 → ∃ v, Does .tenantReset s v ∧ (v.tenant t).resetBusy = false ∧ (v.tenant t).packets = [] ∧
     (v.tenant t).nqHead = (v.tenant t).nqTail ∧ (t, 3) ∈ v.msix))

/-- `off` lies in one of the ranges of `l`, each a first offset and a size. -/
def within (off : Nat) (l : List (Nat × Nat)) : Prop := ∃ r ∈ l, r.1 ≤ off ∧ off < r.1 + r.2

/-- What the host finds in the BARs (R374 to R377, R389, R392): a word that a table lists, under its offset; an offset that none lists reads as zero and
a write to it does nothing. -/
def HostOffsets (s : State) (x : Dword) : Prop :=
  (∀ off, ¬within off [(0, 0x1000), (0x10000, 0x2000), (0x20000, 0x800), (0x30000, 768), (0x40000, 512), (0x80000, 16), (0x90000, 0x10000)] →
    s.physRead off = 0#64 ∧ physWrite off x = []) ∧
  (∀ t off, ¬within off [(0, 0x2000), (0x2000, 16), (0x2100, 40), (0x2200, 256), (0x2300, 16)] → s.virtRead t off = 0#64 ∧ virtWrite t off x = []) ∧
  (∀ off, ¬within off [(0, 24), (0x100, 768), (0x800, 0x800)] → s.mgmtRead off = 0#64 ∧ mgmtWrite off x = []) ∧
  (∀ n, n < 1024 → s.physRead (0x10000 + 8 * n) = BitVec.ofNat 64 (s.dirEntry n) ∧
    physWrite (0x10000 + 8 * n) x = [(.directoryWrite n x, {})]) ∧
  (∀ t, t < 32 → s.physRead (0x20000 + 64 * t) = (s.tenant t).wBase ∧ s.physRead (0x20000 + 64 * t + 8) = (s.tenant t).wCfg ∧
    physWrite (0x20000 + 64 * t) x = [(.registerWrite (.wBase t) x, {})] ∧ physWrite (0x20000 + 64 * t + 0x30) x = []) ∧
  (∀ n, n < 16 → s.physRead (0x40000 + 32 * n) = (s.nlink n).inBase ∧ s.physRead (0x40000 + 32 * n + 8) = (s.nlink n).inCfg ∧
    physWrite (0x40000 + 32 * n + 16) x = []) ∧
  s.physRead 0x80000 = s.pwBase ∧ s.physRead 0x80008 = (if s.tflushBusy then 1#64 else 0#64) ∧
  physWrite 0x80000 x = [(.registerWrite .pwBase x, {})] ∧ physWrite 0x80008 x = [(.tflushWrite x, {})] ∧
  (∀ n, n < 0x2000 → physWrite (0x90000 + 8 * n) x = [(.physicalWindowAccess true (8 * n) 8 x, {})]) ∧
  (∀ t, s.virtRead t 0x2000 = (s.tenant t).ansPage ∧ s.virtRead t 0x2100 = (s.tenant t).nqBase ∧ virtWrite t 0x2118 x = []) ∧
  s.mgmtRead 0 = BitVec.ofNat 64 s.mstate ∧ mgmtWrite 0 x = [] ∧ mgmtWrite 8 x = [(.pcapWrite x, {})]

/-- A host register written holds what was written, its reserved bits zero, and the host finds each at its offset (R321, R352, R374 to R377, R382, R384,
R385, R389, R392, R395); one of a virtual function, only while its link is in L0 (R393; entry 115). -/
def Sys2Proof.Claims.HostRegisters : Prop := ∀ (s : State) (x : Dword) t q,
  let is (r : HostReg) (f : State → Prop) : Prop := ∃ v, Does (.registerWrite r x) s v ∧ f v ∧ v.mem = s.mem ∧ v.cores = s.cores
  let own (r : HostReg) (f : State → Prop) : Prop := (s.reaches t = true → is r f) ∧ (s.reaches t = false → Does (.registerWrite r x) s s)
  HostOffsets s x ∧
  own (.queueBase t q) (fun v => ((v.tenant t).queue q).base = x) ∧ own (.ansPage t) (fun v => (v.tenant t).ansPage = (x &&& 0x00FFFFFFFFFF0000#64)) ∧
  own (.nqBase t) (fun v => (v.tenant t).nqBase = x) ∧ own (.nqCfg t) (fun v => (v.tenant t).nqCfg = (x &&& 0x800000000000001F#64)) ∧
  own (.nqStat t) (fun v => (v.tenant t).nqOvf = ((s.tenant t).nqOvf && !x.getLsbD 0)) ∧
  is (.fbStat t) (fun v => (v.tenant t).fbOvf = ((s.tenant t).fbOvf && !x.getLsbD 0)) ∧
  own (.puba t q) (fun v => (v.tenant t).puba.get q 0#64 = x) ∧ own (.spBase t) (fun v => (v.tenant t).spBase = x) ∧
  own (.spCount t) (fun v => (v.tenant t).spCount = x.toNat % 2 ^ 32) ∧ is (.wBase t) (fun v => (v.tenant t).wBase = x) ∧
  is (.wCfg t) (fun v => (v.tenant t).wCfg = (x &&& 0x33F#64)) ∧ is (.saveBase t) (fun v => (v.tenant t).saveBase = x) ∧
  is (.saveCnt t) (fun v => (v.tenant t).saveCnt = x) ∧ is (.rThresh t) (fun v => (v.tenant t).rThresh = x) ∧
  is (.aperOwner t q) (fun v => v.aperOwner.get (t * 16 + q) 0#8 = (x.setWidth 8 &&& 0x9F#8)) ∧
  (t < 16 → is (.inBase t) (fun v => (v.nlink t).inBase = x) ∧ is (.inCfg t) (fun v => (v.nlink t).inCfg = (x &&& 0xF003FFFFFFFFFFFF#64))) ∧
  is .pwBase (fun v => v.pwBase = (x &&& 0x0003FFFFFFFF0000#64)) ∧
  (t < 4 → s.mailbox.nonce.length = 32 → is (.nonce t) (fun v => ∀ i, i < 8 → v.mailbox.nonce.getD (8 * t + i) 0#8 =
    BitVec.ofNat 8 (x.toNat / 2 ^ (8 * i))))

/-- What the host does to the module (R27, R34, R321, R352, R356, R372 to R382, R393): its accesses, its steps and its registers. -/
def Obligations.HostSide : Prop := Claims.HostAccesses ∧ Claims.HostSteps ∧ Claims.HostRegisters

/-- Bring-up (R392 to R394): its steps in order, of which the first that fails sets FATAL and DIE and is the last; images that are refused in
both copies fail step 2; root registers and their frames are written from step 4 on, memory is clear from step 7 on (what a core, a link or
a tenant holds before is entry 6, that memory reads as zero until it is written entry 7, and what decides a step's outcome entry 88: the
model's choices); the module is ready once each PCI Express link is up or absent, unless all are absent. -/
def Sys2Proof.Claims.BringsUp : Prop := ∀ s : State,
  (∀ o i, i ∈ [Instr.powerUp o, .moduleReset o] → ∃ v, Does i s v ∧ v.lines = [] ∧ v.cores = [] ∧ v.launches = [] ∧
    let stops (n d : Nat) : Prop := v.ready = false ∧ v.fatal = true ∧ v.mStep = n ∧ v.mDie = d ∧ (n ≤ 3 → v.mem = s.mem ∧ v.root = []) ∧
      (4 ≤ n → ∀ k, k < 48 → v.root.get k 0 = k * 2 ^ 42 ∧ ∀ a, a < 65536 → v.mem.get (k * 2 ^ 42 + a) = 0#8)
    (o.fail = none → (loadImages o.flash).isSome = true → o.l0 = 0xF#4 →
      v.ready = true ∧ v.fatal = false ∧ v.mStep = 9 ∧ v.pcie = 0xF#4 ∧ v.mem = [] ∧ v.mailbox.images = (loadImages o.flash).getD []) ∧
    (o.fail = none → (loadImages o.flash).isSome = true → o.l0 ≠ 0xF#4 → v.ready = false ∧ v.fatal = false ∧ v.mStep = 7 ∧
      ∀ i, i < 4 → o.l0.getLsbD i = false → ∃ x ∈ v.agenda, x.what = .pcieTrainTimeout ∧ x.who.a = i ∧ x.key = 4 * 225000000) ∧
    (∀ n d, 1 ≤ n → n ≤ 6 → o.fail = some (n, d) → n = 1 ∨ ((loadImages o.flash).isSome = true ∧ n ≠ 2) → stops n d) ∧
    (loadImages o.flash = none → (∀ d, o.fail ≠ some (1, d)) → ∃ d, stops 2 d)) ∧
  (∀ i x y, imageOk i x = true → loadImage i (x, y) = some x) ∧
  (∀ i x y, imageOk i x = false → loadImage i (x, y) = if imageOk i y then some y else none) ∧
  (∀ i x, imageOk i x = true ↔
    (x.key = Config.fusedKey ∧ x.signed = true ∧ (Config.fusedMinimum i).toNat ≤ x.version.toNat)) ∧
  (∀ flash is, loadImages flash = some is → is.length = 5 ∧ ∀ i, i < 5 → ∃ c, flash[i]? = some c ∧ loadImage i c = is[i]?) ∧
  (s.ready = false → s.fatal = false → (∀ x ∈ s.agenda, x.what ≠ .pcieTrainTimeout) →
    (s.linksL0 ≠ 0#4 → ∃ v, Does .pcieTrainTimeout s v ∧ v.ready = true ∧ v.mStep = 9 ∧ ∀ i, i < 16 → (v.nlink i).state = .detect) ∧
    (s.linksL0 = 0#4 → ∃ v, Does .pcieTrainTimeout s v ∧ v.ready = false ∧ v.fatal = true ∧ v.mStep = 7)) ∧
  Does .configRequest s { s with hostOut := s.hostOut ++ [.config s.subj.a (!s.ready)] }

/-- Power and clock (R392, R397 to R399): the limit stays between its bounds; a sample lowers the clock by a state when the mean of the power
over the last 1 ms exceeds WATTS or a die is above 95 °C, and raises it after 10 ms of power below 90 % and every die below 90 °C (the mean
and the counting of samples are entry 111, the model's choice); a die above 105 °C stops the module for good; a change of clock leaves every
latency in cycles as it was, and a time fixed in nanoseconds takes its cycles of the new clock (entry 70). -/
def Sys2Proof.Claims.Power : Prop := ∀ s : State,
  (∀ x : Dword, Does (.pcapWrite x) s { s with watts := max 8000 (min 24000 (x.toNat % 2 ^ 15)) }) ∧
  (∀ ps rest calm, s.railOff = false → (∀ p ∈ ps, p.2 ≤ 840) →
    let now := ps.foldl (fun n p => n + p.1) rest
    let last := (now :: s.powers).take 10
    let down := s.watts * 1000 * last.length < last.foldl (· + ·) 0 ∨ ∃ p ∈ ps, 760 < p.2
    let low := calm = true ∧ now < s.watts * 900 ∧ ∀ p ∈ ps, p.2 < 720
    ∃ v, Does (.telemetrySample ps rest calm) s v ∧ v.telemetry = ps ∧ v.powers = last ∧ v.mem = s.mem ∧ v.cores = s.cores ∧
      (down → v.pstate = min 4 (s.pstate + 1) ∧ v.calm = 0) ∧
      (¬down → low → 100 ≤ s.calm + 1 → v.pstate = s.pstate - 1 ∧ v.calm = 0) ∧
      (¬down → low → s.calm + 1 < 100 → v.pstate = s.pstate ∧ v.calm = s.calm + 1 ∧ v.agenda = s.agenda) ∧
      (¬down → ¬low → v.pstate = s.pstate ∧ v.calm = 0 ∧ v.agenda = s.agenda)) ∧
  (∀ ps rest calm p, s.railOff = false → p ∈ ps → 840 < p.2 → ∃ v i q, Does (.telemetrySample ps rest calm) s v ∧ v.fatal = true ∧
    v.mStep = 0xF0 ∧ v.mDie = i ∧ ps[i]? = some q ∧ 840 < q.2 ∧ v.reqs = [] ∧ ∀ x ∈ v.agenda, outside x.what = true) ∧
  (∀ st, let v := s.setClock st
    let scaled (n : Nat) : Nat := n * clockMHz st / clockMHz s.pstate
    v.pstate = st ∧ v.now = s.now ∧
    (∀ x ∈ s.agenda, timedInNs x.what = false → x ∈ v.agenda) ∧
    (∀ x ∈ s.agenda, timedInNs x.what = true →
      { x with key := 4 * (s.now + scaled (x.key / 4 - s.now)) + x.key % 4 } ∈ v.agenda)) ∧
  (∀ us, s.micros us = us * (if s.pstate = 0 then 2250 else if s.pstate = 1 then 2000 else if s.pstate = 2 then 1750
    else if s.pstate = 3 then 1500 else 1125))

/-- The attestation mailbox (R394, R395): a command while it is busy is ignored; a report is over the nonce that its command found; the current
output's length, its pages and its bytes, of which the key, the signature and the digest of the fuses are free values (entry 15). -/
def Sys2Proof.Claims.Attestation : Prop := ∀ s : State,
  (s.mailbox.status = 1 → Does .attestMakeReport s s ∧ Does .attestFetchKey s s ∧ (∀ n, Does (.attestReadPage n) s s) ∧
    ∃ v, Does .attestReportReady s v ∧ v.mailbox =
      { s.mailbox with status := 2, output := 1, page := 0, used := s.mailbox.building, made := s.mailbox.made + 1 }) ∧
  (s.mailbox.status ≠ 1 →
    (∃ v x, Does .attestMakeReport s v ∧ v.mailbox = { s.mailbox with status := 1, building := s.mailbox.nonce } ∧
      x ∈ v.agenda ∧ x.what = .attestReportReady ∧ x.key ≤ 4 * (s.now + s.micros 50000)) ∧
    (∃ v, Does .attestFetchKey s v ∧ v.mailbox = { s.mailbox with status := 2, output := 2, page := 0 }) ∧
    (∀ n : BitVec 8, let pages := if s.mailbox.output = 1 then 4 else if s.mailbox.output = 2 then 2 else 0
      ∃ v, Does (.attestReadPage n) s v ∧
        v.mailbox = (if n.toNat < pages then { s.mailbox with status := 2, page := n.toNat } else { s.mailbox with status := 3 }))) ∧
  (∀ m : Mailbox, let image (i : Nat) : FlashImage := m.images.getD i default
    (∀ i, m.data i = m.byte (1024 * m.page + i)) ∧
    (m.output = 1 → m.astat = m.status + 3553 * 2 ^ 16 + 4 * 2 ^ 32 ∧ (∀ i, 3553 ≤ i → m.byte i = 0#8) ∧
      (∀ i, i < 32 → m.byte i = m.used.getD i 0#8) ∧
      (∀ n i, n < 5 → i < 32 → m.byte (0x20 + 32 * n + i) = (image n).digest.getD i 0#8) ∧
      (∀ i, i < 32 → m.byte (0xC0 + i) = Config.fuseDigest i) ∧
      (∀ n i, n < 5 → i < 4 → m.byte (0xE0 + 4 * n + i) = BitVec.ofNat 8 ((image n).version.toNat / 2 ^ (8 * i))) ∧
      (∀ i, i < 3309 → m.byte (0xF4 + i) = Config.signature ((List.range 0xF4).map m.byte) m.made i)) ∧
    (m.output = 2 → m.astat = m.status + 1952 * 2 ^ 16 + 2 * 2 ^ 32 ∧ (∀ i, i < 1952 → m.byte i = Config.keyByte i) ∧
      ∀ i, 1952 ≤ i → m.byte i = 0#8))

/-- The Genhild controller (R392 to R399): bring-up, power and clock, attestation. -/
def Obligations.ControllerSteps : Prop := Claims.BringsUp ∧ Claims.Power ∧ Claims.Attestation

/-- A link's training (R386, R389, R391): the states in order, the limit of each, its end in DOWN and the retry; EXCHANGE fixes the inbound
domain and sends the capability flit, and becomes ACTIVE once each side has acknowledged the other's. -/
def Sys2Proof.Claims.Training : Prop := ∀ s : State, let n := s.subj.a
  n < 16 →
    let l := s.nlink n
    let enters (st : NState) (v : State) : Prop := Does .nelrekStateAdvance s v ∧ (v.nlink n).state = st ∧ (v.nlink n).entered = s.now
    let limit (us : Nat) (v : State) : Prop :=
      { key := 4 * (s.now + s.micros us), what := .nelrekStateTimeout, who := { a := n, b := s.now } } ∈ v.agenda
    (s.railOff = false →
      (l.state = .detect → ∃ v, enters .equalise v ∧ limit 2000 v) ∧ (l.state = .equalise → ∃ v, enters .deskew v ∧ limit 50 v) ∧
      (l.state = .deskew → ∃ v, enters .exchange v ∧ limit 10 v ∧ (v.nlink n).domain = l.inCfg.toNat / 2 ^ 40 % 2 ^ 10 ∧ (v.nlink n).peer = none ∧
        (l.sendq = [] → l.replayBuf = [] → l.stopIn = 0#8 → ∃ f c, v.linkOut = s.linkOut ++ [f] ∧ f.link = n ∧ f.msg = some (.caps c) ∧
          c.identity = Config.moduleIdentity ∧ c.number = n ∧ c.domain = (v.nlink n).domain)) ∧
      (l.state = .exchange → l.exchanged = true → ∃ v, enters .active v ∧ (v.nlink n).domain = l.domain) ∧
      (l.state = .exchange → l.exchanged = false → Does .nelrekStateAdvance s s) ∧
      (l.state = .active → Does .nelrekStateAdvance s (s.linkDown n))) ∧
    (l.exchanged = true ↔ l.state = .exchange ∧ l.peer ≠ none ∧ l.replayBuf = [] ∧ l.sendq = []) ∧
    (l.state = .equalise ∨ l.state = .deskew ∨ l.state = .exchange →
      (l.entered = s.subj.b → ∃ v, Does .nelrekStateTimeout s v ∧ (v.nlink n).state = .down ∧ (v.nlink n).downs = (l.downs + 1) % 2 ^ 16 ∧
        ∃ x ∈ v.agenda, x.what = .nelrekRetry ∧ x.who.a = n) ∧
      (l.entered ≠ s.subj.b → Does .nelrekStateTimeout s s)) ∧
    (l.state = .down → ∃ v, Does .nelrekRetry s v ∧ (v.nlink n).state = .detect)

/-- A flit that arrives on a link that is up (R387, R388): one that is damaged is answered by NAK; one of the number that is due is taken, then its
header read; one that repeats the last number carries its header alone (entry 16); one of any other number leaves a gap: NAK, then its
header. A flit taken stands in its lane until it is read, in order, within 64 cycles (entry 16); its place is free then, and its message's
step follows. STOP is set for a lane with 8 places or fewer free and cleared at 32. -/
def Sys2Proof.Claims.FlitsIn : Prop := ∀ (s : State) n f, n < 16 →
  let l := s.nlink n
  let h := f.header.toNat
  let seq := h / 2 ^ 3 % 2 ^ 12
  let lane := h % 8
  (l.sends = true ↔ l.state = .active ∨ l.state = .exchange) ∧
  (l.sends = false ∨ s.railOff = true → Does (.flitReceive n f) s s) ∧
  (l.sends = true → s.railOff = false → s.subj.a ≠ 1 →
    (flitWhole f = false → Does (.flitReceive n f) s (s.reply n true)) ∧
    (flitWhole f = true → seq = l.rxSeq → Does (.flitReceive n f) s ((s.takeFlit n f).takeHeader n h)) ∧
    (flitWhole f = true → seq ≠ l.rxSeq → seq = (l.rxSeq + 4095) % 4096 → Does (.flitReceive n f) s (s.takeHeader n h)) ∧
    (flitWhole f = true → seq ≠ l.rxSeq → seq ≠ (l.rxSeq + 4095) % 4096 → Does (.flitReceive n f) s ((s.reply n true).takeHeader n h))) ∧
  (flitWhole f = true ↔ f.payload.length = 240 ∧ f.crc = crc64 (leBytes 8 h ++ f.payload)) ∧
  (∀ nak, ∃ x, s.reply n nak = { s with linkOut := s.linkOut ++ [x] } ∧ x.link = n ∧ x.msg = none ∧ flitWhole x.flit = true ∧
    x.flit.header.getLsbD 27 = nak ∧ x.flit.header.toNat / 2 ^ 15 % 2 ^ 12 = (l.rxSeq + 4095) % 4096 ∧
    x.flit.header.toNat / 2 ^ 28 % 2 ^ 8 = l.stop.toNat) ∧
  (let v := s.takeFlit n f
   let held := vget l.rxCount lane 0 + 1
   (v.nlink n).rxSeq = (l.rxSeq + 1) % 4096 ∧ vget (v.nlink n).rxCount lane 0 = held ∧ (56 ≤ held → (v.nlink n).stop.getLsbD lane = true) ∧
   (∀ i, i < 8 → i ≠ lane → vget (v.nlink n).rxCount i 0 = vget l.rxCount i 0 ∧ (v.nlink n).stop.getLsbD i = l.stop.getLsbD i) ∧
   ∃ x ∈ v.agenda, x.what = .flitReceive n f ∧ x.who.a = 1 ∧ x.who.b = lane ∧ x.key ≤ 4 * (s.now + 64)) ∧
  (l.sends = true → s.railOff = false → s.subj.a = 1 → s.subj.b < 8 →
    (∀ x ∈ s.agenda, drains n x = true → x.who.b = s.subj.b → s.subj.c ≤ x.who.c) →
    let held := vget l.rxCount s.subj.b 0 - 1
    ∃ v, Does (.flitReceive n f) s v ∧ vget (v.nlink n).rxCount s.subj.b 0 = held ∧ (held ≤ 32 → (v.nlink n).stop.getLsbD s.subj.b = false) ∧
      (∀ i, Config.readPayload f.payload = some i → s.subj.d = 0 → peerStep n i = true → ∃ x ∈ v.agenda, x.what = i ∧ x.key = 4 * s.now))

/-- The flits that a link has sent (R387, R388): each carries the next sequence number and stays in the replay buffer, of 128 places, until it
is acknowledged; a stopped lane holds its messages. A header takes the acknowledged flits out; with NAK the rest are sent again as they were
numbered, and the eighth time in a row for the first of them the link goes to DOWN. -/
def Sys2Proof.Claims.FlitsOut : Prop := ∀ (s : State) n, n < 16 →
  let l := s.nlink n
  (∀ m, l.sends = true → l.sendq = [] → l.txSeq < 4096 →
    (l.replayBuf.length < 128 → l.stopIn.getLsbD m.lane = false → ∃ f, (s.toLink n m).linkOut = s.linkOut ++ [f] ∧ f.msg = some m ∧
      flitWhole f.flit = true ∧ f.flit.header.toNat / 2 ^ 3 % 2 ^ 12 = l.txSeq ∧ f.flit.header.toNat % 8 = m.lane ∧
      ((s.toLink n m).nlink n).replayBuf = l.replayBuf ++ [(l.txSeq, m)] ∧ ((s.toLink n m).nlink n).txSeq = (l.txSeq + 1) % 4096) ∧
    (128 ≤ l.replayBuf.length ∨ l.stopIn.getLsbD m.lane = true → (s.toLink n m).linkOut = s.linkOut ∧
      ((s.toLink n m).nlink n).sendq = [m] ∧ ((s.toLink n m).nlink n).replayBuf = l.replayBuf)) ∧
  (∀ m, l.sends = false → s.toLink n m = s) ∧
  (∀ kept gone q, l.replayBuf = gone ++ q :: kept → (∀ p ∈ gone, p.1 ≠ q.1) → ∀ h : Nat, h / 2 ^ 15 % 2 ^ 12 = q.1 →
    let v := s.takeHeader n h
    (h.testBit 27 = false → l.sends = true → l.exchanged = false → (l.state = .exchange → kept ≠ []) → l.sendq = [] →
      (v.nlink n).replayBuf = kept ∧ (v.nlink n).stopIn = BitVec.ofNat 8 (h / 2 ^ 28)) ∧
    (h.testBit 27 = true → kept ≠ [] → kept.head? ≠ l.replayBuf.head? → (v.nlink n).replayBuf = kept ∧ (v.nlink n).replays = 1 ∧
      ∃ fs, v.linkOut = s.linkOut ++ fs ∧ fs.map LinkFlit.msg = kept.map (fun q => some q.2) ∧
        fs.map (fun f => f.flit.header.toNat / 2 ^ 3 % 2 ^ 12) = kept.map (fun q => q.1 % 4096))) ∧
  (∀ h : Nat, h.testBit 27 = true → l.replayBuf ≠ [] → (∀ q ∈ l.replayBuf, q.1 ≠ h / 2 ^ 15 % 2 ^ 12) →
    let v := s.takeHeader n h
    (l.replays < 7 → (v.nlink n).replayBuf = l.replayBuf ∧ (v.nlink n).replays = l.replays + 1) ∧
    (7 ≤ l.replays → ∃ w : State, v = w.linkDown n ∧ w.mem = s.mem ∧ w.domOps = s.domOps ∧ (w.nlink n).pairs = l.pairs))

/-- A peer's access through the inbound window (R34, R389): outside the window's size or without a right it is answered as a failure; else it
is performed at its home, as a request that walks and parks as any other, for the tenant of the inbound domain or of a lease over the address
(entry 67, the model's choice); a read answers with the words in the peer's labels, a write once it is performed. -/
def Sys2Proof.Claims.PeerAccesses : Prop := ∀ (s : State) n acc,
  let l := s.nlink n
  let va := l.inBase.toNat + acc.off
  let r := s.outsideReq (s.peerTenant n va) (.peer n acc) va acc.width acc.data
  let u : State := { s with nextId := s.nextId + 1, reqs := s.reqs ++ [r] }
  let cfg (i : Nat) : Prop := l.inCfg.getLsbD i = true
  let reads := acc.kind = 0 ∨ acc.kind = 3 ∨ (16 ≤ acc.kind ∧ acc.kind < 32)
  (l.allows acc = true ↔ cfg 63 ∧ acc.off + acc.width ≤ l.inCfg.toNat % 2 ^ 40 ∧ (reads → cfg 62) ∧ (acc.kind ≠ 0 → cfg 61) ∧
    (acc.envs ≠ [] ∨ isVoid acc.void = true → cfg 60)) ∧
  (l.state ≠ .active ∨ s.railOff = true → Does (.remoteWindowAccess n acc) s s) ∧
  (l.state = .active → s.railOff = false → l.allows acc = false ∨ 0xC0000000000000 ≤ va →
    Does (.remoteWindowAccess n acc) s (s.toLink n (.answer n false []))) ∧
  (l.state = .active → s.railOff = false → l.allows acc = true → va < 0xC0000000000000 →
    let g := u.gate (s.peerTenant n va) (acc.kind != 0) va
    (g = .walk → Does (.remoteWindowAccess n acc) s (u.plan 1 0 .translationWalk { a := r.id })) ∧
    (∀ k, g = .park k → Does (.remoteWindowAccess n acc) s (u.parkReq r k)) ∧
    (g = .rights → ∃ v : State, Does (.remoteWindowAccess n acc) s (v.toLink n (.answer n false [])) ∧ v.lines = s.lines) ∧
    (∀ e w ws, g = .ready e → (∀ x, e = some x → x.leaf.hl = false) → (u.peerLabel r).1.peerEffect n e va acc (u.peerLabel r).2 = some (w, ws) →
      Does (.remoteWindowAccess n acc) s ((w.dropReq r.id).toLink n (.answer n true ws))) ∧
    (∀ e, g = .ready e → (∀ x, e = some x → x.leaf.hl = false) →
      (acc.kind = 0 → (u.peerLabel r).1.peerEffect n e va acc (u.peerLabel r).2 = some ((u.peerLabel r).1,
        (List.range (max 1 (acc.width / 4))).map (fun i => (u.peerLabel r).1.outWord n ((u.peerLabel r).1.linkDomain n) e (va + 4 * i)))) ∧
      (acc.kind = 1 → acc.width = 4 → acc.envs = [] → acc.void = 0x0000#16 → ∀ x, s.line (va / 64) = some x → x.words.length = 16 →
        ∃ w, u.peerEffect n e va acc 0x0000#16 = some (w, []) ∧ w.slotWord va = (acc.data.setWidth 32, 0x0000#16) ∧ w.mem = s.mem ∧
          ∀ a, a / 4 ≠ va / 4 → w.slotWord a = s.slotWord a)))

/-- Paired slots, carried assertions and the answers to this module's accesses (R78, R79, R103, R278, R281, R389 to R391): a peer's request opens
a slot where the inbound domain has a free one and can hold its retraction; its assertion asserts the slot paired with it and is
acknowledged; the acknowledgement asserts this side's slot and writes 0; a pair is recorded with the slot's number, or the slot freed and
all ones written; an access answered completes, one that failed parks with KIND 2; when the link leaves ACTIVE an ASSERT that it had not sent
writes 1 and one sent writes 2, and an ANEW that waits writes all ones (entry 87, the model's choice). -/
def Sys2Proof.Claims.PairedSlots : Prop := ∀ s : State,
  (∀ n p, (s.nlink n).state = .active → let d := (s.nlink n).domain
    let valid := (s.nlink n).inCfg.getLsbD 63 = true ∧ (s.dirEntry d).testBit 63 = true
    (¬valid → Does (.remoteSlotOpen n p) s (s.toLink n (.slotAnswer n p false 0))) ∧
    (valid → s.resident (s.domBase d) = true →
      (s.lowestFree d = none → Does (.remoteSlotOpen n p) s (s.toLink n (.slotAnswer n p false 0))) ∧
      (∀ k, s.lowestFree d = some k →
        ((s.nlink n).pairs.length < 64 → s.domNgCount d ≤ 64 - (s.pairedOpen d none + 1) → Does (.remoteSlotOpen n p) s
          (((s.openSlot d k).onLink n (fun l => { l with pairs := l.pairs ++ [(d, k, p)] })).toLink n (.slotAnswer n p true k))) ∧
        (64 ≤ (s.nlink n).pairs.length ∨ 64 - (s.pairedOpen d none + 1) < s.domNgCount d →
          Does (.remoteSlotOpen n p) s (s.toLink n (.slotAnswer n p false 0)))))) ∧
  (∀ n k p, (s.nlink n).state = .active → (s.nlink n).assertedPair k = some p → s.resident (s.domBase p.1) = true →
    Does (.remoteAssert n k) s ((s.assertSlot p.1 k).toLink n (.assertAck n k))) ∧
  (∀ n k o i, s.domOps.find? (fun o => o.kind == 3 && o.link == n && (match o.slot with
      | none => false
      | some j => (s.nlink n).pairs.contains (o.dom, j, k))) = some o → o.slot = some i →
    ∃ w, Does (.assertAck n k) s ((s.assertSlot o.dom i).answerOp { o with slot := none, res := 0#64, change := [.assert w i] })) ∧
  (∀ n id ok p o k, s.domOps.find? (fun o => o.id == id && o.kind == 1 && o.link == n) = some o → o.slot = some k →
    (ok = true → Does (.remoteSlotAnswer n id ok p) s ((s.onLink n (fun l => { l with pairs := l.pairs ++ [(o.dom, k, p)] })).answerOp
      { o with slot := none, res := BitVec.ofNat 64 k })) ∧
    (ok = false → Does (.remoteSlotAnswer n id ok p) s ((s.closeSlot o.dom k).answerOp
      { o with slot := none, res := 0xFFFFFFFFFFFFFFFF#64 }))) ∧
  (∀ id ws r n, s.req id = some r → r.link = some n →
    let y := s.onReq id (fun q => { q with link := none })
    Does (.remoteAccessAnswer id false ws) s (y.parkReq { r with link := none } 2) ∧
    (let x := y.inWords (y.reqDomain r) ws
     (r.op = .store ∨ r.op = .strel ∨ r.op = .tlsig → Does (.remoteAccessAnswer id true ws) s (x.1.dropReq r.id)) ∧
     (r.op = .load ∨ r.op = .pref → Does (.remoteAccessAnswer id true ws) s ((x.1.onReq r.id (fun q => { q with
       words := x.2, data := BitVec.ofNat 64 x.1.now, cmp := (x.1.writersOf (r.core / 8) (r.va / 64)).setWidth 64, away := true })).plan
         (homePath r.core r.va) 0 .nearCacheFill { a := r.id })) ∧
     (∀ m a, r.op = .peer m a → Does (.remoteAccessAnswer id true ws) s ((x.1.dropReq r.id).passOn m a r.va x.2)))) ∧
  (∀ n q o k, o.slot = some k → o.link = n →
    (o.kind = 1 → s.dropDomOp n q o = (s.closeSlot o.dom k).answerOp { o with slot := none, res := 0xFFFFFFFFFFFFFFFF#64 }) ∧
    (o.kind ≠ 1 → let unsent := ∃ p, s.pairOf o.dom k = some p ∧ LinkMsg.assertSlot n p.2 ∈ q
      ∃ (w : State) (c : List Change) (x : Dword), s.dropDomOp n q o = w.answerOp { o with slot := none, change := c, res := x } ∧
        (unsent → x = 1#64) ∧ (¬unsent → x = 2#64)))

/-- The Nelrek links (R103, R386 to R391): training, flits, a peer's accesses, paired slots and answers. -/
def Obligations.LinkSteps : Prop :=
  Claims.Training ∧ Claims.FlitsIn ∧ Claims.FlitsOut ∧ Claims.PeerAccesses ∧ Claims.PairedSlots

/-! ## Reset and the module's invariants -/

/-- Right after reset nothing of the module holds anything: memory reads as zero, no core has a live context, no launch is bound, every
link is in DETECT, and the controller is not ready (R386, R392, R393). That
a core, a cluster and a link start so before bring-up, and that memory reads as zero before it, are the model's choices (entries 6, 7). -/
def Obligations.Reset : Prop :=
  (∀ a, State.reset.mem.get a = 0#8) ∧ (∀ k t, (State.reset.ctxAt k t).live = false ∧ State.reset.status k t = .idle) ∧
  State.reset.launches = [] ∧ State.reset.ready = false ∧ State.reset.fatal = false ∧
  (∀ n, (State.reset.nlink n).state = .detect) ∧ Memory.wf State.reset.mem = true

/-- The module's memory keeps its canonical form: every step of the module leaves it without a zero cell, its addresses strictly rising, so
that equal memories are equal data (entry 7). -/
def Obligations.CanonicalMemory : Prop := ∀ s t, Memory.wf s.mem = true → step s = .next t → Memory.wf t.mem = true
end

