-- ==== Sys2Proof/Laws/State.lean ====
section
/-! SUPPORT. Sys2Proof/Laws/State.lean: what each update of the state leaves alone, one lemma a field. -/

namespace Sys2Proof.Machine

section
variable (s : State) (k : Nat) (c : Core)
@[simp] theorem State.setCore_now : (s.setCore k c).now = s.now := rfl
@[simp] theorem State.setCore_fresh : (s.setCore k c).fresh = s.fresh := rfl
@[simp] theorem State.setCore_curCore : (s.setCore k c).curCore = s.curCore := rfl
@[simp] theorem State.setCore_curCtx : (s.setCore k c).curCtx = s.curCtx := rfl
@[simp] theorem State.setCore_subj : (s.setCore k c).subj = s.subj := rfl
@[simp] theorem State.setCore_agenda : (s.setCore k c).agenda = s.agenda := rfl
@[simp] theorem State.setCore_nextId : (s.setCore k c).nextId = s.nextId := rfl
@[simp] theorem State.setCore_clusters : (s.setCore k c).clusters = s.clusters := rfl
@[simp] theorem State.setCore_launches : (s.setCore k c).launches = s.launches := rfl
@[simp] theorem State.setCore_tenants : (s.setCore k c).tenants = s.tenants := rfl
@[simp] theorem State.setCore_mem : (s.setCore k c).mem = s.mem := rfl
@[simp] theorem State.setCore_ecc : (s.setCore k c).ecc = s.ecc := rfl
@[simp] theorem State.setCore_lines : (s.setCore k c).lines = s.lines := rfl
@[simp] theorem State.setCore_tcache : (s.setCore k c).tcache = s.tcache := rfl
@[simp] theorem State.setCore_root : (s.setCore k c).root = s.root := rfl
@[simp] theorem State.setCore_apers : (s.setCore k c).apers = s.apers := rfl
@[simp] theorem State.setCore_aperOwner : (s.setCore k c).aperOwner = s.aperOwner := rfl
@[simp] theorem State.setCore_reqs : (s.setCore k c).reqs = s.reqs := rfl
@[simp] theorem State.setCore_late : (s.setCore k c).late = s.late := rfl
@[simp] theorem State.setCore_turns : (s.setCore k c).turns = s.turns := rfl
@[simp] theorem State.setCore_parked : (s.setCore k c).parked = s.parked := rfl
@[simp] theorem State.setCore_recording : (s.setCore k c).recording = s.recording := rfl
@[simp] theorem State.setCore_directory : (s.setCore k c).directory = s.directory := rfl
@[simp] theorem State.setCore_domOps : (s.setCore k c).domOps = s.domOps := rfl
@[simp] theorem State.setCore_aborted : (s.setCore k c).aborted = s.aborted := rfl
@[simp] theorem State.setCore_nextLaunch : (s.setCore k c).nextLaunch = s.nextLaunch := rfl
@[simp] theorem State.setCore_lastBound : (s.setCore k c).lastBound = s.lastBound := rfl
@[simp] theorem State.setCore_mill : (s.setCore k c).mill = s.mill := rfl
@[simp] theorem State.setCore_moves : (s.setCore k c).moves = s.moves := rfl
@[simp] theorem State.setCore_links : (s.setCore k c).links = s.links := rfl
@[simp] theorem State.setCore_pcie : (s.setCore k c).pcie = s.pcie := rfl
@[simp] theorem State.setCore_pwBase : (s.setCore k c).pwBase = s.pwBase := rfl
@[simp] theorem State.setCore_tflushBusy : (s.setCore k c).tflushBusy = s.tflushBusy := rfl
@[simp] theorem State.setCore_ready : (s.setCore k c).ready = s.ready := rfl
@[simp] theorem State.setCore_fatal : (s.setCore k c).fatal = s.fatal := rfl
@[simp] theorem State.setCore_linksL0 : (s.setCore k c).linksL0 = s.linksL0 := rfl
@[simp] theorem State.setCore_mDie : (s.setCore k c).mDie = s.mDie := rfl
@[simp] theorem State.setCore_mStep : (s.setCore k c).mStep = s.mStep := rfl
@[simp] theorem State.setCore_watts : (s.setCore k c).watts = s.watts := rfl
@[simp] theorem State.setCore_pstate : (s.setCore k c).pstate = s.pstate := rfl
@[simp] theorem State.setCore_telemetry : (s.setCore k c).telemetry = s.telemetry := rfl
@[simp] theorem State.setCore_powers : (s.setCore k c).powers = s.powers := rfl
@[simp] theorem State.setCore_calm : (s.setCore k c).calm = s.calm := rfl
@[simp] theorem State.setCore_mailbox : (s.setCore k c).mailbox = s.mailbox := rfl
@[simp] theorem State.setCore_caps : (s.setCore k c).caps = s.caps := rfl
@[simp] theorem State.setCore_remoteReads : (s.setCore k c).remoteReads = s.remoteReads := rfl
@[simp] theorem State.setCore_msix : (s.setCore k c).msix = s.msix := rfl
@[simp] theorem State.setCore_staging : (s.setCore k c).staging = s.staging := rfl
@[simp] theorem State.setCore_hostOut : (s.setCore k c).hostOut = s.hostOut := rfl
@[simp] theorem State.setCore_linkOut : (s.setCore k c).linkOut = s.linkOut := rfl
end

section
variable (s : State) (k : Nat) (f : Core → Core)
@[simp] theorem State.onCore_now : (s.onCore k f).now = s.now := rfl
@[simp] theorem State.onCore_fresh : (s.onCore k f).fresh = s.fresh := rfl
@[simp] theorem State.onCore_curCore : (s.onCore k f).curCore = s.curCore := rfl
@[simp] theorem State.onCore_curCtx : (s.onCore k f).curCtx = s.curCtx := rfl
@[simp] theorem State.onCore_subj : (s.onCore k f).subj = s.subj := rfl
@[simp] theorem State.onCore_agenda : (s.onCore k f).agenda = s.agenda := rfl
@[simp] theorem State.onCore_nextId : (s.onCore k f).nextId = s.nextId := rfl
@[simp] theorem State.onCore_clusters : (s.onCore k f).clusters = s.clusters := rfl
@[simp] theorem State.onCore_launches : (s.onCore k f).launches = s.launches := rfl
@[simp] theorem State.onCore_tenants : (s.onCore k f).tenants = s.tenants := rfl
@[simp] theorem State.onCore_mem : (s.onCore k f).mem = s.mem := rfl
@[simp] theorem State.onCore_ecc : (s.onCore k f).ecc = s.ecc := rfl
@[simp] theorem State.onCore_lines : (s.onCore k f).lines = s.lines := rfl
@[simp] theorem State.onCore_tcache : (s.onCore k f).tcache = s.tcache := rfl
@[simp] theorem State.onCore_root : (s.onCore k f).root = s.root := rfl
@[simp] theorem State.onCore_apers : (s.onCore k f).apers = s.apers := rfl
@[simp] theorem State.onCore_aperOwner : (s.onCore k f).aperOwner = s.aperOwner := rfl
@[simp] theorem State.onCore_reqs : (s.onCore k f).reqs = s.reqs := rfl
@[simp] theorem State.onCore_late : (s.onCore k f).late = s.late := rfl
@[simp] theorem State.onCore_turns : (s.onCore k f).turns = s.turns := rfl
@[simp] theorem State.onCore_parked : (s.onCore k f).parked = s.parked := rfl
@[simp] theorem State.onCore_recording : (s.onCore k f).recording = s.recording := rfl
@[simp] theorem State.onCore_directory : (s.onCore k f).directory = s.directory := rfl
@[simp] theorem State.onCore_domOps : (s.onCore k f).domOps = s.domOps := rfl
@[simp] theorem State.onCore_aborted : (s.onCore k f).aborted = s.aborted := rfl
@[simp] theorem State.onCore_nextLaunch : (s.onCore k f).nextLaunch = s.nextLaunch := rfl
@[simp] theorem State.onCore_lastBound : (s.onCore k f).lastBound = s.lastBound := rfl
@[simp] theorem State.onCore_mill : (s.onCore k f).mill = s.mill := rfl
@[simp] theorem State.onCore_moves : (s.onCore k f).moves = s.moves := rfl
@[simp] theorem State.onCore_links : (s.onCore k f).links = s.links := rfl
@[simp] theorem State.onCore_pcie : (s.onCore k f).pcie = s.pcie := rfl
@[simp] theorem State.onCore_pwBase : (s.onCore k f).pwBase = s.pwBase := rfl
@[simp] theorem State.onCore_tflushBusy : (s.onCore k f).tflushBusy = s.tflushBusy := rfl
@[simp] theorem State.onCore_ready : (s.onCore k f).ready = s.ready := rfl
@[simp] theorem State.onCore_fatal : (s.onCore k f).fatal = s.fatal := rfl
@[simp] theorem State.onCore_linksL0 : (s.onCore k f).linksL0 = s.linksL0 := rfl
@[simp] theorem State.onCore_mDie : (s.onCore k f).mDie = s.mDie := rfl
@[simp] theorem State.onCore_mStep : (s.onCore k f).mStep = s.mStep := rfl
@[simp] theorem State.onCore_watts : (s.onCore k f).watts = s.watts := rfl
@[simp] theorem State.onCore_pstate : (s.onCore k f).pstate = s.pstate := rfl
@[simp] theorem State.onCore_telemetry : (s.onCore k f).telemetry = s.telemetry := rfl
@[simp] theorem State.onCore_powers : (s.onCore k f).powers = s.powers := rfl
@[simp] theorem State.onCore_calm : (s.onCore k f).calm = s.calm := rfl
@[simp] theorem State.onCore_mailbox : (s.onCore k f).mailbox = s.mailbox := rfl
@[simp] theorem State.onCore_caps : (s.onCore k f).caps = s.caps := rfl
@[simp] theorem State.onCore_remoteReads : (s.onCore k f).remoteReads = s.remoteReads := rfl
@[simp] theorem State.onCore_msix : (s.onCore k f).msix = s.msix := rfl
@[simp] theorem State.onCore_staging : (s.onCore k f).staging = s.staging := rfl
@[simp] theorem State.onCore_hostOut : (s.onCore k f).hostOut = s.hostOut := rfl
@[simp] theorem State.onCore_linkOut : (s.onCore k f).linkOut = s.linkOut := rfl
end

section
variable (s : State) (k t : Nat) (f : Ctx → Ctx)
@[simp] theorem State.onCtx_now : (s.onCtx k t f).now = s.now := rfl
@[simp] theorem State.onCtx_fresh : (s.onCtx k t f).fresh = s.fresh := rfl
@[simp] theorem State.onCtx_curCore : (s.onCtx k t f).curCore = s.curCore := rfl
@[simp] theorem State.onCtx_curCtx : (s.onCtx k t f).curCtx = s.curCtx := rfl
@[simp] theorem State.onCtx_subj : (s.onCtx k t f).subj = s.subj := rfl
@[simp] theorem State.onCtx_agenda : (s.onCtx k t f).agenda = s.agenda := rfl
@[simp] theorem State.onCtx_nextId : (s.onCtx k t f).nextId = s.nextId := rfl
@[simp] theorem State.onCtx_clusters : (s.onCtx k t f).clusters = s.clusters := rfl
@[simp] theorem State.onCtx_launches : (s.onCtx k t f).launches = s.launches := rfl
@[simp] theorem State.onCtx_tenants : (s.onCtx k t f).tenants = s.tenants := rfl
@[simp] theorem State.onCtx_mem : (s.onCtx k t f).mem = s.mem := rfl
@[simp] theorem State.onCtx_ecc : (s.onCtx k t f).ecc = s.ecc := rfl
@[simp] theorem State.onCtx_lines : (s.onCtx k t f).lines = s.lines := rfl
@[simp] theorem State.onCtx_tcache : (s.onCtx k t f).tcache = s.tcache := rfl
@[simp] theorem State.onCtx_root : (s.onCtx k t f).root = s.root := rfl
@[simp] theorem State.onCtx_apers : (s.onCtx k t f).apers = s.apers := rfl
@[simp] theorem State.onCtx_aperOwner : (s.onCtx k t f).aperOwner = s.aperOwner := rfl
@[simp] theorem State.onCtx_reqs : (s.onCtx k t f).reqs = s.reqs := rfl
@[simp] theorem State.onCtx_late : (s.onCtx k t f).late = s.late := rfl
@[simp] theorem State.onCtx_turns : (s.onCtx k t f).turns = s.turns := rfl
@[simp] theorem State.onCtx_parked : (s.onCtx k t f).parked = s.parked := rfl
@[simp] theorem State.onCtx_recording : (s.onCtx k t f).recording = s.recording := rfl
@[simp] theorem State.onCtx_directory : (s.onCtx k t f).directory = s.directory := rfl
@[simp] theorem State.onCtx_domOps : (s.onCtx k t f).domOps = s.domOps := rfl
@[simp] theorem State.onCtx_aborted : (s.onCtx k t f).aborted = s.aborted := rfl
@[simp] theorem State.onCtx_nextLaunch : (s.onCtx k t f).nextLaunch = s.nextLaunch := rfl
@[simp] theorem State.onCtx_lastBound : (s.onCtx k t f).lastBound = s.lastBound := rfl
@[simp] theorem State.onCtx_mill : (s.onCtx k t f).mill = s.mill := rfl
@[simp] theorem State.onCtx_moves : (s.onCtx k t f).moves = s.moves := rfl
@[simp] theorem State.onCtx_links : (s.onCtx k t f).links = s.links := rfl
@[simp] theorem State.onCtx_pcie : (s.onCtx k t f).pcie = s.pcie := rfl
@[simp] theorem State.onCtx_pwBase : (s.onCtx k t f).pwBase = s.pwBase := rfl
@[simp] theorem State.onCtx_tflushBusy : (s.onCtx k t f).tflushBusy = s.tflushBusy := rfl
@[simp] theorem State.onCtx_ready : (s.onCtx k t f).ready = s.ready := rfl
@[simp] theorem State.onCtx_fatal : (s.onCtx k t f).fatal = s.fatal := rfl
@[simp] theorem State.onCtx_linksL0 : (s.onCtx k t f).linksL0 = s.linksL0 := rfl
@[simp] theorem State.onCtx_mDie : (s.onCtx k t f).mDie = s.mDie := rfl
@[simp] theorem State.onCtx_mStep : (s.onCtx k t f).mStep = s.mStep := rfl
@[simp] theorem State.onCtx_watts : (s.onCtx k t f).watts = s.watts := rfl
@[simp] theorem State.onCtx_pstate : (s.onCtx k t f).pstate = s.pstate := rfl
@[simp] theorem State.onCtx_telemetry : (s.onCtx k t f).telemetry = s.telemetry := rfl
@[simp] theorem State.onCtx_powers : (s.onCtx k t f).powers = s.powers := rfl
@[simp] theorem State.onCtx_calm : (s.onCtx k t f).calm = s.calm := rfl
@[simp] theorem State.onCtx_mailbox : (s.onCtx k t f).mailbox = s.mailbox := rfl
@[simp] theorem State.onCtx_caps : (s.onCtx k t f).caps = s.caps := rfl
@[simp] theorem State.onCtx_remoteReads : (s.onCtx k t f).remoteReads = s.remoteReads := rfl
@[simp] theorem State.onCtx_msix : (s.onCtx k t f).msix = s.msix := rfl
@[simp] theorem State.onCtx_staging : (s.onCtx k t f).staging = s.staging := rfl
@[simp] theorem State.onCtx_hostOut : (s.onCtx k t f).hostOut = s.hostOut := rfl
@[simp] theorem State.onCtx_linkOut : (s.onCtx k t f).linkOut = s.linkOut := rfl
end

section
variable (s : State) (f : Ctx → Ctx)
@[simp] theorem State.onMe_now : (s.onMe f).now = s.now := rfl
@[simp] theorem State.onMe_fresh : (s.onMe f).fresh = s.fresh := rfl
@[simp] theorem State.onMe_curCore : (s.onMe f).curCore = s.curCore := rfl
@[simp] theorem State.onMe_curCtx : (s.onMe f).curCtx = s.curCtx := rfl
@[simp] theorem State.onMe_subj : (s.onMe f).subj = s.subj := rfl
@[simp] theorem State.onMe_agenda : (s.onMe f).agenda = s.agenda := rfl
@[simp] theorem State.onMe_nextId : (s.onMe f).nextId = s.nextId := rfl
@[simp] theorem State.onMe_clusters : (s.onMe f).clusters = s.clusters := rfl
@[simp] theorem State.onMe_launches : (s.onMe f).launches = s.launches := rfl
@[simp] theorem State.onMe_tenants : (s.onMe f).tenants = s.tenants := rfl
@[simp] theorem State.onMe_mem : (s.onMe f).mem = s.mem := rfl
@[simp] theorem State.onMe_ecc : (s.onMe f).ecc = s.ecc := rfl
@[simp] theorem State.onMe_lines : (s.onMe f).lines = s.lines := rfl
@[simp] theorem State.onMe_tcache : (s.onMe f).tcache = s.tcache := rfl
@[simp] theorem State.onMe_root : (s.onMe f).root = s.root := rfl
@[simp] theorem State.onMe_apers : (s.onMe f).apers = s.apers := rfl
@[simp] theorem State.onMe_aperOwner : (s.onMe f).aperOwner = s.aperOwner := rfl
@[simp] theorem State.onMe_reqs : (s.onMe f).reqs = s.reqs := rfl
@[simp] theorem State.onMe_late : (s.onMe f).late = s.late := rfl
@[simp] theorem State.onMe_turns : (s.onMe f).turns = s.turns := rfl
@[simp] theorem State.onMe_parked : (s.onMe f).parked = s.parked := rfl
@[simp] theorem State.onMe_recording : (s.onMe f).recording = s.recording := rfl
@[simp] theorem State.onMe_directory : (s.onMe f).directory = s.directory := rfl
@[simp] theorem State.onMe_domOps : (s.onMe f).domOps = s.domOps := rfl
@[simp] theorem State.onMe_aborted : (s.onMe f).aborted = s.aborted := rfl
@[simp] theorem State.onMe_nextLaunch : (s.onMe f).nextLaunch = s.nextLaunch := rfl
@[simp] theorem State.onMe_lastBound : (s.onMe f).lastBound = s.lastBound := rfl
@[simp] theorem State.onMe_mill : (s.onMe f).mill = s.mill := rfl
@[simp] theorem State.onMe_moves : (s.onMe f).moves = s.moves := rfl
@[simp] theorem State.onMe_links : (s.onMe f).links = s.links := rfl
@[simp] theorem State.onMe_pcie : (s.onMe f).pcie = s.pcie := rfl
@[simp] theorem State.onMe_pwBase : (s.onMe f).pwBase = s.pwBase := rfl
@[simp] theorem State.onMe_tflushBusy : (s.onMe f).tflushBusy = s.tflushBusy := rfl
@[simp] theorem State.onMe_ready : (s.onMe f).ready = s.ready := rfl
@[simp] theorem State.onMe_fatal : (s.onMe f).fatal = s.fatal := rfl
@[simp] theorem State.onMe_linksL0 : (s.onMe f).linksL0 = s.linksL0 := rfl
@[simp] theorem State.onMe_mDie : (s.onMe f).mDie = s.mDie := rfl
@[simp] theorem State.onMe_mStep : (s.onMe f).mStep = s.mStep := rfl
@[simp] theorem State.onMe_watts : (s.onMe f).watts = s.watts := rfl
@[simp] theorem State.onMe_pstate : (s.onMe f).pstate = s.pstate := rfl
@[simp] theorem State.onMe_telemetry : (s.onMe f).telemetry = s.telemetry := rfl
@[simp] theorem State.onMe_powers : (s.onMe f).powers = s.powers := rfl
@[simp] theorem State.onMe_calm : (s.onMe f).calm = s.calm := rfl
@[simp] theorem State.onMe_mailbox : (s.onMe f).mailbox = s.mailbox := rfl
@[simp] theorem State.onMe_caps : (s.onMe f).caps = s.caps := rfl
@[simp] theorem State.onMe_remoteReads : (s.onMe f).remoteReads = s.remoteReads := rfl
@[simp] theorem State.onMe_msix : (s.onMe f).msix = s.msix := rfl
@[simp] theorem State.onMe_staging : (s.onMe f).staging = s.staging := rfl
@[simp] theorem State.onMe_hostOut : (s.onMe f).hostOut = s.hostOut := rfl
@[simp] theorem State.onMe_linkOut : (s.onMe f).linkOut = s.linkOut := rfl
end

section
variable (s : State) (f : Core → Core)
@[simp] theorem State.onHere_now : (s.onHere f).now = s.now := rfl
@[simp] theorem State.onHere_fresh : (s.onHere f).fresh = s.fresh := rfl
@[simp] theorem State.onHere_curCore : (s.onHere f).curCore = s.curCore := rfl
@[simp] theorem State.onHere_curCtx : (s.onHere f).curCtx = s.curCtx := rfl
@[simp] theorem State.onHere_subj : (s.onHere f).subj = s.subj := rfl
@[simp] theorem State.onHere_agenda : (s.onHere f).agenda = s.agenda := rfl
@[simp] theorem State.onHere_nextId : (s.onHere f).nextId = s.nextId := rfl
@[simp] theorem State.onHere_clusters : (s.onHere f).clusters = s.clusters := rfl
@[simp] theorem State.onHere_launches : (s.onHere f).launches = s.launches := rfl
@[simp] theorem State.onHere_tenants : (s.onHere f).tenants = s.tenants := rfl
@[simp] theorem State.onHere_mem : (s.onHere f).mem = s.mem := rfl
@[simp] theorem State.onHere_ecc : (s.onHere f).ecc = s.ecc := rfl
@[simp] theorem State.onHere_lines : (s.onHere f).lines = s.lines := rfl
@[simp] theorem State.onHere_tcache : (s.onHere f).tcache = s.tcache := rfl
@[simp] theorem State.onHere_root : (s.onHere f).root = s.root := rfl
@[simp] theorem State.onHere_apers : (s.onHere f).apers = s.apers := rfl
@[simp] theorem State.onHere_aperOwner : (s.onHere f).aperOwner = s.aperOwner := rfl
@[simp] theorem State.onHere_reqs : (s.onHere f).reqs = s.reqs := rfl
@[simp] theorem State.onHere_late : (s.onHere f).late = s.late := rfl
@[simp] theorem State.onHere_turns : (s.onHere f).turns = s.turns := rfl
@[simp] theorem State.onHere_parked : (s.onHere f).parked = s.parked := rfl
@[simp] theorem State.onHere_recording : (s.onHere f).recording = s.recording := rfl
@[simp] theorem State.onHere_directory : (s.onHere f).directory = s.directory := rfl
@[simp] theorem State.onHere_domOps : (s.onHere f).domOps = s.domOps := rfl
@[simp] theorem State.onHere_aborted : (s.onHere f).aborted = s.aborted := rfl
@[simp] theorem State.onHere_nextLaunch : (s.onHere f).nextLaunch = s.nextLaunch := rfl
@[simp] theorem State.onHere_lastBound : (s.onHere f).lastBound = s.lastBound := rfl
@[simp] theorem State.onHere_mill : (s.onHere f).mill = s.mill := rfl
@[simp] theorem State.onHere_moves : (s.onHere f).moves = s.moves := rfl
@[simp] theorem State.onHere_links : (s.onHere f).links = s.links := rfl
@[simp] theorem State.onHere_pcie : (s.onHere f).pcie = s.pcie := rfl
@[simp] theorem State.onHere_pwBase : (s.onHere f).pwBase = s.pwBase := rfl
@[simp] theorem State.onHere_tflushBusy : (s.onHere f).tflushBusy = s.tflushBusy := rfl
@[simp] theorem State.onHere_ready : (s.onHere f).ready = s.ready := rfl
@[simp] theorem State.onHere_fatal : (s.onHere f).fatal = s.fatal := rfl
@[simp] theorem State.onHere_linksL0 : (s.onHere f).linksL0 = s.linksL0 := rfl
@[simp] theorem State.onHere_mDie : (s.onHere f).mDie = s.mDie := rfl
@[simp] theorem State.onHere_mStep : (s.onHere f).mStep = s.mStep := rfl
@[simp] theorem State.onHere_watts : (s.onHere f).watts = s.watts := rfl
@[simp] theorem State.onHere_pstate : (s.onHere f).pstate = s.pstate := rfl
@[simp] theorem State.onHere_telemetry : (s.onHere f).telemetry = s.telemetry := rfl
@[simp] theorem State.onHere_powers : (s.onHere f).powers = s.powers := rfl
@[simp] theorem State.onHere_calm : (s.onHere f).calm = s.calm := rfl
@[simp] theorem State.onHere_mailbox : (s.onHere f).mailbox = s.mailbox := rfl
@[simp] theorem State.onHere_caps : (s.onHere f).caps = s.caps := rfl
@[simp] theorem State.onHere_remoteReads : (s.onHere f).remoteReads = s.remoteReads := rfl
@[simp] theorem State.onHere_msix : (s.onHere f).msix = s.msix := rfl
@[simp] theorem State.onHere_staging : (s.onHere f).staging = s.staging := rfl
@[simp] theorem State.onHere_hostOut : (s.onHere f).hostOut = s.hostOut := rfl
@[simp] theorem State.onHere_linkOut : (s.onHere f).linkOut = s.linkOut := rfl
end

section
variable (s : State) (k : Nat) (f : Cluster → Cluster)
@[simp] theorem State.onCluster_now : (s.onCluster k f).now = s.now := rfl
@[simp] theorem State.onCluster_fresh : (s.onCluster k f).fresh = s.fresh := rfl
@[simp] theorem State.onCluster_curCore : (s.onCluster k f).curCore = s.curCore := rfl
@[simp] theorem State.onCluster_curCtx : (s.onCluster k f).curCtx = s.curCtx := rfl
@[simp] theorem State.onCluster_subj : (s.onCluster k f).subj = s.subj := rfl
@[simp] theorem State.onCluster_agenda : (s.onCluster k f).agenda = s.agenda := rfl
@[simp] theorem State.onCluster_nextId : (s.onCluster k f).nextId = s.nextId := rfl
@[simp] theorem State.onCluster_cores : (s.onCluster k f).cores = s.cores := rfl
@[simp] theorem State.onCluster_launches : (s.onCluster k f).launches = s.launches := rfl
@[simp] theorem State.onCluster_tenants : (s.onCluster k f).tenants = s.tenants := rfl
@[simp] theorem State.onCluster_mem : (s.onCluster k f).mem = s.mem := rfl
@[simp] theorem State.onCluster_ecc : (s.onCluster k f).ecc = s.ecc := rfl
@[simp] theorem State.onCluster_lines : (s.onCluster k f).lines = s.lines := rfl
@[simp] theorem State.onCluster_tcache : (s.onCluster k f).tcache = s.tcache := rfl
@[simp] theorem State.onCluster_root : (s.onCluster k f).root = s.root := rfl
@[simp] theorem State.onCluster_apers : (s.onCluster k f).apers = s.apers := rfl
@[simp] theorem State.onCluster_aperOwner : (s.onCluster k f).aperOwner = s.aperOwner := rfl
@[simp] theorem State.onCluster_reqs : (s.onCluster k f).reqs = s.reqs := rfl
@[simp] theorem State.onCluster_late : (s.onCluster k f).late = s.late := rfl
@[simp] theorem State.onCluster_turns : (s.onCluster k f).turns = s.turns := rfl
@[simp] theorem State.onCluster_parked : (s.onCluster k f).parked = s.parked := rfl
@[simp] theorem State.onCluster_recording : (s.onCluster k f).recording = s.recording := rfl
@[simp] theorem State.onCluster_directory : (s.onCluster k f).directory = s.directory := rfl
@[simp] theorem State.onCluster_domOps : (s.onCluster k f).domOps = s.domOps := rfl
@[simp] theorem State.onCluster_aborted : (s.onCluster k f).aborted = s.aborted := rfl
@[simp] theorem State.onCluster_nextLaunch : (s.onCluster k f).nextLaunch = s.nextLaunch := rfl
@[simp] theorem State.onCluster_lastBound : (s.onCluster k f).lastBound = s.lastBound := rfl
@[simp] theorem State.onCluster_mill : (s.onCluster k f).mill = s.mill := rfl
@[simp] theorem State.onCluster_moves : (s.onCluster k f).moves = s.moves := rfl
@[simp] theorem State.onCluster_links : (s.onCluster k f).links = s.links := rfl
@[simp] theorem State.onCluster_pcie : (s.onCluster k f).pcie = s.pcie := rfl
@[simp] theorem State.onCluster_pwBase : (s.onCluster k f).pwBase = s.pwBase := rfl
@[simp] theorem State.onCluster_tflushBusy : (s.onCluster k f).tflushBusy = s.tflushBusy := rfl
@[simp] theorem State.onCluster_ready : (s.onCluster k f).ready = s.ready := rfl
@[simp] theorem State.onCluster_fatal : (s.onCluster k f).fatal = s.fatal := rfl
@[simp] theorem State.onCluster_linksL0 : (s.onCluster k f).linksL0 = s.linksL0 := rfl
@[simp] theorem State.onCluster_mDie : (s.onCluster k f).mDie = s.mDie := rfl
@[simp] theorem State.onCluster_mStep : (s.onCluster k f).mStep = s.mStep := rfl
@[simp] theorem State.onCluster_watts : (s.onCluster k f).watts = s.watts := rfl
@[simp] theorem State.onCluster_pstate : (s.onCluster k f).pstate = s.pstate := rfl
@[simp] theorem State.onCluster_telemetry : (s.onCluster k f).telemetry = s.telemetry := rfl
@[simp] theorem State.onCluster_powers : (s.onCluster k f).powers = s.powers := rfl
@[simp] theorem State.onCluster_calm : (s.onCluster k f).calm = s.calm := rfl
@[simp] theorem State.onCluster_mailbox : (s.onCluster k f).mailbox = s.mailbox := rfl
@[simp] theorem State.onCluster_caps : (s.onCluster k f).caps = s.caps := rfl
@[simp] theorem State.onCluster_remoteReads : (s.onCluster k f).remoteReads = s.remoteReads := rfl
@[simp] theorem State.onCluster_msix : (s.onCluster k f).msix = s.msix := rfl
@[simp] theorem State.onCluster_staging : (s.onCluster k f).staging = s.staging := rfl
@[simp] theorem State.onCluster_hostOut : (s.onCluster k f).hostOut = s.hostOut := rfl
@[simp] theorem State.onCluster_linkOut : (s.onCluster k f).linkOut = s.linkOut := rfl
end

section
variable (s : State) (t : Nat) (f : Tenant → Tenant)
@[simp] theorem State.onTenant_now : (s.onTenant t f).now = s.now := rfl
@[simp] theorem State.onTenant_fresh : (s.onTenant t f).fresh = s.fresh := rfl
@[simp] theorem State.onTenant_curCore : (s.onTenant t f).curCore = s.curCore := rfl
@[simp] theorem State.onTenant_curCtx : (s.onTenant t f).curCtx = s.curCtx := rfl
@[simp] theorem State.onTenant_subj : (s.onTenant t f).subj = s.subj := rfl
@[simp] theorem State.onTenant_agenda : (s.onTenant t f).agenda = s.agenda := rfl
@[simp] theorem State.onTenant_nextId : (s.onTenant t f).nextId = s.nextId := rfl
@[simp] theorem State.onTenant_cores : (s.onTenant t f).cores = s.cores := rfl
@[simp] theorem State.onTenant_clusters : (s.onTenant t f).clusters = s.clusters := rfl
@[simp] theorem State.onTenant_launches : (s.onTenant t f).launches = s.launches := rfl
@[simp] theorem State.onTenant_mem : (s.onTenant t f).mem = s.mem := rfl
@[simp] theorem State.onTenant_ecc : (s.onTenant t f).ecc = s.ecc := rfl
@[simp] theorem State.onTenant_lines : (s.onTenant t f).lines = s.lines := rfl
@[simp] theorem State.onTenant_tcache : (s.onTenant t f).tcache = s.tcache := rfl
@[simp] theorem State.onTenant_root : (s.onTenant t f).root = s.root := rfl
@[simp] theorem State.onTenant_apers : (s.onTenant t f).apers = s.apers := rfl
@[simp] theorem State.onTenant_aperOwner : (s.onTenant t f).aperOwner = s.aperOwner := rfl
@[simp] theorem State.onTenant_reqs : (s.onTenant t f).reqs = s.reqs := rfl
@[simp] theorem State.onTenant_late : (s.onTenant t f).late = s.late := rfl
@[simp] theorem State.onTenant_turns : (s.onTenant t f).turns = s.turns := rfl
@[simp] theorem State.onTenant_parked : (s.onTenant t f).parked = s.parked := rfl
@[simp] theorem State.onTenant_recording : (s.onTenant t f).recording = s.recording := rfl
@[simp] theorem State.onTenant_directory : (s.onTenant t f).directory = s.directory := rfl
@[simp] theorem State.onTenant_domOps : (s.onTenant t f).domOps = s.domOps := rfl
@[simp] theorem State.onTenant_aborted : (s.onTenant t f).aborted = s.aborted := rfl
@[simp] theorem State.onTenant_nextLaunch : (s.onTenant t f).nextLaunch = s.nextLaunch := rfl
@[simp] theorem State.onTenant_lastBound : (s.onTenant t f).lastBound = s.lastBound := rfl
@[simp] theorem State.onTenant_mill : (s.onTenant t f).mill = s.mill := rfl
@[simp] theorem State.onTenant_moves : (s.onTenant t f).moves = s.moves := rfl
@[simp] theorem State.onTenant_links : (s.onTenant t f).links = s.links := rfl
@[simp] theorem State.onTenant_pcie : (s.onTenant t f).pcie = s.pcie := rfl
@[simp] theorem State.onTenant_pwBase : (s.onTenant t f).pwBase = s.pwBase := rfl
@[simp] theorem State.onTenant_tflushBusy : (s.onTenant t f).tflushBusy = s.tflushBusy := rfl
@[simp] theorem State.onTenant_ready : (s.onTenant t f).ready = s.ready := rfl
@[simp] theorem State.onTenant_fatal : (s.onTenant t f).fatal = s.fatal := rfl
@[simp] theorem State.onTenant_linksL0 : (s.onTenant t f).linksL0 = s.linksL0 := rfl
@[simp] theorem State.onTenant_mDie : (s.onTenant t f).mDie = s.mDie := rfl
@[simp] theorem State.onTenant_mStep : (s.onTenant t f).mStep = s.mStep := rfl
@[simp] theorem State.onTenant_watts : (s.onTenant t f).watts = s.watts := rfl
@[simp] theorem State.onTenant_pstate : (s.onTenant t f).pstate = s.pstate := rfl
@[simp] theorem State.onTenant_telemetry : (s.onTenant t f).telemetry = s.telemetry := rfl
@[simp] theorem State.onTenant_powers : (s.onTenant t f).powers = s.powers := rfl
@[simp] theorem State.onTenant_calm : (s.onTenant t f).calm = s.calm := rfl
@[simp] theorem State.onTenant_mailbox : (s.onTenant t f).mailbox = s.mailbox := rfl
@[simp] theorem State.onTenant_caps : (s.onTenant t f).caps = s.caps := rfl
@[simp] theorem State.onTenant_remoteReads : (s.onTenant t f).remoteReads = s.remoteReads := rfl
@[simp] theorem State.onTenant_msix : (s.onTenant t f).msix = s.msix := rfl
@[simp] theorem State.onTenant_staging : (s.onTenant t f).staging = s.staging := rfl
@[simp] theorem State.onTenant_hostOut : (s.onTenant t f).hostOut = s.hostOut := rfl
@[simp] theorem State.onTenant_linkOut : (s.onTenant t f).linkOut = s.linkOut := rfl
end

section
variable (s : State) (k seq : Nat) (f : Pend → Pend)
@[simp] theorem State.onPend_now : (s.onPend k seq f).now = s.now := rfl
@[simp] theorem State.onPend_fresh : (s.onPend k seq f).fresh = s.fresh := rfl
@[simp] theorem State.onPend_curCore : (s.onPend k seq f).curCore = s.curCore := rfl
@[simp] theorem State.onPend_curCtx : (s.onPend k seq f).curCtx = s.curCtx := rfl
@[simp] theorem State.onPend_subj : (s.onPend k seq f).subj = s.subj := rfl
@[simp] theorem State.onPend_agenda : (s.onPend k seq f).agenda = s.agenda := rfl
@[simp] theorem State.onPend_nextId : (s.onPend k seq f).nextId = s.nextId := rfl
@[simp] theorem State.onPend_clusters : (s.onPend k seq f).clusters = s.clusters := rfl
@[simp] theorem State.onPend_launches : (s.onPend k seq f).launches = s.launches := rfl
@[simp] theorem State.onPend_tenants : (s.onPend k seq f).tenants = s.tenants := rfl
@[simp] theorem State.onPend_mem : (s.onPend k seq f).mem = s.mem := rfl
@[simp] theorem State.onPend_ecc : (s.onPend k seq f).ecc = s.ecc := rfl
@[simp] theorem State.onPend_lines : (s.onPend k seq f).lines = s.lines := rfl
@[simp] theorem State.onPend_tcache : (s.onPend k seq f).tcache = s.tcache := rfl
@[simp] theorem State.onPend_root : (s.onPend k seq f).root = s.root := rfl
@[simp] theorem State.onPend_apers : (s.onPend k seq f).apers = s.apers := rfl
@[simp] theorem State.onPend_aperOwner : (s.onPend k seq f).aperOwner = s.aperOwner := rfl
@[simp] theorem State.onPend_reqs : (s.onPend k seq f).reqs = s.reqs := rfl
@[simp] theorem State.onPend_late : (s.onPend k seq f).late = s.late := rfl
@[simp] theorem State.onPend_turns : (s.onPend k seq f).turns = s.turns := rfl
@[simp] theorem State.onPend_parked : (s.onPend k seq f).parked = s.parked := rfl
@[simp] theorem State.onPend_recording : (s.onPend k seq f).recording = s.recording := rfl
@[simp] theorem State.onPend_directory : (s.onPend k seq f).directory = s.directory := rfl
@[simp] theorem State.onPend_domOps : (s.onPend k seq f).domOps = s.domOps := rfl
@[simp] theorem State.onPend_aborted : (s.onPend k seq f).aborted = s.aborted := rfl
@[simp] theorem State.onPend_nextLaunch : (s.onPend k seq f).nextLaunch = s.nextLaunch := rfl
@[simp] theorem State.onPend_lastBound : (s.onPend k seq f).lastBound = s.lastBound := rfl
@[simp] theorem State.onPend_mill : (s.onPend k seq f).mill = s.mill := rfl
@[simp] theorem State.onPend_moves : (s.onPend k seq f).moves = s.moves := rfl
@[simp] theorem State.onPend_links : (s.onPend k seq f).links = s.links := rfl
@[simp] theorem State.onPend_pcie : (s.onPend k seq f).pcie = s.pcie := rfl
@[simp] theorem State.onPend_pwBase : (s.onPend k seq f).pwBase = s.pwBase := rfl
@[simp] theorem State.onPend_tflushBusy : (s.onPend k seq f).tflushBusy = s.tflushBusy := rfl
@[simp] theorem State.onPend_ready : (s.onPend k seq f).ready = s.ready := rfl
@[simp] theorem State.onPend_fatal : (s.onPend k seq f).fatal = s.fatal := rfl
@[simp] theorem State.onPend_linksL0 : (s.onPend k seq f).linksL0 = s.linksL0 := rfl
@[simp] theorem State.onPend_mDie : (s.onPend k seq f).mDie = s.mDie := rfl
@[simp] theorem State.onPend_mStep : (s.onPend k seq f).mStep = s.mStep := rfl
@[simp] theorem State.onPend_watts : (s.onPend k seq f).watts = s.watts := rfl
@[simp] theorem State.onPend_pstate : (s.onPend k seq f).pstate = s.pstate := rfl
@[simp] theorem State.onPend_telemetry : (s.onPend k seq f).telemetry = s.telemetry := rfl
@[simp] theorem State.onPend_powers : (s.onPend k seq f).powers = s.powers := rfl
@[simp] theorem State.onPend_calm : (s.onPend k seq f).calm = s.calm := rfl
@[simp] theorem State.onPend_mailbox : (s.onPend k seq f).mailbox = s.mailbox := rfl
@[simp] theorem State.onPend_caps : (s.onPend k seq f).caps = s.caps := rfl
@[simp] theorem State.onPend_remoteReads : (s.onPend k seq f).remoteReads = s.remoteReads := rfl
@[simp] theorem State.onPend_msix : (s.onPend k seq f).msix = s.msix := rfl
@[simp] theorem State.onPend_staging : (s.onPend k seq f).staging = s.staging := rfl
@[simp] theorem State.onPend_hostOut : (s.onPend k seq f).hostOut = s.hostOut := rfl
@[simp] theorem State.onPend_linkOut : (s.onPend k seq f).linkOut = s.linkOut := rfl
end

section
variable (s : State) 
@[simp] theorem State.bump_now : (s.bump).now = s.now := rfl
@[simp] theorem State.bump_fresh : (s.bump).fresh = s.fresh := rfl
@[simp] theorem State.bump_curCore : (s.bump).curCore = s.curCore := rfl
@[simp] theorem State.bump_curCtx : (s.bump).curCtx = s.curCtx := rfl
@[simp] theorem State.bump_subj : (s.bump).subj = s.subj := rfl
@[simp] theorem State.bump_agenda : (s.bump).agenda = s.agenda := rfl
@[simp] theorem State.bump_cores : (s.bump).cores = s.cores := rfl
@[simp] theorem State.bump_clusters : (s.bump).clusters = s.clusters := rfl
@[simp] theorem State.bump_launches : (s.bump).launches = s.launches := rfl
@[simp] theorem State.bump_tenants : (s.bump).tenants = s.tenants := rfl
@[simp] theorem State.bump_mem : (s.bump).mem = s.mem := rfl
@[simp] theorem State.bump_ecc : (s.bump).ecc = s.ecc := rfl
@[simp] theorem State.bump_lines : (s.bump).lines = s.lines := rfl
@[simp] theorem State.bump_tcache : (s.bump).tcache = s.tcache := rfl
@[simp] theorem State.bump_root : (s.bump).root = s.root := rfl
@[simp] theorem State.bump_apers : (s.bump).apers = s.apers := rfl
@[simp] theorem State.bump_aperOwner : (s.bump).aperOwner = s.aperOwner := rfl
@[simp] theorem State.bump_reqs : (s.bump).reqs = s.reqs := rfl
@[simp] theorem State.bump_late : (s.bump).late = s.late := rfl
@[simp] theorem State.bump_turns : (s.bump).turns = s.turns := rfl
@[simp] theorem State.bump_parked : (s.bump).parked = s.parked := rfl
@[simp] theorem State.bump_recording : (s.bump).recording = s.recording := rfl
@[simp] theorem State.bump_directory : (s.bump).directory = s.directory := rfl
@[simp] theorem State.bump_domOps : (s.bump).domOps = s.domOps := rfl
@[simp] theorem State.bump_aborted : (s.bump).aborted = s.aborted := rfl
@[simp] theorem State.bump_nextLaunch : (s.bump).nextLaunch = s.nextLaunch := rfl
@[simp] theorem State.bump_lastBound : (s.bump).lastBound = s.lastBound := rfl
@[simp] theorem State.bump_mill : (s.bump).mill = s.mill := rfl
@[simp] theorem State.bump_moves : (s.bump).moves = s.moves := rfl
@[simp] theorem State.bump_links : (s.bump).links = s.links := rfl
@[simp] theorem State.bump_pcie : (s.bump).pcie = s.pcie := rfl
@[simp] theorem State.bump_pwBase : (s.bump).pwBase = s.pwBase := rfl
@[simp] theorem State.bump_tflushBusy : (s.bump).tflushBusy = s.tflushBusy := rfl
@[simp] theorem State.bump_ready : (s.bump).ready = s.ready := rfl
@[simp] theorem State.bump_fatal : (s.bump).fatal = s.fatal := rfl
@[simp] theorem State.bump_linksL0 : (s.bump).linksL0 = s.linksL0 := rfl
@[simp] theorem State.bump_mDie : (s.bump).mDie = s.mDie := rfl
@[simp] theorem State.bump_mStep : (s.bump).mStep = s.mStep := rfl
@[simp] theorem State.bump_watts : (s.bump).watts = s.watts := rfl
@[simp] theorem State.bump_pstate : (s.bump).pstate = s.pstate := rfl
@[simp] theorem State.bump_telemetry : (s.bump).telemetry = s.telemetry := rfl
@[simp] theorem State.bump_powers : (s.bump).powers = s.powers := rfl
@[simp] theorem State.bump_calm : (s.bump).calm = s.calm := rfl
@[simp] theorem State.bump_mailbox : (s.bump).mailbox = s.mailbox := rfl
@[simp] theorem State.bump_caps : (s.bump).caps = s.caps := rfl
@[simp] theorem State.bump_remoteReads : (s.bump).remoteReads = s.remoteReads := rfl
@[simp] theorem State.bump_msix : (s.bump).msix = s.msix := rfl
@[simp] theorem State.bump_staging : (s.bump).staging = s.staging := rfl
@[simp] theorem State.bump_hostOut : (s.bump).hostOut = s.hostOut := rfl
@[simp] theorem State.bump_linkOut : (s.bump).linkOut = s.linkOut := rfl
end

section
variable (s : State) (n phase : Nat) (i : Instr) (who : Subj)
@[simp] theorem State.plan_now : (s.plan n phase i who).now = s.now := rfl
@[simp] theorem State.plan_fresh : (s.plan n phase i who).fresh = s.fresh := rfl
@[simp] theorem State.plan_curCore : (s.plan n phase i who).curCore = s.curCore := rfl
@[simp] theorem State.plan_curCtx : (s.plan n phase i who).curCtx = s.curCtx := rfl
@[simp] theorem State.plan_subj : (s.plan n phase i who).subj = s.subj := rfl
@[simp] theorem State.plan_nextId : (s.plan n phase i who).nextId = s.nextId := rfl
@[simp] theorem State.plan_cores : (s.plan n phase i who).cores = s.cores := rfl
@[simp] theorem State.plan_clusters : (s.plan n phase i who).clusters = s.clusters := rfl
@[simp] theorem State.plan_launches : (s.plan n phase i who).launches = s.launches := rfl
@[simp] theorem State.plan_tenants : (s.plan n phase i who).tenants = s.tenants := rfl
@[simp] theorem State.plan_mem : (s.plan n phase i who).mem = s.mem := rfl
@[simp] theorem State.plan_ecc : (s.plan n phase i who).ecc = s.ecc := rfl
@[simp] theorem State.plan_lines : (s.plan n phase i who).lines = s.lines := rfl
@[simp] theorem State.plan_tcache : (s.plan n phase i who).tcache = s.tcache := rfl
@[simp] theorem State.plan_root : (s.plan n phase i who).root = s.root := rfl
@[simp] theorem State.plan_apers : (s.plan n phase i who).apers = s.apers := rfl
@[simp] theorem State.plan_aperOwner : (s.plan n phase i who).aperOwner = s.aperOwner := rfl
@[simp] theorem State.plan_reqs : (s.plan n phase i who).reqs = s.reqs := rfl
@[simp] theorem State.plan_late : (s.plan n phase i who).late = s.late := rfl
@[simp] theorem State.plan_turns : (s.plan n phase i who).turns = s.turns := rfl
@[simp] theorem State.plan_parked : (s.plan n phase i who).parked = s.parked := rfl
@[simp] theorem State.plan_recording : (s.plan n phase i who).recording = s.recording := rfl
@[simp] theorem State.plan_directory : (s.plan n phase i who).directory = s.directory := rfl
@[simp] theorem State.plan_domOps : (s.plan n phase i who).domOps = s.domOps := rfl
@[simp] theorem State.plan_aborted : (s.plan n phase i who).aborted = s.aborted := rfl
@[simp] theorem State.plan_nextLaunch : (s.plan n phase i who).nextLaunch = s.nextLaunch := rfl
@[simp] theorem State.plan_lastBound : (s.plan n phase i who).lastBound = s.lastBound := rfl
@[simp] theorem State.plan_mill : (s.plan n phase i who).mill = s.mill := rfl
@[simp] theorem State.plan_moves : (s.plan n phase i who).moves = s.moves := rfl
@[simp] theorem State.plan_links : (s.plan n phase i who).links = s.links := rfl
@[simp] theorem State.plan_pcie : (s.plan n phase i who).pcie = s.pcie := rfl
@[simp] theorem State.plan_pwBase : (s.plan n phase i who).pwBase = s.pwBase := rfl
@[simp] theorem State.plan_tflushBusy : (s.plan n phase i who).tflushBusy = s.tflushBusy := rfl
@[simp] theorem State.plan_ready : (s.plan n phase i who).ready = s.ready := rfl
@[simp] theorem State.plan_fatal : (s.plan n phase i who).fatal = s.fatal := rfl
@[simp] theorem State.plan_linksL0 : (s.plan n phase i who).linksL0 = s.linksL0 := rfl
@[simp] theorem State.plan_mDie : (s.plan n phase i who).mDie = s.mDie := rfl
@[simp] theorem State.plan_mStep : (s.plan n phase i who).mStep = s.mStep := rfl
@[simp] theorem State.plan_watts : (s.plan n phase i who).watts = s.watts := rfl
@[simp] theorem State.plan_pstate : (s.plan n phase i who).pstate = s.pstate := rfl
@[simp] theorem State.plan_telemetry : (s.plan n phase i who).telemetry = s.telemetry := rfl
@[simp] theorem State.plan_powers : (s.plan n phase i who).powers = s.powers := rfl
@[simp] theorem State.plan_calm : (s.plan n phase i who).calm = s.calm := rfl
@[simp] theorem State.plan_mailbox : (s.plan n phase i who).mailbox = s.mailbox := rfl
@[simp] theorem State.plan_caps : (s.plan n phase i who).caps = s.caps := rfl
@[simp] theorem State.plan_remoteReads : (s.plan n phase i who).remoteReads = s.remoteReads := rfl
@[simp] theorem State.plan_msix : (s.plan n phase i who).msix = s.msix := rfl
@[simp] theorem State.plan_staging : (s.plan n phase i who).staging = s.staging := rfl
@[simp] theorem State.plan_hostOut : (s.plan n phase i who).hostOut = s.hostOut := rfl
@[simp] theorem State.plan_linkOut : (s.plan n phase i who).linkOut = s.linkOut := rfl
end

section
variable (s : State) (p : Pend)
@[simp] theorem State.launchPend_now : (s.launchPend p).now = s.now := by
  unfold State.launchPend; split <;> rfl
@[simp] theorem State.launchPend_fresh : (s.launchPend p).fresh = s.fresh := by
  unfold State.launchPend; split <;> rfl
@[simp] theorem State.launchPend_curCore : (s.launchPend p).curCore = s.curCore := by
  unfold State.launchPend; split <;> rfl
@[simp] theorem State.launchPend_curCtx : (s.launchPend p).curCtx = s.curCtx := by
  unfold State.launchPend; split <;> rfl
@[simp] theorem State.launchPend_subj : (s.launchPend p).subj = s.subj := by
  unfold State.launchPend; split <;> rfl
@[simp] theorem State.launchPend_agenda : (s.launchPend p).agenda = s.agenda := by
  unfold State.launchPend; split <;> rfl
@[simp] theorem State.launchPend_nextId : (s.launchPend p).nextId = s.nextId := by
  unfold State.launchPend; split <;> rfl
@[simp] theorem State.launchPend_clusters : (s.launchPend p).clusters = s.clusters := by
  unfold State.launchPend; split <;> rfl
@[simp] theorem State.launchPend_launches : (s.launchPend p).launches = s.launches := by
  unfold State.launchPend; split <;> rfl
@[simp] theorem State.launchPend_tenants : (s.launchPend p).tenants = s.tenants := by
  unfold State.launchPend; split <;> rfl
@[simp] theorem State.launchPend_mem : (s.launchPend p).mem = s.mem := by
  unfold State.launchPend; split <;> rfl
@[simp] theorem State.launchPend_ecc : (s.launchPend p).ecc = s.ecc := by
  unfold State.launchPend; split <;> rfl
@[simp] theorem State.launchPend_lines : (s.launchPend p).lines = s.lines := by
  unfold State.launchPend; split <;> rfl
@[simp] theorem State.launchPend_tcache : (s.launchPend p).tcache = s.tcache := by
  unfold State.launchPend; split <;> rfl
@[simp] theorem State.launchPend_root : (s.launchPend p).root = s.root := by
  unfold State.launchPend; split <;> rfl
@[simp] theorem State.launchPend_apers : (s.launchPend p).apers = s.apers := by
  unfold State.launchPend; split <;> rfl
@[simp] theorem State.launchPend_aperOwner : (s.launchPend p).aperOwner = s.aperOwner := by
  unfold State.launchPend; split <;> rfl
@[simp] theorem State.launchPend_reqs : (s.launchPend p).reqs = s.reqs := by
  unfold State.launchPend; split <;> rfl
@[simp] theorem State.launchPend_late : (s.launchPend p).late = s.late := by
  unfold State.launchPend; split <;> rfl
@[simp] theorem State.launchPend_turns : (s.launchPend p).turns = s.turns := by
  unfold State.launchPend; split <;> rfl
@[simp] theorem State.launchPend_parked : (s.launchPend p).parked = s.parked := by
  unfold State.launchPend; split <;> rfl
@[simp] theorem State.launchPend_recording : (s.launchPend p).recording = s.recording := by
  unfold State.launchPend; split <;> rfl
@[simp] theorem State.launchPend_directory : (s.launchPend p).directory = s.directory := by
  unfold State.launchPend; split <;> rfl
@[simp] theorem State.launchPend_domOps : (s.launchPend p).domOps = s.domOps := by
  unfold State.launchPend; split <;> rfl
@[simp] theorem State.launchPend_aborted : (s.launchPend p).aborted = s.aborted := by
  unfold State.launchPend; split <;> rfl
@[simp] theorem State.launchPend_nextLaunch : (s.launchPend p).nextLaunch = s.nextLaunch := by
  unfold State.launchPend; split <;> rfl
@[simp] theorem State.launchPend_lastBound : (s.launchPend p).lastBound = s.lastBound := by
  unfold State.launchPend; split <;> rfl
@[simp] theorem State.launchPend_mill : (s.launchPend p).mill = s.mill := by
  unfold State.launchPend; split <;> rfl
@[simp] theorem State.launchPend_moves : (s.launchPend p).moves = s.moves := by
  unfold State.launchPend; split <;> rfl
@[simp] theorem State.launchPend_links : (s.launchPend p).links = s.links := by
  unfold State.launchPend; split <;> rfl
@[simp] theorem State.launchPend_pcie : (s.launchPend p).pcie = s.pcie := by
  unfold State.launchPend; split <;> rfl
@[simp] theorem State.launchPend_pwBase : (s.launchPend p).pwBase = s.pwBase := by
  unfold State.launchPend; split <;> rfl
@[simp] theorem State.launchPend_tflushBusy : (s.launchPend p).tflushBusy = s.tflushBusy := by
  unfold State.launchPend; split <;> rfl
@[simp] theorem State.launchPend_ready : (s.launchPend p).ready = s.ready := by
  unfold State.launchPend; split <;> rfl
@[simp] theorem State.launchPend_fatal : (s.launchPend p).fatal = s.fatal := by
  unfold State.launchPend; split <;> rfl
@[simp] theorem State.launchPend_linksL0 : (s.launchPend p).linksL0 = s.linksL0 := by
  unfold State.launchPend; split <;> rfl
@[simp] theorem State.launchPend_mDie : (s.launchPend p).mDie = s.mDie := by
  unfold State.launchPend; split <;> rfl
@[simp] theorem State.launchPend_mStep : (s.launchPend p).mStep = s.mStep := by
  unfold State.launchPend; split <;> rfl
@[simp] theorem State.launchPend_watts : (s.launchPend p).watts = s.watts := by
  unfold State.launchPend; split <;> rfl
@[simp] theorem State.launchPend_pstate : (s.launchPend p).pstate = s.pstate := by
  unfold State.launchPend; split <;> rfl
@[simp] theorem State.launchPend_telemetry : (s.launchPend p).telemetry = s.telemetry := by
  unfold State.launchPend; split <;> rfl
@[simp] theorem State.launchPend_powers : (s.launchPend p).powers = s.powers := by
  unfold State.launchPend; split <;> rfl
@[simp] theorem State.launchPend_calm : (s.launchPend p).calm = s.calm := by
  unfold State.launchPend; split <;> rfl
@[simp] theorem State.launchPend_mailbox : (s.launchPend p).mailbox = s.mailbox := by
  unfold State.launchPend; split <;> rfl
@[simp] theorem State.launchPend_caps : (s.launchPend p).caps = s.caps := by
  unfold State.launchPend; split <;> rfl
@[simp] theorem State.launchPend_remoteReads : (s.launchPend p).remoteReads = s.remoteReads := by
  unfold State.launchPend; split <;> rfl
@[simp] theorem State.launchPend_msix : (s.launchPend p).msix = s.msix := by
  unfold State.launchPend; split <;> rfl
@[simp] theorem State.launchPend_staging : (s.launchPend p).staging = s.staging := by
  unfold State.launchPend; split <;> rfl
@[simp] theorem State.launchPend_hostOut : (s.launchPend p).hostOut = s.hostOut := by
  unfold State.launchPend; split <;> rfl
@[simp] theorem State.launchPend_linkOut : (s.launchPend p).linkOut = s.linkOut := by
  unfold State.launchPend; split <;> rfl
end

section
variable (s : State) (tag least total : Nat) (ws : List RegWrite) (flags : Nat) (acq : Bool) (dst : List RegRef)
@[simp] theorem State.produceIn_now : (s.produceIn tag least total ws flags acq dst).now = s.now := by
  simp [State.produceIn]
@[simp] theorem State.produceIn_fresh : (s.produceIn tag least total ws flags acq dst).fresh = s.fresh := by
  simp [State.produceIn]
@[simp] theorem State.produceIn_curCore : (s.produceIn tag least total ws flags acq dst).curCore = s.curCore := by
  simp [State.produceIn]
@[simp] theorem State.produceIn_curCtx : (s.produceIn tag least total ws flags acq dst).curCtx = s.curCtx := by
  simp [State.produceIn]
@[simp] theorem State.produceIn_subj : (s.produceIn tag least total ws flags acq dst).subj = s.subj := by
  simp [State.produceIn]
@[simp] theorem State.produceIn_clusters : (s.produceIn tag least total ws flags acq dst).clusters = s.clusters := by
  simp [State.produceIn]
@[simp] theorem State.produceIn_launches : (s.produceIn tag least total ws flags acq dst).launches = s.launches := by
  simp [State.produceIn]
@[simp] theorem State.produceIn_tenants : (s.produceIn tag least total ws flags acq dst).tenants = s.tenants := by
  simp [State.produceIn]
@[simp] theorem State.produceIn_mem : (s.produceIn tag least total ws flags acq dst).mem = s.mem := by
  simp [State.produceIn]
@[simp] theorem State.produceIn_ecc : (s.produceIn tag least total ws flags acq dst).ecc = s.ecc := by
  simp [State.produceIn]
@[simp] theorem State.produceIn_lines : (s.produceIn tag least total ws flags acq dst).lines = s.lines := by
  simp [State.produceIn]
@[simp] theorem State.produceIn_tcache : (s.produceIn tag least total ws flags acq dst).tcache = s.tcache := by
  simp [State.produceIn]
@[simp] theorem State.produceIn_root : (s.produceIn tag least total ws flags acq dst).root = s.root := by
  simp [State.produceIn]
@[simp] theorem State.produceIn_apers : (s.produceIn tag least total ws flags acq dst).apers = s.apers := by
  simp [State.produceIn]
@[simp] theorem State.produceIn_aperOwner : (s.produceIn tag least total ws flags acq dst).aperOwner = s.aperOwner := by
  simp [State.produceIn]
@[simp] theorem State.produceIn_reqs : (s.produceIn tag least total ws flags acq dst).reqs = s.reqs := by
  simp [State.produceIn]
@[simp] theorem State.produceIn_late : (s.produceIn tag least total ws flags acq dst).late = s.late := by
  simp [State.produceIn]
@[simp] theorem State.produceIn_turns : (s.produceIn tag least total ws flags acq dst).turns = s.turns := by
  simp [State.produceIn]
@[simp] theorem State.produceIn_parked : (s.produceIn tag least total ws flags acq dst).parked = s.parked := by
  simp [State.produceIn]
@[simp] theorem State.produceIn_recording : (s.produceIn tag least total ws flags acq dst).recording = s.recording := by
  simp [State.produceIn]
@[simp] theorem State.produceIn_directory : (s.produceIn tag least total ws flags acq dst).directory = s.directory := by
  simp [State.produceIn]
@[simp] theorem State.produceIn_domOps : (s.produceIn tag least total ws flags acq dst).domOps = s.domOps := by
  simp [State.produceIn]
@[simp] theorem State.produceIn_aborted : (s.produceIn tag least total ws flags acq dst).aborted = s.aborted := by
  simp [State.produceIn]
@[simp] theorem State.produceIn_nextLaunch : (s.produceIn tag least total ws flags acq dst).nextLaunch = s.nextLaunch := by
  simp [State.produceIn]
@[simp] theorem State.produceIn_lastBound : (s.produceIn tag least total ws flags acq dst).lastBound = s.lastBound := by
  simp [State.produceIn]
@[simp] theorem State.produceIn_mill : (s.produceIn tag least total ws flags acq dst).mill = s.mill := by
  simp [State.produceIn]
@[simp] theorem State.produceIn_moves : (s.produceIn tag least total ws flags acq dst).moves = s.moves := by
  simp [State.produceIn]
@[simp] theorem State.produceIn_links : (s.produceIn tag least total ws flags acq dst).links = s.links := by
  simp [State.produceIn]
@[simp] theorem State.produceIn_pcie : (s.produceIn tag least total ws flags acq dst).pcie = s.pcie := by
  simp [State.produceIn]
@[simp] theorem State.produceIn_pwBase : (s.produceIn tag least total ws flags acq dst).pwBase = s.pwBase := by
  simp [State.produceIn]
@[simp] theorem State.produceIn_tflushBusy : (s.produceIn tag least total ws flags acq dst).tflushBusy = s.tflushBusy := by
  simp [State.produceIn]
@[simp] theorem State.produceIn_ready : (s.produceIn tag least total ws flags acq dst).ready = s.ready := by
  simp [State.produceIn]
@[simp] theorem State.produceIn_fatal : (s.produceIn tag least total ws flags acq dst).fatal = s.fatal := by
  simp [State.produceIn]
@[simp] theorem State.produceIn_linksL0 : (s.produceIn tag least total ws flags acq dst).linksL0 = s.linksL0 := by
  simp [State.produceIn]
@[simp] theorem State.produceIn_mDie : (s.produceIn tag least total ws flags acq dst).mDie = s.mDie := by
  simp [State.produceIn]
@[simp] theorem State.produceIn_mStep : (s.produceIn tag least total ws flags acq dst).mStep = s.mStep := by
  simp [State.produceIn]
@[simp] theorem State.produceIn_watts : (s.produceIn tag least total ws flags acq dst).watts = s.watts := by
  simp [State.produceIn]
@[simp] theorem State.produceIn_pstate : (s.produceIn tag least total ws flags acq dst).pstate = s.pstate := by
  simp [State.produceIn]
@[simp] theorem State.produceIn_telemetry : (s.produceIn tag least total ws flags acq dst).telemetry = s.telemetry := by
  simp [State.produceIn]
@[simp] theorem State.produceIn_powers : (s.produceIn tag least total ws flags acq dst).powers = s.powers := by
  simp [State.produceIn]
@[simp] theorem State.produceIn_calm : (s.produceIn tag least total ws flags acq dst).calm = s.calm := by
  simp [State.produceIn]
@[simp] theorem State.produceIn_mailbox : (s.produceIn tag least total ws flags acq dst).mailbox = s.mailbox := by
  simp [State.produceIn]
@[simp] theorem State.produceIn_caps : (s.produceIn tag least total ws flags acq dst).caps = s.caps := by
  simp [State.produceIn]
@[simp] theorem State.produceIn_remoteReads : (s.produceIn tag least total ws flags acq dst).remoteReads = s.remoteReads := by
  simp [State.produceIn]
@[simp] theorem State.produceIn_msix : (s.produceIn tag least total ws flags acq dst).msix = s.msix := by
  simp [State.produceIn]
@[simp] theorem State.produceIn_staging : (s.produceIn tag least total ws flags acq dst).staging = s.staging := by
  simp [State.produceIn]
@[simp] theorem State.produceIn_hostOut : (s.produceIn tag least total ws flags acq dst).hostOut = s.hostOut := by
  simp [State.produceIn]
@[simp] theorem State.produceIn_linkOut : (s.produceIn tag least total ws flags acq dst).linkOut = s.linkOut := by
  simp [State.produceIn]
end

section
variable (s : State) (tag lat : Nat) (ws : List RegWrite) (flags : Nat) (dst : List RegRef)
@[simp] theorem State.produce_now : (s.produce tag lat ws flags dst).now = s.now := by
  simp [State.produce]
@[simp] theorem State.produce_fresh : (s.produce tag lat ws flags dst).fresh = s.fresh := by
  simp [State.produce]
@[simp] theorem State.produce_curCore : (s.produce tag lat ws flags dst).curCore = s.curCore := by
  simp [State.produce]
@[simp] theorem State.produce_curCtx : (s.produce tag lat ws flags dst).curCtx = s.curCtx := by
  simp [State.produce]
@[simp] theorem State.produce_subj : (s.produce tag lat ws flags dst).subj = s.subj := by
  simp [State.produce]
@[simp] theorem State.produce_clusters : (s.produce tag lat ws flags dst).clusters = s.clusters := by
  simp [State.produce]
@[simp] theorem State.produce_launches : (s.produce tag lat ws flags dst).launches = s.launches := by
  simp [State.produce]
@[simp] theorem State.produce_tenants : (s.produce tag lat ws flags dst).tenants = s.tenants := by
  simp [State.produce]
@[simp] theorem State.produce_mem : (s.produce tag lat ws flags dst).mem = s.mem := by
  simp [State.produce]
@[simp] theorem State.produce_ecc : (s.produce tag lat ws flags dst).ecc = s.ecc := by
  simp [State.produce]
@[simp] theorem State.produce_lines : (s.produce tag lat ws flags dst).lines = s.lines := by
  simp [State.produce]
@[simp] theorem State.produce_tcache : (s.produce tag lat ws flags dst).tcache = s.tcache := by
  simp [State.produce]
@[simp] theorem State.produce_root : (s.produce tag lat ws flags dst).root = s.root := by
  simp [State.produce]
@[simp] theorem State.produce_apers : (s.produce tag lat ws flags dst).apers = s.apers := by
  simp [State.produce]
@[simp] theorem State.produce_aperOwner : (s.produce tag lat ws flags dst).aperOwner = s.aperOwner := by
  simp [State.produce]
@[simp] theorem State.produce_reqs : (s.produce tag lat ws flags dst).reqs = s.reqs := by
  simp [State.produce]
@[simp] theorem State.produce_late : (s.produce tag lat ws flags dst).late = s.late := by
  simp [State.produce]
@[simp] theorem State.produce_turns : (s.produce tag lat ws flags dst).turns = s.turns := by
  simp [State.produce]
@[simp] theorem State.produce_parked : (s.produce tag lat ws flags dst).parked = s.parked := by
  simp [State.produce]
@[simp] theorem State.produce_recording : (s.produce tag lat ws flags dst).recording = s.recording := by
  simp [State.produce]
@[simp] theorem State.produce_directory : (s.produce tag lat ws flags dst).directory = s.directory := by
  simp [State.produce]
@[simp] theorem State.produce_domOps : (s.produce tag lat ws flags dst).domOps = s.domOps := by
  simp [State.produce]
@[simp] theorem State.produce_aborted : (s.produce tag lat ws flags dst).aborted = s.aborted := by
  simp [State.produce]
@[simp] theorem State.produce_nextLaunch : (s.produce tag lat ws flags dst).nextLaunch = s.nextLaunch := by
  simp [State.produce]
@[simp] theorem State.produce_lastBound : (s.produce tag lat ws flags dst).lastBound = s.lastBound := by
  simp [State.produce]
@[simp] theorem State.produce_mill : (s.produce tag lat ws flags dst).mill = s.mill := by
  simp [State.produce]
@[simp] theorem State.produce_moves : (s.produce tag lat ws flags dst).moves = s.moves := by
  simp [State.produce]
@[simp] theorem State.produce_links : (s.produce tag lat ws flags dst).links = s.links := by
  simp [State.produce]
@[simp] theorem State.produce_pcie : (s.produce tag lat ws flags dst).pcie = s.pcie := by
  simp [State.produce]
@[simp] theorem State.produce_pwBase : (s.produce tag lat ws flags dst).pwBase = s.pwBase := by
  simp [State.produce]
@[simp] theorem State.produce_tflushBusy : (s.produce tag lat ws flags dst).tflushBusy = s.tflushBusy := by
  simp [State.produce]
@[simp] theorem State.produce_ready : (s.produce tag lat ws flags dst).ready = s.ready := by
  simp [State.produce]
@[simp] theorem State.produce_fatal : (s.produce tag lat ws flags dst).fatal = s.fatal := by
  simp [State.produce]
@[simp] theorem State.produce_linksL0 : (s.produce tag lat ws flags dst).linksL0 = s.linksL0 := by
  simp [State.produce]
@[simp] theorem State.produce_mDie : (s.produce tag lat ws flags dst).mDie = s.mDie := by
  simp [State.produce]
@[simp] theorem State.produce_mStep : (s.produce tag lat ws flags dst).mStep = s.mStep := by
  simp [State.produce]
@[simp] theorem State.produce_watts : (s.produce tag lat ws flags dst).watts = s.watts := by
  simp [State.produce]
@[simp] theorem State.produce_pstate : (s.produce tag lat ws flags dst).pstate = s.pstate := by
  simp [State.produce]
@[simp] theorem State.produce_telemetry : (s.produce tag lat ws flags dst).telemetry = s.telemetry := by
  simp [State.produce]
@[simp] theorem State.produce_powers : (s.produce tag lat ws flags dst).powers = s.powers := by
  simp [State.produce]
@[simp] theorem State.produce_calm : (s.produce tag lat ws flags dst).calm = s.calm := by
  simp [State.produce]
@[simp] theorem State.produce_mailbox : (s.produce tag lat ws flags dst).mailbox = s.mailbox := by
  simp [State.produce]
@[simp] theorem State.produce_caps : (s.produce tag lat ws flags dst).caps = s.caps := by
  simp [State.produce]
@[simp] theorem State.produce_remoteReads : (s.produce tag lat ws flags dst).remoteReads = s.remoteReads := by
  simp [State.produce]
@[simp] theorem State.produce_msix : (s.produce tag lat ws flags dst).msix = s.msix := by
  simp [State.produce]
@[simp] theorem State.produce_staging : (s.produce tag lat ws flags dst).staging = s.staging := by
  simp [State.produce]
@[simp] theorem State.produce_hostOut : (s.produce tag lat ws flags dst).hostOut = s.hostOut := by
  simp [State.produce]
@[simp] theorem State.produce_linkOut : (s.produce tag lat ws flags dst).linkOut = s.linkOut := by
  simp [State.produce]
end

section
variable (s : State) (tag lat left : Nat) (ws : List RegWrite) (fin : Option VqFin) (acq : Bool) (dst : List RegRef)
@[simp] theorem State.await_now : (s.await tag lat left ws fin acq dst).now = s.now := by
  simp [State.await]
@[simp] theorem State.await_fresh : (s.await tag lat left ws fin acq dst).fresh = s.fresh := by
  simp [State.await]
@[simp] theorem State.await_curCore : (s.await tag lat left ws fin acq dst).curCore = s.curCore := by
  simp [State.await]
@[simp] theorem State.await_curCtx : (s.await tag lat left ws fin acq dst).curCtx = s.curCtx := by
  simp [State.await]
@[simp] theorem State.await_subj : (s.await tag lat left ws fin acq dst).subj = s.subj := by
  simp [State.await]
@[simp] theorem State.await_agenda : (s.await tag lat left ws fin acq dst).agenda = s.agenda := by
  simp [State.await]
@[simp] theorem State.await_clusters : (s.await tag lat left ws fin acq dst).clusters = s.clusters := by
  simp [State.await]
@[simp] theorem State.await_launches : (s.await tag lat left ws fin acq dst).launches = s.launches := by
  simp [State.await]
@[simp] theorem State.await_tenants : (s.await tag lat left ws fin acq dst).tenants = s.tenants := by
  simp [State.await]
@[simp] theorem State.await_mem : (s.await tag lat left ws fin acq dst).mem = s.mem := by
  simp [State.await]
@[simp] theorem State.await_ecc : (s.await tag lat left ws fin acq dst).ecc = s.ecc := by
  simp [State.await]
@[simp] theorem State.await_lines : (s.await tag lat left ws fin acq dst).lines = s.lines := by
  simp [State.await]
@[simp] theorem State.await_tcache : (s.await tag lat left ws fin acq dst).tcache = s.tcache := by
  simp [State.await]
@[simp] theorem State.await_root : (s.await tag lat left ws fin acq dst).root = s.root := by
  simp [State.await]
@[simp] theorem State.await_apers : (s.await tag lat left ws fin acq dst).apers = s.apers := by
  simp [State.await]
@[simp] theorem State.await_aperOwner : (s.await tag lat left ws fin acq dst).aperOwner = s.aperOwner := by
  simp [State.await]
@[simp] theorem State.await_reqs : (s.await tag lat left ws fin acq dst).reqs = s.reqs := by
  simp [State.await]
@[simp] theorem State.await_late : (s.await tag lat left ws fin acq dst).late = s.late := by
  simp [State.await]
@[simp] theorem State.await_turns : (s.await tag lat left ws fin acq dst).turns = s.turns := by
  simp [State.await]
@[simp] theorem State.await_parked : (s.await tag lat left ws fin acq dst).parked = s.parked := by
  simp [State.await]
@[simp] theorem State.await_recording : (s.await tag lat left ws fin acq dst).recording = s.recording := by
  simp [State.await]
@[simp] theorem State.await_directory : (s.await tag lat left ws fin acq dst).directory = s.directory := by
  simp [State.await]
@[simp] theorem State.await_domOps : (s.await tag lat left ws fin acq dst).domOps = s.domOps := by
  simp [State.await]
@[simp] theorem State.await_aborted : (s.await tag lat left ws fin acq dst).aborted = s.aborted := by
  simp [State.await]
@[simp] theorem State.await_nextLaunch : (s.await tag lat left ws fin acq dst).nextLaunch = s.nextLaunch := by
  simp [State.await]
@[simp] theorem State.await_lastBound : (s.await tag lat left ws fin acq dst).lastBound = s.lastBound := by
  simp [State.await]
@[simp] theorem State.await_mill : (s.await tag lat left ws fin acq dst).mill = s.mill := by
  simp [State.await]
@[simp] theorem State.await_moves : (s.await tag lat left ws fin acq dst).moves = s.moves := by
  simp [State.await]
@[simp] theorem State.await_links : (s.await tag lat left ws fin acq dst).links = s.links := by
  simp [State.await]
@[simp] theorem State.await_pcie : (s.await tag lat left ws fin acq dst).pcie = s.pcie := by
  simp [State.await]
@[simp] theorem State.await_pwBase : (s.await tag lat left ws fin acq dst).pwBase = s.pwBase := by
  simp [State.await]
@[simp] theorem State.await_tflushBusy : (s.await tag lat left ws fin acq dst).tflushBusy = s.tflushBusy := by
  simp [State.await]
@[simp] theorem State.await_ready : (s.await tag lat left ws fin acq dst).ready = s.ready := by
  simp [State.await]
@[simp] theorem State.await_fatal : (s.await tag lat left ws fin acq dst).fatal = s.fatal := by
  simp [State.await]
@[simp] theorem State.await_linksL0 : (s.await tag lat left ws fin acq dst).linksL0 = s.linksL0 := by
  simp [State.await]
@[simp] theorem State.await_mDie : (s.await tag lat left ws fin acq dst).mDie = s.mDie := by
  simp [State.await]
@[simp] theorem State.await_mStep : (s.await tag lat left ws fin acq dst).mStep = s.mStep := by
  simp [State.await]
@[simp] theorem State.await_watts : (s.await tag lat left ws fin acq dst).watts = s.watts := by
  simp [State.await]
@[simp] theorem State.await_pstate : (s.await tag lat left ws fin acq dst).pstate = s.pstate := by
  simp [State.await]
@[simp] theorem State.await_telemetry : (s.await tag lat left ws fin acq dst).telemetry = s.telemetry := by
  simp [State.await]
@[simp] theorem State.await_powers : (s.await tag lat left ws fin acq dst).powers = s.powers := by
  simp [State.await]
@[simp] theorem State.await_calm : (s.await tag lat left ws fin acq dst).calm = s.calm := by
  simp [State.await]
@[simp] theorem State.await_mailbox : (s.await tag lat left ws fin acq dst).mailbox = s.mailbox := by
  simp [State.await]
@[simp] theorem State.await_caps : (s.await tag lat left ws fin acq dst).caps = s.caps := by
  simp [State.await]
@[simp] theorem State.await_remoteReads : (s.await tag lat left ws fin acq dst).remoteReads = s.remoteReads := by
  simp [State.await]
@[simp] theorem State.await_msix : (s.await tag lat left ws fin acq dst).msix = s.msix := by
  simp [State.await]
@[simp] theorem State.await_staging : (s.await tag lat left ws fin acq dst).staging = s.staging := by
  simp [State.await]
@[simp] theorem State.await_hostOut : (s.await tag lat left ws fin acq dst).hostOut = s.hostOut := by
  simp [State.await]
@[simp] theorem State.await_linkOut : (s.await tag lat left ws fin acq dst).linkOut = s.linkOut := by
  simp [State.await]
end

section
variable (s : State) (m : Meta) (pc : Dword) (hold : Nat) (y : Bool)
@[simp] theorem State.issued_now : (s.issued m pc hold y).now = s.now := by
  unfold State.issued; dsimp only; split <;> rfl
@[simp] theorem State.issued_fresh : (s.issued m pc hold y).fresh = s.fresh := by
  unfold State.issued; dsimp only; split <;> rfl
@[simp] theorem State.issued_curCore : (s.issued m pc hold y).curCore = s.curCore := by
  unfold State.issued; dsimp only; split <;> rfl
@[simp] theorem State.issued_curCtx : (s.issued m pc hold y).curCtx = s.curCtx := by
  unfold State.issued; dsimp only; split <;> rfl
@[simp] theorem State.issued_subj : (s.issued m pc hold y).subj = s.subj := by
  unfold State.issued; dsimp only; split <;> rfl
@[simp] theorem State.issued_nextId : (s.issued m pc hold y).nextId = s.nextId := by
  unfold State.issued; dsimp only; split <;> rfl
@[simp] theorem State.issued_clusters : (s.issued m pc hold y).clusters = s.clusters := by
  unfold State.issued; dsimp only; split <;> rfl
@[simp] theorem State.issued_launches : (s.issued m pc hold y).launches = s.launches := by
  unfold State.issued; dsimp only; split <;> rfl
@[simp] theorem State.issued_tenants : (s.issued m pc hold y).tenants = s.tenants := by
  unfold State.issued; dsimp only; split <;> rfl
@[simp] theorem State.issued_mem : (s.issued m pc hold y).mem = s.mem := by
  unfold State.issued; dsimp only; split <;> rfl
@[simp] theorem State.issued_ecc : (s.issued m pc hold y).ecc = s.ecc := by
  unfold State.issued; dsimp only; split <;> rfl
@[simp] theorem State.issued_lines : (s.issued m pc hold y).lines = s.lines := by
  unfold State.issued; dsimp only; split <;> rfl
@[simp] theorem State.issued_tcache : (s.issued m pc hold y).tcache = s.tcache := by
  unfold State.issued; dsimp only; split <;> rfl
@[simp] theorem State.issued_root : (s.issued m pc hold y).root = s.root := by
  unfold State.issued; dsimp only; split <;> rfl
@[simp] theorem State.issued_apers : (s.issued m pc hold y).apers = s.apers := by
  unfold State.issued; dsimp only; split <;> rfl
@[simp] theorem State.issued_aperOwner : (s.issued m pc hold y).aperOwner = s.aperOwner := by
  unfold State.issued; dsimp only; split <;> rfl
@[simp] theorem State.issued_reqs : (s.issued m pc hold y).reqs = s.reqs := by
  unfold State.issued; dsimp only; split <;> rfl
@[simp] theorem State.issued_late : (s.issued m pc hold y).late = s.late := by
  unfold State.issued; dsimp only; split <;> rfl
@[simp] theorem State.issued_turns : (s.issued m pc hold y).turns = s.turns := by
  unfold State.issued; dsimp only; split <;> rfl
@[simp] theorem State.issued_parked : (s.issued m pc hold y).parked = s.parked := by
  unfold State.issued; dsimp only; split <;> rfl
@[simp] theorem State.issued_recording : (s.issued m pc hold y).recording = s.recording := by
  unfold State.issued; dsimp only; split <;> rfl
@[simp] theorem State.issued_directory : (s.issued m pc hold y).directory = s.directory := by
  unfold State.issued; dsimp only; split <;> rfl
@[simp] theorem State.issued_domOps : (s.issued m pc hold y).domOps = s.domOps := by
  unfold State.issued; dsimp only; split <;> rfl
@[simp] theorem State.issued_aborted : (s.issued m pc hold y).aborted = s.aborted := by
  unfold State.issued; dsimp only; split <;> rfl
@[simp] theorem State.issued_nextLaunch : (s.issued m pc hold y).nextLaunch = s.nextLaunch := by
  unfold State.issued; dsimp only; split <;> rfl
@[simp] theorem State.issued_lastBound : (s.issued m pc hold y).lastBound = s.lastBound := by
  unfold State.issued; dsimp only; split <;> rfl
@[simp] theorem State.issued_mill : (s.issued m pc hold y).mill = s.mill := by
  unfold State.issued; dsimp only; split <;> rfl
@[simp] theorem State.issued_moves : (s.issued m pc hold y).moves = s.moves := by
  unfold State.issued; dsimp only; split <;> rfl
@[simp] theorem State.issued_links : (s.issued m pc hold y).links = s.links := by
  unfold State.issued; dsimp only; split <;> rfl
@[simp] theorem State.issued_pcie : (s.issued m pc hold y).pcie = s.pcie := by
  unfold State.issued; dsimp only; split <;> rfl
@[simp] theorem State.issued_pwBase : (s.issued m pc hold y).pwBase = s.pwBase := by
  unfold State.issued; dsimp only; split <;> rfl
@[simp] theorem State.issued_tflushBusy : (s.issued m pc hold y).tflushBusy = s.tflushBusy := by
  unfold State.issued; dsimp only; split <;> rfl
@[simp] theorem State.issued_ready : (s.issued m pc hold y).ready = s.ready := by
  unfold State.issued; dsimp only; split <;> rfl
@[simp] theorem State.issued_fatal : (s.issued m pc hold y).fatal = s.fatal := by
  unfold State.issued; dsimp only; split <;> rfl
@[simp] theorem State.issued_linksL0 : (s.issued m pc hold y).linksL0 = s.linksL0 := by
  unfold State.issued; dsimp only; split <;> rfl
@[simp] theorem State.issued_mDie : (s.issued m pc hold y).mDie = s.mDie := by
  unfold State.issued; dsimp only; split <;> rfl
@[simp] theorem State.issued_mStep : (s.issued m pc hold y).mStep = s.mStep := by
  unfold State.issued; dsimp only; split <;> rfl
@[simp] theorem State.issued_watts : (s.issued m pc hold y).watts = s.watts := by
  unfold State.issued; dsimp only; split <;> rfl
@[simp] theorem State.issued_pstate : (s.issued m pc hold y).pstate = s.pstate := by
  unfold State.issued; dsimp only; split <;> rfl
@[simp] theorem State.issued_telemetry : (s.issued m pc hold y).telemetry = s.telemetry := by
  unfold State.issued; dsimp only; split <;> rfl
@[simp] theorem State.issued_powers : (s.issued m pc hold y).powers = s.powers := by
  unfold State.issued; dsimp only; split <;> rfl
@[simp] theorem State.issued_calm : (s.issued m pc hold y).calm = s.calm := by
  unfold State.issued; dsimp only; split <;> rfl
@[simp] theorem State.issued_mailbox : (s.issued m pc hold y).mailbox = s.mailbox := by
  unfold State.issued; dsimp only; split <;> rfl
@[simp] theorem State.issued_caps : (s.issued m pc hold y).caps = s.caps := by
  unfold State.issued; dsimp only; split <;> rfl
@[simp] theorem State.issued_remoteReads : (s.issued m pc hold y).remoteReads = s.remoteReads := by
  unfold State.issued; dsimp only; split <;> rfl
@[simp] theorem State.issued_msix : (s.issued m pc hold y).msix = s.msix := by
  unfold State.issued; dsimp only; split <;> rfl
@[simp] theorem State.issued_staging : (s.issued m pc hold y).staging = s.staging := by
  unfold State.issued; dsimp only; split <;> rfl
@[simp] theorem State.issued_hostOut : (s.issued m pc hold y).hostOut = s.hostOut := by
  unfold State.issued; dsimp only; split <;> rfl
@[simp] theorem State.issued_linkOut : (s.issued m pc hold y).linkOut = s.linkOut := by
  unfold State.issued; dsimp only; split <;> rfl
end

section
variable (s : State) (l : List LabelIn)
@[simp] theorem State.countVoids_now : (s.countVoids l).now = s.now := by
  unfold State.countVoids; dsimp only; split <;> rfl
@[simp] theorem State.countVoids_fresh : (s.countVoids l).fresh = s.fresh := by
  unfold State.countVoids; dsimp only; split <;> rfl
@[simp] theorem State.countVoids_curCore : (s.countVoids l).curCore = s.curCore := by
  unfold State.countVoids; dsimp only; split <;> rfl
@[simp] theorem State.countVoids_curCtx : (s.countVoids l).curCtx = s.curCtx := by
  unfold State.countVoids; dsimp only; split <;> rfl
@[simp] theorem State.countVoids_subj : (s.countVoids l).subj = s.subj := by
  unfold State.countVoids; dsimp only; split <;> rfl
@[simp] theorem State.countVoids_agenda : (s.countVoids l).agenda = s.agenda := by
  unfold State.countVoids; dsimp only; split <;> rfl
@[simp] theorem State.countVoids_nextId : (s.countVoids l).nextId = s.nextId := by
  unfold State.countVoids; dsimp only; split <;> rfl
@[simp] theorem State.countVoids_clusters : (s.countVoids l).clusters = s.clusters := by
  unfold State.countVoids; dsimp only; split <;> rfl
@[simp] theorem State.countVoids_launches : (s.countVoids l).launches = s.launches := by
  unfold State.countVoids; dsimp only; split <;> rfl
@[simp] theorem State.countVoids_tenants : (s.countVoids l).tenants = s.tenants := by
  unfold State.countVoids; dsimp only; split <;> rfl
@[simp] theorem State.countVoids_mem : (s.countVoids l).mem = s.mem := by
  unfold State.countVoids; dsimp only; split <;> rfl
@[simp] theorem State.countVoids_ecc : (s.countVoids l).ecc = s.ecc := by
  unfold State.countVoids; dsimp only; split <;> rfl
@[simp] theorem State.countVoids_lines : (s.countVoids l).lines = s.lines := by
  unfold State.countVoids; dsimp only; split <;> rfl
@[simp] theorem State.countVoids_tcache : (s.countVoids l).tcache = s.tcache := by
  unfold State.countVoids; dsimp only; split <;> rfl
@[simp] theorem State.countVoids_root : (s.countVoids l).root = s.root := by
  unfold State.countVoids; dsimp only; split <;> rfl
@[simp] theorem State.countVoids_apers : (s.countVoids l).apers = s.apers := by
  unfold State.countVoids; dsimp only; split <;> rfl
@[simp] theorem State.countVoids_aperOwner : (s.countVoids l).aperOwner = s.aperOwner := by
  unfold State.countVoids; dsimp only; split <;> rfl
@[simp] theorem State.countVoids_reqs : (s.countVoids l).reqs = s.reqs := by
  unfold State.countVoids; dsimp only; split <;> rfl
@[simp] theorem State.countVoids_late : (s.countVoids l).late = s.late := by
  unfold State.countVoids; dsimp only; split <;> rfl
@[simp] theorem State.countVoids_turns : (s.countVoids l).turns = s.turns := by
  unfold State.countVoids; dsimp only; split <;> rfl
@[simp] theorem State.countVoids_parked : (s.countVoids l).parked = s.parked := by
  unfold State.countVoids; dsimp only; split <;> rfl
@[simp] theorem State.countVoids_recording : (s.countVoids l).recording = s.recording := by
  unfold State.countVoids; dsimp only; split <;> rfl
@[simp] theorem State.countVoids_directory : (s.countVoids l).directory = s.directory := by
  unfold State.countVoids; dsimp only; split <;> rfl
@[simp] theorem State.countVoids_domOps : (s.countVoids l).domOps = s.domOps := by
  unfold State.countVoids; dsimp only; split <;> rfl
@[simp] theorem State.countVoids_aborted : (s.countVoids l).aborted = s.aborted := by
  unfold State.countVoids; dsimp only; split <;> rfl
@[simp] theorem State.countVoids_nextLaunch : (s.countVoids l).nextLaunch = s.nextLaunch := by
  unfold State.countVoids; dsimp only; split <;> rfl
@[simp] theorem State.countVoids_lastBound : (s.countVoids l).lastBound = s.lastBound := by
  unfold State.countVoids; dsimp only; split <;> rfl
@[simp] theorem State.countVoids_mill : (s.countVoids l).mill = s.mill := by
  unfold State.countVoids; dsimp only; split <;> rfl
@[simp] theorem State.countVoids_moves : (s.countVoids l).moves = s.moves := by
  unfold State.countVoids; dsimp only; split <;> rfl
@[simp] theorem State.countVoids_links : (s.countVoids l).links = s.links := by
  unfold State.countVoids; dsimp only; split <;> rfl
@[simp] theorem State.countVoids_pcie : (s.countVoids l).pcie = s.pcie := by
  unfold State.countVoids; dsimp only; split <;> rfl
@[simp] theorem State.countVoids_pwBase : (s.countVoids l).pwBase = s.pwBase := by
  unfold State.countVoids; dsimp only; split <;> rfl
@[simp] theorem State.countVoids_tflushBusy : (s.countVoids l).tflushBusy = s.tflushBusy := by
  unfold State.countVoids; dsimp only; split <;> rfl
@[simp] theorem State.countVoids_ready : (s.countVoids l).ready = s.ready := by
  unfold State.countVoids; dsimp only; split <;> rfl
@[simp] theorem State.countVoids_fatal : (s.countVoids l).fatal = s.fatal := by
  unfold State.countVoids; dsimp only; split <;> rfl
@[simp] theorem State.countVoids_linksL0 : (s.countVoids l).linksL0 = s.linksL0 := by
  unfold State.countVoids; dsimp only; split <;> rfl
@[simp] theorem State.countVoids_mDie : (s.countVoids l).mDie = s.mDie := by
  unfold State.countVoids; dsimp only; split <;> rfl
@[simp] theorem State.countVoids_mStep : (s.countVoids l).mStep = s.mStep := by
  unfold State.countVoids; dsimp only; split <;> rfl
@[simp] theorem State.countVoids_watts : (s.countVoids l).watts = s.watts := by
  unfold State.countVoids; dsimp only; split <;> rfl
@[simp] theorem State.countVoids_pstate : (s.countVoids l).pstate = s.pstate := by
  unfold State.countVoids; dsimp only; split <;> rfl
@[simp] theorem State.countVoids_telemetry : (s.countVoids l).telemetry = s.telemetry := by
  unfold State.countVoids; dsimp only; split <;> rfl
@[simp] theorem State.countVoids_powers : (s.countVoids l).powers = s.powers := by
  unfold State.countVoids; dsimp only; split <;> rfl
@[simp] theorem State.countVoids_calm : (s.countVoids l).calm = s.calm := by
  unfold State.countVoids; dsimp only; split <;> rfl
@[simp] theorem State.countVoids_mailbox : (s.countVoids l).mailbox = s.mailbox := by
  unfold State.countVoids; dsimp only; split <;> rfl
@[simp] theorem State.countVoids_caps : (s.countVoids l).caps = s.caps := by
  unfold State.countVoids; dsimp only; split <;> rfl
@[simp] theorem State.countVoids_remoteReads : (s.countVoids l).remoteReads = s.remoteReads := by
  unfold State.countVoids; dsimp only; split <;> rfl
@[simp] theorem State.countVoids_msix : (s.countVoids l).msix = s.msix := by
  unfold State.countVoids; dsimp only; split <;> rfl
@[simp] theorem State.countVoids_staging : (s.countVoids l).staging = s.staging := by
  unfold State.countVoids; dsimp only; split <;> rfl
@[simp] theorem State.countVoids_hostOut : (s.countVoids l).hostOut = s.hostOut := by
  unfold State.countVoids; dsimp only; split <;> rfl
@[simp] theorem State.countVoids_linkOut : (s.countVoids l).linkOut = s.linkOut := by
  unfold State.countVoids; dsimp only; split <;> rfl
end

section
variable (s : State) (l : List Handle)
@[simp] theorem State.countReads_now : (s.countReads l).now = s.now := by
  unfold State.countReads; simp
@[simp] theorem State.countReads_fresh : (s.countReads l).fresh = s.fresh := by
  unfold State.countReads; simp
@[simp] theorem State.countReads_curCore : (s.countReads l).curCore = s.curCore := by
  unfold State.countReads; simp
@[simp] theorem State.countReads_curCtx : (s.countReads l).curCtx = s.curCtx := by
  unfold State.countReads; simp
@[simp] theorem State.countReads_subj : (s.countReads l).subj = s.subj := by
  unfold State.countReads; simp
@[simp] theorem State.countReads_agenda : (s.countReads l).agenda = s.agenda := by
  unfold State.countReads; simp
@[simp] theorem State.countReads_nextId : (s.countReads l).nextId = s.nextId := by
  unfold State.countReads; simp
@[simp] theorem State.countReads_clusters : (s.countReads l).clusters = s.clusters := by
  unfold State.countReads; simp
@[simp] theorem State.countReads_launches : (s.countReads l).launches = s.launches := by
  unfold State.countReads; simp
@[simp] theorem State.countReads_tenants : (s.countReads l).tenants = s.tenants := by
  unfold State.countReads; simp
@[simp] theorem State.countReads_mem : (s.countReads l).mem = s.mem := by
  unfold State.countReads; simp
@[simp] theorem State.countReads_ecc : (s.countReads l).ecc = s.ecc := by
  unfold State.countReads; simp
@[simp] theorem State.countReads_lines : (s.countReads l).lines = s.lines := by
  unfold State.countReads; simp
@[simp] theorem State.countReads_tcache : (s.countReads l).tcache = s.tcache := by
  unfold State.countReads; simp
@[simp] theorem State.countReads_root : (s.countReads l).root = s.root := by
  unfold State.countReads; simp
@[simp] theorem State.countReads_apers : (s.countReads l).apers = s.apers := by
  unfold State.countReads; simp
@[simp] theorem State.countReads_aperOwner : (s.countReads l).aperOwner = s.aperOwner := by
  unfold State.countReads; simp
@[simp] theorem State.countReads_reqs : (s.countReads l).reqs = s.reqs := by
  unfold State.countReads; simp
@[simp] theorem State.countReads_late : (s.countReads l).late = s.late := by
  unfold State.countReads; simp
@[simp] theorem State.countReads_turns : (s.countReads l).turns = s.turns := by
  unfold State.countReads; simp
@[simp] theorem State.countReads_parked : (s.countReads l).parked = s.parked := by
  unfold State.countReads; simp
@[simp] theorem State.countReads_recording : (s.countReads l).recording = s.recording := by
  unfold State.countReads; simp
@[simp] theorem State.countReads_directory : (s.countReads l).directory = s.directory := by
  unfold State.countReads; simp
@[simp] theorem State.countReads_domOps : (s.countReads l).domOps = s.domOps := by
  unfold State.countReads; simp
@[simp] theorem State.countReads_aborted : (s.countReads l).aborted = s.aborted := by
  unfold State.countReads; simp
@[simp] theorem State.countReads_nextLaunch : (s.countReads l).nextLaunch = s.nextLaunch := by
  unfold State.countReads; simp
@[simp] theorem State.countReads_lastBound : (s.countReads l).lastBound = s.lastBound := by
  unfold State.countReads; simp
@[simp] theorem State.countReads_mill : (s.countReads l).mill = s.mill := by
  unfold State.countReads; simp
@[simp] theorem State.countReads_moves : (s.countReads l).moves = s.moves := by
  unfold State.countReads; simp
@[simp] theorem State.countReads_links : (s.countReads l).links = s.links := by
  unfold State.countReads; simp
@[simp] theorem State.countReads_pcie : (s.countReads l).pcie = s.pcie := by
  unfold State.countReads; simp
@[simp] theorem State.countReads_pwBase : (s.countReads l).pwBase = s.pwBase := by
  unfold State.countReads; simp
@[simp] theorem State.countReads_tflushBusy : (s.countReads l).tflushBusy = s.tflushBusy := by
  unfold State.countReads; simp
@[simp] theorem State.countReads_ready : (s.countReads l).ready = s.ready := by
  unfold State.countReads; simp
@[simp] theorem State.countReads_fatal : (s.countReads l).fatal = s.fatal := by
  unfold State.countReads; simp
@[simp] theorem State.countReads_linksL0 : (s.countReads l).linksL0 = s.linksL0 := by
  unfold State.countReads; simp
@[simp] theorem State.countReads_mDie : (s.countReads l).mDie = s.mDie := by
  unfold State.countReads; simp
@[simp] theorem State.countReads_mStep : (s.countReads l).mStep = s.mStep := by
  unfold State.countReads; simp
@[simp] theorem State.countReads_watts : (s.countReads l).watts = s.watts := by
  unfold State.countReads; simp
@[simp] theorem State.countReads_pstate : (s.countReads l).pstate = s.pstate := by
  unfold State.countReads; simp
@[simp] theorem State.countReads_telemetry : (s.countReads l).telemetry = s.telemetry := by
  unfold State.countReads; simp
@[simp] theorem State.countReads_powers : (s.countReads l).powers = s.powers := by
  unfold State.countReads; simp
@[simp] theorem State.countReads_calm : (s.countReads l).calm = s.calm := by
  unfold State.countReads; simp
@[simp] theorem State.countReads_mailbox : (s.countReads l).mailbox = s.mailbox := by
  unfold State.countReads; simp
@[simp] theorem State.countReads_caps : (s.countReads l).caps = s.caps := by
  unfold State.countReads; simp
@[simp] theorem State.countReads_remoteReads : (s.countReads l).remoteReads = s.remoteReads := by
  unfold State.countReads; simp
@[simp] theorem State.countReads_msix : (s.countReads l).msix = s.msix := by
  unfold State.countReads; simp
@[simp] theorem State.countReads_staging : (s.countReads l).staging = s.staging := by
  unfold State.countReads; simp
@[simp] theorem State.countReads_hostOut : (s.countReads l).hostOut = s.hostOut := by
  unfold State.countReads; simp
@[simp] theorem State.countReads_linkOut : (s.countReads l).linkOut = s.linkOut := by
  unfold State.countReads; simp
end

end Sys2Proof.Machine
end

