-- ==== Sys2Proof/Laws/Store.lean ====
section
/-! SUPPORT. Sys2Proof/Laws/Store.lean: reading after writing, for numbered lists, sparse stores and vectors, and the canonical form
of a sparse store (entry 7). -/

namespace Sys2Proof.Machine

/-! ## Numbered lists -/

theorem NMap.get_put_same {α : Type} (m : NMap α) (k : Nat) (x z : α) : (m.put k x).get k z = x := by
  induction m with
  | nil => simp [NMap.put, NMap.get]
  | cons p r ih =>
    obtain ⟨j, y⟩ := p
    unfold NMap.put
    split
    · simp [NMap.get]
    · split
      · simp [NMap.get]
      · simp only [NMap.get]
        rw [if_neg (by omega), ih]

theorem NMap.get_put_ne {α : Type} (m : NMap α) {k n : Nat} (x z : α) (h : n ≠ k) : (m.put k x).get n z = m.get n z := by
  induction m with
  | nil => simp [NMap.put, NMap.get, Ne.symm h]
  | cons p r ih =>
    obtain ⟨j, y⟩ := p
    unfold NMap.put
    split
    · simp [NMap.get, Ne.symm h]
    · split
      · rename_i h2; subst h2; simp [NMap.get, Ne.symm h]
      · simp only [NMap.get, ih]

theorem NMap.find_put_same {α : Type} (m : NMap α) (k : Nat) (x : α) : (m.put k x).find k = some x := by
  induction m with
  | nil => simp [NMap.put, NMap.find]
  | cons p r ih =>
    obtain ⟨j, y⟩ := p
    unfold NMap.put
    split
    · simp [NMap.find]
    · split
      · simp [NMap.find]
      · simp only [NMap.find]
        rw [if_neg (by omega), ih]

theorem NMap.find_put_ne {α : Type} (m : NMap α) {k n : Nat} (x : α) (h : n ≠ k) : (m.put k x).find n = m.find n := by
  induction m with
  | nil => simp [NMap.put, NMap.find, Ne.symm h]
  | cons p r ih =>
    obtain ⟨j, y⟩ := p
    unfold NMap.put
    split
    · simp [NMap.find, Ne.symm h]
    · split
      · rename_i h2; subst h2; simp [NMap.find, Ne.symm h]
      · simp only [NMap.find, ih]

/-! ## Sparse stores -/

theorem Sparse.get_below {n : Nat} {m : Sparse n} {lo k : Nat} (h : Sparse.wfFrom lo m = true) (hk : k < lo) :
    m.get k = 0#n := by
  cases m with
  | nil => rfl
  | cons p r =>
    obtain ⟨j, x⟩ := p
    simp only [Sparse.wfFrom, Bool.and_eq_true, decide_eq_true_eq] at h
    simp only [Sparse.get]
    rw [if_neg (by omega), if_pos (by omega)]

theorem Sparse.wfFrom_mono {n : Nat} {m : Sparse n} {lo lo' : Nat} (h : Sparse.wfFrom lo m = true) (hl : lo' ≤ lo) :
    Sparse.wfFrom lo' m = true := by
  cases m with
  | nil => rfl
  | cons p r =>
    obtain ⟨j, x⟩ := p
    simp only [Sparse.wfFrom, Bool.and_eq_true, decide_eq_true_eq] at h ⊢
    exact ⟨⟨by omega, h.1.2⟩, h.2⟩

theorem Sparse.wfFrom_put {n : Nat} {m : Sparse n} {lo k : Nat} (x : BitVec n) (h : Sparse.wfFrom lo m = true) (hk : lo ≤ k) :
    Sparse.wfFrom lo (m.put k x) = true := by
  induction m generalizing lo with
  | nil =>
    simp only [Sparse.put]
    split
    · rfl
    · rename_i hx; simp [Sparse.wfFrom, hk, hx]
  | cons p r ih =>
    obtain ⟨j, y⟩ := p
    have h0 := h
    simp only [Sparse.wfFrom, Bool.and_eq_true, decide_eq_true_eq] at h
    simp only [Sparse.put]
    split
    · split
      · exact h0
      · rename_i h1 hx
        simp only [Sparse.wfFrom, Bool.and_eq_true, decide_eq_true_eq]
        exact ⟨⟨hk, by simp [hx]⟩, ⟨by omega, h.1.2⟩, h.2⟩
    · split
      · rename_i h1 h2
        split
        · exact Sparse.wfFrom_mono h.2 (by omega)
        · rename_i hx
          subst h2
          simp only [Sparse.wfFrom, Bool.and_eq_true, decide_eq_true_eq]
          exact ⟨⟨hk, by simp [hx]⟩, h.2⟩
      · rename_i h1 h2
        simp only [Sparse.wfFrom, Bool.and_eq_true, decide_eq_true_eq]
        exact ⟨⟨h.1.1, h.1.2⟩, ih h.2 (by omega)⟩

/-- A write keeps the canonical form. -/
theorem Sparse.wf_put {n : Nat} {m : Sparse n} (k : Nat) (x : BitVec n) (h : m.wf = true) : (m.put k x).wf = true :=
  Sparse.wfFrom_put x h (Nat.zero_le k)

/-- A cell just written reads back. -/
theorem Sparse.get_put_same {n : Nat} {m : Sparse n} {lo : Nat} (k : Nat) (x : BitVec n) (h : Sparse.wfFrom lo m = true) :
    (m.put k x).get k = x := by
  induction m generalizing lo with
  | nil =>
    simp only [Sparse.put]
    split
    · rename_i hx; simp [Sparse.get, hx]
    · simp [Sparse.get]
  | cons p r ih =>
    obtain ⟨j, y⟩ := p
    simp only [Sparse.wfFrom, Bool.and_eq_true, decide_eq_true_eq] at h
    simp only [Sparse.put]
    split
    · split
      · rename_i h1 hx; simp only [Sparse.get]; rw [if_neg (by omega), if_pos h1, hx]
      · simp [Sparse.get]
    · split
      · rename_i h1 h2
        split
        · rename_i hx; rw [Sparse.get_below h.2 (by omega), hx]
        · simp [Sparse.get]
      · rename_i h1 h2
        simp only [Sparse.get]
        rw [if_neg (by omega), if_neg h1, ih h.2]

/-- A write leaves every other cell as it was. -/
theorem Sparse.get_put_ne {n : Nat} {m : Sparse n} {lo k i : Nat} (x : BitVec n) (h : Sparse.wfFrom lo m = true) (hi : i ≠ k) :
    (m.put k x).get i = m.get i := by
  induction m generalizing lo with
  | nil =>
    simp only [Sparse.put]
    split
    · rfl
    · simp only [Sparse.get]; rw [if_neg (by omega)]; split <;> rfl
  | cons p r ih =>
    obtain ⟨j, y⟩ := p
    simp only [Sparse.wfFrom, Bool.and_eq_true, decide_eq_true_eq] at h
    simp only [Sparse.put]
    split
    · split
      · rfl
      · rename_i h1 hx
        simp only [Sparse.get]
        rw [if_neg (by omega)]
        split
        · rename_i h3; rw [if_neg (by omega), if_pos (by omega)]
        · rfl
    · split
      · rename_i h1 h2
        subst h2
        split
        · simp only [Sparse.get]
          rw [if_neg (by omega)]
          split
          · rename_i h3; exact Sparse.get_below h.2 (by omega)
          · rfl
        · simp [Sparse.get, Ne.symm hi]
      · rename_i h1 h2
        simp only [Sparse.get]
        split
        · rfl
        · split
          · rfl
          · exact ih h.2

theorem Sparse.wf_putBytes {m : Sparse 8} (a : Nat) (l : List Byte) (h : m.wf = true) : (m.putBytes a l).wf = true := by
  induction l generalizing m a with
  | nil => exact h
  | cons b r ih => exact ih (a + 1) (Sparse.wf_put a b h)

/-- A byte outside the bytes stored is as it was. -/
theorem Sparse.get_putBytes_ne {m : Sparse 8} {a i : Nat} (l : List Byte) (h : m.wf = true) (hi : i < a ∨ a + l.length ≤ i) :
    (m.putBytes a l).get i = m.get i := by
  induction l generalizing m a with
  | nil => rfl
  | cons b r ih =>
    simp only [Sparse.putBytes, List.length_cons] at hi ⊢
    rw [ih (Sparse.wf_put a b h) (by omega), Sparse.get_put_ne b h (by omega)]

/-! ## Vectors -/

theorem vget_vset_same {α : Type} {n : Nat} (v : Vector α n) {i : Nat} (x z : α) (h : i < n) : vget (vset v i x) i z = x := by
  simp [vget, vset, h]

theorem vget_vset_ne {α : Type} {n : Nat} (v : Vector α n) {i j : Nat} (x z : α) (h : i ≠ j) :
    vget (vset v i x) j z = vget v j z := by
  unfold vget vset
  by_cases hj : j < n
  · simp [hj, h]
  · simp [hj]

theorem vget_beyond {α : Type} {n : Nat} (v : Vector α n) {i : Nat} (z : α) (h : n ≤ i) : vget v i z = z := by
  simp [vget, Vector.getElem?_eq_none h]

/-! ## Cores, contexts, clusters, tenants -/

@[simp] theorem State.core_setCore (s : State) (k : Nat) (c : Core) : (s.setCore k c).core k = c := NMap.get_put_same _ _ _ _

theorem State.core_setCore_ne (s : State) {k n : Nat} (c : Core) (h : n ≠ k) : (s.setCore k c).core n = s.core n :=
  NMap.get_put_ne _ _ _ h

@[simp] theorem State.core_onCore (s : State) (k : Nat) (f : Core → Core) : (s.onCore k f).core k = f (s.core k) :=
  State.core_setCore _ _ _

theorem State.core_onCore_ne (s : State) {k n : Nat} (f : Core → Core) (h : n ≠ k) : (s.onCore k f).core n = s.core n :=
  State.core_setCore_ne _ _ h

@[simp] theorem Core.ctx_setCtx (c : Core) {t : Nat} (x : Ctx) (h : t < 11) : (c.setCtx t x).ctx t = x :=
  vget_vset_same _ _ _ h

theorem Core.ctx_setCtx_ne (c : Core) {t u : Nat} (x : Ctx) (h : t ≠ u) : (c.setCtx t x).ctx u = c.ctx u :=
  vget_vset_ne _ _ _ h

theorem State.ctxAt_onCtx (s : State) (k : Nat) {t : Nat} (f : Ctx → Ctx) (h : t < 11) :
    (s.onCtx k t f).ctxAt k t = f (s.ctxAt k t) := by
  simp [State.ctxAt, State.onCtx, h]

theorem State.ctxAt_onCtx_ne (s : State) {k t n u : Nat} (f : Ctx → Ctx) (h : ¬(n = k ∧ u = t)) :
    (s.onCtx k t f).ctxAt n u = s.ctxAt n u := by
  by_cases hn : n = k
  · subst hn
    have hu : t ≠ u := fun e => h ⟨rfl, e.symm⟩
    simp [State.ctxAt, State.onCtx, Core.ctx_setCtx_ne _ _ hu]
  · simp [State.ctxAt, State.onCtx, State.core_onCore_ne _ _ hn]

@[simp] theorem State.core_plan (s : State) (n p : Nat) (i : Instr) (w : Subj) (k : Nat) : (s.plan n p i w).core k = s.core k := rfl
@[simp] theorem State.me_plan (s : State) (n p : Nat) (i : Instr) (w : Subj) : (s.plan n p i w).me = s.me := rfl
@[simp] theorem State.here_plan (s : State) (n p : Nat) (i : Instr) (w : Subj) : (s.plan n p i w).here = s.here := rfl
@[simp] theorem State.core_bump (s : State) (k : Nat) : s.bump.core k = s.core k := rfl
@[simp] theorem State.me_bump (s : State) : s.bump.me = s.me := rfl
@[simp] theorem State.here_bump (s : State) : s.bump.here = s.here := rfl

/-- A context that is live is one of the eleven of its core (R104). -/
theorem State.ctx_lt_of_live {s : State} {k t : Nat} (h : (s.ctxAt k t).live = true) : t < 11 := by
  by_contra hc
  rw [State.ctxAt, Core.ctx, vget_beyond _ _ (by omega)] at h
  simp [Ctx.zero] at h

theorem State.ctx_lt_of_me {s : State} (h : s.me.live = true) : s.curCtx < 11 := State.ctx_lt_of_live h

theorem State.me_onMe {s : State} (f : Ctx → Ctx) (h : s.curCtx < 11) : (s.onMe f).me = f s.me := State.ctxAt_onCtx s _ f h

@[simp] theorem State.here_onHere (s : State) (f : Core → Core) : (s.onHere f).here = f s.here := State.core_onCore _ _ _

@[simp] theorem State.cluster_onCluster (s : State) (k : Nat) (f : Cluster → Cluster) :
    (s.onCluster k f).cluster k = f (s.cluster k) := NMap.get_put_same _ _ _ _

theorem State.cluster_onCluster_ne (s : State) {k n : Nat} (f : Cluster → Cluster) (h : n ≠ k) :
    (s.onCluster k f).cluster n = s.cluster n := NMap.get_put_ne _ _ _ h

@[simp] theorem State.tenant_onTenant (s : State) (t : Nat) (f : Tenant → Tenant) : (s.onTenant t f).tenant t = f (s.tenant t) :=
  NMap.get_put_same _ _ _ _

theorem State.tenant_onTenant_ne (s : State) {t n : Nat} (f : Tenant → Tenant) (h : n ≠ t) :
    (s.onTenant t f).tenant n = s.tenant n := NMap.get_put_ne _ _ _ h

theorem State.launch_onLaunch {s : State} {n : Nat} {l : Launch} (f : Launch → Launch) (h : s.launch n = some l) :
    (s.onLaunch n f).launch n = some (f l) := by
  simp only [State.onLaunch, h]
  exact NMap.find_put_same _ _ _

end Sys2Proof.Machine
end

