-- ==== Sys2Proof/Laws/Issue.lean ====
section
/-! SUPPORT. Sys2Proof/Laws/Issue.lean: what the issue of one instruction can do (R112, R137, R138), and what a result in flight is
(R114). -/

namespace Sys2Proof.Machine

/-- The module that the manual describes has every optional feature (R7, R378). -/
theorem supported_all (i : Instr) : i.supported = true := by
  cases i <;> simp [Instr.supported, Config.hasLabels, Config.hasB4, Config.hasNelrek, Config.hasSnapshots]

/-- The checks before an entry's own pass exactly when the mode, the history and the earlier accesses allow the instruction. -/
theorem State.precheck_none {s : State} {i : Instr} {m : Meta} (hm : m.priv = true → s.supervised s.curCore = true)
    (ha : histOk s.me.hist m.ctl.pa.toNat m.aReg = true) (hb : histOk s.me.hist m.ctl.pb.toNat m.bReg = true)
    (hf : s.metFault i m = none) : s.precheck i m = none := by
  have h1 : (m.priv && !s.supervised s.curCore) = false := by
    cases hp : m.priv
    · rfl
    · simp [hm hp]
  simp [State.precheck, supported_all i, h1, ha, hb, hf]

/-- An instruction that passes these checks has its entry's effect. -/
theorem issue_effect {i : Instr} {s : State} {m : Meta} (f : State → Eff) (hi : i.info = some m) (hl : s.me.live = true)
    (hp : s.precheck i m = none) : issue i s f = .next (s.conclude m (f s)) := by
  simp [issue, hi, hl, hp]

/-- An instruction that fails one of them stops there. -/
theorem issue_checked {i : Instr} {s : State} {m : Meta} (f : State → Eff) {e : Eff} (hi : i.info = some m)
    (hl : s.me.live = true) (hp : s.precheck i m = some e) : issue i s f = .next (s.conclude m e) := by
  simp [issue, hi, hl, hp]

/-- Issue answers a next state whenever a live context issues an instruction. -/
theorem issue_next {i : Instr} {s : State} {m : Meta} (f : State → Eff) (hi : i.info = some m) (hl : s.me.live = true) :
    ∃ t, issue i s f = .next t := by
  unfold issue
  simp only [hi, hl]
  cases s.precheck i m <;> exact ⟨_, rfl⟩

/-- A scalar result is the combine of its operands' labels, set in flight. -/
theorem State.result_go {s u : State} {k : Ctl} {lat : Nat} {d : BitVec 5} {v : Dword} {hs : List Handle} {h : Handle}
    (flags : Nat) (hf : s.formWith hs = some (u, h)) :
    s.result k lat d v hs flags = .go (u.produce (tagOf k) lat [.s d v h] flags [.s d]) := by
  simp only [State.formWith] at hf
  simp [State.result, State.resultOf, hf]

/-- The issuing context after an issue. -/
theorem State.me_issued {s : State} (m : Meta) (pc : Dword) (hold : Nat) (y : Bool) (h : s.curCtx < 11) :
    (s.issued m pc hold y).me =
      { s.me with pc := pc, hist := pushHist s.me.hist m.dst, waited := 0,
                  waitPc := if s.me.sr || (pc != s.me.pc && some pc == s.me.waitPc) then s.me.waitPc else none,
                  waitWeir := if s.me.sr || (pc != s.me.pc && some pc == s.me.waitPc) then s.me.waitWeir else none,
                  srIssued := if s.me.sr then s.me.srIssued + 1 else s.me.srIssued,
                  gapUntil := if hold = 0 then 0 else s.now + 1 + hold } := by
  have key : ∀ t : State, t.curCore = s.curCore → t.curCtx = s.curCtx → t.cores = (s.onHere (fun c =>
      { (c.count 0 1) with lastCtx := s.curCtx, yielded := y, issuedAt := s.now + 1 })).cores → t.me = s.me := by
    intro t h1 h2 h3
    simp [State.me, State.ctxAt, h1, h2, State.core, h3, State.onHere, State.onCore, State.setCore, Core.count, Core.ctx,
      NMap.get_put_same]
  unfold State.issued
  dsimp only
  have h0 := key (s.onHere (fun c => { (c.count 0 1) with lastCtx := s.curCtx, yielded := y, issuedAt := s.now + 1 })) rfl rfl rfl
  split
  · rw [State.me_onMe _ (by simpa using h), h0]
  · rw [State.me_plan, State.me_onMe _ (by simpa using h), h0]

end Sys2Proof.Machine
end

