-- ==== Sys2Proof/Laws/Core.lean ====
section
/-! SUPPORT. Sys2Proof/Laws/Core.lean: what the updates of one core, one context and one counter leave alone, one lemma a field. -/

namespace Sys2Proof.Machine

section
variable (c : Core) (t : Nat) (x : Ctx)
@[simp] theorem Core.setCtx_lastCtx : (c.setCtx t x).lastCtx = c.lastCtx := rfl
@[simp] theorem Core.setCtx_yielded : (c.setCtx t x).yielded = c.yielded := rfl
@[simp] theorem Core.setCtx_issuedAt : (c.setCtx t x).issuedAt = c.issuedAt := rfl
@[simp] theorem Core.setCtx_partials : (c.setCtx t x).partials = c.partials := rfl
@[simp] theorem Core.setCtx_viewStamp : (c.setCtx t x).viewStamp = c.viewStamp := rfl
@[simp] theorem Core.setCtx_plb : (c.setCtx t x).plb = c.plb := rfl
@[simp] theorem Core.setCtx_slots : (c.setCtx t x).slots = c.slots := rfl
@[simp] theorem Core.setCtx_extra : (c.setCtx t x).extra = c.extra := rfl
@[simp] theorem Core.setCtx_combCache : (c.setCtx t x).combCache = c.combCache := rfl
@[simp] theorem Core.setCtx_view : (c.setCtx t x).view = c.view := rfl
@[simp] theorem Core.setCtx_divFree : (c.setCtx t x).divFree = c.divFree := rfl
@[simp] theorem Core.setCtx_sdivFree : (c.setCtx t x).sdivFree = c.sdivFree := rfl
@[simp] theorem Core.setCtx_pk : (c.setCtx t x).pk = c.pk := rfl
@[simp] theorem Core.setCtx_arm : (c.setCtx t x).arm = c.arm := rfl
@[simp] theorem Core.setCtx_phaseStart : (c.setCtx t x).phaseStart = c.phaseStart := rfl
@[simp] theorem Core.setCtx_flumes : (c.setCtx t x).flumes = c.flumes := rfl
@[simp] theorem Core.setCtx_slotTab : (c.setCtx t x).slotTab = c.slotTab := rfl
@[simp] theorem Core.setCtx_cnt : (c.setCtx t x).cnt = c.cnt := rfl
@[simp] theorem Core.setCtx_frozen : (c.setCtx t x).frozen = c.frozen := rfl
@[simp] theorem Core.setCtx_dbgCtx : (c.setCtx t x).dbgCtx = c.dbgCtx := rfl
@[simp] theorem Core.setCtx_dbgCause : (c.setCtx t x).dbgCause = c.dbgCause := rfl
@[simp] theorem Core.setCtx_held : (c.setCtx t x).held = c.held := rfl
@[simp] theorem Core.setCtx_packet : (c.setCtx t x).packet = c.packet := rfl
@[simp] theorem Core.setCtx_lmem : (c.setCtx t x).lmem = c.lmem := rfl
@[simp] theorem Core.setCtx_lplane : (c.setCtx t x).lplane = c.lplane := rfl
@[simp] theorem Core.setCtx_eraTodo : (c.setCtx t x).eraTodo = c.eraTodo := rfl
@[simp] theorem Core.setCtx_regCache : (c.setCtx t x).regCache = c.regCache := rfl
@[simp] theorem Core.setCtx_pend : (c.setCtx t x).pend = c.pend := rfl
@[simp] theorem Core.setCtx_arr : (c.setCtx t x).arr = c.arr := rfl
@[simp] theorem Core.setCtx_gone : (c.setCtx t x).gone = c.gone := rfl
@[simp] theorem Core.setCtx_evOut : (c.setCtx t x).evOut = c.evOut := rfl
@[simp] theorem Core.setCtx_evIn : (c.setCtx t x).evIn = c.evIn := rfl
@[simp] theorem Core.setCtx_gangBusy : (c.setCtx t x).gangBusy = c.gangBusy := rfl
@[simp] theorem Core.setCtx_launch : (c.setCtx t x).launch = c.launch := rfl
@[simp] theorem Core.setCtx_holding : (c.setCtx t x).holding = c.holding := rfl
end

section
variable (c : Core) (i n : Nat)
@[simp] theorem Core.count_ctxs : (c.count i n).ctxs = c.ctxs := rfl
@[simp] theorem Core.count_lastCtx : (c.count i n).lastCtx = c.lastCtx := rfl
@[simp] theorem Core.count_yielded : (c.count i n).yielded = c.yielded := rfl
@[simp] theorem Core.count_issuedAt : (c.count i n).issuedAt = c.issuedAt := rfl
@[simp] theorem Core.count_partials : (c.count i n).partials = c.partials := rfl
@[simp] theorem Core.count_viewStamp : (c.count i n).viewStamp = c.viewStamp := rfl
@[simp] theorem Core.count_plb : (c.count i n).plb = c.plb := rfl
@[simp] theorem Core.count_slots : (c.count i n).slots = c.slots := rfl
@[simp] theorem Core.count_extra : (c.count i n).extra = c.extra := rfl
@[simp] theorem Core.count_combCache : (c.count i n).combCache = c.combCache := rfl
@[simp] theorem Core.count_view : (c.count i n).view = c.view := rfl
@[simp] theorem Core.count_divFree : (c.count i n).divFree = c.divFree := rfl
@[simp] theorem Core.count_sdivFree : (c.count i n).sdivFree = c.sdivFree := rfl
@[simp] theorem Core.count_pk : (c.count i n).pk = c.pk := rfl
@[simp] theorem Core.count_arm : (c.count i n).arm = c.arm := rfl
@[simp] theorem Core.count_phaseStart : (c.count i n).phaseStart = c.phaseStart := rfl
@[simp] theorem Core.count_flumes : (c.count i n).flumes = c.flumes := rfl
@[simp] theorem Core.count_slotTab : (c.count i n).slotTab = c.slotTab := rfl
@[simp] theorem Core.count_frozen : (c.count i n).frozen = c.frozen := rfl
@[simp] theorem Core.count_dbgCtx : (c.count i n).dbgCtx = c.dbgCtx := rfl
@[simp] theorem Core.count_dbgCause : (c.count i n).dbgCause = c.dbgCause := rfl
@[simp] theorem Core.count_held : (c.count i n).held = c.held := rfl
@[simp] theorem Core.count_packet : (c.count i n).packet = c.packet := rfl
@[simp] theorem Core.count_lmem : (c.count i n).lmem = c.lmem := rfl
@[simp] theorem Core.count_lplane : (c.count i n).lplane = c.lplane := rfl
@[simp] theorem Core.count_eraTodo : (c.count i n).eraTodo = c.eraTodo := rfl
@[simp] theorem Core.count_regCache : (c.count i n).regCache = c.regCache := rfl
@[simp] theorem Core.count_pend : (c.count i n).pend = c.pend := rfl
@[simp] theorem Core.count_arr : (c.count i n).arr = c.arr := rfl
@[simp] theorem Core.count_gone : (c.count i n).gone = c.gone := rfl
@[simp] theorem Core.count_evOut : (c.count i n).evOut = c.evOut := rfl
@[simp] theorem Core.count_evIn : (c.count i n).evIn = c.evIn := rfl
@[simp] theorem Core.count_gangBusy : (c.count i n).gangBusy = c.gangBusy := rfl
@[simp] theorem Core.count_launch : (c.count i n).launch = c.launch := rfl
@[simp] theorem Core.count_holding : (c.count i n).holding = c.holding := rfl
@[simp] theorem Core.ctx_count (t : Nat) : (c.count i n).ctx t = c.ctx t := rfl
end

@[simp] theorem State.core_onCtx (s : State) (k t : Nat) (f : Ctx → Ctx) :
    (s.onCtx k t f).core k = (s.core k).setCtx t (f ((s.core k).ctx t)) := State.core_onCore _ _ _

theorem State.core_onCtx_ne (s : State) {k n : Nat} (t : Nat) (f : Ctx → Ctx) (h : n ≠ k) : (s.onCtx k t f).core n = s.core n :=
  State.core_onCore_ne _ _ h

@[simp] theorem State.here_onMe (s : State) (f : Ctx → Ctx) : (s.onMe f).here = s.here.setCtx s.curCtx (f s.me) :=
  State.core_onCore _ _ _

theorem State.me_onHere (s : State) (f : Core → Core) : (s.onHere f).me = (f s.here).ctx s.curCtx := by
  simp [State.me, State.ctxAt, State.onHere, State.here]

theorem State.ctxAt_onHere_ne (s : State) {k : Nat} (t : Nat) (f : Core → Core) (h : k ≠ s.curCore) :
    (s.onHere f).ctxAt k t = s.ctxAt k t := by
  simp [State.ctxAt, State.onHere, State.core_onCore_ne _ _ h]

@[simp] theorem State.ctxAt_plan (s : State) (n p : Nat) (i : Instr) (w : Subj) (k t : Nat) : (s.plan n p i w).ctxAt k t = s.ctxAt k t :=
  rfl
@[simp] theorem State.cluster_plan (s : State) (n p : Nat) (i : Instr) (w : Subj) (k : Nat) : (s.plan n p i w).cluster k = s.cluster k :=
  rfl
@[simp] theorem State.tenant_plan (s : State) (n p : Nat) (i : Instr) (w : Subj) (k : Nat) : (s.plan n p i w).tenant k = s.tenant k := rfl

/-- Changing a cluster changes no core, and changing a core no cluster. -/
@[simp] theorem State.core_onCluster (s : State) (q k : Nat) (f : Cluster → Cluster) : (s.onCluster q f).core k = s.core k := rfl
@[simp] theorem State.cluster_onCore (s : State) (q k : Nat) (f : Core → Core) : (s.onCore k f).cluster q = s.cluster q := rfl
@[simp] theorem State.cluster_onCtx (s : State) (q k t : Nat) (f : Ctx → Ctx) : (s.onCtx k t f).cluster q = s.cluster q := rfl
@[simp] theorem State.core_onTenant (s : State) (t k : Nat) (f : Tenant → Tenant) : (s.onTenant t f).core k = s.core k := rfl
@[simp] theorem State.tenant_onCore (s : State) (t k : Nat) (f : Core → Core) : (s.onCore k f).tenant t = s.tenant t := rfl
@[simp] theorem State.tenant_onCtx (s : State) (t k c : Nat) (f : Ctx → Ctx) : (s.onCtx k c f).tenant t = s.tenant t := rfl

end Sys2Proof.Machine
end

