-- ==== Sys2Proof/Laws/Dispatch.lean ====
section
/-! SUPPORT. Sys2Proof/Laws/Dispatch.lean: the arm of `exec` for each constructor. -/

namespace Sys2Proof.Machine

theorem exec_nop (k : Ctl) (s : State) : exec (.nop k) s = execNop k s := rfl
theorem exec_halt (k : Ctl) (s : State) : exec (.halt k) s = execHalt k s := rfl
theorem exec_br (k : Ctl) (off : BitVec 19) (s : State) : exec (.br k off) s = execBr k off s := rfl
theorem exec_brc (k : Ctl) (a b : BitVec 5) (cond : BitVec 3) (off : BitVec 32) (s : State) : exec (.brc k a b cond off) s = execBrc k a b cond off s := rfl
theorem exec_brz (k : Ctl) (a : BitVec 5) (off : BitVec 19) (s : State) : exec (.brz k a off) s = execBrz k a off s := rfl
theorem exec_brnz (k : Ctl) (a : BitVec 5) (off : BitVec 19) (s : State) : exec (.brnz k a off) s = execBrnz k a off s := rfl
theorem exec_brv (k : Ctl) (a : BitVec 5) (off : BitVec 19) (s : State) : exec (.brv k a off) s = execBrv k a off s := rfl
theorem exec_call (k : Ctl) (off : BitVec 19) (s : State) : exec (.call k off) s = execCall k off s := rfl
theorem exec_callr (k : Ctl) (a : BitVec 5) (s : State) : exec (.callr k a) s = execCallr k a s := rfl
theorem exec_ret (k : Ctl) (s : State) : exec (.ret k) s = execRet k s := rfl
theorem exec_jmpr (k : Ctl) (a : BitVec 5) (s : State) : exec (.jmpr k a) s = execJmpr k a s := rfl
theorem exec_loop (k : Ctl) (d : BitVec 5) (off : BitVec 19) (s : State) : exec (.loop k d off) s = execLoop k d off s := rfl
theorem exec_hstart (k : Ctl) (d a b : BitVec 5) (off : BitVec 32) (s : State) : exec (.hstart k d a b off) s = execHstart k d a b off s := rfl
theorem exec_hend (k : Ctl) (s : State) : exec (.hend k) s = execHend k s := rfl
theorem exec_hjoin (k : Ctl) (a : BitVec 5) (s : State) : exec (.hjoin k a) s = execHjoin k a s := rfl
theorem exec_yield (k : Ctl) (n : BitVec 19) (s : State) : exec (.yield k n) s = execYield k n s := rfl
theorem exec_trap (k : Ctl) (n : BitVec 19) (s : State) : exec (.trap k n) s = execTrap k n s := rfl
theorem exec_brk (k : Ctl) (n : BitVec 19) (s : State) : exec (.brk k n) s = execBrk k n s := rfl
theorem exec_add (k : Ctl) (d a b : BitVec 5) (s : State) : exec (.add k d a b) s = execAdd k d a b s := rfl
theorem exec_addi (k : Ctl) (d a : BitVec 5) (imm : BitVec 19) (s : State) : exec (.addi k d a imm) s = execAddi k d a imm s := rfl
theorem exec_sub (k : Ctl) (d a b : BitVec 5) (s : State) : exec (.sub k d a b) s = execSub k d a b s := rfl
theorem exec_mul (k : Ctl) (d a b : BitVec 5) (s : State) : exec (.mul k d a b) s = execMul k d a b s := rfl
theorem exec_mulh (k : Ctl) (d a b : BitVec 5) (s : State) : exec (.mulh k d a b) s = execMulh k d a b s := rfl
theorem exec_mulhu (k : Ctl) (d a b : BitVec 5) (s : State) : exec (.mulhu k d a b) s = execMulhu k d a b s := rfl
theorem exec_div (k : Ctl) (d a b : BitVec 5) (s : State) : exec (.div k d a b) s = execDiv k d a b s := rfl
theorem exec_divu (k : Ctl) (d a b : BitVec 5) (s : State) : exec (.divu k d a b) s = execDivu k d a b s := rfl
theorem exec_rem (k : Ctl) (d a b : BitVec 5) (s : State) : exec (.rem k d a b) s = execRem k d a b s := rfl
theorem exec_remu (k : Ctl) (d a b : BitVec 5) (s : State) : exec (.remu k d a b) s = execRemu k d a b s := rfl
theorem exec_and (k : Ctl) (d a b : BitVec 5) (s : State) : exec (.and k d a b) s = execAnd k d a b s := rfl
theorem exec_andi (k : Ctl) (d a : BitVec 5) (imm : BitVec 19) (s : State) : exec (.andi k d a imm) s = execAndi k d a imm s := rfl
theorem exec_or (k : Ctl) (d a b : BitVec 5) (s : State) : exec (.or k d a b) s = execOr k d a b s := rfl
theorem exec_ori (k : Ctl) (d a : BitVec 5) (imm : BitVec 19) (s : State) : exec (.ori k d a imm) s = execOri k d a imm s := rfl
theorem exec_xor (k : Ctl) (d a b : BitVec 5) (s : State) : exec (.xor k d a b) s = execXor k d a b s := rfl
theorem exec_xori (k : Ctl) (d a : BitVec 5) (imm : BitVec 19) (s : State) : exec (.xori k d a imm) s = execXori k d a imm s := rfl
theorem exec_shl (k : Ctl) (d a b : BitVec 5) (s : State) : exec (.shl k d a b) s = execShl k d a b s := rfl
theorem exec_shli (k : Ctl) (d a : BitVec 5) (sh : BitVec 19) (s : State) : exec (.shli k d a sh) s = execShli k d a sh s := rfl
theorem exec_shr (k : Ctl) (d a b : BitVec 5) (s : State) : exec (.shr k d a b) s = execShr k d a b s := rfl
theorem exec_shri (k : Ctl) (d a : BitVec 5) (sh : BitVec 19) (s : State) : exec (.shri k d a sh) s = execShri k d a sh s := rfl
theorem exec_sar (k : Ctl) (d a b : BitVec 5) (s : State) : exec (.sar k d a b) s = execSar k d a b s := rfl
theorem exec_sari (k : Ctl) (d a : BitVec 5) (sh : BitVec 19) (s : State) : exec (.sari k d a sh) s = execSari k d a sh s := rfl
theorem exec_min (k : Ctl) (d a b : BitVec 5) (s : State) : exec (.min k d a b) s = execMin k d a b s := rfl
theorem exec_max (k : Ctl) (d a b : BitVec 5) (s : State) : exec (.max k d a b) s = execMax k d a b s := rfl
theorem exec_minu (k : Ctl) (d a b : BitVec 5) (s : State) : exec (.minu k d a b) s = execMinu k d a b s := rfl
theorem exec_maxu (k : Ctl) (d a b : BitVec 5) (s : State) : exec (.maxu k d a b) s = execMaxu k d a b s := rfl
theorem exec_slt (k : Ctl) (d a b : BitVec 5) (s : State) : exec (.slt k d a b) s = execSlt k d a b s := rfl
theorem exec_sltu (k : Ctl) (d a b : BitVec 5) (s : State) : exec (.sltu k d a b) s = execSltu k d a b s := rfl
theorem exec_seq (k : Ctl) (d a b : BitVec 5) (s : State) : exec (.seq k d a b) s = execSeq k d a b s := rfl
theorem exec_sel (k : Ctl) (d a b c : BitVec 5) (s : State) : exec (.sel k d a b c) s = execSel k d a b c s := rfl
theorem exec_clz (k : Ctl) (d a : BitVec 5) (s : State) : exec (.clz k d a) s = execClz k d a s := rfl
theorem exec_popc (k : Ctl) (d a : BitVec 5) (s : State) : exec (.popc k d a) s = execPopc k d a s := rfl
theorem exec_bfx (k : Ctl) (d a : BitVec 5) (sx : BitVec 1) (width : BitVec 7) (pos : BitVec 6) (s : State) : exec (.bfx k d a sx width pos) s = execBfx k d a sx width pos s := rfl
theorem exec_bfi (k : Ctl) (d a : BitVec 5) (width : BitVec 7) (pos : BitVec 6) (s : State) : exec (.bfi k d a width pos) s = execBfi k d a width pos s := rfl
theorem exec_li (k : Ctl) (d : BitVec 5) (imm : BitVec 32) (s : State) : exec (.li k d imm) s = execLi k d imm s := rfl
theorem exec_liw (k : Ctl) (d : BitVec 5) (imm : BitVec 64) (s : State) : exec (.liw k d imm) s = execLiw k d imm s := rfl
theorem exec_lea (k : Ctl) (d a b : BitVec 5) (sh : BitVec 3) (imm : BitVec 32) (s : State) : exec (.lea k d a b sh imm) s = execLea k d a b sh imm s := rfl
theorem exec_srd (k : Ctl) (d : BitVec 5) (n : BitVec 12) (s : State) : exec (.srd k d n) s = execSrd k d n s := rfl
theorem exec_swr (k : Ctl) (a : BitVec 5) (n : BitVec 12) (s : State) : exec (.swr k a n) s = execSwr k a n s := rfl
theorem exec_ld (k : Ctl) (d a : BitVec 5) (off : BitVec 14) (w : BitVec 2) (z lc : BitVec 1) (s : State) : exec (.ld k d a off w z lc) s = execLd k d a off w z lc s := rfl
theorem exec_st (k : Ctl) (a b : BitVec 5) (off : BitVec 14) (w : BitVec 2) (lc : BitVec 1) (s : State) : exec (.st k a b off w lc) s = execSt k a b off w lc s := rfl
theorem exec_ldacq (k : Ctl) (d a : BitVec 5) (off : BitVec 14) (w : BitVec 2) (z lc : BitVec 1) (s : State) : exec (.ldacq k d a off w z lc) s = execLdacq k d a off w z lc s := rfl
theorem exec_strel (k : Ctl) (a b : BitVec 5) (off : BitVec 14) (w : BitVec 2) (lc : BitVec 1) (s : State) : exec (.strel k a b off w lc) s = execStrel k a b off w lc s := rfl
theorem exec_amo (k : Ctl) (d a b : BitVec 5) (off : BitVec 12) (w : BitVec 2) (op : BitVec 4) (s : State) : exec (.amo k d a b off w op) s = execAmo k d a b off w op s := rfl
theorem exec_cas (k : Ctl) (d a b c : BitVec 5) (w : BitVec 2) (off : BitVec 32) (s : State) : exec (.cas k d a b c w off) s = execCas k d a b c w off s := rfl
theorem exec_red (k : Ctl) (a b : BitVec 5) (off : BitVec 12) (w : BitVec 2) (op : BitVec 4) (s : State) : exec (.red k a b off w op) s = execRed k a b off w op s := rfl
theorem exec_redc (k : Ctl) (a b : BitVec 5) (off : BitVec 12) (s : State) : exec (.redc k a b off) s = execRedc k a b off s := rfl
theorem exec_fence (k : Ctl) (scope : BitVec 3) (s : State) : exec (.fence k scope) s = execFence k scope s := rfl
theorem exec_pref (k : Ctl) (a : BitVec 5) (off : BitVec 14) (s : State) : exec (.pref k a off) s = execPref k a off s := rfl
theorem exec_rinv (k : Ctl) (a b : BitVec 5) (s : State) : exec (.rinv k a b) s = execRinv k a b s := rfl
theorem exec_rwb (k : Ctl) (a b : BitVec 5) (s : State) : exec (.rwb k a b) s = execRwb k a b s := rfl
theorem exec_rflush (k : Ctl) (a b : BitVec 5) (s : State) : exec (.rflush k a b) s = execRflush k a b s := rfl
theorem exec_publish (k : Ctl) (d a : BitVec 5) (s : State) : exec (.publish k d a) s = execPublish k d a s := rfl
theorem exec_vadd (k : Ctl) (d a b : BitVec 5) (vm : VMod) (s : State) : exec (.vadd k d a b vm) s = execVadd k d a b vm s := rfl
theorem exec_vsub (k : Ctl) (d a b : BitVec 5) (vm : VMod) (s : State) : exec (.vsub k d a b vm) s = execVsub k d a b vm s := rfl
theorem exec_vmul (k : Ctl) (d a b : BitVec 5) (vm : VMod) (s : State) : exec (.vmul k d a b vm) s = execVmul k d a b vm s := rfl
theorem exec_vmulh (k : Ctl) (d a b : BitVec 5) (vm : VMod) (s : State) : exec (.vmulh k d a b vm) s = execVmulh k d a b vm s := rfl
theorem exec_vand (k : Ctl) (d a b : BitVec 5) (vm : VMod) (s : State) : exec (.vand k d a b vm) s = execVand k d a b vm s := rfl
theorem exec_vor (k : Ctl) (d a b : BitVec 5) (vm : VMod) (s : State) : exec (.vor k d a b vm) s = execVor k d a b vm s := rfl
theorem exec_vxor (k : Ctl) (d a b : BitVec 5) (vm : VMod) (s : State) : exec (.vxor k d a b vm) s = execVxor k d a b vm s := rfl
theorem exec_vnot (k : Ctl) (d a : BitVec 5) (vm : VMod) (s : State) : exec (.vnot k d a vm) s = execVnot k d a vm s := rfl
theorem exec_vshl (k : Ctl) (d a b : BitVec 5) (vm : VMod) (s : State) : exec (.vshl k d a b vm) s = execVshl k d a b vm s := rfl
theorem exec_vshr (k : Ctl) (d a b : BitVec 5) (vm : VMod) (s : State) : exec (.vshr k d a b vm) s = execVshr k d a b vm s := rfl
theorem exec_vsar (k : Ctl) (d a b : BitVec 5) (vm : VMod) (s : State) : exec (.vsar k d a b vm) s = execVsar k d a b vm s := rfl
theorem exec_vmin (k : Ctl) (d a b : BitVec 5) (vm : VMod) (s : State) : exec (.vmin k d a b vm) s = execVmin k d a b vm s := rfl
theorem exec_vmax (k : Ctl) (d a b : BitVec 5) (vm : VMod) (s : State) : exec (.vmax k d a b vm) s = execVmax k d a b vm s := rfl
theorem exec_vminu (k : Ctl) (d a b : BitVec 5) (vm : VMod) (s : State) : exec (.vminu k d a b vm) s = execVminu k d a b vm s := rfl
theorem exec_vmaxu (k : Ctl) (d a b : BitVec 5) (vm : VMod) (s : State) : exec (.vmaxu k d a b vm) s = execVmaxu k d a b vm s := rfl
theorem exec_vcmp (k : Ctl) (d a b : BitVec 5) (vm : VMod) (cond : BitVec 3) (s : State) : exec (.vcmp k d a b vm cond) s = execVcmp k d a b vm cond s := rfl
theorem exec_vsel (k : Ctl) (d a b : BitVec 5) (vm : VMod) (svec : BitVec 5) (s : State) : exec (.vsel k d a b vm svec) s = execVsel k d a b vm svec s := rfl
theorem exec_viota (k : Ctl) (d a : BitVec 5) (vm : VMod) (s : State) : exec (.viota k d a vm) s = execViota k d a vm s := rfl
theorem exec_vpopm (k : Ctl) (d a : BitVec 5) (vm : VMod) (s : State) : exec (.vpopm k d a vm) s = execVpopm k d a vm s := rfl
theorem exec_vfirst (k : Ctl) (d a : BitVec 5) (vm : VMod) (s : State) : exec (.vfirst k d a vm) s = execVfirst k d a vm s := rfl
theorem exec_vmv (k : Ctl) (d a : BitVec 5) (vm : VMod) (s : State) : exec (.vmv k d a vm) s = execVmv k d a vm s := rfl
theorem exec_vbcast (k : Ctl) (d a : BitVec 5) (vm : VMod) (s : State) : exec (.vbcast k d a vm) s = execVbcast k d a vm s := rfl
theorem exec_vext (k : Ctl) (d a : BitVec 5) (vm : VMod) (n : BitVec 4) (s : State) : exec (.vext k d a vm n) s = execVext k d a vm n s := rfl
theorem exec_vins (k : Ctl) (d a : BitVec 5) (vm : VMod) (n : BitVec 4) (s : State) : exec (.vins k d a vm n) s = execVins k d a vm n s := rfl
theorem exec_vclz (k : Ctl) (d a : BitVec 5) (vm : VMod) (s : State) : exec (.vclz k d a vm) s = execVclz k d a vm s := rfl
theorem exec_vpopc (k : Ctl) (d a : BitVec 5) (vm : VMod) (s : State) : exec (.vpopc k d a vm) s = execVpopc k d a vm s := rfl
theorem exec_vmatch (k : Ctl) (d a b : BitVec 5) (vm : VMod) (side : BitVec 1) (s : State) : exec (.vmatch k d a b vm side) s = execVmatch k d a b vm side s := rfl
theorem exec_vred (k : Ctl) (d a : BitVec 5) (vm : VMod) (op : BitVec 3) (s : State) : exec (.vred k d a vm op) s = execVred k d a vm op s := rfl
theorem exec_vfadd (k : Ctl) (d a b : BitVec 5) (vm : VMod) (s : State) : exec (.vfadd k d a b vm) s = execVfadd k d a b vm s := rfl
theorem exec_vfsub (k : Ctl) (d a b : BitVec 5) (vm : VMod) (s : State) : exec (.vfsub k d a b vm) s = execVfsub k d a b vm s := rfl
theorem exec_vfmul (k : Ctl) (d a b : BitVec 5) (vm : VMod) (s : State) : exec (.vfmul k d a b vm) s = execVfmul k d a b vm s := rfl
theorem exec_vfma (k : Ctl) (d a b c : BitVec 5) (vm : VMod) (s : State) : exec (.vfma k d a b c vm) s = execVfma k d a b c vm s := rfl
theorem exec_vfms (k : Ctl) (d a b c : BitVec 5) (vm : VMod) (s : State) : exec (.vfms k d a b c vm) s = execVfms k d a b c vm s := rfl
theorem exec_vfnma (k : Ctl) (d a b c : BitVec 5) (vm : VMod) (s : State) : exec (.vfnma k d a b c vm) s = execVfnma k d a b c vm s := rfl
theorem exec_vfmin (k : Ctl) (d a b : BitVec 5) (vm : VMod) (s : State) : exec (.vfmin k d a b vm) s = execVfmin k d a b vm s := rfl
theorem exec_vfmax (k : Ctl) (d a b : BitVec 5) (vm : VMod) (s : State) : exec (.vfmax k d a b vm) s = execVfmax k d a b vm s := rfl
theorem exec_vfabs (k : Ctl) (d a : BitVec 5) (vm : VMod) (s : State) : exec (.vfabs k d a vm) s = execVfabs k d a vm s := rfl
theorem exec_vfneg (k : Ctl) (d a : BitVec 5) (vm : VMod) (s : State) : exec (.vfneg k d a vm) s = execVfneg k d a vm s := rfl
theorem exec_vfcmp (k : Ctl) (d a b : BitVec 5) (vm : VMod) (cond : BitVec 3) (s : State) : exec (.vfcmp k d a b vm cond) s = execVfcmp k d a b vm cond s := rfl
theorem exec_vfclass (k : Ctl) (d a : BitVec 5) (vm : VMod) (s : State) : exec (.vfclass k d a vm) s = execVfclass k d a vm s := rfl
theorem exec_vdiv (k : Ctl) (d a b : BitVec 5) (vm : VMod) (s : State) : exec (.vdiv k d a b vm) s = execVdiv k d a b vm s := rfl
theorem exec_vsqrt (k : Ctl) (d a : BitVec 5) (vm : VMod) (s : State) : exec (.vsqrt k d a vm) s = execVsqrt k d a vm s := rfl
theorem exec_vrsqrt (k : Ctl) (d a : BitVec 5) (vm : VMod) (s : State) : exec (.vrsqrt k d a vm) s = execVrsqrt k d a vm s := rfl
theorem exec_vrcp (k : Ctl) (d a : BitVec 5) (vm : VMod) (s : State) : exec (.vrcp k d a vm) s = execVrcp k d a vm s := rfl
theorem exec_vsqd (k : Ctl) (d a b : BitVec 5) (vm : VMod) (s : State) : exec (.vsqd k d a b vm) s = execVsqd k d a b vm s := rfl
theorem exec_vfred (k : Ctl) (d a : BitVec 5) (vm : VMod) (s : State) : exec (.vfred k d a vm) s = execVfred k d a vm s := rfl
theorem exec_vfdot (k : Ctl) (d a b : BitVec 5) (vm : VMod) (s : State) : exec (.vfdot k d a b vm) s = execVfdot k d a b vm s := rfl
theorem exec_vfsgn (k : Ctl) (d a b : BitVec 5) (vm : VMod) (mode : BitVec 2) (s : State) : exec (.vfsgn k d a b vm mode) s = execVfsgn k d a b vm mode s := rfl
theorem exec_vfrnd (k : Ctl) (d a : BitVec 5) (vm : VMod) (s : State) : exec (.vfrnd k d a vm) s = execVfrnd k d a vm s := rfl
theorem exec_vld (k : Ctl) (d a : BitVec 5) (vm : VMod) (lc : BitVec 1) (off : BitVec 5) (s : State) : exec (.vld k d a vm lc off) s = execVld k d a vm lc off s := rfl
theorem exec_vst (k : Ctl) (a b : BitVec 5) (vm : VMod) (lc : BitVec 1) (off : BitVec 5) (s : State) : exec (.vst k a b vm lc off) s = execVst k a b vm lc off s := rfl
theorem exec_vlds (k : Ctl) (d a b : BitVec 5) (vm : VMod) (lc : BitVec 1) (s : State) : exec (.vlds k d a b vm lc) s = execVlds k d a b vm lc s := rfl
theorem exec_vsts (k : Ctl) (d a b : BitVec 5) (vm : VMod) (lc : BitVec 1) (s : State) : exec (.vsts k d a b vm lc) s = execVsts k d a b vm lc s := rfl
theorem exec_vldx (k : Ctl) (d a b : BitVec 5) (vm : VMod) (lc : BitVec 1) (scale : BitVec 2) (s : State) : exec (.vldx k d a b vm lc scale) s = execVldx k d a b vm lc scale s := rfl
theorem exec_vstx (k : Ctl) (d a b : BitVec 5) (vm : VMod) (lc : BitVec 1) (scale : BitVec 2) (s : State) : exec (.vstx k d a b vm lc scale) s = execVstx k d a b vm lc scale s := rfl
theorem exec_vldb (k : Ctl) (d a : BitVec 5) (vm : VMod) (lc : BitVec 1) (off : BitVec 5) (s : State) : exec (.vldb k d a vm lc off) s = execVldb k d a vm lc off s := rfl
theorem exec_vperm (k : Ctl) (d a b : BitVec 5) (vm : VMod) (s : State) : exec (.vperm k d a b vm) s = execVperm k d a b vm s := rfl
theorem exec_vslide (k : Ctl) (d a b : BitVec 5) (vm : VMod) (n : BitVec 4) (s : State) : exec (.vslide k d a b vm n) s = execVslide k d a b vm n s := rfl
theorem exec_vzip (k : Ctl) (d a b : BitVec 5) (vm : VMod) (half : BitVec 1) (s : State) : exec (.vzip k d a b vm half) s = execVzip k d a b vm half s := rfl
theorem exec_vunzip (k : Ctl) (d a b : BitVec 5) (vm : VMod) (half : BitVec 1) (s : State) : exec (.vunzip k d a b vm half) s = execVunzip k d a b vm half s := rfl
theorem exec_vcvt (k : Ctl) (d a : BitVec 5) (vm : VMod) (u : BitVec 3) (s : State) : exec (.vcvt k d a vm u) s = execVcvt k d a vm u s := rfl
theorem exec_vpack (k : Ctl) (d a b : BitVec 5) (vm : VMod) (s : State) : exec (.vpack k d a b vm) s = execVpack k d a b vm s := rfl
theorem exec_vunpack (k : Ctl) (d a : BitVec 5) (vm : VMod) (half : BitVec 1) (s : State) : exec (.vunpack k d a vm half) s = execVunpack k d a vm half s := rfl
theorem exec_vqld (k : Ctl) (d a b : BitVec 5) (vm : VMod) (lc : BitVec 1) (s : State) : exec (.vqld k d a b vm lc) s = execVqld k d a b vm lc s := rfl
theorem exec_vqdec (k : Ctl) (d a : BitVec 5) (vm : VMod) (part : BitVec 3) (s : State) : exec (.vqdec k d a vm part) s = execVqdec k d a vm part s := rfl
theorem exec_vqst (k : Ctl) (d a b c : BitVec 5) (vm : VMod) (mask : BitVec 4) (s : State) : exec (.vqst k d a b c vm mask) s = execVqst k d a b c vm mask s := rfl
theorem exec_vqenc (k : Ctl) (d a : BitVec 5) (vm : VMod) (mask : BitVec 4) (slot : BitVec 2) (s : State) : exec (.vqenc k d a vm mask slot) s = execVqenc k d a vm mask slot s := rfl
theorem exec_vhdr (k : Ctl) (d a : BitVec 5) (vm : VMod) (slot : BitVec 2) (s : State) : exec (.vhdr k d a vm slot) s = execVhdr k d a vm slot s := rfl
theorem exec_vhdrw (k : Ctl) (d a : BitVec 5) (vm : VMod) (slot : BitVec 2) (s : State) : exec (.vhdrw k d a vm slot) s = execVhdrw k d a vm slot s := rfl
theorem exec_mma (k : Ctl) (d a b c : BitVec 5) (tb ty : BitVec 3) (sp zc : BitVec 1) (s : State) : exec (.mma k d a b c tb ty sp zc) s = execMma k d a b c tb ty sp zc s := rfl
theorem exec_mmar (k : Ctl) (d a b c : BitVec 5) (tb ty : BitVec 3) (sp zc : BitVec 1) (s : State) : exec (.mmar k d a b c tb ty sp zc) s = execMmar k d a b c tb ty sp zc s := rfl
theorem exec_mzero (k : Ctl) (d : BitVec 5) (s : State) : exec (.mzero k d) s = execMzero k d s := rfl
theorem exec_mst (k : Ctl) (a b c : BitVec 5) (off : BitVec 32) (s : State) : exec (.mst k a b c off) s = execMst k a b c off s := rfl
theorem exec_mld (k : Ctl) (d b c : BitVec 5) (off : BitVec 32) (s : State) : exec (.mld k d b c off) s = execMld k d b c off s := rfl
theorem exec_mrdv (k : Ctl) (d a : BitVec 5) (vm : VMod) (r : BitVec 3) (s : State) : exec (.mrdv k d a vm r) s = execMrdv k d a vm r s := rfl
theorem exec_mwrv (k : Ctl) (d a : BitVec 5) (vm : VMod) (r : BitVec 3) (s : State) : exec (.mwrv k d a vm r) s = execMwrv k d a vm r s := rfl
theorem exec_mscale (k : Ctl) (d a : BitVec 5) (vm : VMod) (s : State) : exec (.mscale k d a vm) s = execMscale k d a vm s := rfl
theorem exec_mqst (k : Ctl) (a b c : BitVec 5) (ty : BitVec 3) (co : BitVec 1) (mask : BitVec 4) (s : State) : exec (.mqst k a b c ty co mask) s = execMqst k a b c ty co mask s := rfl
theorem exec_mwait (k : Ctl) (s : State) : exec (.mwait k) s = execMwait k s := rfl
theorem exec_cpy (k : Ctl) (d a b : BitVec 5) (s : State) : exec (.cpy k d a b) s = execCpy k d a b s := rfl
theorem exec_cpyt (k : Ctl) (d a b : BitVec 5) (s : State) : exec (.cpyt k d a b) s = execCpyt k d a b s := rfl
theorem exec_cpyu (k : Ctl) (d a b : BitVec 5) (s : State) : exec (.cpyu k d a b) s = execCpyu k d a b s := rfl
theorem exec_cpyg (k : Ctl) (d a b : BitVec 5) (s : State) : exec (.cpyg k d a b) s = execCpyg k d a b s := rfl
theorem exec_cpys (k : Ctl) (d a b : BitVec 5) (s : State) : exec (.cpys k d a b) s = execCpys k d a b s := rfl
theorem exec_cpyf (k : Ctl) (d a b : BitVec 5) (s : State) : exec (.cpyf k d a b) s = execCpyf k d a b s := rfl
theorem exec_cpyq (k : Ctl) (d a b : BitVec 5) (s : State) : exec (.cpyq k d a b) s = execCpyq k d a b s := rfl
theorem exec_accsv (k : Ctl) (d a b evl : BitVec 5) (eve : BitVec 1) (weirn : BitVec 4) (wpe : BitVec 1) (s : State) : exec (.accsv k d a b evl eve weirn wpe) s = execAccsv k d a b evl eve weirn wpe s := rfl
theorem exec_accrs (k : Ctl) (d a b evl : BitVec 5) (eve : BitVec 1) (weirn : BitVec 4) (wpe : BitVec 1) (s : State) : exec (.accrs k d a b evl eve weirn wpe) s = execAccrs k d a b evl eve weirn wpe s := rfl
theorem exec_xfer (k : Ctl) (d a b : BitVec 5) (n : BitVec 6) (s : State) : exec (.xfer k d a b n) s = execXfer k d a b n s := rfl
theorem exec_xferq (k : Ctl) (d a b : BitVec 5) (n : BitVec 6) (s : State) : exec (.xferq k d a b n) s = execXferq k d a b n s := rfl
theorem exec_weir (k : Ctl) (b : BitVec 5) (wn : BitVec 4) (s : State) : exec (.weir k b wn) s = execWeir k b wn s := rfl
theorem exec_weira (k : Ctl) (b : BitVec 5) (wn : BitVec 4) (s : State) : exec (.weira k b wn) s = execWeira k b wn s := rfl
theorem exec_weirw (k : Ctl) (wn : BitVec 4) (s : State) : exec (.weirw k wn) s = execWeirw k wn s := rfl
theorem exec_weirx (k : Ctl) (wn : BitVec 4) (s : State) : exec (.weirx k wn) s = execWeirx k wn s := rfl
theorem exec_evwaitLine (k : Ctl) (idx : BitVec 5) (s : State) : exec (.evwaitLine k idx) s = execEvwaitLine k idx s := rfl
theorem exec_evwaitMutex (k : Ctl) (idx : BitVec 5) (s : State) : exec (.evwaitMutex k idx) s = execEvwaitMutex k idx s := rfl
theorem exec_evwaitBarrier (k : Ctl) (idx : BitVec 5) (s : State) : exec (.evwaitBarrier k idx) s = execEvwaitBarrier k idx s := rfl
theorem exec_evsigLine (k : Ctl) (a : BitVec 5) (far : BitVec 1) (idx : BitVec 5) (s : State) : exec (.evsigLine k a far idx) s = execEvsigLine k a far idx s := rfl
theorem exec_evsigMutex (k : Ctl) (idx : BitVec 5) (s : State) : exec (.evsigMutex k idx) s = execEvsigMutex k idx s := rfl
theorem exec_tlwaitMem (k : Ctl) (a b : BitVec 5) (s : State) : exec (.tlwaitMem k a b) s = execTlwaitMem k a b s := rfl
theorem exec_tlwaitSluice (k : Ctl) (b : BitVec 5) (s : State) : exec (.tlwaitSluice k b) s = execTlwaitSluice k b s := rfl
theorem exec_tlwaitMillrace (k : Ctl) (b : BitVec 5) (idx : BitVec 6) (s : State) : exec (.tlwaitMillrace k b idx) s = execTlwaitMillrace k b idx s := rfl
theorem exec_tlwaitUpdate (k : Ctl) (b : BitVec 5) (s : State) : exec (.tlwaitUpdate k b) s = execTlwaitUpdate k b s := rfl
theorem exec_tlsig (k : Ctl) (a b : BitVec 5) (s : State) : exec (.tlsig k a b) s = execTlsig k a b s := rfl
theorem exec_comm (k : Ctl) (s : State) : exec (.comm k) s = execComm k s := rfl
theorem exec_sendf (k : Ctl) (b f : BitVec 5) (s : State) : exec (.sendf k b f) s = execSendf k b f s := rfl
theorem exec_anew (k : Ctl) (d : BitVec 5) (s : State) : exec (.anew k d) s = execAnew k d s := rfl
theorem exec_anewTx (k : Ctl) (d : BitVec 5) (link : BitVec 4) (s : State) : exec (.anewTx k d link) s = execAnewTx k d link s := rfl
theorem exec_lapply (k : Ctl) (d a b : BitVec 5) (vm : VMod) (v : BitVec 1) (s : State) : exec (.lapply k d a b vm v) s = execLapply k d a b vm v s := rfl
theorem exec_amb (k : Ctl) (a : BitVec 5) (s : State) : exec (.amb k a) s = execAmb k a s := rfl
theorem exec_nogood (k : Ctl) (a : BitVec 5) (s : State) : exec (.nogood k a) s = execNogood k a s := rfl
theorem exec_assert (k : Ctl) (d a : BitVec 5) (s : State) : exec (.assert k d a) s = execAssert k d a s := rfl
theorem exec_retract (k : Ctl) (a : BitVec 5) (s : State) : exec (.retract k a) s = execRetract k a s := rfl
theorem exec_vjoin (k : Ctl) (d a b : BitVec 5) (vm : VMod) (s : State) : exec (.vjoin k d a b vm) s = execVjoin k d a b vm s := rfl
theorem exec_lget (k : Ctl) (d a : BitVec 5) (vm : VMod) (v : BitVec 1) (s : State) : exec (.lget k d a vm v) s = execLget k d a vm v s := rfl
theorem exec_lstrip (k : Ctl) (d a : BitVec 5) (vm : VMod) (v : BitVec 1) (s : State) : exec (.lstrip k d a vm v) s = execLstrip k d a vm v s := rfl
theorem exec_lread (k : Ctl) (d a : BitVec 5) (n : BitVec 2) (s : State) : exec (.lread k d a n) s = execLread k d a n s := rfl
theorem exec_ltest (k : Ctl) (d a : BitVec 5) (vm : VMod) (v : BitVec 1) (cond : BitVec 3) (s : State) : exec (.ltest k d a vm v cond) s = execLtest k d a vm v cond s := rfl
theorem exec_lfence (k : Ctl) (s : State) : exec (.lfence k) s = execLfence k s := rfl
theorem exec_settle (k : Ctl) (d : BitVec 5) (s : State) : exec (.settle k d) s = execSettle k d s := rfl
theorem exec_lscrub (k : Ctl) (d a evl : BitVec 5) (eve : BitVec 1) (weirn : BitVec 4) (wpe : BitVec 1) (s : State) : exec (.lscrub k d a evl eve weirn wpe) s = execLscrub k d a evl eve weirn wpe s := rfl
theorem exec_srreg (k : Ctl) (a b : BitVec 5) (s : State) : exec (.srreg k a b) s = execSrreg k a b s := rfl
theorem exec_srvFinish (k : Ctl) (n : BitVec 4) (s : State) : exec (.srvFinish k n) s = execSrvFinish k n s := rfl
theorem exec_srvSummarise (k : Ctl) (s : State) : exec (.srvSummarise k) s = execSrvSummarise k s := rfl
theorem exec_srvRefuse (k : Ctl) (s : State) : exec (.srvRefuse k) s = execSrvRefuse k s := rfl
theorem exec_release (k : Ctl) (s : State) : exec (.release k) s = execRelease k s := rfl
theorem exec_lease (k : Ctl) (d a b : BitVec 5) (s : State) : exec (.lease k d a b) s = execLease k d a b s := rfl
theorem exec_plbset (k : Ctl) (d a b : BitVec 5) (s : State) : exec (.plbset k d a b) s = execPlbset k d a b s := rfl
theorem exec_replay (k : Ctl) (d : BitVec 5) (s : State) : exec (.replay k d) s = execReplay k d s := rfl
theorem exec_flushcode (k : Ctl) (d a : BitVec 5) (s : State) : exec (.flushcode k d a) s = execFlushcode k d a s := rfl
theorem exec_idle (k : Ctl) (s : State) : exec (.idle k) s = execIdle k s := rfl
theorem exec_fpkt (k : Ctl) (d a : BitVec 5) (s : State) : exec (.fpkt k d a) s = execFpkt k d a s := rfl
theorem exec_resume (k : Ctl) (d a : BitVec 5) (s : State) : exec (.resume k d a) s = execResume k d a s := rfl
theorem exec_kill (k : Ctl) (d a : BitVec 5) (s : State) : exec (.kill k d a) s = execKill k d a s := rfl
theorem exec_qprio (k : Ctl) (a b : BitVec 5) (s : State) : exec (.qprio k a b) s = execQprio k a b s := rfl
theorem exec_aperset (k : Ctl) (d a b : BitVec 5) (s : State) : exec (.aperset k d a b) s = execAperset k d a b s := rfl
theorem exec_snap (k : Ctl) (d a b : BitVec 5) (s : State) : exec (.snap k d a b) s = execSnap k d a b s := rfl
theorem exec_migrateMove (k : Ctl) (d a b : BitVec 5) (s : State) : exec (.migrateMove k d a b) s = execMigrateMove k d a b s := rfl
theorem exec_migrateFlush (k : Ctl) (d a : BitVec 5) (s : State) : exec (.migrateFlush k d a) s = execMigrateFlush k d a s := rfl
theorem exec_registerCacheFill (core ctx : Nat) (reg : RegRef) (s : State) : exec (.registerCacheFill core ctx reg) s = execRegisterCacheFill core ctx reg s := rfl
theorem exec_flumeDelivery (src dst off : Nat) (words : List (BitVec 32 × BitVec 16)) (s : State) : exec (.flumeDelivery src dst off words) s = execFlumeDelivery src dst off words s := rfl
theorem exec_hostBar2Read (tenant off width : Nat) (s : State) : exec (.hostBar2Read tenant off width) s = execHostBar2Read tenant off width s := rfl
theorem exec_hostBar2Write (tenant off width : Nat) (data : BitVec 64) (s : State) : exec (.hostBar2Write tenant off width data) s = execHostBar2Write tenant off width data s := rfl
theorem exec_physicalWindowAccess (write : Bool) (off width : Nat) (data : BitVec 64) (s : State) : exec (.physicalWindowAccess write off width data) s = execPhysicalWindowAccess write off width data s := rfl
theorem exec_tflushWrite (va : BitVec 64) (s : State) : exec (.tflushWrite va) s = execTflushWrite va s := rfl
theorem exec_queueDoorbell (tenant queue : Nat) (tail : BitVec 64) (s : State) : exec (.queueDoorbell tenant queue tail) s = execQueueDoorbell tenant queue tail s := rfl
theorem exec_queueCfgWrite (tenant queue : Nat) (cfg : BitVec 64) (s : State) : exec (.queueCfgWrite tenant queue cfg) s = execQueueCfgWrite tenant queue cfg s := rfl
theorem exec_faultBufferHeadWrite (tenant : Nat) (v : BitVec 64) (s : State) : exec (.faultBufferHeadWrite tenant v) s = execFaultBufferHeadWrite tenant v s := rfl
theorem exec_failureAnswer (tenant : Nat) (gen : BitVec 64) (host : Bool) (s : State) : exec (.failureAnswer tenant gen host) s = execFailureAnswer tenant gen host s := rfl
theorem exec_nqheadWrite (tenant : Nat) (v : BitVec 64) (s : State) : exec (.nqheadWrite tenant v) s = execNqheadWrite tenant v s := rfl
theorem exec_pubvUpdate (tenant : Nat) (addr count : BitVec 64) (s : State) : exec (.pubvUpdate tenant addr count) s = execPubvUpdate tenant addr count s := rfl
theorem exec_directoryWrite (n : Nat) (entry : BitVec 64) (s : State) : exec (.directoryWrite n entry) s = execDirectoryWrite n entry s := rfl
theorem exec_pcapWrite (v : BitVec 64) (s : State) : exec (.pcapWrite v) s = execPcapWrite v s := rfl
theorem exec_registerWrite (reg : HostReg) (v : BitVec 64) (s : State) : exec (.registerWrite reg v) s = execRegisterWrite reg v s := rfl
theorem exec_attestReadPage (page : BitVec 8) (s : State) : exec (.attestReadPage page) s = execAttestReadPage page s := rfl
theorem exec_powerUp (outcome : BringUp) (s : State) : exec (.powerUp outcome) s = execPowerUp outcome s := rfl
theorem exec_moduleReset (outcome : BringUp) (s : State) : exec (.moduleReset outcome) s = execModuleReset outcome s := rfl
theorem exec_telemetrySample (samples : List (Nat × Nat)) (rest : Nat) (calm : Bool) (s : State) :
    exec (.telemetrySample samples rest calm) s = execTelemetrySample samples rest calm s := rfl
theorem exec_flitReceive (link : Nat) (flit : Flit) (s : State) : exec (.flitReceive link flit) s = execFlitReceive link flit s := rfl
theorem exec_remoteWindowAccess (link : Nat) (acc : RemoteAccess) (s : State) : exec (.remoteWindowAccess link acc) s = execRemoteWindowAccess link acc s := rfl
theorem exec_remoteSlotOpen (link peerSlot : Nat) (s : State) : exec (.remoteSlotOpen link peerSlot) s = execRemoteSlotOpen link peerSlot s := rfl
theorem exec_remoteAssert (link slot : Nat) (s : State) : exec (.remoteAssert link slot) s = execRemoteAssert link slot s := rfl
theorem exec_assertAck (link slot : Nat) (s : State) : exec (.assertAck link slot) s = execAssertAck link slot s := rfl
theorem exec_hostReadResponse (id : Nat) (ok : Bool) (words : List (BitVec 32)) (s : State) : exec (.hostReadResponse id ok words) s = execHostReadResponse id ok words s := rfl
theorem exec_hostWriteThroughComplete (id : Nat) (s : State) : exec (.hostWriteThroughComplete id) s = execHostWriteThroughComplete id s := rfl
theorem exec_unassignedEncoding (word : BitVec 128) (s : State) : exec (.unassignedEncoding word) s = execUnassignedEncoding word s := rfl
theorem exec_pcieLinkStateChange (link : Nat) (up : Bool) (s : State) : exec (.pcieLinkStateChange link up) s = execPcieLinkStateChange link up s := rfl
theorem exec_uncorrectableError (site : ErrSite) (s : State) : exec (.uncorrectableError site) s = execUncorrectableError site s := rfl
theorem exec_remoteAccessAnswer (id : Nat) (ok : Bool) (words : List (BitVec 32 × List (BitVec 64) × BitVec 16)) (s : State) : exec (.remoteAccessAnswer id ok words) s = execRemoteAccessAnswer id ok words s := rfl
theorem exec_remoteSlotAnswer (link id : Nat) (ok : Bool) (peerSlot : Nat) (s : State) : exec (.remoteSlotAnswer link id ok peerSlot) s = execRemoteSlotAnswer link id ok peerSlot s := rfl
theorem exec_icacheFill (s : State) : exec (.icacheFill) s = execIcacheFill s := rfl
theorem exec_resultLanding (s : State) : exec (.resultLanding) s = execResultLanding s := rfl
theorem exec_tagFree (s : State) : exec (.tagFree) s = execTagFree s := rfl
theorem exec_gapExpiry (s : State) : exec (.gapExpiry) s = execGapExpiry s := rfl
theorem exec_homeAccess (s : State) : exec (.homeAccess) s = execHomeAccess s := rfl
theorem exec_partialCombine (s : State) : exec (.partialCombine) s = execPartialCombine s := rfl
theorem exec_nearCacheFill (s : State) : exec (.nearCacheFill) s = execNearCacheFill s := rfl
theorem exec_translationWalk (s : State) : exec (.translationWalk) s = execTranslationWalk s := rfl
theorem exec_leafReturn (s : State) : exec (.leafReturn) s = execLeafReturn s := rfl
theorem exec_memoryFill (s : State) : exec (.memoryFill) s = execMemoryFill s := rfl
theorem exec_writeBack (s : State) : exec (.writeBack) s = execWriteBack s := rfl
theorem exec_faultRecordArrival (s : State) : exec (.faultRecordArrival) s = execFaultRecordArrival s := rfl
theorem exec_labelResolve (s : State) : exec (.labelResolve) s = execLabelResolve s := rfl
theorem exec_internProbe (s : State) : exec (.internProbe) s = execInternProbe s := rfl
theorem exec_sluiceCapture (s : State) : exec (.sluiceCapture) s = execSluiceCapture s := rfl
theorem exec_sluiceJobStart (s : State) : exec (.sluiceJobStart) s = execSluiceJobStart s := rfl
theorem exec_sluiceWriteLanding (s : State) : exec (.sluiceWriteLanding) s = execSluiceWriteLanding s := rfl
theorem exec_sluiceJobComplete (s : State) : exec (.sluiceJobComplete) s = execSluiceJobComplete s := rfl
theorem exec_millraceCapture (s : State) : exec (.millraceCapture) s = execMillraceCapture s := rfl
theorem exec_millraceJobEnd (s : State) : exec (.millraceJobEnd) s = execMillraceJobEnd s := rfl
theorem exec_gangStart (s : State) : exec (.gangStart) s = execGangStart s := rfl
theorem exec_gangColumnComplete (s : State) : exec (.gangColumnComplete) s = execGangColumnComplete s := rfl
theorem exec_mmarInboundLanding (s : State) : exec (.mmarInboundLanding) s = execMmarInboundLanding s := rfl
theorem exec_weirArrivalCounted (s : State) : exec (.weirArrivalCounted) s = execWeirArrivalCounted s := rfl
theorem exec_weirRelease (s : State) : exec (.weirRelease) s = execWeirRelease s := rfl
theorem exec_holdingDeparture (s : State) : exec (.holdingDeparture) s = execHoldingDeparture s := rfl
theorem exec_eventSignalEffect (s : State) : exec (.eventSignalEffect) s = execEventSignalEffect s := rfl
theorem exec_eventWake (s : State) : exec (.eventWake) s = execEventWake s := rfl
theorem exec_eventLineStore (s : State) : exec (.eventLineStore) s = execEventLineStore s := rfl
theorem exec_barrierTargetStore (s : State) : exec (.barrierTargetStore) s = execBarrierTargetStore s := rfl
theorem exec_domainHomeOperation (s : State) : exec (.domainHomeOperation) s = execDomainHomeOperation s := rfl
theorem exec_domainAnswer (s : State) : exec (.domainAnswer) s = execDomainAnswer s := rfl
theorem exec_eraRewriteDone (s : State) : exec (.eraRewriteDone) s = execEraRewriteDone s := rfl
theorem exec_helperRetire (s : State) : exec (.helperRetire) s = execHelperRetire s := rfl
theorem exec_haltWake (s : State) : exec (.haltWake) s = execHaltWake s := rfl
theorem exec_recallDelivery (s : State) : exec (.recallDelivery) s = execRecallDelivery s := rfl
theorem exec_finishDeadline (s : State) : exec (.finishDeadline) s = execFinishDeadline s := rfl
theorem exec_surrenderOverrun (s : State) : exec (.surrenderOverrun) s = execSurrenderOverrun s := rfl
theorem exec_faultReport (s : State) : exec (.faultReport) s = execFaultReport s := rfl
theorem exec_faultPacketOffer (s : State) : exec (.faultPacketOffer) s = execFaultPacketOffer s := rfl
theorem exec_distributorRound (s : State) : exec (.distributorRound) s = execDistributorRound s := rfl
theorem exec_launchBind (s : State) : exec (.launchBind) s = execLaunchBind s := rfl
theorem exec_launchEndSweep (s : State) : exec (.launchEndSweep) s = execLaunchEndSweep s := rfl
theorem exec_preemption (s : State) : exec (.preemption) s = execPreemption s := rfl
theorem exec_restore (s : State) : exec (.restore) s = execRestore s := rfl
theorem exec_snapshotCopy (s : State) : exec (.snapshotCopy) s = execSnapshotCopy s := rfl
theorem exec_migrationCopyDone (s : State) : exec (.migrationCopyDone) s = execMigrationCopyDone s := rfl
theorem exec_faultBufferFlush (s : State) : exec (.faultBufferFlush) s = execFaultBufferFlush s := rfl
theorem exec_tenantReset (s : State) : exec (.tenantReset) s = execTenantReset s := rfl
theorem exec_attestMakeReport (s : State) : exec (.attestMakeReport) s = execAttestMakeReport s := rfl
theorem exec_attestFetchKey (s : State) : exec (.attestFetchKey) s = execAttestFetchKey s := rfl
theorem exec_attestReportReady (s : State) : exec (.attestReportReady) s = execAttestReportReady s := rfl
theorem exec_configRequest (s : State) : exec (.configRequest) s = execConfigRequest s := rfl
theorem exec_pcieTrainTimeout (s : State) : exec (.pcieTrainTimeout) s = execPcieTrainTimeout s := rfl
theorem exec_nelrekStateAdvance (s : State) : exec (.nelrekStateAdvance) s = execNelrekStateAdvance s := rfl
theorem exec_nelrekStateTimeout (s : State) : exec (.nelrekStateTimeout) s = execNelrekStateTimeout s := rfl
theorem exec_nelrekRetry (s : State) : exec (.nelrekRetry) s = execNelrekRetry s := rfl
theorem exec_divideUnitFree (s : State) : exec (.divideUnitFree) s = execDivideUnitFree s := rfl

end Sys2Proof.Machine
end

