-- ==== Sys2Proof/Laws/Encoding.lean ====
section
/-! SUPPORT. Sys2Proof/Laws/Encoding.lean: the fields of an encoded instruction are read back where they were laid out (R129 to
R136). -/

namespace Sys2Proof

set_option linter.unusedSimpArgs false

/-- A word read back as the instruction it was laid out from is decoded to it, where it is well-formed. -/
theorem decodeBits_of_build {i : Instr} (hb : build i.bits = some i) (hw : i.wellFormed = true) :
    decodeBits i.bits = some i := by
  simp [decodeBits, hb, hw]

theorem extract_append_high {v w : Nat} (x : BitVec v) (y : BitVec w) (n l : Nat) :
    (x ++ y).extractLsb' (w + n) l = x.extractLsb' n l := by
  rw [BitVec.extractLsb'_append_eq_of_le (Nat.le_add_right w n), Nat.add_sub_cancel_left]

section
variable (hi : BitVec 64) (x : BitVec 19) (b a d : BitVec 5) (op : BitVec 10) (k : Ctl) (len : BitVec 2)

theorem asm_op : (asm hi x b a d op k len).extractLsb' 20 10 = op := by
  simp (disch := omega) only [asm, BitVec.extractLsb'_append_eq_of_le, BitVec.extractLsb'_append_eq_of_add_le,
    BitVec.extractLsb'_eq_self, Nat.reduceSub]

theorem asm_d : (asm hi x b a d op k len).extractLsb' 30 5 = d := by
  simp (disch := omega) only [asm, BitVec.extractLsb'_append_eq_of_le, BitVec.extractLsb'_append_eq_of_add_le,
    BitVec.extractLsb'_eq_self, Nat.reduceSub]

theorem asm_a : (asm hi x b a d op k len).extractLsb' 35 5 = a := by
  simp (disch := omega) only [asm, BitVec.extractLsb'_append_eq_of_le, BitVec.extractLsb'_append_eq_of_add_le,
    BitVec.extractLsb'_eq_self, Nat.reduceSub]

theorem asm_b : (asm hi x b a d op k len).extractLsb' 40 5 = b := by
  simp (disch := omega) only [asm, BitVec.extractLsb'_append_eq_of_le, BitVec.extractLsb'_append_eq_of_add_le,
    BitVec.extractLsb'_eq_self, Nat.reduceSub]

theorem asm_x : (asm hi x b a d op k len).extractLsb' 45 19 = x := by
  simp (disch := omega) only [asm, BitVec.extractLsb'_append_eq_of_le, BitVec.extractLsb'_append_eq_of_add_le,
    BitVec.extractLsb'_eq_self, Nat.reduceSub]

theorem asm_hi : (asm hi x b a d op k len).extractLsb' 64 64 = hi := by
  simp (disch := omega) only [asm, BitVec.extractLsb'_append_eq_of_le, BitVec.extractLsb'_append_eq_of_add_le,
    BitVec.extractLsb'_eq_self, Nat.reduceSub]

theorem asm_len : (asm hi x b a d op k len).extractLsb' 0 2 = len := by
  simp (disch := omega) only [asm, BitVec.extractLsb'_append_eq_of_le, BitVec.extractLsb'_append_eq_of_add_le,
    BitVec.extractLsb'_eq_self, Nat.reduceSub]

theorem asm_ctl : ctlOf (asm hi x b a d op k len) = k := by
  simp (disch := omega) only [ctlOf, asm, BitVec.extractLsb'_append_eq_of_le, BitVec.extractLsb'_append_eq_of_add_le,
    BitVec.extractLsb'_eq_self, Nat.reduceSub]

end

/-- The vector modifiers of a word whose modifier bits are those of `m` (R132). -/
theorem vmOf_asm (hi : BitVec 64) (m : VMod) (z : BitVec 6) (b a d : BitVec 5) (op : BitVec 10) (k : Ctl) (len : BitVec 2) :
    vmOf (asm hi (m.bits ++ z) b a d op k len) = m := by
  simp (disch := omega) only [vmOf, VMod.bits, asm, BitVec.extractLsb'_append_eq_of_le,
    BitVec.extractLsb'_append_eq_of_add_le, BitVec.extractLsb'_eq_self, Nat.reduceSub]

end Sys2Proof
end

