-- ==== Sys2Proof/Laws/Labels.lean ====
section
/-! SUPPORT. Sys2Proof/Laws/Labels.lean: what the label unit can change (R92, R93, R139): a core's slots and counters, the steps to
come, and the number of the next request. -/

namespace Sys2Proof.Machine

/-- `u` is `s` but for what the label unit of a core writes. -/
structure Lab (s u : State) : Prop where
  rest : ∃ cs ag n, u = { s with cores := cs, agenda := ag, nextId := n }
  cores : ∀ k, ∃ sl ex cn, u.core k = { s.core k with slots := sl, extra := ex, cnt := cn }

theorem Lab.refl (s : State) : Lab s s := ⟨⟨s.cores, s.agenda, s.nextId, rfl⟩, fun k => ⟨(s.core k).slots, (s.core k).extra, (s.core k).cnt, rfl⟩⟩

theorem Lab.trans {s u v : State} (h : Lab s u) (h' : Lab u v) : Lab s v := by
  refine ⟨?_, fun k => ?_⟩
  · obtain ⟨c, a, n, rfl⟩ := h.rest
    obtain ⟨c', a', n', rfl⟩ := h'.rest
    exact ⟨c', a', n', rfl⟩
  · obtain ⟨a, b, c, e⟩ := h.cores k
    obtain ⟨a', b', c', e'⟩ := h'.cores k
    exact ⟨a', b', c', by rw [e', e]⟩

theorem Lab.onCore (s : State) (k : Nat) (f : Core → Core) (h : ∀ c, ∃ sl ex cn, f c = { c with slots := sl, extra := ex, cnt := cn }) :
    Lab s (s.onCore k f) := by
  refine ⟨⟨_, s.agenda, s.nextId, rfl⟩, fun j => ?_⟩
  by_cases e : j = k
  · subst e; rw [State.core_onCore]; exact h _
  · rw [State.core_onCore_ne s f e]; exact ⟨_, _, _, rfl⟩

theorem Lab.plan {s u : State} (h : Lab s u) (n p : Nat) (i : Instr) (w : Subj) : Lab s (u.plan n p i w) := by
  obtain ⟨⟨c, a, m, rfl⟩, h2⟩ := h
  exact ⟨⟨c, _, m, rfl⟩, h2⟩

theorem Lab.nextId {s u : State} (h : Lab s u) (n : Nat) : Lab s { u with nextId := n } := by
  obtain ⟨⟨c, a, m, rfl⟩, h2⟩ := h
  exact ⟨⟨c, a, n, rfl⟩, h2⟩

theorem Core.setSlot_fields (c : Core) (i : Nat) (x : Option Slot) : ∃ sl ex, c.setSlot i x = { c with slots := sl, extra := ex } := by
  unfold Core.setSlot
  split
  · exact ⟨_, c.extra, rfl⟩
  · split <;> exact ⟨c.slots, _, rfl⟩

theorem Lab.takeSlot (s : State) (k t o : Nat) (i : LabelIn) (store : Bool) : Lab s (s.takeSlot k t o i store).1 := by
  unfold State.takeSlot
  have slot (n : Nat) (x : Option Slot) : Lab s (s.onCore k (fun c => (c.setSlot n x).count 7 1)) := by
    refine Lab.onCore s k _ (fun c => ?_)
    obtain ⟨sl, ex, e⟩ := c.setSlot_fields n x
    exact ⟨sl, ex, _, by rw [e]; rfl⟩
  cases hf : (s.core k).freeSlot with
  | some n =>
    by_cases hp : (pendsOf i).isEmpty = true
    · simp only [hf, hp, if_true]; exact (slot _ _).plan _ _ _ _
    · simp only [hf, hp]; exact slot _ _
  | none =>
    by_cases hp : (pendsOf i).isEmpty = true
    · simp only [hf, hp, if_true]; exact Lab.plan ((slot _ _).nextId _) _ _ _ _
    · simp only [hf, hp]; exact (slot _ _).nextId _

theorem Lab.count (s : State) (k i n : Nat) : Lab s (s.onCore k (fun c => c.count i n)) :=
  Lab.onCore s k _ (fun c => ⟨c.slots, c.extra, _, rfl⟩)

/-- Forming the labels of an instruction changes the label unit only. -/
theorem Lab.formAll {s u : State} {k t o : Nat} {ins : List LabelIn} {store : Bool} {ls : List (LabelIn × Label)}
    (h : s.formAll k t o ins store = some (u, ls)) : Lab s u := by
  unfold State.formAll at h
  dsimp only at h
  split at h
  · cases h
  · have key : ∀ (ds : List LabelIn) (acc : State × List (LabelIn × Label)), Lab s acc.1 → Lab s (ds.foldl (fun acc i =>
        match s.shape k t i with
        | .fast h => (acc.1.onCore k (fun c => c.count 5 1), acc.2 ++ [(i, Label.now h)])
        | .cached h => (acc.1.onCore k (fun c => c.count 6 1), acc.2 ++ [(i, Label.now h)])
        | .slot => ((acc.1.takeSlot k t o i store).1, acc.2 ++ [(i, (acc.1.takeSlot k t o i store).2)])) acc).1 := by
      intro ds
      induction ds with
      | nil => intro acc h; exact h
      | cons i rest ih =>
        intro acc h
        refine ih _ ?_
        dsimp only
        cases s.shape k t i with
        | fast x => exact h.trans (Lab.count _ _ _ _)
        | cached x => exact h.trans (Lab.count _ _ _ _)
        | slot => exact h.trans (Lab.takeSlot _ _ _ _ _ _)
    rw [← show _ = u from congrArg Prod.fst (Option.some.inj h)]
    exact key (distinct ins) (s, []) (Lab.refl s)

theorem Lab.countVoids (s : State) (l : List LabelIn) : Lab s (s.countVoids l) := by
  unfold State.countVoids
  dsimp only
  split
  · exact Lab.refl s
  · exact Lab.count _ _ _ _

theorem Lab.formOne {s u : State} {i : LabelIn} {h : Handle} (hf : s.formOne i = some (u, h)) : Lab s u := by
  unfold State.formOne at hf
  split at hf
  · cases hf
  · split at hf
    · cases hf; exact Lab.formAll ‹_›
    · cases hf

/-- A scalar label changes the label unit only. -/
theorem Lab.formWith {s u : State} {hs : List Handle} {h : Handle} (hf : s.formWith hs = some (u, h)) : Lab s u :=
  (Lab.countVoids s _).trans (Lab.formOne hf)

theorem Lab.now {s u : State} (h : Lab s u) : u.now = s.now := by obtain ⟨_, _, _, rfl⟩ := h.rest; rfl
theorem Lab.curCore {s u : State} (h : Lab s u) : u.curCore = s.curCore := by obtain ⟨_, _, _, rfl⟩ := h.rest; rfl
theorem Lab.curCtx {s u : State} (h : Lab s u) : u.curCtx = s.curCtx := by obtain ⟨_, _, _, rfl⟩ := h.rest; rfl
theorem Lab.mem {s u : State} (h : Lab s u) : u.mem = s.mem := by obtain ⟨_, _, _, rfl⟩ := h.rest; rfl
theorem Lab.lines {s u : State} (h : Lab s u) : u.lines = s.lines := by obtain ⟨_, _, _, rfl⟩ := h.rest; rfl
theorem Lab.ecc {s u : State} (h : Lab s u) : u.ecc = s.ecc := by obtain ⟨_, _, _, rfl⟩ := h.rest; rfl
theorem Lab.fresh {s u : State} (h : Lab s u) : u.fresh = s.fresh := by obtain ⟨_, _, _, rfl⟩ := h.rest; rfl
theorem Lab.launches {s u : State} (h : Lab s u) : u.launches = s.launches := by obtain ⟨_, _, _, rfl⟩ := h.rest; rfl
theorem Lab.tenants {s u : State} (h : Lab s u) : u.tenants = s.tenants := by obtain ⟨_, _, _, rfl⟩ := h.rest; rfl
theorem Lab.clusters {s u : State} (h : Lab s u) : u.clusters = s.clusters := by obtain ⟨_, _, _, rfl⟩ := h.rest; rfl
theorem Lab.reqs {s u : State} (h : Lab s u) : u.reqs = s.reqs := by obtain ⟨_, _, _, rfl⟩ := h.rest; rfl
theorem Lab.late {s u : State} (h : Lab s u) : u.late = s.late := by obtain ⟨_, _, _, rfl⟩ := h.rest; rfl
theorem Lab.ctxs {s u : State} (h : Lab s u) (k : Nat) : (u.core k).ctxs = (s.core k).ctxs := by obtain ⟨_, _, _, e⟩ := h.cores k; rw [e]
theorem Lab.ctxAt {s u : State} (h : Lab s u) (k t : Nat) : u.ctxAt k t = s.ctxAt k t := by
  unfold State.ctxAt Core.ctx; rw [h.ctxs]
theorem Lab.me {s u : State} (h : Lab s u) : u.me = s.me := by
  unfold State.me; rw [h.curCore, h.curCtx, h.ctxAt]
theorem Lab.pend {s u : State} (h : Lab s u) (k : Nat) : (u.core k).pend = (s.core k).pend := by obtain ⟨_, _, _, e⟩ := h.cores k; rw [e]
theorem Lab.herePend {s u : State} (h : Lab s u) : u.here.pend = s.here.pend := by unfold State.here; rw [h.curCore, h.pend]
theorem Lab.lmem {s u : State} (h : Lab s u) (k : Nat) : (u.core k).lmem = (s.core k).lmem := by obtain ⟨_, _, _, e⟩ := h.cores k; rw [e]
theorem Lab.lplane {s u : State} (h : Lab s u) (k : Nat) : (u.core k).lplane = (s.core k).lplane := by obtain ⟨_, _, _, e⟩ := h.cores k; rw [e]

end Sys2Proof.Machine
end

