-- ==== Sys2Proof/Laws/PerInstr.lean ====
section
/-! SUPPORT. Sys2Proof/Laws/PerInstr.lean: the per-instruction families. `Codec`: the decoder reads the bits of a well-formed
instruction back as that instruction (R127 to R137). -/

namespace Sys2Proof.Laws.Codec

set_option linter.unusedSimpArgs false
set_option maxRecDepth 4000
set_option Elab.async false

/-- The decoder reads a well-formed instruction's bits back as that instruction. -/
def Statement (i : Instr) : Prop := i.wellFormed = true → decodeBits i.bits = some i

theorem nop (k : Ctl) : Statement (.nop k) := by
  refine decodeBits_of_build ?_
  show build (asm 0#64 0#19 0#5 0#5 0#5 0x000#10 k 1#2) = _
  generalize hw : asm 0#64 0#19 0#5 0#5 0#5 0x000#10 k 1#2 = w
  have hb : build w = some (Instr.nop (ctlOf w)) := by
    unfold build
    rw [show w.extractLsb' 20 10 = 0x000#10 by rw [← hw, asm_op]]
    rfl
  rw [hb, ← hw]
  simp (disch := omega) only [asm, ctlOf, vmOf, VMod.bits, BitVec.extractLsb'_append_eq_of_le, BitVec.extractLsb'_append_eq_of_add_le,
      BitVec.extractLsb'_eq_self, Nat.reduceSub]

theorem halt (k : Ctl) : Statement (.halt k) := by
  refine decodeBits_of_build ?_
  show build (asm 0#64 0#19 0#5 0#5 0#5 0x001#10 k 1#2) = _
  generalize hw : asm 0#64 0#19 0#5 0#5 0#5 0x001#10 k 1#2 = w
  have hb : build w = some (Instr.halt (ctlOf w)) := by
    unfold build
    rw [show w.extractLsb' 20 10 = 0x001#10 by rw [← hw, asm_op]]
    rfl
  rw [hb, ← hw]
  simp (disch := omega) only [asm, ctlOf, vmOf, VMod.bits, BitVec.extractLsb'_append_eq_of_le, BitVec.extractLsb'_append_eq_of_add_le,
      BitVec.extractLsb'_eq_self, Nat.reduceSub]

theorem br (k : Ctl) (off : BitVec 19) : Statement (.br k off) := by
  refine decodeBits_of_build ?_
  show build (asm 0#64 off 0#5 0#5 0#5 0x002#10 k 1#2) = _
  generalize hw : asm 0#64 off 0#5 0#5 0#5 0x002#10 k 1#2 = w
  have hb : build w = some (Instr.br (ctlOf w) (w.extractLsb' 45 19)) := by
    unfold build
    rw [show w.extractLsb' 20 10 = 0x002#10 by rw [← hw, asm_op]]
    rfl
  rw [hb, ← hw]
  simp (disch := omega) only [asm, ctlOf, vmOf, VMod.bits, BitVec.extractLsb'_append_eq_of_le, BitVec.extractLsb'_append_eq_of_add_le,
      BitVec.extractLsb'_eq_self, Nat.reduceSub]

theorem brc (k : Ctl) (a b : BitVec 5) (cond : BitVec 3) (off : BitVec 32) : Statement (.brc k a b cond off) := by
  refine decodeBits_of_build ?_
  show build (asm (0#32 ++ off) (0#11 ++ cond ++ 0#5) b a 0#5 0x003#10 k 2#2) = _
  generalize hw : asm (0#32 ++ off) (0#11 ++ cond ++ 0#5) b a 0#5 0x003#10 k 2#2 = w
  have hb : build w = some (Instr.brc (ctlOf w) (w.extractLsb' 35 5) (w.extractLsb' 40 5) (w.extractLsb' 50 3) (w.extractLsb' 64 32)) := by
    unfold build
    rw [show w.extractLsb' 20 10 = 0x003#10 by rw [← hw, asm_op]]
    rfl
  rw [hb, ← hw]
  simp (disch := omega) only [asm, ctlOf, vmOf, VMod.bits, BitVec.extractLsb'_append_eq_of_le, BitVec.extractLsb'_append_eq_of_add_le,
      BitVec.extractLsb'_eq_self, Nat.reduceSub]
  simp only [Nat.reduceAdd, Nat.reduceSub, BitVec.extractLsb'_eq_self]

theorem brz (k : Ctl) (a : BitVec 5) (off : BitVec 19) : Statement (.brz k a off) := by
  refine decodeBits_of_build ?_
  show build (asm 0#64 off 0#5 a 0#5 0x004#10 k 1#2) = _
  generalize hw : asm 0#64 off 0#5 a 0#5 0x004#10 k 1#2 = w
  have hb : build w = some (Instr.brz (ctlOf w) (w.extractLsb' 35 5) (w.extractLsb' 45 19)) := by
    unfold build
    rw [show w.extractLsb' 20 10 = 0x004#10 by rw [← hw, asm_op]]
    rfl
  rw [hb, ← hw]
  simp (disch := omega) only [asm, ctlOf, vmOf, VMod.bits, BitVec.extractLsb'_append_eq_of_le, BitVec.extractLsb'_append_eq_of_add_le,
      BitVec.extractLsb'_eq_self, Nat.reduceSub]

theorem brnz (k : Ctl) (a : BitVec 5) (off : BitVec 19) : Statement (.brnz k a off) := by
  refine decodeBits_of_build ?_
  show build (asm 0#64 off 0#5 a 0#5 0x005#10 k 1#2) = _
  generalize hw : asm 0#64 off 0#5 a 0#5 0x005#10 k 1#2 = w
  have hb : build w = some (Instr.brnz (ctlOf w) (w.extractLsb' 35 5) (w.extractLsb' 45 19)) := by
    unfold build
    rw [show w.extractLsb' 20 10 = 0x005#10 by rw [← hw, asm_op]]
    rfl
  rw [hb, ← hw]
  simp (disch := omega) only [asm, ctlOf, vmOf, VMod.bits, BitVec.extractLsb'_append_eq_of_le, BitVec.extractLsb'_append_eq_of_add_le,
      BitVec.extractLsb'_eq_self, Nat.reduceSub]

theorem brv (k : Ctl) (a : BitVec 5) (off : BitVec 19) : Statement (.brv k a off) := by
  refine decodeBits_of_build ?_
  show build (asm 0#64 off 0#5 a 0#5 0x006#10 k 1#2) = _
  generalize hw : asm 0#64 off 0#5 a 0#5 0x006#10 k 1#2 = w
  have hb : build w = some (Instr.brv (ctlOf w) (w.extractLsb' 35 5) (w.extractLsb' 45 19)) := by
    unfold build
    rw [show w.extractLsb' 20 10 = 0x006#10 by rw [← hw, asm_op]]
    rfl
  rw [hb, ← hw]
  simp (disch := omega) only [asm, ctlOf, vmOf, VMod.bits, BitVec.extractLsb'_append_eq_of_le, BitVec.extractLsb'_append_eq_of_add_le,
      BitVec.extractLsb'_eq_self, Nat.reduceSub]

theorem call (k : Ctl) (off : BitVec 19) : Statement (.call k off) := by
  refine decodeBits_of_build ?_
  show build (asm 0#64 off 0#5 0#5 0#5 0x007#10 k 1#2) = _
  generalize hw : asm 0#64 off 0#5 0#5 0#5 0x007#10 k 1#2 = w
  have hb : build w = some (Instr.call (ctlOf w) (w.extractLsb' 45 19)) := by
    unfold build
    rw [show w.extractLsb' 20 10 = 0x007#10 by rw [← hw, asm_op]]
    rfl
  rw [hb, ← hw]
  simp (disch := omega) only [asm, ctlOf, vmOf, VMod.bits, BitVec.extractLsb'_append_eq_of_le, BitVec.extractLsb'_append_eq_of_add_le,
      BitVec.extractLsb'_eq_self, Nat.reduceSub]

theorem callr (k : Ctl) (a : BitVec 5) : Statement (.callr k a) := by
  refine decodeBits_of_build ?_
  show build (asm 0#64 0#19 0#5 a 0#5 0x008#10 k 1#2) = _
  generalize hw : asm 0#64 0#19 0#5 a 0#5 0x008#10 k 1#2 = w
  have hb : build w = some (Instr.callr (ctlOf w) (w.extractLsb' 35 5)) := by
    unfold build
    rw [show w.extractLsb' 20 10 = 0x008#10 by rw [← hw, asm_op]]
    rfl
  rw [hb, ← hw]
  simp (disch := omega) only [asm, ctlOf, vmOf, VMod.bits, BitVec.extractLsb'_append_eq_of_le, BitVec.extractLsb'_append_eq_of_add_le,
      BitVec.extractLsb'_eq_self, Nat.reduceSub]

theorem ret (k : Ctl) : Statement (.ret k) := by
  refine decodeBits_of_build ?_
  show build (asm 0#64 0#19 0#5 0#5 0#5 0x009#10 k 1#2) = _
  generalize hw : asm 0#64 0#19 0#5 0#5 0#5 0x009#10 k 1#2 = w
  have hb : build w = some (Instr.ret (ctlOf w)) := by
    unfold build
    rw [show w.extractLsb' 20 10 = 0x009#10 by rw [← hw, asm_op]]
    rfl
  rw [hb, ← hw]
  simp (disch := omega) only [asm, ctlOf, vmOf, VMod.bits, BitVec.extractLsb'_append_eq_of_le, BitVec.extractLsb'_append_eq_of_add_le,
      BitVec.extractLsb'_eq_self, Nat.reduceSub]

theorem jmpr (k : Ctl) (a : BitVec 5) : Statement (.jmpr k a) := by
  refine decodeBits_of_build ?_
  show build (asm 0#64 0#19 0#5 a 0#5 0x00A#10 k 1#2) = _
  generalize hw : asm 0#64 0#19 0#5 a 0#5 0x00A#10 k 1#2 = w
  have hb : build w = some (Instr.jmpr (ctlOf w) (w.extractLsb' 35 5)) := by
    unfold build
    rw [show w.extractLsb' 20 10 = 0x00A#10 by rw [← hw, asm_op]]
    rfl
  rw [hb, ← hw]
  simp (disch := omega) only [asm, ctlOf, vmOf, VMod.bits, BitVec.extractLsb'_append_eq_of_le, BitVec.extractLsb'_append_eq_of_add_le,
      BitVec.extractLsb'_eq_self, Nat.reduceSub]

theorem loop (k : Ctl) (d : BitVec 5) (off : BitVec 19) : Statement (.loop k d off) := by
  refine decodeBits_of_build ?_
  show build (asm 0#64 off 0#5 0#5 d 0x00B#10 k 1#2) = _
  generalize hw : asm 0#64 off 0#5 0#5 d 0x00B#10 k 1#2 = w
  have hb : build w = some (Instr.loop (ctlOf w) (w.extractLsb' 30 5) (w.extractLsb' 45 19)) := by
    unfold build
    rw [show w.extractLsb' 20 10 = 0x00B#10 by rw [← hw, asm_op]]
    rfl
  rw [hb, ← hw]
  simp (disch := omega) only [asm, ctlOf, vmOf, VMod.bits, BitVec.extractLsb'_append_eq_of_le, BitVec.extractLsb'_append_eq_of_add_le,
      BitVec.extractLsb'_eq_self, Nat.reduceSub]

theorem hstart (k : Ctl) (d a b : BitVec 5) (off : BitVec 32) : Statement (.hstart k d a b off) := by
  refine decodeBits_of_build ?_
  show build (asm (0#32 ++ off) (0#14 ++ 0#5) b a d 0x00C#10 k 2#2) = _
  generalize hw : asm (0#32 ++ off) (0#14 ++ 0#5) b a d 0x00C#10 k 2#2 = w
  have hb : build w = some (Instr.hstart (ctlOf w) (w.extractLsb' 30 5) (w.extractLsb' 35 5) (w.extractLsb' 40 5) (w.extractLsb' 64 32)) := by
    unfold build
    rw [show w.extractLsb' 20 10 = 0x00C#10 by rw [← hw, asm_op]]
    rfl
  rw [hb, ← hw]
  simp (disch := omega) only [asm, ctlOf, vmOf, VMod.bits, BitVec.extractLsb'_append_eq_of_le, BitVec.extractLsb'_append_eq_of_add_le,
      BitVec.extractLsb'_eq_self, Nat.reduceSub]
  simp only [Nat.reduceAdd, Nat.reduceSub, BitVec.extractLsb'_eq_self]

theorem hend (k : Ctl) : Statement (.hend k) := by
  refine decodeBits_of_build ?_
  show build (asm 0#64 0#19 0#5 0#5 0#5 0x00D#10 k 1#2) = _
  generalize hw : asm 0#64 0#19 0#5 0#5 0#5 0x00D#10 k 1#2 = w
  have hb : build w = some (Instr.hend (ctlOf w)) := by
    unfold build
    rw [show w.extractLsb' 20 10 = 0x00D#10 by rw [← hw, asm_op]]
    rfl
  rw [hb, ← hw]
  simp (disch := omega) only [asm, ctlOf, vmOf, VMod.bits, BitVec.extractLsb'_append_eq_of_le, BitVec.extractLsb'_append_eq_of_add_le,
      BitVec.extractLsb'_eq_self, Nat.reduceSub]

theorem hjoin (k : Ctl) (a : BitVec 5) : Statement (.hjoin k a) := by
  refine decodeBits_of_build ?_
  show build (asm 0#64 0#19 0#5 a 0#5 0x00E#10 k 1#2) = _
  generalize hw : asm 0#64 0#19 0#5 a 0#5 0x00E#10 k 1#2 = w
  have hb : build w = some (Instr.hjoin (ctlOf w) (w.extractLsb' 35 5)) := by
    unfold build
    rw [show w.extractLsb' 20 10 = 0x00E#10 by rw [← hw, asm_op]]
    rfl
  rw [hb, ← hw]
  simp (disch := omega) only [asm, ctlOf, vmOf, VMod.bits, BitVec.extractLsb'_append_eq_of_le, BitVec.extractLsb'_append_eq_of_add_le,
      BitVec.extractLsb'_eq_self, Nat.reduceSub]

theorem yield (k : Ctl) (n : BitVec 19) : Statement (.yield k n) := by
  refine decodeBits_of_build ?_
  show build (asm 0#64 n 0#5 0#5 0#5 0x00F#10 k 1#2) = _
  generalize hw : asm 0#64 n 0#5 0#5 0#5 0x00F#10 k 1#2 = w
  have hb : build w = some (Instr.yield (ctlOf w) (w.extractLsb' 45 19)) := by
    unfold build
    rw [show w.extractLsb' 20 10 = 0x00F#10 by rw [← hw, asm_op]]
    rfl
  rw [hb, ← hw]
  simp (disch := omega) only [asm, ctlOf, vmOf, VMod.bits, BitVec.extractLsb'_append_eq_of_le, BitVec.extractLsb'_append_eq_of_add_le,
      BitVec.extractLsb'_eq_self, Nat.reduceSub]

theorem trap (k : Ctl) (n : BitVec 19) : Statement (.trap k n) := by
  refine decodeBits_of_build ?_
  show build (asm 0#64 n 0#5 0#5 0#5 0x010#10 k 1#2) = _
  generalize hw : asm 0#64 n 0#5 0#5 0#5 0x010#10 k 1#2 = w
  have hb : build w = some (Instr.trap (ctlOf w) (w.extractLsb' 45 19)) := by
    unfold build
    rw [show w.extractLsb' 20 10 = 0x010#10 by rw [← hw, asm_op]]
    rfl
  rw [hb, ← hw]
  simp (disch := omega) only [asm, ctlOf, vmOf, VMod.bits, BitVec.extractLsb'_append_eq_of_le, BitVec.extractLsb'_append_eq_of_add_le,
      BitVec.extractLsb'_eq_self, Nat.reduceSub]

theorem brk (k : Ctl) (n : BitVec 19) : Statement (.brk k n) := by
  refine decodeBits_of_build ?_
  show build (asm 0#64 n 0#5 0#5 0#5 0x011#10 k 1#2) = _
  generalize hw : asm 0#64 n 0#5 0#5 0#5 0x011#10 k 1#2 = w
  have hb : build w = some (Instr.brk (ctlOf w) (w.extractLsb' 45 19)) := by
    unfold build
    rw [show w.extractLsb' 20 10 = 0x011#10 by rw [← hw, asm_op]]
    rfl
  rw [hb, ← hw]
  simp (disch := omega) only [asm, ctlOf, vmOf, VMod.bits, BitVec.extractLsb'_append_eq_of_le, BitVec.extractLsb'_append_eq_of_add_le,
      BitVec.extractLsb'_eq_self, Nat.reduceSub]

theorem add (k : Ctl) (d a b : BitVec 5) : Statement (.add k d a b) := by
  refine decodeBits_of_build ?_
  show build (asm 0#64 0#19 b a d 0x040#10 k 1#2) = _
  generalize hw : asm 0#64 0#19 b a d 0x040#10 k 1#2 = w
  have hb : build w = some (Instr.add (ctlOf w) (w.extractLsb' 30 5) (w.extractLsb' 35 5) (w.extractLsb' 40 5)) := by
    unfold build
    rw [show w.extractLsb' 20 10 = 0x040#10 by rw [← hw, asm_op]]
    rfl
  rw [hb, ← hw]
  simp (disch := omega) only [asm, ctlOf, vmOf, VMod.bits, BitVec.extractLsb'_append_eq_of_le, BitVec.extractLsb'_append_eq_of_add_le,
      BitVec.extractLsb'_eq_self, Nat.reduceSub]

theorem addi (k : Ctl) (d a : BitVec 5) (imm : BitVec 19) : Statement (.addi k d a imm) := by
  refine decodeBits_of_build ?_
  show build (asm 0#64 imm 0#5 a d 0x041#10 k 1#2) = _
  generalize hw : asm 0#64 imm 0#5 a d 0x041#10 k 1#2 = w
  have hb : build w = some (Instr.addi (ctlOf w) (w.extractLsb' 30 5) (w.extractLsb' 35 5) (w.extractLsb' 45 19)) := by
    unfold build
    rw [show w.extractLsb' 20 10 = 0x041#10 by rw [← hw, asm_op]]
    rfl
  rw [hb, ← hw]
  simp (disch := omega) only [asm, ctlOf, vmOf, VMod.bits, BitVec.extractLsb'_append_eq_of_le, BitVec.extractLsb'_append_eq_of_add_le,
      BitVec.extractLsb'_eq_self, Nat.reduceSub]

theorem sub (k : Ctl) (d a b : BitVec 5) : Statement (.sub k d a b) := by
  refine decodeBits_of_build ?_
  show build (asm 0#64 0#19 b a d 0x042#10 k 1#2) = _
  generalize hw : asm 0#64 0#19 b a d 0x042#10 k 1#2 = w
  have hb : build w = some (Instr.sub (ctlOf w) (w.extractLsb' 30 5) (w.extractLsb' 35 5) (w.extractLsb' 40 5)) := by
    unfold build
    rw [show w.extractLsb' 20 10 = 0x042#10 by rw [← hw, asm_op]]
    rfl
  rw [hb, ← hw]
  simp (disch := omega) only [asm, ctlOf, vmOf, VMod.bits, BitVec.extractLsb'_append_eq_of_le, BitVec.extractLsb'_append_eq_of_add_le,
      BitVec.extractLsb'_eq_self, Nat.reduceSub]

theorem mul (k : Ctl) (d a b : BitVec 5) : Statement (.mul k d a b) := by
  refine decodeBits_of_build ?_
  show build (asm 0#64 0#19 b a d 0x043#10 k 1#2) = _
  generalize hw : asm 0#64 0#19 b a d 0x043#10 k 1#2 = w
  have hb : build w = some (Instr.mul (ctlOf w) (w.extractLsb' 30 5) (w.extractLsb' 35 5) (w.extractLsb' 40 5)) := by
    unfold build
    rw [show w.extractLsb' 20 10 = 0x043#10 by rw [← hw, asm_op]]
    rfl
  rw [hb, ← hw]
  simp (disch := omega) only [asm, ctlOf, vmOf, VMod.bits, BitVec.extractLsb'_append_eq_of_le, BitVec.extractLsb'_append_eq_of_add_le,
      BitVec.extractLsb'_eq_self, Nat.reduceSub]

theorem mulh (k : Ctl) (d a b : BitVec 5) : Statement (.mulh k d a b) := by
  refine decodeBits_of_build ?_
  show build (asm 0#64 0#19 b a d 0x044#10 k 1#2) = _
  generalize hw : asm 0#64 0#19 b a d 0x044#10 k 1#2 = w
  have hb : build w = some (Instr.mulh (ctlOf w) (w.extractLsb' 30 5) (w.extractLsb' 35 5) (w.extractLsb' 40 5)) := by
    unfold build
    rw [show w.extractLsb' 20 10 = 0x044#10 by rw [← hw, asm_op]]
    rfl
  rw [hb, ← hw]
  simp (disch := omega) only [asm, ctlOf, vmOf, VMod.bits, BitVec.extractLsb'_append_eq_of_le, BitVec.extractLsb'_append_eq_of_add_le,
      BitVec.extractLsb'_eq_self, Nat.reduceSub]

theorem mulhu (k : Ctl) (d a b : BitVec 5) : Statement (.mulhu k d a b) := by
  refine decodeBits_of_build ?_
  show build (asm 0#64 0#19 b a d 0x045#10 k 1#2) = _
  generalize hw : asm 0#64 0#19 b a d 0x045#10 k 1#2 = w
  have hb : build w = some (Instr.mulhu (ctlOf w) (w.extractLsb' 30 5) (w.extractLsb' 35 5) (w.extractLsb' 40 5)) := by
    unfold build
    rw [show w.extractLsb' 20 10 = 0x045#10 by rw [← hw, asm_op]]
    rfl
  rw [hb, ← hw]
  simp (disch := omega) only [asm, ctlOf, vmOf, VMod.bits, BitVec.extractLsb'_append_eq_of_le, BitVec.extractLsb'_append_eq_of_add_le,
      BitVec.extractLsb'_eq_self, Nat.reduceSub]

theorem div (k : Ctl) (d a b : BitVec 5) : Statement (.div k d a b) := by
  refine decodeBits_of_build ?_
  show build (asm 0#64 0#19 b a d 0x046#10 k 1#2) = _
  generalize hw : asm 0#64 0#19 b a d 0x046#10 k 1#2 = w
  have hb : build w = some (Instr.div (ctlOf w) (w.extractLsb' 30 5) (w.extractLsb' 35 5) (w.extractLsb' 40 5)) := by
    unfold build
    rw [show w.extractLsb' 20 10 = 0x046#10 by rw [← hw, asm_op]]
    rfl
  rw [hb, ← hw]
  simp (disch := omega) only [asm, ctlOf, vmOf, VMod.bits, BitVec.extractLsb'_append_eq_of_le, BitVec.extractLsb'_append_eq_of_add_le,
      BitVec.extractLsb'_eq_self, Nat.reduceSub]

theorem divu (k : Ctl) (d a b : BitVec 5) : Statement (.divu k d a b) := by
  refine decodeBits_of_build ?_
  show build (asm 0#64 0#19 b a d 0x047#10 k 1#2) = _
  generalize hw : asm 0#64 0#19 b a d 0x047#10 k 1#2 = w
  have hb : build w = some (Instr.divu (ctlOf w) (w.extractLsb' 30 5) (w.extractLsb' 35 5) (w.extractLsb' 40 5)) := by
    unfold build
    rw [show w.extractLsb' 20 10 = 0x047#10 by rw [← hw, asm_op]]
    rfl
  rw [hb, ← hw]
  simp (disch := omega) only [asm, ctlOf, vmOf, VMod.bits, BitVec.extractLsb'_append_eq_of_le, BitVec.extractLsb'_append_eq_of_add_le,
      BitVec.extractLsb'_eq_self, Nat.reduceSub]

theorem rem (k : Ctl) (d a b : BitVec 5) : Statement (.rem k d a b) := by
  refine decodeBits_of_build ?_
  show build (asm 0#64 0#19 b a d 0x048#10 k 1#2) = _
  generalize hw : asm 0#64 0#19 b a d 0x048#10 k 1#2 = w
  have hb : build w = some (Instr.rem (ctlOf w) (w.extractLsb' 30 5) (w.extractLsb' 35 5) (w.extractLsb' 40 5)) := by
    unfold build
    rw [show w.extractLsb' 20 10 = 0x048#10 by rw [← hw, asm_op]]
    rfl
  rw [hb, ← hw]
  simp (disch := omega) only [asm, ctlOf, vmOf, VMod.bits, BitVec.extractLsb'_append_eq_of_le, BitVec.extractLsb'_append_eq_of_add_le,
      BitVec.extractLsb'_eq_self, Nat.reduceSub]

theorem remu (k : Ctl) (d a b : BitVec 5) : Statement (.remu k d a b) := by
  refine decodeBits_of_build ?_
  show build (asm 0#64 0#19 b a d 0x049#10 k 1#2) = _
  generalize hw : asm 0#64 0#19 b a d 0x049#10 k 1#2 = w
  have hb : build w = some (Instr.remu (ctlOf w) (w.extractLsb' 30 5) (w.extractLsb' 35 5) (w.extractLsb' 40 5)) := by
    unfold build
    rw [show w.extractLsb' 20 10 = 0x049#10 by rw [← hw, asm_op]]
    rfl
  rw [hb, ← hw]
  simp (disch := omega) only [asm, ctlOf, vmOf, VMod.bits, BitVec.extractLsb'_append_eq_of_le, BitVec.extractLsb'_append_eq_of_add_le,
      BitVec.extractLsb'_eq_self, Nat.reduceSub]

theorem and (k : Ctl) (d a b : BitVec 5) : Statement (.and k d a b) := by
  refine decodeBits_of_build ?_
  show build (asm 0#64 0#19 b a d 0x04A#10 k 1#2) = _
  generalize hw : asm 0#64 0#19 b a d 0x04A#10 k 1#2 = w
  have hb : build w = some (Instr.and (ctlOf w) (w.extractLsb' 30 5) (w.extractLsb' 35 5) (w.extractLsb' 40 5)) := by
    unfold build
    rw [show w.extractLsb' 20 10 = 0x04A#10 by rw [← hw, asm_op]]
    rfl
  rw [hb, ← hw]
  simp (disch := omega) only [asm, ctlOf, vmOf, VMod.bits, BitVec.extractLsb'_append_eq_of_le, BitVec.extractLsb'_append_eq_of_add_le,
      BitVec.extractLsb'_eq_self, Nat.reduceSub]

theorem andi (k : Ctl) (d a : BitVec 5) (imm : BitVec 19) : Statement (.andi k d a imm) := by
  refine decodeBits_of_build ?_
  show build (asm 0#64 imm 0#5 a d 0x04B#10 k 1#2) = _
  generalize hw : asm 0#64 imm 0#5 a d 0x04B#10 k 1#2 = w
  have hb : build w = some (Instr.andi (ctlOf w) (w.extractLsb' 30 5) (w.extractLsb' 35 5) (w.extractLsb' 45 19)) := by
    unfold build
    rw [show w.extractLsb' 20 10 = 0x04B#10 by rw [← hw, asm_op]]
    rfl
  rw [hb, ← hw]
  simp (disch := omega) only [asm, ctlOf, vmOf, VMod.bits, BitVec.extractLsb'_append_eq_of_le, BitVec.extractLsb'_append_eq_of_add_le,
      BitVec.extractLsb'_eq_self, Nat.reduceSub]

theorem or (k : Ctl) (d a b : BitVec 5) : Statement (.or k d a b) := by
  refine decodeBits_of_build ?_
  show build (asm 0#64 0#19 b a d 0x04C#10 k 1#2) = _
  generalize hw : asm 0#64 0#19 b a d 0x04C#10 k 1#2 = w
  have hb : build w = some (Instr.or (ctlOf w) (w.extractLsb' 30 5) (w.extractLsb' 35 5) (w.extractLsb' 40 5)) := by
    unfold build
    rw [show w.extractLsb' 20 10 = 0x04C#10 by rw [← hw, asm_op]]
    rfl
  rw [hb, ← hw]
  simp (disch := omega) only [asm, ctlOf, vmOf, VMod.bits, BitVec.extractLsb'_append_eq_of_le, BitVec.extractLsb'_append_eq_of_add_le,
      BitVec.extractLsb'_eq_self, Nat.reduceSub]

theorem ori (k : Ctl) (d a : BitVec 5) (imm : BitVec 19) : Statement (.ori k d a imm) := by
  refine decodeBits_of_build ?_
  show build (asm 0#64 imm 0#5 a d 0x04D#10 k 1#2) = _
  generalize hw : asm 0#64 imm 0#5 a d 0x04D#10 k 1#2 = w
  have hb : build w = some (Instr.ori (ctlOf w) (w.extractLsb' 30 5) (w.extractLsb' 35 5) (w.extractLsb' 45 19)) := by
    unfold build
    rw [show w.extractLsb' 20 10 = 0x04D#10 by rw [← hw, asm_op]]
    rfl
  rw [hb, ← hw]
  simp (disch := omega) only [asm, ctlOf, vmOf, VMod.bits, BitVec.extractLsb'_append_eq_of_le, BitVec.extractLsb'_append_eq_of_add_le,
      BitVec.extractLsb'_eq_self, Nat.reduceSub]

theorem xor (k : Ctl) (d a b : BitVec 5) : Statement (.xor k d a b) := by
  refine decodeBits_of_build ?_
  show build (asm 0#64 0#19 b a d 0x04E#10 k 1#2) = _
  generalize hw : asm 0#64 0#19 b a d 0x04E#10 k 1#2 = w
  have hb : build w = some (Instr.xor (ctlOf w) (w.extractLsb' 30 5) (w.extractLsb' 35 5) (w.extractLsb' 40 5)) := by
    unfold build
    rw [show w.extractLsb' 20 10 = 0x04E#10 by rw [← hw, asm_op]]
    rfl
  rw [hb, ← hw]
  simp (disch := omega) only [asm, ctlOf, vmOf, VMod.bits, BitVec.extractLsb'_append_eq_of_le, BitVec.extractLsb'_append_eq_of_add_le,
      BitVec.extractLsb'_eq_self, Nat.reduceSub]

theorem xori (k : Ctl) (d a : BitVec 5) (imm : BitVec 19) : Statement (.xori k d a imm) := by
  refine decodeBits_of_build ?_
  show build (asm 0#64 imm 0#5 a d 0x04F#10 k 1#2) = _
  generalize hw : asm 0#64 imm 0#5 a d 0x04F#10 k 1#2 = w
  have hb : build w = some (Instr.xori (ctlOf w) (w.extractLsb' 30 5) (w.extractLsb' 35 5) (w.extractLsb' 45 19)) := by
    unfold build
    rw [show w.extractLsb' 20 10 = 0x04F#10 by rw [← hw, asm_op]]
    rfl
  rw [hb, ← hw]
  simp (disch := omega) only [asm, ctlOf, vmOf, VMod.bits, BitVec.extractLsb'_append_eq_of_le, BitVec.extractLsb'_append_eq_of_add_le,
      BitVec.extractLsb'_eq_self, Nat.reduceSub]

theorem shl (k : Ctl) (d a b : BitVec 5) : Statement (.shl k d a b) := by
  refine decodeBits_of_build ?_
  show build (asm 0#64 0#19 b a d 0x050#10 k 1#2) = _
  generalize hw : asm 0#64 0#19 b a d 0x050#10 k 1#2 = w
  have hb : build w = some (Instr.shl (ctlOf w) (w.extractLsb' 30 5) (w.extractLsb' 35 5) (w.extractLsb' 40 5)) := by
    unfold build
    rw [show w.extractLsb' 20 10 = 0x050#10 by rw [← hw, asm_op]]
    rfl
  rw [hb, ← hw]
  simp (disch := omega) only [asm, ctlOf, vmOf, VMod.bits, BitVec.extractLsb'_append_eq_of_le, BitVec.extractLsb'_append_eq_of_add_le,
      BitVec.extractLsb'_eq_self, Nat.reduceSub]

theorem shli (k : Ctl) (d a : BitVec 5) (sh : BitVec 19) : Statement (.shli k d a sh) := by
  refine decodeBits_of_build ?_
  show build (asm 0#64 sh 0#5 a d 0x051#10 k 1#2) = _
  generalize hw : asm 0#64 sh 0#5 a d 0x051#10 k 1#2 = w
  have hb : build w = some (Instr.shli (ctlOf w) (w.extractLsb' 30 5) (w.extractLsb' 35 5) (w.extractLsb' 45 19)) := by
    unfold build
    rw [show w.extractLsb' 20 10 = 0x051#10 by rw [← hw, asm_op]]
    rfl
  rw [hb, ← hw]
  simp (disch := omega) only [asm, ctlOf, vmOf, VMod.bits, BitVec.extractLsb'_append_eq_of_le, BitVec.extractLsb'_append_eq_of_add_le,
      BitVec.extractLsb'_eq_self, Nat.reduceSub]

theorem shr (k : Ctl) (d a b : BitVec 5) : Statement (.shr k d a b) := by
  refine decodeBits_of_build ?_
  show build (asm 0#64 0#19 b a d 0x052#10 k 1#2) = _
  generalize hw : asm 0#64 0#19 b a d 0x052#10 k 1#2 = w
  have hb : build w = some (Instr.shr (ctlOf w) (w.extractLsb' 30 5) (w.extractLsb' 35 5) (w.extractLsb' 40 5)) := by
    unfold build
    rw [show w.extractLsb' 20 10 = 0x052#10 by rw [← hw, asm_op]]
    rfl
  rw [hb, ← hw]
  simp (disch := omega) only [asm, ctlOf, vmOf, VMod.bits, BitVec.extractLsb'_append_eq_of_le, BitVec.extractLsb'_append_eq_of_add_le,
      BitVec.extractLsb'_eq_self, Nat.reduceSub]

theorem shri (k : Ctl) (d a : BitVec 5) (sh : BitVec 19) : Statement (.shri k d a sh) := by
  refine decodeBits_of_build ?_
  show build (asm 0#64 sh 0#5 a d 0x053#10 k 1#2) = _
  generalize hw : asm 0#64 sh 0#5 a d 0x053#10 k 1#2 = w
  have hb : build w = some (Instr.shri (ctlOf w) (w.extractLsb' 30 5) (w.extractLsb' 35 5) (w.extractLsb' 45 19)) := by
    unfold build
    rw [show w.extractLsb' 20 10 = 0x053#10 by rw [← hw, asm_op]]
    rfl
  rw [hb, ← hw]
  simp (disch := omega) only [asm, ctlOf, vmOf, VMod.bits, BitVec.extractLsb'_append_eq_of_le, BitVec.extractLsb'_append_eq_of_add_le,
      BitVec.extractLsb'_eq_self, Nat.reduceSub]

theorem sar (k : Ctl) (d a b : BitVec 5) : Statement (.sar k d a b) := by
  refine decodeBits_of_build ?_
  show build (asm 0#64 0#19 b a d 0x054#10 k 1#2) = _
  generalize hw : asm 0#64 0#19 b a d 0x054#10 k 1#2 = w
  have hb : build w = some (Instr.sar (ctlOf w) (w.extractLsb' 30 5) (w.extractLsb' 35 5) (w.extractLsb' 40 5)) := by
    unfold build
    rw [show w.extractLsb' 20 10 = 0x054#10 by rw [← hw, asm_op]]
    rfl
  rw [hb, ← hw]
  simp (disch := omega) only [asm, ctlOf, vmOf, VMod.bits, BitVec.extractLsb'_append_eq_of_le, BitVec.extractLsb'_append_eq_of_add_le,
      BitVec.extractLsb'_eq_self, Nat.reduceSub]

theorem sari (k : Ctl) (d a : BitVec 5) (sh : BitVec 19) : Statement (.sari k d a sh) := by
  refine decodeBits_of_build ?_
  show build (asm 0#64 sh 0#5 a d 0x055#10 k 1#2) = _
  generalize hw : asm 0#64 sh 0#5 a d 0x055#10 k 1#2 = w
  have hb : build w = some (Instr.sari (ctlOf w) (w.extractLsb' 30 5) (w.extractLsb' 35 5) (w.extractLsb' 45 19)) := by
    unfold build
    rw [show w.extractLsb' 20 10 = 0x055#10 by rw [← hw, asm_op]]
    rfl
  rw [hb, ← hw]
  simp (disch := omega) only [asm, ctlOf, vmOf, VMod.bits, BitVec.extractLsb'_append_eq_of_le, BitVec.extractLsb'_append_eq_of_add_le,
      BitVec.extractLsb'_eq_self, Nat.reduceSub]

theorem min (k : Ctl) (d a b : BitVec 5) : Statement (.min k d a b) := by
  refine decodeBits_of_build ?_
  show build (asm 0#64 0#19 b a d 0x056#10 k 1#2) = _
  generalize hw : asm 0#64 0#19 b a d 0x056#10 k 1#2 = w
  have hb : build w = some (Instr.min (ctlOf w) (w.extractLsb' 30 5) (w.extractLsb' 35 5) (w.extractLsb' 40 5)) := by
    unfold build
    rw [show w.extractLsb' 20 10 = 0x056#10 by rw [← hw, asm_op]]
    rfl
  rw [hb, ← hw]
  simp (disch := omega) only [asm, ctlOf, vmOf, VMod.bits, BitVec.extractLsb'_append_eq_of_le, BitVec.extractLsb'_append_eq_of_add_le,
      BitVec.extractLsb'_eq_self, Nat.reduceSub]

theorem max (k : Ctl) (d a b : BitVec 5) : Statement (.max k d a b) := by
  refine decodeBits_of_build ?_
  show build (asm 0#64 0#19 b a d 0x057#10 k 1#2) = _
  generalize hw : asm 0#64 0#19 b a d 0x057#10 k 1#2 = w
  have hb : build w = some (Instr.max (ctlOf w) (w.extractLsb' 30 5) (w.extractLsb' 35 5) (w.extractLsb' 40 5)) := by
    unfold build
    rw [show w.extractLsb' 20 10 = 0x057#10 by rw [← hw, asm_op]]
    rfl
  rw [hb, ← hw]
  simp (disch := omega) only [asm, ctlOf, vmOf, VMod.bits, BitVec.extractLsb'_append_eq_of_le, BitVec.extractLsb'_append_eq_of_add_le,
      BitVec.extractLsb'_eq_self, Nat.reduceSub]

theorem minu (k : Ctl) (d a b : BitVec 5) : Statement (.minu k d a b) := by
  refine decodeBits_of_build ?_
  show build (asm 0#64 0#19 b a d 0x058#10 k 1#2) = _
  generalize hw : asm 0#64 0#19 b a d 0x058#10 k 1#2 = w
  have hb : build w = some (Instr.minu (ctlOf w) (w.extractLsb' 30 5) (w.extractLsb' 35 5) (w.extractLsb' 40 5)) := by
    unfold build
    rw [show w.extractLsb' 20 10 = 0x058#10 by rw [← hw, asm_op]]
    rfl
  rw [hb, ← hw]
  simp (disch := omega) only [asm, ctlOf, vmOf, VMod.bits, BitVec.extractLsb'_append_eq_of_le, BitVec.extractLsb'_append_eq_of_add_le,
      BitVec.extractLsb'_eq_self, Nat.reduceSub]

theorem maxu (k : Ctl) (d a b : BitVec 5) : Statement (.maxu k d a b) := by
  refine decodeBits_of_build ?_
  show build (asm 0#64 0#19 b a d 0x059#10 k 1#2) = _
  generalize hw : asm 0#64 0#19 b a d 0x059#10 k 1#2 = w
  have hb : build w = some (Instr.maxu (ctlOf w) (w.extractLsb' 30 5) (w.extractLsb' 35 5) (w.extractLsb' 40 5)) := by
    unfold build
    rw [show w.extractLsb' 20 10 = 0x059#10 by rw [← hw, asm_op]]
    rfl
  rw [hb, ← hw]
  simp (disch := omega) only [asm, ctlOf, vmOf, VMod.bits, BitVec.extractLsb'_append_eq_of_le, BitVec.extractLsb'_append_eq_of_add_le,
      BitVec.extractLsb'_eq_self, Nat.reduceSub]

theorem slt (k : Ctl) (d a b : BitVec 5) : Statement (.slt k d a b) := by
  refine decodeBits_of_build ?_
  show build (asm 0#64 0#19 b a d 0x05A#10 k 1#2) = _
  generalize hw : asm 0#64 0#19 b a d 0x05A#10 k 1#2 = w
  have hb : build w = some (Instr.slt (ctlOf w) (w.extractLsb' 30 5) (w.extractLsb' 35 5) (w.extractLsb' 40 5)) := by
    unfold build
    rw [show w.extractLsb' 20 10 = 0x05A#10 by rw [← hw, asm_op]]
    rfl
  rw [hb, ← hw]
  simp (disch := omega) only [asm, ctlOf, vmOf, VMod.bits, BitVec.extractLsb'_append_eq_of_le, BitVec.extractLsb'_append_eq_of_add_le,
      BitVec.extractLsb'_eq_self, Nat.reduceSub]

theorem sltu (k : Ctl) (d a b : BitVec 5) : Statement (.sltu k d a b) := by
  refine decodeBits_of_build ?_
  show build (asm 0#64 0#19 b a d 0x05B#10 k 1#2) = _
  generalize hw : asm 0#64 0#19 b a d 0x05B#10 k 1#2 = w
  have hb : build w = some (Instr.sltu (ctlOf w) (w.extractLsb' 30 5) (w.extractLsb' 35 5) (w.extractLsb' 40 5)) := by
    unfold build
    rw [show w.extractLsb' 20 10 = 0x05B#10 by rw [← hw, asm_op]]
    rfl
  rw [hb, ← hw]
  simp (disch := omega) only [asm, ctlOf, vmOf, VMod.bits, BitVec.extractLsb'_append_eq_of_le, BitVec.extractLsb'_append_eq_of_add_le,
      BitVec.extractLsb'_eq_self, Nat.reduceSub]

theorem seq (k : Ctl) (d a b : BitVec 5) : Statement (.seq k d a b) := by
  refine decodeBits_of_build ?_
  show build (asm 0#64 0#19 b a d 0x05C#10 k 1#2) = _
  generalize hw : asm 0#64 0#19 b a d 0x05C#10 k 1#2 = w
  have hb : build w = some (Instr.seq (ctlOf w) (w.extractLsb' 30 5) (w.extractLsb' 35 5) (w.extractLsb' 40 5)) := by
    unfold build
    rw [show w.extractLsb' 20 10 = 0x05C#10 by rw [← hw, asm_op]]
    rfl
  rw [hb, ← hw]
  simp (disch := omega) only [asm, ctlOf, vmOf, VMod.bits, BitVec.extractLsb'_append_eq_of_le, BitVec.extractLsb'_append_eq_of_add_le,
      BitVec.extractLsb'_eq_self, Nat.reduceSub]

theorem sel (k : Ctl) (d a b c : BitVec 5) : Statement (.sel k d a b c) := by
  refine decodeBits_of_build ?_
  show build (asm (0#32 ++ 0#32) (0#14 ++ c) b a d 0x05D#10 k 2#2) = _
  generalize hw : asm (0#32 ++ 0#32) (0#14 ++ c) b a d 0x05D#10 k 2#2 = w
  have hb : build w = some (Instr.sel (ctlOf w) (w.extractLsb' 30 5) (w.extractLsb' 35 5) (w.extractLsb' 40 5) (w.extractLsb' 45 5)) := by
    unfold build
    rw [show w.extractLsb' 20 10 = 0x05D#10 by rw [← hw, asm_op]]
    rfl
  rw [hb, ← hw]
  simp (disch := omega) only [asm, ctlOf, vmOf, VMod.bits, BitVec.extractLsb'_append_eq_of_le, BitVec.extractLsb'_append_eq_of_add_le,
      BitVec.extractLsb'_eq_self, Nat.reduceSub]

theorem clz (k : Ctl) (d a : BitVec 5) : Statement (.clz k d a) := by
  refine decodeBits_of_build ?_
  show build (asm 0#64 0#19 0#5 a d 0x05E#10 k 1#2) = _
  generalize hw : asm 0#64 0#19 0#5 a d 0x05E#10 k 1#2 = w
  have hb : build w = some (Instr.clz (ctlOf w) (w.extractLsb' 30 5) (w.extractLsb' 35 5)) := by
    unfold build
    rw [show w.extractLsb' 20 10 = 0x05E#10 by rw [← hw, asm_op]]
    rfl
  rw [hb, ← hw]
  simp (disch := omega) only [asm, ctlOf, vmOf, VMod.bits, BitVec.extractLsb'_append_eq_of_le, BitVec.extractLsb'_append_eq_of_add_le,
      BitVec.extractLsb'_eq_self, Nat.reduceSub]

theorem popc (k : Ctl) (d a : BitVec 5) : Statement (.popc k d a) := by
  refine decodeBits_of_build ?_
  show build (asm 0#64 0#19 0#5 a d 0x05F#10 k 1#2) = _
  generalize hw : asm 0#64 0#19 0#5 a d 0x05F#10 k 1#2 = w
  have hb : build w = some (Instr.popc (ctlOf w) (w.extractLsb' 30 5) (w.extractLsb' 35 5)) := by
    unfold build
    rw [show w.extractLsb' 20 10 = 0x05F#10 by rw [← hw, asm_op]]
    rfl
  rw [hb, ← hw]
  simp (disch := omega) only [asm, ctlOf, vmOf, VMod.bits, BitVec.extractLsb'_append_eq_of_le, BitVec.extractLsb'_append_eq_of_add_le,
      BitVec.extractLsb'_eq_self, Nat.reduceSub]

theorem bfx (k : Ctl) (d a : BitVec 5) (sx : BitVec 1) (width : BitVec 7) (pos : BitVec 6) : Statement (.bfx k d a sx width pos) := by
  refine decodeBits_of_build ?_
  show build (asm 0#64 (0#5 ++ sx ++ width ++ pos) 0#5 a d 0x060#10 k 1#2) = _
  generalize hw : asm 0#64 (0#5 ++ sx ++ width ++ pos) 0#5 a d 0x060#10 k 1#2 = w
  have hb : build w = some (Instr.bfx (ctlOf w) (w.extractLsb' 30 5) (w.extractLsb' 35 5) (w.extractLsb' 58 1) (w.extractLsb' 51 7) (w.extractLsb' 45 6)) := by
    unfold build
    rw [show w.extractLsb' 20 10 = 0x060#10 by rw [← hw, asm_op]]
    rfl
  rw [hb, ← hw]
  simp (disch := omega) only [asm, ctlOf, vmOf, VMod.bits, BitVec.extractLsb'_append_eq_of_le, BitVec.extractLsb'_append_eq_of_add_le,
      BitVec.extractLsb'_eq_self, Nat.reduceSub]

theorem bfi (k : Ctl) (d a : BitVec 5) (width : BitVec 7) (pos : BitVec 6) : Statement (.bfi k d a width pos) := by
  refine decodeBits_of_build ?_
  show build (asm 0#64 (0#6 ++ width ++ pos) 0#5 a d 0x061#10 k 1#2) = _
  generalize hw : asm 0#64 (0#6 ++ width ++ pos) 0#5 a d 0x061#10 k 1#2 = w
  have hb : build w = some (Instr.bfi (ctlOf w) (w.extractLsb' 30 5) (w.extractLsb' 35 5) (w.extractLsb' 51 7) (w.extractLsb' 45 6)) := by
    unfold build
    rw [show w.extractLsb' 20 10 = 0x061#10 by rw [← hw, asm_op]]
    rfl
  rw [hb, ← hw]
  simp (disch := omega) only [asm, ctlOf, vmOf, VMod.bits, BitVec.extractLsb'_append_eq_of_le, BitVec.extractLsb'_append_eq_of_add_le,
      BitVec.extractLsb'_eq_self, Nat.reduceSub]

theorem li (k : Ctl) (d : BitVec 5) (imm : BitVec 32) : Statement (.li k d imm) := by
  refine decodeBits_of_build ?_
  show build (asm (0#32 ++ imm) (0#14 ++ 0#5) 0#5 0#5 d 0x062#10 k 2#2) = _
  generalize hw : asm (0#32 ++ imm) (0#14 ++ 0#5) 0#5 0#5 d 0x062#10 k 2#2 = w
  have hb : build w = some (Instr.li (ctlOf w) (w.extractLsb' 30 5) (w.extractLsb' 64 32)) := by
    unfold build
    rw [show w.extractLsb' 20 10 = 0x062#10 by rw [← hw, asm_op]]
    rfl
  rw [hb, ← hw]
  simp (disch := omega) only [asm, ctlOf, vmOf, VMod.bits, BitVec.extractLsb'_append_eq_of_le, BitVec.extractLsb'_append_eq_of_add_le,
      BitVec.extractLsb'_eq_self, Nat.reduceSub]
  simp only [Nat.reduceAdd, Nat.reduceSub, BitVec.extractLsb'_eq_self]

theorem liw (k : Ctl) (d : BitVec 5) (imm : BitVec 64) : Statement (.liw k d imm) := by
  refine decodeBits_of_build ?_
  show build (asm imm 0#19 0#5 0#5 d 0x063#10 k 3#2) = _
  generalize hw : asm imm 0#19 0#5 0#5 d 0x063#10 k 3#2 = w
  have hb : build w = some (Instr.liw (ctlOf w) (w.extractLsb' 30 5) (w.extractLsb' 64 64)) := by
    unfold build
    rw [show w.extractLsb' 20 10 = 0x063#10 by rw [← hw, asm_op]]
    rfl
  rw [hb, ← hw]
  simp (disch := omega) only [asm, ctlOf, vmOf, VMod.bits, BitVec.extractLsb'_append_eq_of_le, BitVec.extractLsb'_append_eq_of_add_le,
      BitVec.extractLsb'_eq_self, Nat.reduceSub]

theorem lea (k : Ctl) (d a b : BitVec 5) (sh : BitVec 3) (imm : BitVec 32) : Statement (.lea k d a b sh imm) := by
  refine decodeBits_of_build ?_
  show build (asm (0#32 ++ imm) (0#11 ++ sh ++ 0#5) b a d 0x064#10 k 2#2) = _
  generalize hw : asm (0#32 ++ imm) (0#11 ++ sh ++ 0#5) b a d 0x064#10 k 2#2 = w
  have hb : build w = some (Instr.lea (ctlOf w) (w.extractLsb' 30 5) (w.extractLsb' 35 5) (w.extractLsb' 40 5) (w.extractLsb' 50 3) (w.extractLsb' 64 32)) := by
    unfold build
    rw [show w.extractLsb' 20 10 = 0x064#10 by rw [← hw, asm_op]]
    rfl
  rw [hb, ← hw]
  simp (disch := omega) only [asm, ctlOf, vmOf, VMod.bits, BitVec.extractLsb'_append_eq_of_le, BitVec.extractLsb'_append_eq_of_add_le,
      BitVec.extractLsb'_eq_self, Nat.reduceSub]
  simp only [Nat.reduceAdd, Nat.reduceSub, BitVec.extractLsb'_eq_self]

theorem srd (k : Ctl) (d : BitVec 5) (n : BitVec 12) : Statement (.srd k d n) := by
  refine decodeBits_of_build ?_
  show build (asm 0#64 (0#7 ++ n) 0#5 0#5 d 0x065#10 k 1#2) = _
  generalize hw : asm 0#64 (0#7 ++ n) 0#5 0#5 d 0x065#10 k 1#2 = w
  have hb : build w = some (Instr.srd (ctlOf w) (w.extractLsb' 30 5) (w.extractLsb' 45 12)) := by
    unfold build
    rw [show w.extractLsb' 20 10 = 0x065#10 by rw [← hw, asm_op]]
    rfl
  rw [hb, ← hw]
  simp (disch := omega) only [asm, ctlOf, vmOf, VMod.bits, BitVec.extractLsb'_append_eq_of_le, BitVec.extractLsb'_append_eq_of_add_le,
      BitVec.extractLsb'_eq_self, Nat.reduceSub]

theorem swr (k : Ctl) (a : BitVec 5) (n : BitVec 12) : Statement (.swr k a n) := by
  refine decodeBits_of_build ?_
  show build (asm 0#64 (0#7 ++ n) 0#5 a 0#5 0x066#10 k 1#2) = _
  generalize hw : asm 0#64 (0#7 ++ n) 0#5 a 0#5 0x066#10 k 1#2 = w
  have hb : build w = some (Instr.swr (ctlOf w) (w.extractLsb' 35 5) (w.extractLsb' 45 12)) := by
    unfold build
    rw [show w.extractLsb' 20 10 = 0x066#10 by rw [← hw, asm_op]]
    rfl
  rw [hb, ← hw]
  simp (disch := omega) only [asm, ctlOf, vmOf, VMod.bits, BitVec.extractLsb'_append_eq_of_le, BitVec.extractLsb'_append_eq_of_add_le,
      BitVec.extractLsb'_eq_self, Nat.reduceSub]

theorem ld (k : Ctl) (d a : BitVec 5) (off : BitVec 14) (w : BitVec 2) (z lc : BitVec 1) : Statement (.ld k d a off w z lc) := by
  refine decodeBits_of_build ?_
  show build (asm 0#64 (off ++ w ++ z ++ lc ++ 0#1) 0#5 a d 0x080#10 k 1#2) = _
  generalize hw : asm 0#64 (off ++ w ++ z ++ lc ++ 0#1) 0#5 a d 0x080#10 k 1#2 = w
  have hb : build w = some (Instr.ld (ctlOf w) (w.extractLsb' 30 5) (w.extractLsb' 35 5) (w.extractLsb' 50 14) (w.extractLsb' 48 2) (w.extractLsb' 47 1) (w.extractLsb' 46 1)) := by
    unfold build
    rw [show w.extractLsb' 20 10 = 0x080#10 by rw [← hw, asm_op]]
    rfl
  rw [hb, ← hw]
  simp (disch := omega) only [asm, ctlOf, vmOf, VMod.bits, BitVec.extractLsb'_append_eq_of_le, BitVec.extractLsb'_append_eq_of_add_le,
      BitVec.extractLsb'_eq_self, Nat.reduceSub]

theorem st (k : Ctl) (a b : BitVec 5) (off : BitVec 14) (w : BitVec 2) (lc : BitVec 1) : Statement (.st k a b off w lc) := by
  refine decodeBits_of_build ?_
  show build (asm 0#64 (off ++ w ++ 0#1 ++ lc ++ 0#1) b a 0#5 0x081#10 k 1#2) = _
  generalize hw : asm 0#64 (off ++ w ++ 0#1 ++ lc ++ 0#1) b a 0#5 0x081#10 k 1#2 = w
  have hb : build w = some (Instr.st (ctlOf w) (w.extractLsb' 35 5) (w.extractLsb' 40 5) (w.extractLsb' 50 14) (w.extractLsb' 48 2) (w.extractLsb' 46 1)) := by
    unfold build
    rw [show w.extractLsb' 20 10 = 0x081#10 by rw [← hw, asm_op]]
    rfl
  rw [hb, ← hw]
  simp (disch := omega) only [asm, ctlOf, vmOf, VMod.bits, BitVec.extractLsb'_append_eq_of_le, BitVec.extractLsb'_append_eq_of_add_le,
      BitVec.extractLsb'_eq_self, Nat.reduceSub]

theorem ldacq (k : Ctl) (d a : BitVec 5) (off : BitVec 14) (w : BitVec 2) (z lc : BitVec 1) : Statement (.ldacq k d a off w z lc) := by
  refine decodeBits_of_build ?_
  show build (asm 0#64 (off ++ w ++ z ++ lc ++ 0#1) 0#5 a d 0x082#10 k 1#2) = _
  generalize hw : asm 0#64 (off ++ w ++ z ++ lc ++ 0#1) 0#5 a d 0x082#10 k 1#2 = w
  have hb : build w = some (Instr.ldacq (ctlOf w) (w.extractLsb' 30 5) (w.extractLsb' 35 5) (w.extractLsb' 50 14) (w.extractLsb' 48 2) (w.extractLsb' 47 1) (w.extractLsb' 46 1)) := by
    unfold build
    rw [show w.extractLsb' 20 10 = 0x082#10 by rw [← hw, asm_op]]
    rfl
  rw [hb, ← hw]
  simp (disch := omega) only [asm, ctlOf, vmOf, VMod.bits, BitVec.extractLsb'_append_eq_of_le, BitVec.extractLsb'_append_eq_of_add_le,
      BitVec.extractLsb'_eq_self, Nat.reduceSub]

theorem strel (k : Ctl) (a b : BitVec 5) (off : BitVec 14) (w : BitVec 2) (lc : BitVec 1) : Statement (.strel k a b off w lc) := by
  refine decodeBits_of_build ?_
  show build (asm 0#64 (off ++ w ++ 0#1 ++ lc ++ 0#1) b a 0#5 0x083#10 k 1#2) = _
  generalize hw : asm 0#64 (off ++ w ++ 0#1 ++ lc ++ 0#1) b a 0#5 0x083#10 k 1#2 = w
  have hb : build w = some (Instr.strel (ctlOf w) (w.extractLsb' 35 5) (w.extractLsb' 40 5) (w.extractLsb' 50 14) (w.extractLsb' 48 2) (w.extractLsb' 46 1)) := by
    unfold build
    rw [show w.extractLsb' 20 10 = 0x083#10 by rw [← hw, asm_op]]
    rfl
  rw [hb, ← hw]
  simp (disch := omega) only [asm, ctlOf, vmOf, VMod.bits, BitVec.extractLsb'_append_eq_of_le, BitVec.extractLsb'_append_eq_of_add_le,
      BitVec.extractLsb'_eq_self, Nat.reduceSub]

theorem amo (k : Ctl) (d a b : BitVec 5) (off : BitVec 12) (w : BitVec 2) (op : BitVec 4) : Statement (.amo k d a b off w op) := by
  refine decodeBits_of_build ?_
  show build (asm 0#64 (off ++ w ++ op ++ 0#1) b a d 0x084#10 k 1#2) = _
  generalize hw : asm 0#64 (off ++ w ++ op ++ 0#1) b a d 0x084#10 k 1#2 = w
  have hb : build w = some (Instr.amo (ctlOf w) (w.extractLsb' 30 5) (w.extractLsb' 35 5) (w.extractLsb' 40 5) (w.extractLsb' 52 12) (w.extractLsb' 50 2) (w.extractLsb' 46 4)) := by
    unfold build
    rw [show w.extractLsb' 20 10 = 0x084#10 by rw [← hw, asm_op]]
    rfl
  rw [hb, ← hw]
  simp (disch := omega) only [asm, ctlOf, vmOf, VMod.bits, BitVec.extractLsb'_append_eq_of_le, BitVec.extractLsb'_append_eq_of_add_le,
      BitVec.extractLsb'_eq_self, Nat.reduceSub]

theorem cas (k : Ctl) (d a b c : BitVec 5) (w : BitVec 2) (off : BitVec 32) : Statement (.cas k d a b c w off) := by
  refine decodeBits_of_build ?_
  show build (asm (0#32 ++ off) (0#12 ++ w ++ c) b a d 0x085#10 k 2#2) = _
  generalize hw : asm (0#32 ++ off) (0#12 ++ w ++ c) b a d 0x085#10 k 2#2 = w
  have hb : build w = some (Instr.cas (ctlOf w) (w.extractLsb' 30 5) (w.extractLsb' 35 5) (w.extractLsb' 40 5) (w.extractLsb' 45 5) (w.extractLsb' 50 2) (w.extractLsb' 64 32)) := by
    unfold build
    rw [show w.extractLsb' 20 10 = 0x085#10 by rw [← hw, asm_op]]
    rfl
  rw [hb, ← hw]
  simp (disch := omega) only [asm, ctlOf, vmOf, VMod.bits, BitVec.extractLsb'_append_eq_of_le, BitVec.extractLsb'_append_eq_of_add_le,
      BitVec.extractLsb'_eq_self, Nat.reduceSub]
  simp only [Nat.reduceAdd, Nat.reduceSub, BitVec.extractLsb'_eq_self]

theorem red (k : Ctl) (a b : BitVec 5) (off : BitVec 12) (w : BitVec 2) (op : BitVec 4) : Statement (.red k a b off w op) := by
  refine decodeBits_of_build ?_
  show build (asm 0#64 (off ++ w ++ op ++ 0#1) b a 0#5 0x086#10 k 1#2) = _
  generalize hw : asm 0#64 (off ++ w ++ op ++ 0#1) b a 0#5 0x086#10 k 1#2 = w
  have hb : build w = some (Instr.red (ctlOf w) (w.extractLsb' 35 5) (w.extractLsb' 40 5) (w.extractLsb' 52 12) (w.extractLsb' 50 2) (w.extractLsb' 46 4)) := by
    unfold build
    rw [show w.extractLsb' 20 10 = 0x086#10 by rw [← hw, asm_op]]
    rfl
  rw [hb, ← hw]
  simp (disch := omega) only [asm, ctlOf, vmOf, VMod.bits, BitVec.extractLsb'_append_eq_of_le, BitVec.extractLsb'_append_eq_of_add_le,
      BitVec.extractLsb'_eq_self, Nat.reduceSub]

theorem redc (k : Ctl) (a b : BitVec 5) (off : BitVec 12) : Statement (.redc k a b off) := by
  refine decodeBits_of_build ?_
  show build (asm 0#64 (off ++ 2#2 ++ 0#4 ++ 0#1) b a 0#5 0x087#10 k 1#2) = _
  generalize hw : asm 0#64 (off ++ 2#2 ++ 0#4 ++ 0#1) b a 0#5 0x087#10 k 1#2 = w
  have hb : build w = some (Instr.redc (ctlOf w) (w.extractLsb' 35 5) (w.extractLsb' 40 5) (w.extractLsb' 52 12)) := by
    unfold build
    rw [show w.extractLsb' 20 10 = 0x087#10 by rw [← hw, asm_op]]
    rfl
  rw [hb, ← hw]
  simp (disch := omega) only [asm, ctlOf, vmOf, VMod.bits, BitVec.extractLsb'_append_eq_of_le, BitVec.extractLsb'_append_eq_of_add_le,
      BitVec.extractLsb'_eq_self, Nat.reduceSub]

theorem fence (k : Ctl) (scope : BitVec 3) : Statement (.fence k scope) := by
  refine decodeBits_of_build ?_
  show build (asm 0#64 (0#16 ++ scope) 0#5 0#5 0#5 0x088#10 k 1#2) = _
  generalize hw : asm 0#64 (0#16 ++ scope) 0#5 0#5 0#5 0x088#10 k 1#2 = w
  have hb : build w = some (Instr.fence (ctlOf w) (w.extractLsb' 45 3)) := by
    unfold build
    rw [show w.extractLsb' 20 10 = 0x088#10 by rw [← hw, asm_op]]
    rfl
  rw [hb, ← hw]
  simp (disch := omega) only [asm, ctlOf, vmOf, VMod.bits, BitVec.extractLsb'_append_eq_of_le, BitVec.extractLsb'_append_eq_of_add_le,
      BitVec.extractLsb'_eq_self, Nat.reduceSub]

theorem pref (k : Ctl) (a : BitVec 5) (off : BitVec 14) : Statement (.pref k a off) := by
  refine decodeBits_of_build ?_
  show build (asm 0#64 (off ++ 0#5) 0#5 a 0#5 0x089#10 k 1#2) = _
  generalize hw : asm 0#64 (off ++ 0#5) 0#5 a 0#5 0x089#10 k 1#2 = w
  have hb : build w = some (Instr.pref (ctlOf w) (w.extractLsb' 35 5) (w.extractLsb' 50 14)) := by
    unfold build
    rw [show w.extractLsb' 20 10 = 0x089#10 by rw [← hw, asm_op]]
    rfl
  rw [hb, ← hw]
  simp (disch := omega) only [asm, ctlOf, vmOf, VMod.bits, BitVec.extractLsb'_append_eq_of_le, BitVec.extractLsb'_append_eq_of_add_le,
      BitVec.extractLsb'_eq_self, Nat.reduceSub]

theorem rinv (k : Ctl) (a b : BitVec 5) : Statement (.rinv k a b) := by
  refine decodeBits_of_build ?_
  show build (asm 0#64 0#19 b a 0#5 0x08A#10 k 1#2) = _
  generalize hw : asm 0#64 0#19 b a 0#5 0x08A#10 k 1#2 = w
  have hb : build w = some (Instr.rinv (ctlOf w) (w.extractLsb' 35 5) (w.extractLsb' 40 5)) := by
    unfold build
    rw [show w.extractLsb' 20 10 = 0x08A#10 by rw [← hw, asm_op]]
    rfl
  rw [hb, ← hw]
  simp (disch := omega) only [asm, ctlOf, vmOf, VMod.bits, BitVec.extractLsb'_append_eq_of_le, BitVec.extractLsb'_append_eq_of_add_le,
      BitVec.extractLsb'_eq_self, Nat.reduceSub]

theorem rwb (k : Ctl) (a b : BitVec 5) : Statement (.rwb k a b) := by
  refine decodeBits_of_build ?_
  show build (asm 0#64 0#19 b a 0#5 0x08B#10 k 1#2) = _
  generalize hw : asm 0#64 0#19 b a 0#5 0x08B#10 k 1#2 = w
  have hb : build w = some (Instr.rwb (ctlOf w) (w.extractLsb' 35 5) (w.extractLsb' 40 5)) := by
    unfold build
    rw [show w.extractLsb' 20 10 = 0x08B#10 by rw [← hw, asm_op]]
    rfl
  rw [hb, ← hw]
  simp (disch := omega) only [asm, ctlOf, vmOf, VMod.bits, BitVec.extractLsb'_append_eq_of_le, BitVec.extractLsb'_append_eq_of_add_le,
      BitVec.extractLsb'_eq_self, Nat.reduceSub]

theorem rflush (k : Ctl) (a b : BitVec 5) : Statement (.rflush k a b) := by
  refine decodeBits_of_build ?_
  show build (asm 0#64 0#19 b a 0#5 0x08C#10 k 1#2) = _
  generalize hw : asm 0#64 0#19 b a 0#5 0x08C#10 k 1#2 = w
  have hb : build w = some (Instr.rflush (ctlOf w) (w.extractLsb' 35 5) (w.extractLsb' 40 5)) := by
    unfold build
    rw [show w.extractLsb' 20 10 = 0x08C#10 by rw [← hw, asm_op]]
    rfl
  rw [hb, ← hw]
  simp (disch := omega) only [asm, ctlOf, vmOf, VMod.bits, BitVec.extractLsb'_append_eq_of_le, BitVec.extractLsb'_append_eq_of_add_le,
      BitVec.extractLsb'_eq_self, Nat.reduceSub]

theorem publish (k : Ctl) (d a : BitVec 5) : Statement (.publish k d a) := by
  refine decodeBits_of_build ?_
  show build (asm 0#64 0#19 0#5 a d 0x08D#10 k 1#2) = _
  generalize hw : asm 0#64 0#19 0#5 a d 0x08D#10 k 1#2 = w
  have hb : build w = some (Instr.publish (ctlOf w) (w.extractLsb' 30 5) (w.extractLsb' 35 5)) := by
    unfold build
    rw [show w.extractLsb' 20 10 = 0x08D#10 by rw [← hw, asm_op]]
    rfl
  rw [hb, ← hw]
  simp (disch := omega) only [asm, ctlOf, vmOf, VMod.bits, BitVec.extractLsb'_append_eq_of_le, BitVec.extractLsb'_append_eq_of_add_le,
      BitVec.extractLsb'_eq_self, Nat.reduceSub]

theorem vadd (k : Ctl) (d a b : BitVec 5) (vm : VMod) : Statement (.vadd k d a b vm) := by
  refine decodeBits_of_build ?_
  show build (asm 0#64 (vm.bits ++ 0#6) b a d 0x0C0#10 k 1#2) = _
  generalize hw : asm 0#64 (vm.bits ++ 0#6) b a d 0x0C0#10 k 1#2 = w
  have hb : build w = some (Instr.vadd (ctlOf w) (w.extractLsb' 30 5) (w.extractLsb' 35 5) (w.extractLsb' 40 5) (vmOf w)) := by
    unfold build
    rw [show w.extractLsb' 20 10 = 0x0C0#10 by rw [← hw, asm_op]]
    rfl
  rw [hb, ← hw]
  simp (disch := omega) only [asm, ctlOf, vmOf, VMod.bits, BitVec.extractLsb'_append_eq_of_le, BitVec.extractLsb'_append_eq_of_add_le,
      BitVec.extractLsb'_eq_self, Nat.reduceSub]

theorem vsub (k : Ctl) (d a b : BitVec 5) (vm : VMod) : Statement (.vsub k d a b vm) := by
  refine decodeBits_of_build ?_
  show build (asm 0#64 (vm.bits ++ 0#6) b a d 0x0C1#10 k 1#2) = _
  generalize hw : asm 0#64 (vm.bits ++ 0#6) b a d 0x0C1#10 k 1#2 = w
  have hb : build w = some (Instr.vsub (ctlOf w) (w.extractLsb' 30 5) (w.extractLsb' 35 5) (w.extractLsb' 40 5) (vmOf w)) := by
    unfold build
    rw [show w.extractLsb' 20 10 = 0x0C1#10 by rw [← hw, asm_op]]
    rfl
  rw [hb, ← hw]
  simp (disch := omega) only [asm, ctlOf, vmOf, VMod.bits, BitVec.extractLsb'_append_eq_of_le, BitVec.extractLsb'_append_eq_of_add_le,
      BitVec.extractLsb'_eq_self, Nat.reduceSub]

theorem vmul (k : Ctl) (d a b : BitVec 5) (vm : VMod) : Statement (.vmul k d a b vm) := by
  refine decodeBits_of_build ?_
  show build (asm 0#64 (vm.bits ++ 0#6) b a d 0x0C2#10 k 1#2) = _
  generalize hw : asm 0#64 (vm.bits ++ 0#6) b a d 0x0C2#10 k 1#2 = w
  have hb : build w = some (Instr.vmul (ctlOf w) (w.extractLsb' 30 5) (w.extractLsb' 35 5) (w.extractLsb' 40 5) (vmOf w)) := by
    unfold build
    rw [show w.extractLsb' 20 10 = 0x0C2#10 by rw [← hw, asm_op]]
    rfl
  rw [hb, ← hw]
  simp (disch := omega) only [asm, ctlOf, vmOf, VMod.bits, BitVec.extractLsb'_append_eq_of_le, BitVec.extractLsb'_append_eq_of_add_le,
      BitVec.extractLsb'_eq_self, Nat.reduceSub]

theorem vmulh (k : Ctl) (d a b : BitVec 5) (vm : VMod) : Statement (.vmulh k d a b vm) := by
  refine decodeBits_of_build ?_
  show build (asm 0#64 (vm.bits ++ 0#6) b a d 0x0C3#10 k 1#2) = _
  generalize hw : asm 0#64 (vm.bits ++ 0#6) b a d 0x0C3#10 k 1#2 = w
  have hb : build w = some (Instr.vmulh (ctlOf w) (w.extractLsb' 30 5) (w.extractLsb' 35 5) (w.extractLsb' 40 5) (vmOf w)) := by
    unfold build
    rw [show w.extractLsb' 20 10 = 0x0C3#10 by rw [← hw, asm_op]]
    rfl
  rw [hb, ← hw]
  simp (disch := omega) only [asm, ctlOf, vmOf, VMod.bits, BitVec.extractLsb'_append_eq_of_le, BitVec.extractLsb'_append_eq_of_add_le,
      BitVec.extractLsb'_eq_self, Nat.reduceSub]

theorem vand (k : Ctl) (d a b : BitVec 5) (vm : VMod) : Statement (.vand k d a b vm) := by
  refine decodeBits_of_build ?_
  show build (asm 0#64 (vm.bits ++ 0#6) b a d 0x0C4#10 k 1#2) = _
  generalize hw : asm 0#64 (vm.bits ++ 0#6) b a d 0x0C4#10 k 1#2 = w
  have hb : build w = some (Instr.vand (ctlOf w) (w.extractLsb' 30 5) (w.extractLsb' 35 5) (w.extractLsb' 40 5) (vmOf w)) := by
    unfold build
    rw [show w.extractLsb' 20 10 = 0x0C4#10 by rw [← hw, asm_op]]
    rfl
  rw [hb, ← hw]
  simp (disch := omega) only [asm, ctlOf, vmOf, VMod.bits, BitVec.extractLsb'_append_eq_of_le, BitVec.extractLsb'_append_eq_of_add_le,
      BitVec.extractLsb'_eq_self, Nat.reduceSub]

theorem vor (k : Ctl) (d a b : BitVec 5) (vm : VMod) : Statement (.vor k d a b vm) := by
  refine decodeBits_of_build ?_
  show build (asm 0#64 (vm.bits ++ 0#6) b a d 0x0C5#10 k 1#2) = _
  generalize hw : asm 0#64 (vm.bits ++ 0#6) b a d 0x0C5#10 k 1#2 = w
  have hb : build w = some (Instr.vor (ctlOf w) (w.extractLsb' 30 5) (w.extractLsb' 35 5) (w.extractLsb' 40 5) (vmOf w)) := by
    unfold build
    rw [show w.extractLsb' 20 10 = 0x0C5#10 by rw [← hw, asm_op]]
    rfl
  rw [hb, ← hw]
  simp (disch := omega) only [asm, ctlOf, vmOf, VMod.bits, BitVec.extractLsb'_append_eq_of_le, BitVec.extractLsb'_append_eq_of_add_le,
      BitVec.extractLsb'_eq_self, Nat.reduceSub]

theorem vxor (k : Ctl) (d a b : BitVec 5) (vm : VMod) : Statement (.vxor k d a b vm) := by
  refine decodeBits_of_build ?_
  show build (asm 0#64 (vm.bits ++ 0#6) b a d 0x0C6#10 k 1#2) = _
  generalize hw : asm 0#64 (vm.bits ++ 0#6) b a d 0x0C6#10 k 1#2 = w
  have hb : build w = some (Instr.vxor (ctlOf w) (w.extractLsb' 30 5) (w.extractLsb' 35 5) (w.extractLsb' 40 5) (vmOf w)) := by
    unfold build
    rw [show w.extractLsb' 20 10 = 0x0C6#10 by rw [← hw, asm_op]]
    rfl
  rw [hb, ← hw]
  simp (disch := omega) only [asm, ctlOf, vmOf, VMod.bits, BitVec.extractLsb'_append_eq_of_le, BitVec.extractLsb'_append_eq_of_add_le,
      BitVec.extractLsb'_eq_self, Nat.reduceSub]

theorem vnot (k : Ctl) (d a : BitVec 5) (vm : VMod) : Statement (.vnot k d a vm) := by
  refine decodeBits_of_build ?_
  show build (asm 0#64 (vm.bits ++ 0#6) 0#5 a d 0x0C7#10 k 1#2) = _
  generalize hw : asm 0#64 (vm.bits ++ 0#6) 0#5 a d 0x0C7#10 k 1#2 = w
  have hb : build w = some (Instr.vnot (ctlOf w) (w.extractLsb' 30 5) (w.extractLsb' 35 5) (vmOf w)) := by
    unfold build
    rw [show w.extractLsb' 20 10 = 0x0C7#10 by rw [← hw, asm_op]]
    rfl
  rw [hb, ← hw]
  simp (disch := omega) only [asm, ctlOf, vmOf, VMod.bits, BitVec.extractLsb'_append_eq_of_le, BitVec.extractLsb'_append_eq_of_add_le,
      BitVec.extractLsb'_eq_self, Nat.reduceSub]

theorem vshl (k : Ctl) (d a b : BitVec 5) (vm : VMod) : Statement (.vshl k d a b vm) := by
  refine decodeBits_of_build ?_
  show build (asm 0#64 (vm.bits ++ 0#6) b a d 0x0C8#10 k 1#2) = _
  generalize hw : asm 0#64 (vm.bits ++ 0#6) b a d 0x0C8#10 k 1#2 = w
  have hb : build w = some (Instr.vshl (ctlOf w) (w.extractLsb' 30 5) (w.extractLsb' 35 5) (w.extractLsb' 40 5) (vmOf w)) := by
    unfold build
    rw [show w.extractLsb' 20 10 = 0x0C8#10 by rw [← hw, asm_op]]
    rfl
  rw [hb, ← hw]
  simp (disch := omega) only [asm, ctlOf, vmOf, VMod.bits, BitVec.extractLsb'_append_eq_of_le, BitVec.extractLsb'_append_eq_of_add_le,
      BitVec.extractLsb'_eq_self, Nat.reduceSub]

theorem vshr (k : Ctl) (d a b : BitVec 5) (vm : VMod) : Statement (.vshr k d a b vm) := by
  refine decodeBits_of_build ?_
  show build (asm 0#64 (vm.bits ++ 0#6) b a d 0x0C9#10 k 1#2) = _
  generalize hw : asm 0#64 (vm.bits ++ 0#6) b a d 0x0C9#10 k 1#2 = w
  have hb : build w = some (Instr.vshr (ctlOf w) (w.extractLsb' 30 5) (w.extractLsb' 35 5) (w.extractLsb' 40 5) (vmOf w)) := by
    unfold build
    rw [show w.extractLsb' 20 10 = 0x0C9#10 by rw [← hw, asm_op]]
    rfl
  rw [hb, ← hw]
  simp (disch := omega) only [asm, ctlOf, vmOf, VMod.bits, BitVec.extractLsb'_append_eq_of_le, BitVec.extractLsb'_append_eq_of_add_le,
      BitVec.extractLsb'_eq_self, Nat.reduceSub]

theorem vsar (k : Ctl) (d a b : BitVec 5) (vm : VMod) : Statement (.vsar k d a b vm) := by
  refine decodeBits_of_build ?_
  show build (asm 0#64 (vm.bits ++ 0#6) b a d 0x0CA#10 k 1#2) = _
  generalize hw : asm 0#64 (vm.bits ++ 0#6) b a d 0x0CA#10 k 1#2 = w
  have hb : build w = some (Instr.vsar (ctlOf w) (w.extractLsb' 30 5) (w.extractLsb' 35 5) (w.extractLsb' 40 5) (vmOf w)) := by
    unfold build
    rw [show w.extractLsb' 20 10 = 0x0CA#10 by rw [← hw, asm_op]]
    rfl
  rw [hb, ← hw]
  simp (disch := omega) only [asm, ctlOf, vmOf, VMod.bits, BitVec.extractLsb'_append_eq_of_le, BitVec.extractLsb'_append_eq_of_add_le,
      BitVec.extractLsb'_eq_self, Nat.reduceSub]

theorem vmin (k : Ctl) (d a b : BitVec 5) (vm : VMod) : Statement (.vmin k d a b vm) := by
  refine decodeBits_of_build ?_
  show build (asm 0#64 (vm.bits ++ 0#6) b a d 0x0CB#10 k 1#2) = _
  generalize hw : asm 0#64 (vm.bits ++ 0#6) b a d 0x0CB#10 k 1#2 = w
  have hb : build w = some (Instr.vmin (ctlOf w) (w.extractLsb' 30 5) (w.extractLsb' 35 5) (w.extractLsb' 40 5) (vmOf w)) := by
    unfold build
    rw [show w.extractLsb' 20 10 = 0x0CB#10 by rw [← hw, asm_op]]
    rfl
  rw [hb, ← hw]
  simp (disch := omega) only [asm, ctlOf, vmOf, VMod.bits, BitVec.extractLsb'_append_eq_of_le, BitVec.extractLsb'_append_eq_of_add_le,
      BitVec.extractLsb'_eq_self, Nat.reduceSub]

theorem vmax (k : Ctl) (d a b : BitVec 5) (vm : VMod) : Statement (.vmax k d a b vm) := by
  refine decodeBits_of_build ?_
  show build (asm 0#64 (vm.bits ++ 0#6) b a d 0x0CC#10 k 1#2) = _
  generalize hw : asm 0#64 (vm.bits ++ 0#6) b a d 0x0CC#10 k 1#2 = w
  have hb : build w = some (Instr.vmax (ctlOf w) (w.extractLsb' 30 5) (w.extractLsb' 35 5) (w.extractLsb' 40 5) (vmOf w)) := by
    unfold build
    rw [show w.extractLsb' 20 10 = 0x0CC#10 by rw [← hw, asm_op]]
    rfl
  rw [hb, ← hw]
  simp (disch := omega) only [asm, ctlOf, vmOf, VMod.bits, BitVec.extractLsb'_append_eq_of_le, BitVec.extractLsb'_append_eq_of_add_le,
      BitVec.extractLsb'_eq_self, Nat.reduceSub]

theorem vminu (k : Ctl) (d a b : BitVec 5) (vm : VMod) : Statement (.vminu k d a b vm) := by
  refine decodeBits_of_build ?_
  show build (asm 0#64 (vm.bits ++ 0#6) b a d 0x0CD#10 k 1#2) = _
  generalize hw : asm 0#64 (vm.bits ++ 0#6) b a d 0x0CD#10 k 1#2 = w
  have hb : build w = some (Instr.vminu (ctlOf w) (w.extractLsb' 30 5) (w.extractLsb' 35 5) (w.extractLsb' 40 5) (vmOf w)) := by
    unfold build
    rw [show w.extractLsb' 20 10 = 0x0CD#10 by rw [← hw, asm_op]]
    rfl
  rw [hb, ← hw]
  simp (disch := omega) only [asm, ctlOf, vmOf, VMod.bits, BitVec.extractLsb'_append_eq_of_le, BitVec.extractLsb'_append_eq_of_add_le,
      BitVec.extractLsb'_eq_self, Nat.reduceSub]

theorem vmaxu (k : Ctl) (d a b : BitVec 5) (vm : VMod) : Statement (.vmaxu k d a b vm) := by
  refine decodeBits_of_build ?_
  show build (asm 0#64 (vm.bits ++ 0#6) b a d 0x0CE#10 k 1#2) = _
  generalize hw : asm 0#64 (vm.bits ++ 0#6) b a d 0x0CE#10 k 1#2 = w
  have hb : build w = some (Instr.vmaxu (ctlOf w) (w.extractLsb' 30 5) (w.extractLsb' 35 5) (w.extractLsb' 40 5) (vmOf w)) := by
    unfold build
    rw [show w.extractLsb' 20 10 = 0x0CE#10 by rw [← hw, asm_op]]
    rfl
  rw [hb, ← hw]
  simp (disch := omega) only [asm, ctlOf, vmOf, VMod.bits, BitVec.extractLsb'_append_eq_of_le, BitVec.extractLsb'_append_eq_of_add_le,
      BitVec.extractLsb'_eq_self, Nat.reduceSub]

theorem vcmp (k : Ctl) (d a b : BitVec 5) (vm : VMod) (cond : BitVec 3) : Statement (.vcmp k d a b vm cond) := by
  refine decodeBits_of_build ?_
  show build (asm 0#64 (vm.bits ++ 0#3 ++ cond) b a d 0x0CF#10 k 1#2) = _
  generalize hw : asm 0#64 (vm.bits ++ 0#3 ++ cond) b a d 0x0CF#10 k 1#2 = w
  have hb : build w = some (Instr.vcmp (ctlOf w) (w.extractLsb' 30 5) (w.extractLsb' 35 5) (w.extractLsb' 40 5) (vmOf w) (w.extractLsb' 45 3)) := by
    unfold build
    rw [show w.extractLsb' 20 10 = 0x0CF#10 by rw [← hw, asm_op]]
    rfl
  rw [hb, ← hw]
  simp (disch := omega) only [asm, ctlOf, vmOf, VMod.bits, BitVec.extractLsb'_append_eq_of_le, BitVec.extractLsb'_append_eq_of_add_le,
      BitVec.extractLsb'_eq_self, Nat.reduceSub]

theorem vsel (k : Ctl) (d a b : BitVec 5) (vm : VMod) (svec : BitVec 5) : Statement (.vsel k d a b vm svec) := by
  refine decodeBits_of_build ?_
  show build (asm 0#64 (vm.bits ++ 0#1 ++ svec) b a d 0x0D0#10 k 1#2) = _
  generalize hw : asm 0#64 (vm.bits ++ 0#1 ++ svec) b a d 0x0D0#10 k 1#2 = w
  have hb : build w = some (Instr.vsel (ctlOf w) (w.extractLsb' 30 5) (w.extractLsb' 35 5) (w.extractLsb' 40 5) (vmOf w) (w.extractLsb' 45 5)) := by
    unfold build
    rw [show w.extractLsb' 20 10 = 0x0D0#10 by rw [← hw, asm_op]]
    rfl
  rw [hb, ← hw]
  simp (disch := omega) only [asm, ctlOf, vmOf, VMod.bits, BitVec.extractLsb'_append_eq_of_le, BitVec.extractLsb'_append_eq_of_add_le,
      BitVec.extractLsb'_eq_self, Nat.reduceSub]

theorem viota (k : Ctl) (d a : BitVec 5) (vm : VMod) : Statement (.viota k d a vm) := by
  refine decodeBits_of_build ?_
  show build (asm 0#64 (vm.bits ++ 0#6) 0#5 a d 0x0D1#10 k 1#2) = _
  generalize hw : asm 0#64 (vm.bits ++ 0#6) 0#5 a d 0x0D1#10 k 1#2 = w
  have hb : build w = some (Instr.viota (ctlOf w) (w.extractLsb' 30 5) (w.extractLsb' 35 5) (vmOf w)) := by
    unfold build
    rw [show w.extractLsb' 20 10 = 0x0D1#10 by rw [← hw, asm_op]]
    rfl
  rw [hb, ← hw]
  simp (disch := omega) only [asm, ctlOf, vmOf, VMod.bits, BitVec.extractLsb'_append_eq_of_le, BitVec.extractLsb'_append_eq_of_add_le,
      BitVec.extractLsb'_eq_self, Nat.reduceSub]

theorem vpopm (k : Ctl) (d a : BitVec 5) (vm : VMod) : Statement (.vpopm k d a vm) := by
  refine decodeBits_of_build ?_
  show build (asm 0#64 (vm.bits ++ 0#6) 0#5 a d 0x0D2#10 k 1#2) = _
  generalize hw : asm 0#64 (vm.bits ++ 0#6) 0#5 a d 0x0D2#10 k 1#2 = w
  have hb : build w = some (Instr.vpopm (ctlOf w) (w.extractLsb' 30 5) (w.extractLsb' 35 5) (vmOf w)) := by
    unfold build
    rw [show w.extractLsb' 20 10 = 0x0D2#10 by rw [← hw, asm_op]]
    rfl
  rw [hb, ← hw]
  simp (disch := omega) only [asm, ctlOf, vmOf, VMod.bits, BitVec.extractLsb'_append_eq_of_le, BitVec.extractLsb'_append_eq_of_add_le,
      BitVec.extractLsb'_eq_self, Nat.reduceSub]

theorem vfirst (k : Ctl) (d a : BitVec 5) (vm : VMod) : Statement (.vfirst k d a vm) := by
  refine decodeBits_of_build ?_
  show build (asm 0#64 (vm.bits ++ 0#6) 0#5 a d 0x0D3#10 k 1#2) = _
  generalize hw : asm 0#64 (vm.bits ++ 0#6) 0#5 a d 0x0D3#10 k 1#2 = w
  have hb : build w = some (Instr.vfirst (ctlOf w) (w.extractLsb' 30 5) (w.extractLsb' 35 5) (vmOf w)) := by
    unfold build
    rw [show w.extractLsb' 20 10 = 0x0D3#10 by rw [← hw, asm_op]]
    rfl
  rw [hb, ← hw]
  simp (disch := omega) only [asm, ctlOf, vmOf, VMod.bits, BitVec.extractLsb'_append_eq_of_le, BitVec.extractLsb'_append_eq_of_add_le,
      BitVec.extractLsb'_eq_self, Nat.reduceSub]

theorem vmv (k : Ctl) (d a : BitVec 5) (vm : VMod) : Statement (.vmv k d a vm) := by
  refine decodeBits_of_build ?_
  show build (asm 0#64 (vm.bits ++ 0#6) 0#5 a d 0x0D4#10 k 1#2) = _
  generalize hw : asm 0#64 (vm.bits ++ 0#6) 0#5 a d 0x0D4#10 k 1#2 = w
  have hb : build w = some (Instr.vmv (ctlOf w) (w.extractLsb' 30 5) (w.extractLsb' 35 5) (vmOf w)) := by
    unfold build
    rw [show w.extractLsb' 20 10 = 0x0D4#10 by rw [← hw, asm_op]]
    rfl
  rw [hb, ← hw]
  simp (disch := omega) only [asm, ctlOf, vmOf, VMod.bits, BitVec.extractLsb'_append_eq_of_le, BitVec.extractLsb'_append_eq_of_add_le,
      BitVec.extractLsb'_eq_self, Nat.reduceSub]

theorem vbcast (k : Ctl) (d a : BitVec 5) (vm : VMod) : Statement (.vbcast k d a vm) := by
  refine decodeBits_of_build ?_
  show build (asm 0#64 (vm.bits ++ 0#6) 0#5 a d 0x0D5#10 k 1#2) = _
  generalize hw : asm 0#64 (vm.bits ++ 0#6) 0#5 a d 0x0D5#10 k 1#2 = w
  have hb : build w = some (Instr.vbcast (ctlOf w) (w.extractLsb' 30 5) (w.extractLsb' 35 5) (vmOf w)) := by
    unfold build
    rw [show w.extractLsb' 20 10 = 0x0D5#10 by rw [← hw, asm_op]]
    rfl
  rw [hb, ← hw]
  simp (disch := omega) only [asm, ctlOf, vmOf, VMod.bits, BitVec.extractLsb'_append_eq_of_le, BitVec.extractLsb'_append_eq_of_add_le,
      BitVec.extractLsb'_eq_self, Nat.reduceSub]

theorem vext (k : Ctl) (d a : BitVec 5) (vm : VMod) (n : BitVec 4) : Statement (.vext k d a vm n) := by
  refine decodeBits_of_build ?_
  show build (asm 0#64 (vm.bits ++ 0#2 ++ n) 0#5 a d 0x0D6#10 k 1#2) = _
  generalize hw : asm 0#64 (vm.bits ++ 0#2 ++ n) 0#5 a d 0x0D6#10 k 1#2 = w
  have hb : build w = some (Instr.vext (ctlOf w) (w.extractLsb' 30 5) (w.extractLsb' 35 5) (vmOf w) (w.extractLsb' 45 4)) := by
    unfold build
    rw [show w.extractLsb' 20 10 = 0x0D6#10 by rw [← hw, asm_op]]
    rfl
  rw [hb, ← hw]
  simp (disch := omega) only [asm, ctlOf, vmOf, VMod.bits, BitVec.extractLsb'_append_eq_of_le, BitVec.extractLsb'_append_eq_of_add_le,
      BitVec.extractLsb'_eq_self, Nat.reduceSub]

theorem vins (k : Ctl) (d a : BitVec 5) (vm : VMod) (n : BitVec 4) : Statement (.vins k d a vm n) := by
  refine decodeBits_of_build ?_
  show build (asm 0#64 (vm.bits ++ 0#2 ++ n) 0#5 a d 0x0D7#10 k 1#2) = _
  generalize hw : asm 0#64 (vm.bits ++ 0#2 ++ n) 0#5 a d 0x0D7#10 k 1#2 = w
  have hb : build w = some (Instr.vins (ctlOf w) (w.extractLsb' 30 5) (w.extractLsb' 35 5) (vmOf w) (w.extractLsb' 45 4)) := by
    unfold build
    rw [show w.extractLsb' 20 10 = 0x0D7#10 by rw [← hw, asm_op]]
    rfl
  rw [hb, ← hw]
  simp (disch := omega) only [asm, ctlOf, vmOf, VMod.bits, BitVec.extractLsb'_append_eq_of_le, BitVec.extractLsb'_append_eq_of_add_le,
      BitVec.extractLsb'_eq_self, Nat.reduceSub]

theorem vclz (k : Ctl) (d a : BitVec 5) (vm : VMod) : Statement (.vclz k d a vm) := by
  refine decodeBits_of_build ?_
  show build (asm 0#64 (vm.bits ++ 0#6) 0#5 a d 0x0D8#10 k 1#2) = _
  generalize hw : asm 0#64 (vm.bits ++ 0#6) 0#5 a d 0x0D8#10 k 1#2 = w
  have hb : build w = some (Instr.vclz (ctlOf w) (w.extractLsb' 30 5) (w.extractLsb' 35 5) (vmOf w)) := by
    unfold build
    rw [show w.extractLsb' 20 10 = 0x0D8#10 by rw [← hw, asm_op]]
    rfl
  rw [hb, ← hw]
  simp (disch := omega) only [asm, ctlOf, vmOf, VMod.bits, BitVec.extractLsb'_append_eq_of_le, BitVec.extractLsb'_append_eq_of_add_le,
      BitVec.extractLsb'_eq_self, Nat.reduceSub]

theorem vpopc (k : Ctl) (d a : BitVec 5) (vm : VMod) : Statement (.vpopc k d a vm) := by
  refine decodeBits_of_build ?_
  show build (asm 0#64 (vm.bits ++ 0#6) 0#5 a d 0x0D9#10 k 1#2) = _
  generalize hw : asm 0#64 (vm.bits ++ 0#6) 0#5 a d 0x0D9#10 k 1#2 = w
  have hb : build w = some (Instr.vpopc (ctlOf w) (w.extractLsb' 30 5) (w.extractLsb' 35 5) (vmOf w)) := by
    unfold build
    rw [show w.extractLsb' 20 10 = 0x0D9#10 by rw [← hw, asm_op]]
    rfl
  rw [hb, ← hw]
  simp (disch := omega) only [asm, ctlOf, vmOf, VMod.bits, BitVec.extractLsb'_append_eq_of_le, BitVec.extractLsb'_append_eq_of_add_le,
      BitVec.extractLsb'_eq_self, Nat.reduceSub]

theorem vmatch (k : Ctl) (d a b : BitVec 5) (vm : VMod) (side : BitVec 1) : Statement (.vmatch k d a b vm side) := by
  refine decodeBits_of_build ?_
  show build (asm 0#64 (vm.bits ++ 0#5 ++ side) b a d 0x0DA#10 k 1#2) = _
  generalize hw : asm 0#64 (vm.bits ++ 0#5 ++ side) b a d 0x0DA#10 k 1#2 = w
  have hb : build w = some (Instr.vmatch (ctlOf w) (w.extractLsb' 30 5) (w.extractLsb' 35 5) (w.extractLsb' 40 5) (vmOf w) (w.extractLsb' 45 1)) := by
    unfold build
    rw [show w.extractLsb' 20 10 = 0x0DA#10 by rw [← hw, asm_op]]
    rfl
  rw [hb, ← hw]
  simp (disch := omega) only [asm, ctlOf, vmOf, VMod.bits, BitVec.extractLsb'_append_eq_of_le, BitVec.extractLsb'_append_eq_of_add_le,
      BitVec.extractLsb'_eq_self, Nat.reduceSub]

theorem vred (k : Ctl) (d a : BitVec 5) (vm : VMod) (op : BitVec 3) : Statement (.vred k d a vm op) := by
  refine decodeBits_of_build ?_
  show build (asm 0#64 (vm.bits ++ 0#3 ++ op) 0#5 a d 0x0DB#10 k 1#2) = _
  generalize hw : asm 0#64 (vm.bits ++ 0#3 ++ op) 0#5 a d 0x0DB#10 k 1#2 = w
  have hb : build w = some (Instr.vred (ctlOf w) (w.extractLsb' 30 5) (w.extractLsb' 35 5) (vmOf w) (w.extractLsb' 45 3)) := by
    unfold build
    rw [show w.extractLsb' 20 10 = 0x0DB#10 by rw [← hw, asm_op]]
    rfl
  rw [hb, ← hw]
  simp (disch := omega) only [asm, ctlOf, vmOf, VMod.bits, BitVec.extractLsb'_append_eq_of_le, BitVec.extractLsb'_append_eq_of_add_le,
      BitVec.extractLsb'_eq_self, Nat.reduceSub]

theorem vfadd (k : Ctl) (d a b : BitVec 5) (vm : VMod) : Statement (.vfadd k d a b vm) := by
  refine decodeBits_of_build ?_
  show build (asm 0#64 (vm.bits ++ 0#6) b a d 0x100#10 k 1#2) = _
  generalize hw : asm 0#64 (vm.bits ++ 0#6) b a d 0x100#10 k 1#2 = w
  have hb : build w = some (Instr.vfadd (ctlOf w) (w.extractLsb' 30 5) (w.extractLsb' 35 5) (w.extractLsb' 40 5) (vmOf w)) := by
    unfold build
    rw [show w.extractLsb' 20 10 = 0x100#10 by rw [← hw, asm_op]]
    rfl
  rw [hb, ← hw]
  simp (disch := omega) only [asm, ctlOf, vmOf, VMod.bits, BitVec.extractLsb'_append_eq_of_le, BitVec.extractLsb'_append_eq_of_add_le,
      BitVec.extractLsb'_eq_self, Nat.reduceSub]

theorem vfsub (k : Ctl) (d a b : BitVec 5) (vm : VMod) : Statement (.vfsub k d a b vm) := by
  refine decodeBits_of_build ?_
  show build (asm 0#64 (vm.bits ++ 0#6) b a d 0x101#10 k 1#2) = _
  generalize hw : asm 0#64 (vm.bits ++ 0#6) b a d 0x101#10 k 1#2 = w
  have hb : build w = some (Instr.vfsub (ctlOf w) (w.extractLsb' 30 5) (w.extractLsb' 35 5) (w.extractLsb' 40 5) (vmOf w)) := by
    unfold build
    rw [show w.extractLsb' 20 10 = 0x101#10 by rw [← hw, asm_op]]
    rfl
  rw [hb, ← hw]
  simp (disch := omega) only [asm, ctlOf, vmOf, VMod.bits, BitVec.extractLsb'_append_eq_of_le, BitVec.extractLsb'_append_eq_of_add_le,
      BitVec.extractLsb'_eq_self, Nat.reduceSub]

theorem vfmul (k : Ctl) (d a b : BitVec 5) (vm : VMod) : Statement (.vfmul k d a b vm) := by
  refine decodeBits_of_build ?_
  show build (asm 0#64 (vm.bits ++ 0#6) b a d 0x102#10 k 1#2) = _
  generalize hw : asm 0#64 (vm.bits ++ 0#6) b a d 0x102#10 k 1#2 = w
  have hb : build w = some (Instr.vfmul (ctlOf w) (w.extractLsb' 30 5) (w.extractLsb' 35 5) (w.extractLsb' 40 5) (vmOf w)) := by
    unfold build
    rw [show w.extractLsb' 20 10 = 0x102#10 by rw [← hw, asm_op]]
    rfl
  rw [hb, ← hw]
  simp (disch := omega) only [asm, ctlOf, vmOf, VMod.bits, BitVec.extractLsb'_append_eq_of_le, BitVec.extractLsb'_append_eq_of_add_le,
      BitVec.extractLsb'_eq_self, Nat.reduceSub]

theorem vfma (k : Ctl) (d a b c : BitVec 5) (vm : VMod) : Statement (.vfma k d a b c vm) := by
  refine decodeBits_of_build ?_
  show build (asm (0#32 ++ 0#32) (vm.bits ++ 0#1 ++ c) b a d 0x103#10 k 2#2) = _
  generalize hw : asm (0#32 ++ 0#32) (vm.bits ++ 0#1 ++ c) b a d 0x103#10 k 2#2 = w
  have hb : build w = some (Instr.vfma (ctlOf w) (w.extractLsb' 30 5) (w.extractLsb' 35 5) (w.extractLsb' 40 5) (w.extractLsb' 45 5) (vmOf w)) := by
    unfold build
    rw [show w.extractLsb' 20 10 = 0x103#10 by rw [← hw, asm_op]]
    rfl
  rw [hb, ← hw]
  simp (disch := omega) only [asm, ctlOf, vmOf, VMod.bits, BitVec.extractLsb'_append_eq_of_le, BitVec.extractLsb'_append_eq_of_add_le,
      BitVec.extractLsb'_eq_self, Nat.reduceSub]

theorem vfms (k : Ctl) (d a b c : BitVec 5) (vm : VMod) : Statement (.vfms k d a b c vm) := by
  refine decodeBits_of_build ?_
  show build (asm (0#32 ++ 0#32) (vm.bits ++ 0#1 ++ c) b a d 0x104#10 k 2#2) = _
  generalize hw : asm (0#32 ++ 0#32) (vm.bits ++ 0#1 ++ c) b a d 0x104#10 k 2#2 = w
  have hb : build w = some (Instr.vfms (ctlOf w) (w.extractLsb' 30 5) (w.extractLsb' 35 5) (w.extractLsb' 40 5) (w.extractLsb' 45 5) (vmOf w)) := by
    unfold build
    rw [show w.extractLsb' 20 10 = 0x104#10 by rw [← hw, asm_op]]
    rfl
  rw [hb, ← hw]
  simp (disch := omega) only [asm, ctlOf, vmOf, VMod.bits, BitVec.extractLsb'_append_eq_of_le, BitVec.extractLsb'_append_eq_of_add_le,
      BitVec.extractLsb'_eq_self, Nat.reduceSub]

theorem vfnma (k : Ctl) (d a b c : BitVec 5) (vm : VMod) : Statement (.vfnma k d a b c vm) := by
  refine decodeBits_of_build ?_
  show build (asm (0#32 ++ 0#32) (vm.bits ++ 0#1 ++ c) b a d 0x105#10 k 2#2) = _
  generalize hw : asm (0#32 ++ 0#32) (vm.bits ++ 0#1 ++ c) b a d 0x105#10 k 2#2 = w
  have hb : build w = some (Instr.vfnma (ctlOf w) (w.extractLsb' 30 5) (w.extractLsb' 35 5) (w.extractLsb' 40 5) (w.extractLsb' 45 5) (vmOf w)) := by
    unfold build
    rw [show w.extractLsb' 20 10 = 0x105#10 by rw [← hw, asm_op]]
    rfl
  rw [hb, ← hw]
  simp (disch := omega) only [asm, ctlOf, vmOf, VMod.bits, BitVec.extractLsb'_append_eq_of_le, BitVec.extractLsb'_append_eq_of_add_le,
      BitVec.extractLsb'_eq_self, Nat.reduceSub]

theorem vfmin (k : Ctl) (d a b : BitVec 5) (vm : VMod) : Statement (.vfmin k d a b vm) := by
  refine decodeBits_of_build ?_
  show build (asm 0#64 (vm.bits ++ 0#6) b a d 0x106#10 k 1#2) = _
  generalize hw : asm 0#64 (vm.bits ++ 0#6) b a d 0x106#10 k 1#2 = w
  have hb : build w = some (Instr.vfmin (ctlOf w) (w.extractLsb' 30 5) (w.extractLsb' 35 5) (w.extractLsb' 40 5) (vmOf w)) := by
    unfold build
    rw [show w.extractLsb' 20 10 = 0x106#10 by rw [← hw, asm_op]]
    rfl
  rw [hb, ← hw]
  simp (disch := omega) only [asm, ctlOf, vmOf, VMod.bits, BitVec.extractLsb'_append_eq_of_le, BitVec.extractLsb'_append_eq_of_add_le,
      BitVec.extractLsb'_eq_self, Nat.reduceSub]

theorem vfmax (k : Ctl) (d a b : BitVec 5) (vm : VMod) : Statement (.vfmax k d a b vm) := by
  refine decodeBits_of_build ?_
  show build (asm 0#64 (vm.bits ++ 0#6) b a d 0x107#10 k 1#2) = _
  generalize hw : asm 0#64 (vm.bits ++ 0#6) b a d 0x107#10 k 1#2 = w
  have hb : build w = some (Instr.vfmax (ctlOf w) (w.extractLsb' 30 5) (w.extractLsb' 35 5) (w.extractLsb' 40 5) (vmOf w)) := by
    unfold build
    rw [show w.extractLsb' 20 10 = 0x107#10 by rw [← hw, asm_op]]
    rfl
  rw [hb, ← hw]
  simp (disch := omega) only [asm, ctlOf, vmOf, VMod.bits, BitVec.extractLsb'_append_eq_of_le, BitVec.extractLsb'_append_eq_of_add_le,
      BitVec.extractLsb'_eq_self, Nat.reduceSub]

theorem vfabs (k : Ctl) (d a : BitVec 5) (vm : VMod) : Statement (.vfabs k d a vm) := by
  refine decodeBits_of_build ?_
  show build (asm 0#64 (vm.bits ++ 0#6) 0#5 a d 0x108#10 k 1#2) = _
  generalize hw : asm 0#64 (vm.bits ++ 0#6) 0#5 a d 0x108#10 k 1#2 = w
  have hb : build w = some (Instr.vfabs (ctlOf w) (w.extractLsb' 30 5) (w.extractLsb' 35 5) (vmOf w)) := by
    unfold build
    rw [show w.extractLsb' 20 10 = 0x108#10 by rw [← hw, asm_op]]
    rfl
  rw [hb, ← hw]
  simp (disch := omega) only [asm, ctlOf, vmOf, VMod.bits, BitVec.extractLsb'_append_eq_of_le, BitVec.extractLsb'_append_eq_of_add_le,
      BitVec.extractLsb'_eq_self, Nat.reduceSub]

theorem vfneg (k : Ctl) (d a : BitVec 5) (vm : VMod) : Statement (.vfneg k d a vm) := by
  refine decodeBits_of_build ?_
  show build (asm 0#64 (vm.bits ++ 0#6) 0#5 a d 0x109#10 k 1#2) = _
  generalize hw : asm 0#64 (vm.bits ++ 0#6) 0#5 a d 0x109#10 k 1#2 = w
  have hb : build w = some (Instr.vfneg (ctlOf w) (w.extractLsb' 30 5) (w.extractLsb' 35 5) (vmOf w)) := by
    unfold build
    rw [show w.extractLsb' 20 10 = 0x109#10 by rw [← hw, asm_op]]
    rfl
  rw [hb, ← hw]
  simp (disch := omega) only [asm, ctlOf, vmOf, VMod.bits, BitVec.extractLsb'_append_eq_of_le, BitVec.extractLsb'_append_eq_of_add_le,
      BitVec.extractLsb'_eq_self, Nat.reduceSub]

theorem vfcmp (k : Ctl) (d a b : BitVec 5) (vm : VMod) (cond : BitVec 3) : Statement (.vfcmp k d a b vm cond) := by
  refine decodeBits_of_build ?_
  show build (asm 0#64 (vm.bits ++ 0#3 ++ cond) b a d 0x10A#10 k 1#2) = _
  generalize hw : asm 0#64 (vm.bits ++ 0#3 ++ cond) b a d 0x10A#10 k 1#2 = w
  have hb : build w = some (Instr.vfcmp (ctlOf w) (w.extractLsb' 30 5) (w.extractLsb' 35 5) (w.extractLsb' 40 5) (vmOf w) (w.extractLsb' 45 3)) := by
    unfold build
    rw [show w.extractLsb' 20 10 = 0x10A#10 by rw [← hw, asm_op]]
    rfl
  rw [hb, ← hw]
  simp (disch := omega) only [asm, ctlOf, vmOf, VMod.bits, BitVec.extractLsb'_append_eq_of_le, BitVec.extractLsb'_append_eq_of_add_le,
      BitVec.extractLsb'_eq_self, Nat.reduceSub]

theorem vfclass (k : Ctl) (d a : BitVec 5) (vm : VMod) : Statement (.vfclass k d a vm) := by
  refine decodeBits_of_build ?_
  show build (asm 0#64 (vm.bits ++ 0#6) 0#5 a d 0x10B#10 k 1#2) = _
  generalize hw : asm 0#64 (vm.bits ++ 0#6) 0#5 a d 0x10B#10 k 1#2 = w
  have hb : build w = some (Instr.vfclass (ctlOf w) (w.extractLsb' 30 5) (w.extractLsb' 35 5) (vmOf w)) := by
    unfold build
    rw [show w.extractLsb' 20 10 = 0x10B#10 by rw [← hw, asm_op]]
    rfl
  rw [hb, ← hw]
  simp (disch := omega) only [asm, ctlOf, vmOf, VMod.bits, BitVec.extractLsb'_append_eq_of_le, BitVec.extractLsb'_append_eq_of_add_le,
      BitVec.extractLsb'_eq_self, Nat.reduceSub]

theorem vdiv (k : Ctl) (d a b : BitVec 5) (vm : VMod) : Statement (.vdiv k d a b vm) := by
  refine decodeBits_of_build ?_
  show build (asm 0#64 (vm.bits ++ 0#6) b a d 0x10C#10 k 1#2) = _
  generalize hw : asm 0#64 (vm.bits ++ 0#6) b a d 0x10C#10 k 1#2 = w
  have hb : build w = some (Instr.vdiv (ctlOf w) (w.extractLsb' 30 5) (w.extractLsb' 35 5) (w.extractLsb' 40 5) (vmOf w)) := by
    unfold build
    rw [show w.extractLsb' 20 10 = 0x10C#10 by rw [← hw, asm_op]]
    rfl
  rw [hb, ← hw]
  simp (disch := omega) only [asm, ctlOf, vmOf, VMod.bits, BitVec.extractLsb'_append_eq_of_le, BitVec.extractLsb'_append_eq_of_add_le,
      BitVec.extractLsb'_eq_self, Nat.reduceSub]

theorem vsqrt (k : Ctl) (d a : BitVec 5) (vm : VMod) : Statement (.vsqrt k d a vm) := by
  refine decodeBits_of_build ?_
  show build (asm 0#64 (vm.bits ++ 0#6) 0#5 a d 0x10D#10 k 1#2) = _
  generalize hw : asm 0#64 (vm.bits ++ 0#6) 0#5 a d 0x10D#10 k 1#2 = w
  have hb : build w = some (Instr.vsqrt (ctlOf w) (w.extractLsb' 30 5) (w.extractLsb' 35 5) (vmOf w)) := by
    unfold build
    rw [show w.extractLsb' 20 10 = 0x10D#10 by rw [← hw, asm_op]]
    rfl
  rw [hb, ← hw]
  simp (disch := omega) only [asm, ctlOf, vmOf, VMod.bits, BitVec.extractLsb'_append_eq_of_le, BitVec.extractLsb'_append_eq_of_add_le,
      BitVec.extractLsb'_eq_self, Nat.reduceSub]

theorem vrsqrt (k : Ctl) (d a : BitVec 5) (vm : VMod) : Statement (.vrsqrt k d a vm) := by
  refine decodeBits_of_build ?_
  show build (asm 0#64 (vm.bits ++ 0#6) 0#5 a d 0x10E#10 k 1#2) = _
  generalize hw : asm 0#64 (vm.bits ++ 0#6) 0#5 a d 0x10E#10 k 1#2 = w
  have hb : build w = some (Instr.vrsqrt (ctlOf w) (w.extractLsb' 30 5) (w.extractLsb' 35 5) (vmOf w)) := by
    unfold build
    rw [show w.extractLsb' 20 10 = 0x10E#10 by rw [← hw, asm_op]]
    rfl
  rw [hb, ← hw]
  simp (disch := omega) only [asm, ctlOf, vmOf, VMod.bits, BitVec.extractLsb'_append_eq_of_le, BitVec.extractLsb'_append_eq_of_add_le,
      BitVec.extractLsb'_eq_self, Nat.reduceSub]

theorem vrcp (k : Ctl) (d a : BitVec 5) (vm : VMod) : Statement (.vrcp k d a vm) := by
  refine decodeBits_of_build ?_
  show build (asm 0#64 (vm.bits ++ 0#6) 0#5 a d 0x10F#10 k 1#2) = _
  generalize hw : asm 0#64 (vm.bits ++ 0#6) 0#5 a d 0x10F#10 k 1#2 = w
  have hb : build w = some (Instr.vrcp (ctlOf w) (w.extractLsb' 30 5) (w.extractLsb' 35 5) (vmOf w)) := by
    unfold build
    rw [show w.extractLsb' 20 10 = 0x10F#10 by rw [← hw, asm_op]]
    rfl
  rw [hb, ← hw]
  simp (disch := omega) only [asm, ctlOf, vmOf, VMod.bits, BitVec.extractLsb'_append_eq_of_le, BitVec.extractLsb'_append_eq_of_add_le,
      BitVec.extractLsb'_eq_self, Nat.reduceSub]

theorem vsqd (k : Ctl) (d a b : BitVec 5) (vm : VMod) : Statement (.vsqd k d a b vm) := by
  refine decodeBits_of_build ?_
  show build (asm 0#64 (vm.bits ++ 0#6) b a d 0x110#10 k 1#2) = _
  generalize hw : asm 0#64 (vm.bits ++ 0#6) b a d 0x110#10 k 1#2 = w
  have hb : build w = some (Instr.vsqd (ctlOf w) (w.extractLsb' 30 5) (w.extractLsb' 35 5) (w.extractLsb' 40 5) (vmOf w)) := by
    unfold build
    rw [show w.extractLsb' 20 10 = 0x110#10 by rw [← hw, asm_op]]
    rfl
  rw [hb, ← hw]
  simp (disch := omega) only [asm, ctlOf, vmOf, VMod.bits, BitVec.extractLsb'_append_eq_of_le, BitVec.extractLsb'_append_eq_of_add_le,
      BitVec.extractLsb'_eq_self, Nat.reduceSub]

theorem vfred (k : Ctl) (d a : BitVec 5) (vm : VMod) : Statement (.vfred k d a vm) := by
  refine decodeBits_of_build ?_
  show build (asm 0#64 (vm.bits ++ 0#6) 0#5 a d 0x111#10 k 1#2) = _
  generalize hw : asm 0#64 (vm.bits ++ 0#6) 0#5 a d 0x111#10 k 1#2 = w
  have hb : build w = some (Instr.vfred (ctlOf w) (w.extractLsb' 30 5) (w.extractLsb' 35 5) (vmOf w)) := by
    unfold build
    rw [show w.extractLsb' 20 10 = 0x111#10 by rw [← hw, asm_op]]
    rfl
  rw [hb, ← hw]
  simp (disch := omega) only [asm, ctlOf, vmOf, VMod.bits, BitVec.extractLsb'_append_eq_of_le, BitVec.extractLsb'_append_eq_of_add_le,
      BitVec.extractLsb'_eq_self, Nat.reduceSub]

theorem vfdot (k : Ctl) (d a b : BitVec 5) (vm : VMod) : Statement (.vfdot k d a b vm) := by
  refine decodeBits_of_build ?_
  show build (asm 0#64 (vm.bits ++ 0#6) b a d 0x112#10 k 1#2) = _
  generalize hw : asm 0#64 (vm.bits ++ 0#6) b a d 0x112#10 k 1#2 = w
  have hb : build w = some (Instr.vfdot (ctlOf w) (w.extractLsb' 30 5) (w.extractLsb' 35 5) (w.extractLsb' 40 5) (vmOf w)) := by
    unfold build
    rw [show w.extractLsb' 20 10 = 0x112#10 by rw [← hw, asm_op]]
    rfl
  rw [hb, ← hw]
  simp (disch := omega) only [asm, ctlOf, vmOf, VMod.bits, BitVec.extractLsb'_append_eq_of_le, BitVec.extractLsb'_append_eq_of_add_le,
      BitVec.extractLsb'_eq_self, Nat.reduceSub]

theorem vfsgn (k : Ctl) (d a b : BitVec 5) (vm : VMod) (mode : BitVec 2) : Statement (.vfsgn k d a b vm mode) := by
  refine decodeBits_of_build ?_
  show build (asm 0#64 (vm.bits ++ 0#4 ++ mode) b a d 0x113#10 k 1#2) = _
  generalize hw : asm 0#64 (vm.bits ++ 0#4 ++ mode) b a d 0x113#10 k 1#2 = w
  have hb : build w = some (Instr.vfsgn (ctlOf w) (w.extractLsb' 30 5) (w.extractLsb' 35 5) (w.extractLsb' 40 5) (vmOf w) (w.extractLsb' 45 2)) := by
    unfold build
    rw [show w.extractLsb' 20 10 = 0x113#10 by rw [← hw, asm_op]]
    rfl
  rw [hb, ← hw]
  simp (disch := omega) only [asm, ctlOf, vmOf, VMod.bits, BitVec.extractLsb'_append_eq_of_le, BitVec.extractLsb'_append_eq_of_add_le,
      BitVec.extractLsb'_eq_self, Nat.reduceSub]

theorem vfrnd (k : Ctl) (d a : BitVec 5) (vm : VMod) : Statement (.vfrnd k d a vm) := by
  refine decodeBits_of_build ?_
  show build (asm 0#64 (vm.bits ++ 0#6) 0#5 a d 0x114#10 k 1#2) = _
  generalize hw : asm 0#64 (vm.bits ++ 0#6) 0#5 a d 0x114#10 k 1#2 = w
  have hb : build w = some (Instr.vfrnd (ctlOf w) (w.extractLsb' 30 5) (w.extractLsb' 35 5) (vmOf w)) := by
    unfold build
    rw [show w.extractLsb' 20 10 = 0x114#10 by rw [← hw, asm_op]]
    rfl
  rw [hb, ← hw]
  simp (disch := omega) only [asm, ctlOf, vmOf, VMod.bits, BitVec.extractLsb'_append_eq_of_le, BitVec.extractLsb'_append_eq_of_add_le,
      BitVec.extractLsb'_eq_self, Nat.reduceSub]

theorem vld (k : Ctl) (d a : BitVec 5) (vm : VMod) (lc : BitVec 1) (off : BitVec 5) : Statement (.vld k d a vm lc off) := by
  refine decodeBits_of_build ?_
  show build (asm 0#64 (vm.bits ++ lc ++ off) 0#5 a d 0x140#10 k 1#2) = _
  generalize hw : asm 0#64 (vm.bits ++ lc ++ off) 0#5 a d 0x140#10 k 1#2 = w
  have hb : build w = some (Instr.vld (ctlOf w) (w.extractLsb' 30 5) (w.extractLsb' 35 5) (vmOf w) (w.extractLsb' 50 1) (w.extractLsb' 45 5)) := by
    unfold build
    rw [show w.extractLsb' 20 10 = 0x140#10 by rw [← hw, asm_op]]
    rfl
  rw [hb, ← hw]
  simp (disch := omega) only [asm, ctlOf, vmOf, VMod.bits, BitVec.extractLsb'_append_eq_of_le, BitVec.extractLsb'_append_eq_of_add_le,
      BitVec.extractLsb'_eq_self, Nat.reduceSub]

theorem vst (k : Ctl) (a b : BitVec 5) (vm : VMod) (lc : BitVec 1) (off : BitVec 5) : Statement (.vst k a b vm lc off) := by
  refine decodeBits_of_build ?_
  show build (asm 0#64 (vm.bits ++ lc ++ off) b a 0#5 0x141#10 k 1#2) = _
  generalize hw : asm 0#64 (vm.bits ++ lc ++ off) b a 0#5 0x141#10 k 1#2 = w
  have hb : build w = some (Instr.vst (ctlOf w) (w.extractLsb' 35 5) (w.extractLsb' 40 5) (vmOf w) (w.extractLsb' 50 1) (w.extractLsb' 45 5)) := by
    unfold build
    rw [show w.extractLsb' 20 10 = 0x141#10 by rw [← hw, asm_op]]
    rfl
  rw [hb, ← hw]
  simp (disch := omega) only [asm, ctlOf, vmOf, VMod.bits, BitVec.extractLsb'_append_eq_of_le, BitVec.extractLsb'_append_eq_of_add_le,
      BitVec.extractLsb'_eq_self, Nat.reduceSub]

theorem vlds (k : Ctl) (d a b : BitVec 5) (vm : VMod) (lc : BitVec 1) : Statement (.vlds k d a b vm lc) := by
  refine decodeBits_of_build ?_
  show build (asm 0#64 (vm.bits ++ lc ++ 0#5) b a d 0x142#10 k 1#2) = _
  generalize hw : asm 0#64 (vm.bits ++ lc ++ 0#5) b a d 0x142#10 k 1#2 = w
  have hb : build w = some (Instr.vlds (ctlOf w) (w.extractLsb' 30 5) (w.extractLsb' 35 5) (w.extractLsb' 40 5) (vmOf w) (w.extractLsb' 50 1)) := by
    unfold build
    rw [show w.extractLsb' 20 10 = 0x142#10 by rw [← hw, asm_op]]
    rfl
  rw [hb, ← hw]
  simp (disch := omega) only [asm, ctlOf, vmOf, VMod.bits, BitVec.extractLsb'_append_eq_of_le, BitVec.extractLsb'_append_eq_of_add_le,
      BitVec.extractLsb'_eq_self, Nat.reduceSub]

theorem vsts (k : Ctl) (d a b : BitVec 5) (vm : VMod) (lc : BitVec 1) : Statement (.vsts k d a b vm lc) := by
  refine decodeBits_of_build ?_
  show build (asm 0#64 (vm.bits ++ lc ++ 0#5) b a d 0x143#10 k 1#2) = _
  generalize hw : asm 0#64 (vm.bits ++ lc ++ 0#5) b a d 0x143#10 k 1#2 = w
  have hb : build w = some (Instr.vsts (ctlOf w) (w.extractLsb' 30 5) (w.extractLsb' 35 5) (w.extractLsb' 40 5) (vmOf w) (w.extractLsb' 50 1)) := by
    unfold build
    rw [show w.extractLsb' 20 10 = 0x143#10 by rw [← hw, asm_op]]
    rfl
  rw [hb, ← hw]
  simp (disch := omega) only [asm, ctlOf, vmOf, VMod.bits, BitVec.extractLsb'_append_eq_of_le, BitVec.extractLsb'_append_eq_of_add_le,
      BitVec.extractLsb'_eq_self, Nat.reduceSub]

theorem vldx (k : Ctl) (d a b : BitVec 5) (vm : VMod) (lc : BitVec 1) (scale : BitVec 2) : Statement (.vldx k d a b vm lc scale) := by
  refine decodeBits_of_build ?_
  show build (asm 0#64 (vm.bits ++ lc ++ 0#3 ++ scale) b a d 0x144#10 k 1#2) = _
  generalize hw : asm 0#64 (vm.bits ++ lc ++ 0#3 ++ scale) b a d 0x144#10 k 1#2 = w
  have hb : build w = some (Instr.vldx (ctlOf w) (w.extractLsb' 30 5) (w.extractLsb' 35 5) (w.extractLsb' 40 5) (vmOf w) (w.extractLsb' 50 1) (w.extractLsb' 45 2)) := by
    unfold build
    rw [show w.extractLsb' 20 10 = 0x144#10 by rw [← hw, asm_op]]
    rfl
  rw [hb, ← hw]
  simp (disch := omega) only [asm, ctlOf, vmOf, VMod.bits, BitVec.extractLsb'_append_eq_of_le, BitVec.extractLsb'_append_eq_of_add_le,
      BitVec.extractLsb'_eq_self, Nat.reduceSub]

theorem vstx (k : Ctl) (d a b : BitVec 5) (vm : VMod) (lc : BitVec 1) (scale : BitVec 2) : Statement (.vstx k d a b vm lc scale) := by
  refine decodeBits_of_build ?_
  show build (asm 0#64 (vm.bits ++ lc ++ 0#3 ++ scale) b a d 0x145#10 k 1#2) = _
  generalize hw : asm 0#64 (vm.bits ++ lc ++ 0#3 ++ scale) b a d 0x145#10 k 1#2 = w
  have hb : build w = some (Instr.vstx (ctlOf w) (w.extractLsb' 30 5) (w.extractLsb' 35 5) (w.extractLsb' 40 5) (vmOf w) (w.extractLsb' 50 1) (w.extractLsb' 45 2)) := by
    unfold build
    rw [show w.extractLsb' 20 10 = 0x145#10 by rw [← hw, asm_op]]
    rfl
  rw [hb, ← hw]
  simp (disch := omega) only [asm, ctlOf, vmOf, VMod.bits, BitVec.extractLsb'_append_eq_of_le, BitVec.extractLsb'_append_eq_of_add_le,
      BitVec.extractLsb'_eq_self, Nat.reduceSub]

theorem vldb (k : Ctl) (d a : BitVec 5) (vm : VMod) (lc : BitVec 1) (off : BitVec 5) : Statement (.vldb k d a vm lc off) := by
  refine decodeBits_of_build ?_
  show build (asm 0#64 (vm.bits ++ lc ++ off) 0#5 a d 0x146#10 k 1#2) = _
  generalize hw : asm 0#64 (vm.bits ++ lc ++ off) 0#5 a d 0x146#10 k 1#2 = w
  have hb : build w = some (Instr.vldb (ctlOf w) (w.extractLsb' 30 5) (w.extractLsb' 35 5) (vmOf w) (w.extractLsb' 50 1) (w.extractLsb' 45 5)) := by
    unfold build
    rw [show w.extractLsb' 20 10 = 0x146#10 by rw [← hw, asm_op]]
    rfl
  rw [hb, ← hw]
  simp (disch := omega) only [asm, ctlOf, vmOf, VMod.bits, BitVec.extractLsb'_append_eq_of_le, BitVec.extractLsb'_append_eq_of_add_le,
      BitVec.extractLsb'_eq_self, Nat.reduceSub]

theorem vperm (k : Ctl) (d a b : BitVec 5) (vm : VMod) : Statement (.vperm k d a b vm) := by
  refine decodeBits_of_build ?_
  show build (asm 0#64 (vm.bits ++ 0#6) b a d 0x147#10 k 1#2) = _
  generalize hw : asm 0#64 (vm.bits ++ 0#6) b a d 0x147#10 k 1#2 = w
  have hb : build w = some (Instr.vperm (ctlOf w) (w.extractLsb' 30 5) (w.extractLsb' 35 5) (w.extractLsb' 40 5) (vmOf w)) := by
    unfold build
    rw [show w.extractLsb' 20 10 = 0x147#10 by rw [← hw, asm_op]]
    rfl
  rw [hb, ← hw]
  simp (disch := omega) only [asm, ctlOf, vmOf, VMod.bits, BitVec.extractLsb'_append_eq_of_le, BitVec.extractLsb'_append_eq_of_add_le,
      BitVec.extractLsb'_eq_self, Nat.reduceSub]

theorem vslide (k : Ctl) (d a b : BitVec 5) (vm : VMod) (n : BitVec 4) : Statement (.vslide k d a b vm n) := by
  refine decodeBits_of_build ?_
  show build (asm 0#64 (vm.bits ++ 0#2 ++ n) b a d 0x148#10 k 1#2) = _
  generalize hw : asm 0#64 (vm.bits ++ 0#2 ++ n) b a d 0x148#10 k 1#2 = w
  have hb : build w = some (Instr.vslide (ctlOf w) (w.extractLsb' 30 5) (w.extractLsb' 35 5) (w.extractLsb' 40 5) (vmOf w) (w.extractLsb' 45 4)) := by
    unfold build
    rw [show w.extractLsb' 20 10 = 0x148#10 by rw [← hw, asm_op]]
    rfl
  rw [hb, ← hw]
  simp (disch := omega) only [asm, ctlOf, vmOf, VMod.bits, BitVec.extractLsb'_append_eq_of_le, BitVec.extractLsb'_append_eq_of_add_le,
      BitVec.extractLsb'_eq_self, Nat.reduceSub]

theorem vzip (k : Ctl) (d a b : BitVec 5) (vm : VMod) (half : BitVec 1) : Statement (.vzip k d a b vm half) := by
  refine decodeBits_of_build ?_
  show build (asm 0#64 (vm.bits ++ 0#5 ++ half) b a d 0x149#10 k 1#2) = _
  generalize hw : asm 0#64 (vm.bits ++ 0#5 ++ half) b a d 0x149#10 k 1#2 = w
  have hb : build w = some (Instr.vzip (ctlOf w) (w.extractLsb' 30 5) (w.extractLsb' 35 5) (w.extractLsb' 40 5) (vmOf w) (w.extractLsb' 45 1)) := by
    unfold build
    rw [show w.extractLsb' 20 10 = 0x149#10 by rw [← hw, asm_op]]
    rfl
  rw [hb, ← hw]
  simp (disch := omega) only [asm, ctlOf, vmOf, VMod.bits, BitVec.extractLsb'_append_eq_of_le, BitVec.extractLsb'_append_eq_of_add_le,
      BitVec.extractLsb'_eq_self, Nat.reduceSub]

theorem vunzip (k : Ctl) (d a b : BitVec 5) (vm : VMod) (half : BitVec 1) : Statement (.vunzip k d a b vm half) := by
  refine decodeBits_of_build ?_
  show build (asm 0#64 (vm.bits ++ 0#5 ++ half) b a d 0x14A#10 k 1#2) = _
  generalize hw : asm 0#64 (vm.bits ++ 0#5 ++ half) b a d 0x14A#10 k 1#2 = w
  have hb : build w = some (Instr.vunzip (ctlOf w) (w.extractLsb' 30 5) (w.extractLsb' 35 5) (w.extractLsb' 40 5) (vmOf w) (w.extractLsb' 45 1)) := by
    unfold build
    rw [show w.extractLsb' 20 10 = 0x14A#10 by rw [← hw, asm_op]]
    rfl
  rw [hb, ← hw]
  simp (disch := omega) only [asm, ctlOf, vmOf, VMod.bits, BitVec.extractLsb'_append_eq_of_le, BitVec.extractLsb'_append_eq_of_add_le,
      BitVec.extractLsb'_eq_self, Nat.reduceSub]

theorem vcvt (k : Ctl) (d a : BitVec 5) (vm : VMod) (u : BitVec 3) : Statement (.vcvt k d a vm u) := by
  refine decodeBits_of_build ?_
  show build (asm 0#64 (vm.bits ++ 0#3 ++ u) 0#5 a d 0x14B#10 k 1#2) = _
  generalize hw : asm 0#64 (vm.bits ++ 0#3 ++ u) 0#5 a d 0x14B#10 k 1#2 = w
  have hb : build w = some (Instr.vcvt (ctlOf w) (w.extractLsb' 30 5) (w.extractLsb' 35 5) (vmOf w) (w.extractLsb' 45 3)) := by
    unfold build
    rw [show w.extractLsb' 20 10 = 0x14B#10 by rw [← hw, asm_op]]
    rfl
  rw [hb, ← hw]
  simp (disch := omega) only [asm, ctlOf, vmOf, VMod.bits, BitVec.extractLsb'_append_eq_of_le, BitVec.extractLsb'_append_eq_of_add_le,
      BitVec.extractLsb'_eq_self, Nat.reduceSub]

theorem vpack (k : Ctl) (d a b : BitVec 5) (vm : VMod) : Statement (.vpack k d a b vm) := by
  refine decodeBits_of_build ?_
  show build (asm 0#64 (vm.bits ++ 0#6) b a d 0x14C#10 k 1#2) = _
  generalize hw : asm 0#64 (vm.bits ++ 0#6) b a d 0x14C#10 k 1#2 = w
  have hb : build w = some (Instr.vpack (ctlOf w) (w.extractLsb' 30 5) (w.extractLsb' 35 5) (w.extractLsb' 40 5) (vmOf w)) := by
    unfold build
    rw [show w.extractLsb' 20 10 = 0x14C#10 by rw [← hw, asm_op]]
    rfl
  rw [hb, ← hw]
  simp (disch := omega) only [asm, ctlOf, vmOf, VMod.bits, BitVec.extractLsb'_append_eq_of_le, BitVec.extractLsb'_append_eq_of_add_le,
      BitVec.extractLsb'_eq_self, Nat.reduceSub]

theorem vunpack (k : Ctl) (d a : BitVec 5) (vm : VMod) (half : BitVec 1) : Statement (.vunpack k d a vm half) := by
  refine decodeBits_of_build ?_
  show build (asm 0#64 (vm.bits ++ 0#5 ++ half) 0#5 a d 0x14D#10 k 1#2) = _
  generalize hw : asm 0#64 (vm.bits ++ 0#5 ++ half) 0#5 a d 0x14D#10 k 1#2 = w
  have hb : build w = some (Instr.vunpack (ctlOf w) (w.extractLsb' 30 5) (w.extractLsb' 35 5) (vmOf w) (w.extractLsb' 45 1)) := by
    unfold build
    rw [show w.extractLsb' 20 10 = 0x14D#10 by rw [← hw, asm_op]]
    rfl
  rw [hb, ← hw]
  simp (disch := omega) only [asm, ctlOf, vmOf, VMod.bits, BitVec.extractLsb'_append_eq_of_le, BitVec.extractLsb'_append_eq_of_add_le,
      BitVec.extractLsb'_eq_self, Nat.reduceSub]

theorem vqld (k : Ctl) (d a b : BitVec 5) (vm : VMod) (lc : BitVec 1) : Statement (.vqld k d a b vm lc) := by
  refine decodeBits_of_build ?_
  show build (asm 0#64 (vm.bits ++ lc ++ 0#5) b a d 0x14E#10 k 1#2) = _
  generalize hw : asm 0#64 (vm.bits ++ lc ++ 0#5) b a d 0x14E#10 k 1#2 = w
  have hb : build w = some (Instr.vqld (ctlOf w) (w.extractLsb' 30 5) (w.extractLsb' 35 5) (w.extractLsb' 40 5) (vmOf w) (w.extractLsb' 50 1)) := by
    unfold build
    rw [show w.extractLsb' 20 10 = 0x14E#10 by rw [← hw, asm_op]]
    rfl
  rw [hb, ← hw]
  simp (disch := omega) only [asm, ctlOf, vmOf, VMod.bits, BitVec.extractLsb'_append_eq_of_le, BitVec.extractLsb'_append_eq_of_add_le,
      BitVec.extractLsb'_eq_self, Nat.reduceSub]

theorem vqdec (k : Ctl) (d a : BitVec 5) (vm : VMod) (part : BitVec 3) : Statement (.vqdec k d a vm part) := by
  refine decodeBits_of_build ?_
  show build (asm 0#64 (vm.bits ++ 0#3 ++ part) 0#5 a d 0x14F#10 k 1#2) = _
  generalize hw : asm 0#64 (vm.bits ++ 0#3 ++ part) 0#5 a d 0x14F#10 k 1#2 = w
  have hb : build w = some (Instr.vqdec (ctlOf w) (w.extractLsb' 30 5) (w.extractLsb' 35 5) (vmOf w) (w.extractLsb' 45 3)) := by
    unfold build
    rw [show w.extractLsb' 20 10 = 0x14F#10 by rw [← hw, asm_op]]
    rfl
  rw [hb, ← hw]
  simp (disch := omega) only [asm, ctlOf, vmOf, VMod.bits, BitVec.extractLsb'_append_eq_of_le, BitVec.extractLsb'_append_eq_of_add_le,
      BitVec.extractLsb'_eq_self, Nat.reduceSub]

theorem vqst (k : Ctl) (d a b c : BitVec 5) (vm : VMod) (mask : BitVec 4) : Statement (.vqst k d a b c vm mask) := by
  refine decodeBits_of_build ?_
  show build (asm (0#32 ++ (0#28 ++ mask)) (vm.bits ++ 0#1 ++ c) b a d 0x150#10 k 2#2) = _
  generalize hw : asm (0#32 ++ (0#28 ++ mask)) (vm.bits ++ 0#1 ++ c) b a d 0x150#10 k 2#2 = w
  have hb : build w = some (Instr.vqst (ctlOf w) (w.extractLsb' 30 5) (w.extractLsb' 35 5) (w.extractLsb' 40 5) (w.extractLsb' 45 5) (vmOf w) (w.extractLsb' 64 4)) := by
    unfold build
    rw [show w.extractLsb' 20 10 = 0x150#10 by rw [← hw, asm_op]]
    rfl
  rw [hb, ← hw]
  simp (disch := omega) only [asm, ctlOf, vmOf, VMod.bits, BitVec.extractLsb'_append_eq_of_le, BitVec.extractLsb'_append_eq_of_add_le,
      BitVec.extractLsb'_eq_self, Nat.reduceSub]
  simp only [Nat.reduceAdd, Nat.reduceSub, BitVec.extractLsb'_eq_self]

theorem vqenc (k : Ctl) (d a : BitVec 5) (vm : VMod) (mask : BitVec 4) (slot : BitVec 2) : Statement (.vqenc k d a vm mask slot) := by
  refine decodeBits_of_build ?_
  show build (asm 0#64 (vm.bits ++ mask ++ slot) 0#5 a d 0x151#10 k 1#2) = _
  generalize hw : asm 0#64 (vm.bits ++ mask ++ slot) 0#5 a d 0x151#10 k 1#2 = w
  have hb : build w = some (Instr.vqenc (ctlOf w) (w.extractLsb' 30 5) (w.extractLsb' 35 5) (vmOf w) (w.extractLsb' 47 4) (w.extractLsb' 45 2)) := by
    unfold build
    rw [show w.extractLsb' 20 10 = 0x151#10 by rw [← hw, asm_op]]
    rfl
  rw [hb, ← hw]
  simp (disch := omega) only [asm, ctlOf, vmOf, VMod.bits, BitVec.extractLsb'_append_eq_of_le, BitVec.extractLsb'_append_eq_of_add_le,
      BitVec.extractLsb'_eq_self, Nat.reduceSub]

theorem vhdr (k : Ctl) (d a : BitVec 5) (vm : VMod) (slot : BitVec 2) : Statement (.vhdr k d a vm slot) := by
  refine decodeBits_of_build ?_
  show build (asm 0#64 (vm.bits ++ 0#4 ++ slot) 0#5 a d 0x152#10 k 1#2) = _
  generalize hw : asm 0#64 (vm.bits ++ 0#4 ++ slot) 0#5 a d 0x152#10 k 1#2 = w
  have hb : build w = some (Instr.vhdr (ctlOf w) (w.extractLsb' 30 5) (w.extractLsb' 35 5) (vmOf w) (w.extractLsb' 45 2)) := by
    unfold build
    rw [show w.extractLsb' 20 10 = 0x152#10 by rw [← hw, asm_op]]
    rfl
  rw [hb, ← hw]
  simp (disch := omega) only [asm, ctlOf, vmOf, VMod.bits, BitVec.extractLsb'_append_eq_of_le, BitVec.extractLsb'_append_eq_of_add_le,
      BitVec.extractLsb'_eq_self, Nat.reduceSub]

theorem vhdrw (k : Ctl) (d a : BitVec 5) (vm : VMod) (slot : BitVec 2) : Statement (.vhdrw k d a vm slot) := by
  refine decodeBits_of_build ?_
  show build (asm 0#64 (vm.bits ++ 0#4 ++ slot) 0#5 a d 0x153#10 k 1#2) = _
  generalize hw : asm 0#64 (vm.bits ++ 0#4 ++ slot) 0#5 a d 0x153#10 k 1#2 = w
  have hb : build w = some (Instr.vhdrw (ctlOf w) (w.extractLsb' 30 5) (w.extractLsb' 35 5) (vmOf w) (w.extractLsb' 45 2)) := by
    unfold build
    rw [show w.extractLsb' 20 10 = 0x153#10 by rw [← hw, asm_op]]
    rfl
  rw [hb, ← hw]
  simp (disch := omega) only [asm, ctlOf, vmOf, VMod.bits, BitVec.extractLsb'_append_eq_of_le, BitVec.extractLsb'_append_eq_of_add_le,
      BitVec.extractLsb'_eq_self, Nat.reduceSub]

theorem mma (k : Ctl) (d a b c : BitVec 5) (tb ty : BitVec 3) (sp zc : BitVec 1) : Statement (.mma k d a b c tb ty sp zc) := by
  refine decodeBits_of_build ?_
  show build (asm (0#32 ++ (0#31 ++ zc)) (0#5 ++ tb ++ 0#2 ++ ty ++ sp ++ c) b a d 0x180#10 k 2#2) = _
  generalize hw : asm (0#32 ++ (0#31 ++ zc)) (0#5 ++ tb ++ 0#2 ++ ty ++ sp ++ c) b a d 0x180#10 k 2#2 = w
  have hb : build w = some (Instr.mma (ctlOf w) (w.extractLsb' 30 5) (w.extractLsb' 35 5) (w.extractLsb' 40 5) (w.extractLsb' 45 5) (w.extractLsb' 56 3) (w.extractLsb' 51 3) (w.extractLsb' 50 1) (w.extractLsb' 64 1)) := by
    unfold build
    rw [show w.extractLsb' 20 10 = 0x180#10 by rw [← hw, asm_op]]
    rfl
  rw [hb, ← hw]
  simp (disch := omega) only [asm, ctlOf, vmOf, VMod.bits, BitVec.extractLsb'_append_eq_of_le, BitVec.extractLsb'_append_eq_of_add_le,
      BitVec.extractLsb'_eq_self, Nat.reduceSub]
  simp only [Nat.reduceAdd, Nat.reduceSub, BitVec.extractLsb'_eq_self]

theorem mmar (k : Ctl) (d a b c : BitVec 5) (tb ty : BitVec 3) (sp zc : BitVec 1) : Statement (.mmar k d a b c tb ty sp zc) := by
  refine decodeBits_of_build ?_
  show build (asm (0#32 ++ (0#31 ++ zc)) (0#5 ++ tb ++ 0#2 ++ ty ++ sp ++ c) b a d 0x181#10 k 2#2) = _
  generalize hw : asm (0#32 ++ (0#31 ++ zc)) (0#5 ++ tb ++ 0#2 ++ ty ++ sp ++ c) b a d 0x181#10 k 2#2 = w
  have hb : build w = some (Instr.mmar (ctlOf w) (w.extractLsb' 30 5) (w.extractLsb' 35 5) (w.extractLsb' 40 5) (w.extractLsb' 45 5) (w.extractLsb' 56 3) (w.extractLsb' 51 3) (w.extractLsb' 50 1) (w.extractLsb' 64 1)) := by
    unfold build
    rw [show w.extractLsb' 20 10 = 0x181#10 by rw [← hw, asm_op]]
    rfl
  rw [hb, ← hw]
  simp (disch := omega) only [asm, ctlOf, vmOf, VMod.bits, BitVec.extractLsb'_append_eq_of_le, BitVec.extractLsb'_append_eq_of_add_le,
      BitVec.extractLsb'_eq_self, Nat.reduceSub]
  simp only [Nat.reduceAdd, Nat.reduceSub, BitVec.extractLsb'_eq_self]

theorem mzero (k : Ctl) (d : BitVec 5) : Statement (.mzero k d) := by
  refine decodeBits_of_build ?_
  show build (asm 0#64 0#19 0#5 0#5 d 0x182#10 k 1#2) = _
  generalize hw : asm 0#64 0#19 0#5 0#5 d 0x182#10 k 1#2 = w
  have hb : build w = some (Instr.mzero (ctlOf w) (w.extractLsb' 30 5)) := by
    unfold build
    rw [show w.extractLsb' 20 10 = 0x182#10 by rw [← hw, asm_op]]
    rfl
  rw [hb, ← hw]
  simp (disch := omega) only [asm, ctlOf, vmOf, VMod.bits, BitVec.extractLsb'_append_eq_of_le, BitVec.extractLsb'_append_eq_of_add_le,
      BitVec.extractLsb'_eq_self, Nat.reduceSub]

theorem mst (k : Ctl) (a b c : BitVec 5) (off : BitVec 32) : Statement (.mst k a b c off) := by
  refine decodeBits_of_build ?_
  show build (asm (0#32 ++ off) (0#10 ++ 2#3 ++ 0#1 ++ c) b a 0#5 0x183#10 k 2#2) = _
  generalize hw : asm (0#32 ++ off) (0#10 ++ 2#3 ++ 0#1 ++ c) b a 0#5 0x183#10 k 2#2 = w
  have hb : build w = some (Instr.mst (ctlOf w) (w.extractLsb' 35 5) (w.extractLsb' 40 5) (w.extractLsb' 45 5) (w.extractLsb' 64 32)) := by
    unfold build
    rw [show w.extractLsb' 20 10 = 0x183#10 by rw [← hw, asm_op]]
    rfl
  rw [hb, ← hw]
  simp (disch := omega) only [asm, ctlOf, vmOf, VMod.bits, BitVec.extractLsb'_append_eq_of_le, BitVec.extractLsb'_append_eq_of_add_le,
      BitVec.extractLsb'_eq_self, Nat.reduceSub]
  simp only [Nat.reduceAdd, Nat.reduceSub, BitVec.extractLsb'_eq_self]

theorem mld (k : Ctl) (d b c : BitVec 5) (off : BitVec 32) : Statement (.mld k d b c off) := by
  refine decodeBits_of_build ?_
  show build (asm (0#32 ++ off) (0#10 ++ 2#3 ++ 0#1 ++ c) b 0#5 d 0x184#10 k 2#2) = _
  generalize hw : asm (0#32 ++ off) (0#10 ++ 2#3 ++ 0#1 ++ c) b 0#5 d 0x184#10 k 2#2 = w
  have hb : build w = some (Instr.mld (ctlOf w) (w.extractLsb' 30 5) (w.extractLsb' 40 5) (w.extractLsb' 45 5) (w.extractLsb' 64 32)) := by
    unfold build
    rw [show w.extractLsb' 20 10 = 0x184#10 by rw [← hw, asm_op]]
    rfl
  rw [hb, ← hw]
  simp (disch := omega) only [asm, ctlOf, vmOf, VMod.bits, BitVec.extractLsb'_append_eq_of_le, BitVec.extractLsb'_append_eq_of_add_le,
      BitVec.extractLsb'_eq_self, Nat.reduceSub]
  simp only [Nat.reduceAdd, Nat.reduceSub, BitVec.extractLsb'_eq_self]

theorem mrdv (k : Ctl) (d a : BitVec 5) (vm : VMod) (r : BitVec 3) : Statement (.mrdv k d a vm r) := by
  refine decodeBits_of_build ?_
  show build (asm 0#64 (vm.bits ++ 0#3 ++ r) 0#5 a d 0x185#10 k 1#2) = _
  generalize hw : asm 0#64 (vm.bits ++ 0#3 ++ r) 0#5 a d 0x185#10 k 1#2 = w
  have hb : build w = some (Instr.mrdv (ctlOf w) (w.extractLsb' 30 5) (w.extractLsb' 35 5) (vmOf w) (w.extractLsb' 45 3)) := by
    unfold build
    rw [show w.extractLsb' 20 10 = 0x185#10 by rw [← hw, asm_op]]
    rfl
  rw [hb, ← hw]
  simp (disch := omega) only [asm, ctlOf, vmOf, VMod.bits, BitVec.extractLsb'_append_eq_of_le, BitVec.extractLsb'_append_eq_of_add_le,
      BitVec.extractLsb'_eq_self, Nat.reduceSub]

theorem mwrv (k : Ctl) (d a : BitVec 5) (vm : VMod) (r : BitVec 3) : Statement (.mwrv k d a vm r) := by
  refine decodeBits_of_build ?_
  show build (asm 0#64 (vm.bits ++ 0#3 ++ r) 0#5 a d 0x186#10 k 1#2) = _
  generalize hw : asm 0#64 (vm.bits ++ 0#3 ++ r) 0#5 a d 0x186#10 k 1#2 = w
  have hb : build w = some (Instr.mwrv (ctlOf w) (w.extractLsb' 30 5) (w.extractLsb' 35 5) (vmOf w) (w.extractLsb' 45 3)) := by
    unfold build
    rw [show w.extractLsb' 20 10 = 0x186#10 by rw [← hw, asm_op]]
    rfl
  rw [hb, ← hw]
  simp (disch := omega) only [asm, ctlOf, vmOf, VMod.bits, BitVec.extractLsb'_append_eq_of_le, BitVec.extractLsb'_append_eq_of_add_le,
      BitVec.extractLsb'_eq_self, Nat.reduceSub]

theorem mscale (k : Ctl) (d a : BitVec 5) (vm : VMod) : Statement (.mscale k d a vm) := by
  refine decodeBits_of_build ?_
  show build (asm 0#64 (vm.bits ++ 0#6) 0#5 a d 0x187#10 k 1#2) = _
  generalize hw : asm 0#64 (vm.bits ++ 0#6) 0#5 a d 0x187#10 k 1#2 = w
  have hb : build w = some (Instr.mscale (ctlOf w) (w.extractLsb' 30 5) (w.extractLsb' 35 5) (vmOf w)) := by
    unfold build
    rw [show w.extractLsb' 20 10 = 0x187#10 by rw [← hw, asm_op]]
    rfl
  rw [hb, ← hw]
  simp (disch := omega) only [asm, ctlOf, vmOf, VMod.bits, BitVec.extractLsb'_append_eq_of_le, BitVec.extractLsb'_append_eq_of_add_le,
      BitVec.extractLsb'_eq_self, Nat.reduceSub]

theorem mqst (k : Ctl) (a b c : BitVec 5) (ty : BitVec 3) (co : BitVec 1) (mask : BitVec 4) : Statement (.mqst k a b c ty co mask) := by
  refine decodeBits_of_build ?_
  show build (asm (0#32 ++ (0#28 ++ mask)) (0#10 ++ ty ++ co ++ c) b a 0#5 0x188#10 k 2#2) = _
  generalize hw : asm (0#32 ++ (0#28 ++ mask)) (0#10 ++ ty ++ co ++ c) b a 0#5 0x188#10 k 2#2 = w
  have hb : build w = some (Instr.mqst (ctlOf w) (w.extractLsb' 35 5) (w.extractLsb' 40 5) (w.extractLsb' 45 5) (w.extractLsb' 51 3) (w.extractLsb' 50 1) (w.extractLsb' 64 4)) := by
    unfold build
    rw [show w.extractLsb' 20 10 = 0x188#10 by rw [← hw, asm_op]]
    rfl
  rw [hb, ← hw]
  simp (disch := omega) only [asm, ctlOf, vmOf, VMod.bits, BitVec.extractLsb'_append_eq_of_le, BitVec.extractLsb'_append_eq_of_add_le,
      BitVec.extractLsb'_eq_self, Nat.reduceSub]
  simp only [Nat.reduceAdd, Nat.reduceSub, BitVec.extractLsb'_eq_self]

theorem mwait (k : Ctl) : Statement (.mwait k) := by
  refine decodeBits_of_build ?_
  show build (asm 0#64 0#19 0#5 0#5 0#5 0x189#10 k 1#2) = _
  generalize hw : asm 0#64 0#19 0#5 0#5 0#5 0x189#10 k 1#2 = w
  have hb : build w = some (Instr.mwait (ctlOf w)) := by
    unfold build
    rw [show w.extractLsb' 20 10 = 0x189#10 by rw [← hw, asm_op]]
    rfl
  rw [hb, ← hw]
  simp (disch := omega) only [asm, ctlOf, vmOf, VMod.bits, BitVec.extractLsb'_append_eq_of_le, BitVec.extractLsb'_append_eq_of_add_le,
      BitVec.extractLsb'_eq_self, Nat.reduceSub]

theorem cpy (k : Ctl) (d a b : BitVec 5) : Statement (.cpy k d a b) := by
  refine decodeBits_of_build ?_
  show build (asm 0#64 0#19 b a d 0x1C0#10 k 1#2) = _
  generalize hw : asm 0#64 0#19 b a d 0x1C0#10 k 1#2 = w
  have hb : build w = some (Instr.cpy (ctlOf w) (w.extractLsb' 30 5) (w.extractLsb' 35 5) (w.extractLsb' 40 5)) := by
    unfold build
    rw [show w.extractLsb' 20 10 = 0x1C0#10 by rw [← hw, asm_op]]
    rfl
  rw [hb, ← hw]
  simp (disch := omega) only [asm, ctlOf, vmOf, VMod.bits, BitVec.extractLsb'_append_eq_of_le, BitVec.extractLsb'_append_eq_of_add_le,
      BitVec.extractLsb'_eq_self, Nat.reduceSub]

theorem cpyt (k : Ctl) (d a b : BitVec 5) : Statement (.cpyt k d a b) := by
  refine decodeBits_of_build ?_
  show build (asm 0#64 0#19 b a d 0x1C1#10 k 1#2) = _
  generalize hw : asm 0#64 0#19 b a d 0x1C1#10 k 1#2 = w
  have hb : build w = some (Instr.cpyt (ctlOf w) (w.extractLsb' 30 5) (w.extractLsb' 35 5) (w.extractLsb' 40 5)) := by
    unfold build
    rw [show w.extractLsb' 20 10 = 0x1C1#10 by rw [← hw, asm_op]]
    rfl
  rw [hb, ← hw]
  simp (disch := omega) only [asm, ctlOf, vmOf, VMod.bits, BitVec.extractLsb'_append_eq_of_le, BitVec.extractLsb'_append_eq_of_add_le,
      BitVec.extractLsb'_eq_self, Nat.reduceSub]

theorem cpyu (k : Ctl) (d a b : BitVec 5) : Statement (.cpyu k d a b) := by
  refine decodeBits_of_build ?_
  show build (asm 0#64 0#19 b a d 0x1C2#10 k 1#2) = _
  generalize hw : asm 0#64 0#19 b a d 0x1C2#10 k 1#2 = w
  have hb : build w = some (Instr.cpyu (ctlOf w) (w.extractLsb' 30 5) (w.extractLsb' 35 5) (w.extractLsb' 40 5)) := by
    unfold build
    rw [show w.extractLsb' 20 10 = 0x1C2#10 by rw [← hw, asm_op]]
    rfl
  rw [hb, ← hw]
  simp (disch := omega) only [asm, ctlOf, vmOf, VMod.bits, BitVec.extractLsb'_append_eq_of_le, BitVec.extractLsb'_append_eq_of_add_le,
      BitVec.extractLsb'_eq_self, Nat.reduceSub]

theorem cpyg (k : Ctl) (d a b : BitVec 5) : Statement (.cpyg k d a b) := by
  refine decodeBits_of_build ?_
  show build (asm 0#64 0#19 b a d 0x1C3#10 k 1#2) = _
  generalize hw : asm 0#64 0#19 b a d 0x1C3#10 k 1#2 = w
  have hb : build w = some (Instr.cpyg (ctlOf w) (w.extractLsb' 30 5) (w.extractLsb' 35 5) (w.extractLsb' 40 5)) := by
    unfold build
    rw [show w.extractLsb' 20 10 = 0x1C3#10 by rw [← hw, asm_op]]
    rfl
  rw [hb, ← hw]
  simp (disch := omega) only [asm, ctlOf, vmOf, VMod.bits, BitVec.extractLsb'_append_eq_of_le, BitVec.extractLsb'_append_eq_of_add_le,
      BitVec.extractLsb'_eq_self, Nat.reduceSub]

theorem cpys (k : Ctl) (d a b : BitVec 5) : Statement (.cpys k d a b) := by
  refine decodeBits_of_build ?_
  show build (asm 0#64 0#19 b a d 0x1C4#10 k 1#2) = _
  generalize hw : asm 0#64 0#19 b a d 0x1C4#10 k 1#2 = w
  have hb : build w = some (Instr.cpys (ctlOf w) (w.extractLsb' 30 5) (w.extractLsb' 35 5) (w.extractLsb' 40 5)) := by
    unfold build
    rw [show w.extractLsb' 20 10 = 0x1C4#10 by rw [← hw, asm_op]]
    rfl
  rw [hb, ← hw]
  simp (disch := omega) only [asm, ctlOf, vmOf, VMod.bits, BitVec.extractLsb'_append_eq_of_le, BitVec.extractLsb'_append_eq_of_add_le,
      BitVec.extractLsb'_eq_self, Nat.reduceSub]

theorem cpyf (k : Ctl) (d a b : BitVec 5) : Statement (.cpyf k d a b) := by
  refine decodeBits_of_build ?_
  show build (asm 0#64 0#19 b a d 0x1C5#10 k 1#2) = _
  generalize hw : asm 0#64 0#19 b a d 0x1C5#10 k 1#2 = w
  have hb : build w = some (Instr.cpyf (ctlOf w) (w.extractLsb' 30 5) (w.extractLsb' 35 5) (w.extractLsb' 40 5)) := by
    unfold build
    rw [show w.extractLsb' 20 10 = 0x1C5#10 by rw [← hw, asm_op]]
    rfl
  rw [hb, ← hw]
  simp (disch := omega) only [asm, ctlOf, vmOf, VMod.bits, BitVec.extractLsb'_append_eq_of_le, BitVec.extractLsb'_append_eq_of_add_le,
      BitVec.extractLsb'_eq_self, Nat.reduceSub]

theorem cpyq (k : Ctl) (d a b : BitVec 5) : Statement (.cpyq k d a b) := by
  refine decodeBits_of_build ?_
  show build (asm 0#64 0#19 b a d 0x1C6#10 k 1#2) = _
  generalize hw : asm 0#64 0#19 b a d 0x1C6#10 k 1#2 = w
  have hb : build w = some (Instr.cpyq (ctlOf w) (w.extractLsb' 30 5) (w.extractLsb' 35 5) (w.extractLsb' 40 5)) := by
    unfold build
    rw [show w.extractLsb' 20 10 = 0x1C6#10 by rw [← hw, asm_op]]
    rfl
  rw [hb, ← hw]
  simp (disch := omega) only [asm, ctlOf, vmOf, VMod.bits, BitVec.extractLsb'_append_eq_of_le, BitVec.extractLsb'_append_eq_of_add_le,
      BitVec.extractLsb'_eq_self, Nat.reduceSub]

theorem accsv (k : Ctl) (d a b evl : BitVec 5) (eve : BitVec 1) (weirn : BitVec 4) (wpe : BitVec 1) : Statement (.accsv k d a b evl eve weirn wpe) := by
  refine decodeBits_of_build ?_
  show build (asm 0#64 (evl ++ eve ++ weirn ++ wpe ++ 0#8) b a d 0x1C7#10 k 1#2) = _
  generalize hw : asm 0#64 (evl ++ eve ++ weirn ++ wpe ++ 0#8) b a d 0x1C7#10 k 1#2 = w
  have hb : build w = some (Instr.accsv (ctlOf w) (w.extractLsb' 30 5) (w.extractLsb' 35 5) (w.extractLsb' 40 5) (w.extractLsb' 59 5) (w.extractLsb' 58 1) (w.extractLsb' 54 4) (w.extractLsb' 53 1)) := by
    unfold build
    rw [show w.extractLsb' 20 10 = 0x1C7#10 by rw [← hw, asm_op]]
    rfl
  rw [hb, ← hw]
  simp (disch := omega) only [asm, ctlOf, vmOf, VMod.bits, BitVec.extractLsb'_append_eq_of_le, BitVec.extractLsb'_append_eq_of_add_le,
      BitVec.extractLsb'_eq_self, Nat.reduceSub]

theorem accrs (k : Ctl) (d a b evl : BitVec 5) (eve : BitVec 1) (weirn : BitVec 4) (wpe : BitVec 1) : Statement (.accrs k d a b evl eve weirn wpe) := by
  refine decodeBits_of_build ?_
  show build (asm 0#64 (evl ++ eve ++ weirn ++ wpe ++ 0#8) b a d 0x1C8#10 k 1#2) = _
  generalize hw : asm 0#64 (evl ++ eve ++ weirn ++ wpe ++ 0#8) b a d 0x1C8#10 k 1#2 = w
  have hb : build w = some (Instr.accrs (ctlOf w) (w.extractLsb' 30 5) (w.extractLsb' 35 5) (w.extractLsb' 40 5) (w.extractLsb' 59 5) (w.extractLsb' 58 1) (w.extractLsb' 54 4) (w.extractLsb' 53 1)) := by
    unfold build
    rw [show w.extractLsb' 20 10 = 0x1C8#10 by rw [← hw, asm_op]]
    rfl
  rw [hb, ← hw]
  simp (disch := omega) only [asm, ctlOf, vmOf, VMod.bits, BitVec.extractLsb'_append_eq_of_le, BitVec.extractLsb'_append_eq_of_add_le,
      BitVec.extractLsb'_eq_self, Nat.reduceSub]

theorem xfer (k : Ctl) (d a b : BitVec 5) (n : BitVec 6) : Statement (.xfer k d a b n) := by
  refine decodeBits_of_build ?_
  show build (asm 0#64 (0#13 ++ n) b a d 0x1C9#10 k 1#2) = _
  generalize hw : asm 0#64 (0#13 ++ n) b a d 0x1C9#10 k 1#2 = w
  have hb : build w = some (Instr.xfer (ctlOf w) (w.extractLsb' 30 5) (w.extractLsb' 35 5) (w.extractLsb' 40 5) (w.extractLsb' 45 6)) := by
    unfold build
    rw [show w.extractLsb' 20 10 = 0x1C9#10 by rw [← hw, asm_op]]
    rfl
  rw [hb, ← hw]
  simp (disch := omega) only [asm, ctlOf, vmOf, VMod.bits, BitVec.extractLsb'_append_eq_of_le, BitVec.extractLsb'_append_eq_of_add_le,
      BitVec.extractLsb'_eq_self, Nat.reduceSub]

theorem xferq (k : Ctl) (d a b : BitVec 5) (n : BitVec 6) : Statement (.xferq k d a b n) := by
  refine decodeBits_of_build ?_
  show build (asm 0#64 (0#13 ++ n) b a d 0x1CA#10 k 1#2) = _
  generalize hw : asm 0#64 (0#13 ++ n) b a d 0x1CA#10 k 1#2 = w
  have hb : build w = some (Instr.xferq (ctlOf w) (w.extractLsb' 30 5) (w.extractLsb' 35 5) (w.extractLsb' 40 5) (w.extractLsb' 45 6)) := by
    unfold build
    rw [show w.extractLsb' 20 10 = 0x1CA#10 by rw [← hw, asm_op]]
    rfl
  rw [hb, ← hw]
  simp (disch := omega) only [asm, ctlOf, vmOf, VMod.bits, BitVec.extractLsb'_append_eq_of_le, BitVec.extractLsb'_append_eq_of_add_le,
      BitVec.extractLsb'_eq_self, Nat.reduceSub]

theorem weir (k : Ctl) (b : BitVec 5) (wn : BitVec 4) : Statement (.weir k b wn) := by
  refine decodeBits_of_build ?_
  show build (asm 0#64 (0#15 ++ wn) b 0#5 0#5 0x200#10 k 1#2) = _
  generalize hw : asm 0#64 (0#15 ++ wn) b 0#5 0#5 0x200#10 k 1#2 = w
  have hb : build w = some (Instr.weir (ctlOf w) (w.extractLsb' 40 5) (w.extractLsb' 45 4)) := by
    unfold build
    rw [show w.extractLsb' 20 10 = 0x200#10 by rw [← hw, asm_op]]
    rfl
  rw [hb, ← hw]
  simp (disch := omega) only [asm, ctlOf, vmOf, VMod.bits, BitVec.extractLsb'_append_eq_of_le, BitVec.extractLsb'_append_eq_of_add_le,
      BitVec.extractLsb'_eq_self, Nat.reduceSub]

theorem weira (k : Ctl) (b : BitVec 5) (wn : BitVec 4) : Statement (.weira k b wn) := by
  refine decodeBits_of_build ?_
  show build (asm 0#64 (0#15 ++ wn) b 0#5 0#5 0x201#10 k 1#2) = _
  generalize hw : asm 0#64 (0#15 ++ wn) b 0#5 0#5 0x201#10 k 1#2 = w
  have hb : build w = some (Instr.weira (ctlOf w) (w.extractLsb' 40 5) (w.extractLsb' 45 4)) := by
    unfold build
    rw [show w.extractLsb' 20 10 = 0x201#10 by rw [← hw, asm_op]]
    rfl
  rw [hb, ← hw]
  simp (disch := omega) only [asm, ctlOf, vmOf, VMod.bits, BitVec.extractLsb'_append_eq_of_le, BitVec.extractLsb'_append_eq_of_add_le,
      BitVec.extractLsb'_eq_self, Nat.reduceSub]

theorem weirw (k : Ctl) (wn : BitVec 4) : Statement (.weirw k wn) := by
  refine decodeBits_of_build ?_
  show build (asm 0#64 (0#15 ++ wn) 0#5 0#5 0#5 0x202#10 k 1#2) = _
  generalize hw : asm 0#64 (0#15 ++ wn) 0#5 0#5 0#5 0x202#10 k 1#2 = w
  have hb : build w = some (Instr.weirw (ctlOf w) (w.extractLsb' 45 4)) := by
    unfold build
    rw [show w.extractLsb' 20 10 = 0x202#10 by rw [← hw, asm_op]]
    rfl
  rw [hb, ← hw]
  simp (disch := omega) only [asm, ctlOf, vmOf, VMod.bits, BitVec.extractLsb'_append_eq_of_le, BitVec.extractLsb'_append_eq_of_add_le,
      BitVec.extractLsb'_eq_self, Nat.reduceSub]

theorem weirx (k : Ctl) (wn : BitVec 4) : Statement (.weirx k wn) := by
  refine decodeBits_of_build ?_
  show build (asm 0#64 (0#15 ++ wn) 0#5 0#5 0#5 0x203#10 k 1#2) = _
  generalize hw : asm 0#64 (0#15 ++ wn) 0#5 0#5 0#5 0x203#10 k 1#2 = w
  have hb : build w = some (Instr.weirx (ctlOf w) (w.extractLsb' 45 4)) := by
    unfold build
    rw [show w.extractLsb' 20 10 = 0x203#10 by rw [← hw, asm_op]]
    rfl
  rw [hb, ← hw]
  simp (disch := omega) only [asm, ctlOf, vmOf, VMod.bits, BitVec.extractLsb'_append_eq_of_le, BitVec.extractLsb'_append_eq_of_add_le,
      BitVec.extractLsb'_eq_self, Nat.reduceSub]

theorem evwaitLine (k : Ctl) (idx : BitVec 5) : Statement (.evwaitLine k idx) := by
  refine decodeBits_of_build ?_
  show build (asm 0#64 (0#11 ++ 0#2 ++ 0#1 ++ idx) 0#5 0#5 0#5 0x204#10 k 1#2) = _
  generalize hw : asm 0#64 (0#11 ++ 0#2 ++ 0#1 ++ idx) 0#5 0#5 0#5 0x204#10 k 1#2 = w
  have hb : build w = some (Instr.evwaitLine (ctlOf w) (w.extractLsb' 45 5)) := by
    unfold build
    rw [show w.extractLsb' 20 10 = 0x204#10 by rw [← hw, asm_op]]
    have hk : w.extractLsb' 51 2 = 0#2 := by
      subst hw
      simp (disch := omega) only [asm, BitVec.extractLsb'_append_eq_of_le, BitVec.extractLsb'_append_eq_of_add_le,
      BitVec.extractLsb'_eq_self, Nat.reduceSub]
    show (match (w.extractLsb' 51 2).toNat with
      | 0 => some (Instr.evwaitLine (ctlOf w) (w.extractLsb' 45 5))
      | 1 => some (Instr.evwaitMutex (ctlOf w) (w.extractLsb' 45 5))
      | 2 => some (Instr.evwaitBarrier (ctlOf w) (w.extractLsb' 45 5))
      | _ => none) = _
    rw [hk]
    rfl
  rw [hb, ← hw]
  simp (disch := omega) only [asm, ctlOf, vmOf, VMod.bits, BitVec.extractLsb'_append_eq_of_le, BitVec.extractLsb'_append_eq_of_add_le,
      BitVec.extractLsb'_eq_self, Nat.reduceSub]

theorem evwaitMutex (k : Ctl) (idx : BitVec 5) : Statement (.evwaitMutex k idx) := by
  refine decodeBits_of_build ?_
  show build (asm 0#64 (0#11 ++ 1#2 ++ 0#1 ++ idx) 0#5 0#5 0#5 0x204#10 k 1#2) = _
  generalize hw : asm 0#64 (0#11 ++ 1#2 ++ 0#1 ++ idx) 0#5 0#5 0#5 0x204#10 k 1#2 = w
  have hb : build w = some (Instr.evwaitMutex (ctlOf w) (w.extractLsb' 45 5)) := by
    unfold build
    rw [show w.extractLsb' 20 10 = 0x204#10 by rw [← hw, asm_op]]
    have hk : w.extractLsb' 51 2 = 1#2 := by
      subst hw
      simp (disch := omega) only [asm, BitVec.extractLsb'_append_eq_of_le, BitVec.extractLsb'_append_eq_of_add_le,
      BitVec.extractLsb'_eq_self, Nat.reduceSub]
    show (match (w.extractLsb' 51 2).toNat with
      | 0 => some (Instr.evwaitLine (ctlOf w) (w.extractLsb' 45 5))
      | 1 => some (Instr.evwaitMutex (ctlOf w) (w.extractLsb' 45 5))
      | 2 => some (Instr.evwaitBarrier (ctlOf w) (w.extractLsb' 45 5))
      | _ => none) = _
    rw [hk]
    rfl
  rw [hb, ← hw]
  simp (disch := omega) only [asm, ctlOf, vmOf, VMod.bits, BitVec.extractLsb'_append_eq_of_le, BitVec.extractLsb'_append_eq_of_add_le,
      BitVec.extractLsb'_eq_self, Nat.reduceSub]

theorem evwaitBarrier (k : Ctl) (idx : BitVec 5) : Statement (.evwaitBarrier k idx) := by
  refine decodeBits_of_build ?_
  show build (asm 0#64 (0#11 ++ 2#2 ++ 0#1 ++ idx) 0#5 0#5 0#5 0x204#10 k 1#2) = _
  generalize hw : asm 0#64 (0#11 ++ 2#2 ++ 0#1 ++ idx) 0#5 0#5 0#5 0x204#10 k 1#2 = w
  have hb : build w = some (Instr.evwaitBarrier (ctlOf w) (w.extractLsb' 45 5)) := by
    unfold build
    rw [show w.extractLsb' 20 10 = 0x204#10 by rw [← hw, asm_op]]
    have hk : w.extractLsb' 51 2 = 2#2 := by
      subst hw
      simp (disch := omega) only [asm, BitVec.extractLsb'_append_eq_of_le, BitVec.extractLsb'_append_eq_of_add_le,
      BitVec.extractLsb'_eq_self, Nat.reduceSub]
    show (match (w.extractLsb' 51 2).toNat with
      | 0 => some (Instr.evwaitLine (ctlOf w) (w.extractLsb' 45 5))
      | 1 => some (Instr.evwaitMutex (ctlOf w) (w.extractLsb' 45 5))
      | 2 => some (Instr.evwaitBarrier (ctlOf w) (w.extractLsb' 45 5))
      | _ => none) = _
    rw [hk]
    rfl
  rw [hb, ← hw]
  simp (disch := omega) only [asm, ctlOf, vmOf, VMod.bits, BitVec.extractLsb'_append_eq_of_le, BitVec.extractLsb'_append_eq_of_add_le,
      BitVec.extractLsb'_eq_self, Nat.reduceSub]

theorem evsigLine (k : Ctl) (a : BitVec 5) (far : BitVec 1) (idx : BitVec 5) : Statement (.evsigLine k a far idx) := by
  refine decodeBits_of_build ?_
  show build (asm 0#64 (0#11 ++ 0#2 ++ far ++ idx) 0#5 a 0#5 0x205#10 k 1#2) = _
  generalize hw : asm 0#64 (0#11 ++ 0#2 ++ far ++ idx) 0#5 a 0#5 0x205#10 k 1#2 = w
  have hb : build w = some (Instr.evsigLine (ctlOf w) (w.extractLsb' 35 5) (w.extractLsb' 50 1) (w.extractLsb' 45 5)) := by
    unfold build
    rw [show w.extractLsb' 20 10 = 0x205#10 by rw [← hw, asm_op]]
    have hk : w.extractLsb' 51 2 = 0#2 := by
      subst hw
      simp (disch := omega) only [asm, BitVec.extractLsb'_append_eq_of_le, BitVec.extractLsb'_append_eq_of_add_le,
      BitVec.extractLsb'_eq_self, Nat.reduceSub]
    show (match (w.extractLsb' 51 2).toNat with
      | 0 => some (Instr.evsigLine (ctlOf w) (w.extractLsb' 35 5) (w.extractLsb' 50 1) (w.extractLsb' 45 5))
      | 1 => some (Instr.evsigMutex (ctlOf w) (w.extractLsb' 45 5))
      | _ => none) = _
    rw [hk]
    rfl
  rw [hb, ← hw]
  simp (disch := omega) only [asm, ctlOf, vmOf, VMod.bits, BitVec.extractLsb'_append_eq_of_le, BitVec.extractLsb'_append_eq_of_add_le,
      BitVec.extractLsb'_eq_self, Nat.reduceSub]

theorem evsigMutex (k : Ctl) (idx : BitVec 5) : Statement (.evsigMutex k idx) := by
  refine decodeBits_of_build ?_
  show build (asm 0#64 (0#11 ++ 1#2 ++ 0#1 ++ idx) 0#5 0#5 0#5 0x205#10 k 1#2) = _
  generalize hw : asm 0#64 (0#11 ++ 1#2 ++ 0#1 ++ idx) 0#5 0#5 0#5 0x205#10 k 1#2 = w
  have hb : build w = some (Instr.evsigMutex (ctlOf w) (w.extractLsb' 45 5)) := by
    unfold build
    rw [show w.extractLsb' 20 10 = 0x205#10 by rw [← hw, asm_op]]
    have hk : w.extractLsb' 51 2 = 1#2 := by
      subst hw
      simp (disch := omega) only [asm, BitVec.extractLsb'_append_eq_of_le, BitVec.extractLsb'_append_eq_of_add_le,
      BitVec.extractLsb'_eq_self, Nat.reduceSub]
    show (match (w.extractLsb' 51 2).toNat with
      | 0 => some (Instr.evsigLine (ctlOf w) (w.extractLsb' 35 5) (w.extractLsb' 50 1) (w.extractLsb' 45 5))
      | 1 => some (Instr.evsigMutex (ctlOf w) (w.extractLsb' 45 5))
      | _ => none) = _
    rw [hk]
    rfl
  rw [hb, ← hw]
  simp (disch := omega) only [asm, ctlOf, vmOf, VMod.bits, BitVec.extractLsb'_append_eq_of_le, BitVec.extractLsb'_append_eq_of_add_le,
      BitVec.extractLsb'_eq_self, Nat.reduceSub]

theorem tlwaitMem (k : Ctl) (a b : BitVec 5) : Statement (.tlwaitMem k a b) := by
  refine decodeBits_of_build ?_
  show build (asm 0#64 (0#11 ++ 0#2 ++ 0#6) b a 0#5 0x206#10 k 1#2) = _
  generalize hw : asm 0#64 (0#11 ++ 0#2 ++ 0#6) b a 0#5 0x206#10 k 1#2 = w
  have hb : build w = some (Instr.tlwaitMem (ctlOf w) (w.extractLsb' 35 5) (w.extractLsb' 40 5)) := by
    unfold build
    rw [show w.extractLsb' 20 10 = 0x206#10 by rw [← hw, asm_op]]
    have hk : w.extractLsb' 51 2 = 0#2 := by
      subst hw
      simp (disch := omega) only [asm, BitVec.extractLsb'_append_eq_of_le, BitVec.extractLsb'_append_eq_of_add_le,
      BitVec.extractLsb'_eq_self, Nat.reduceSub]
    show (match (w.extractLsb' 51 2).toNat with
      | 0 => some (Instr.tlwaitMem (ctlOf w) (w.extractLsb' 35 5) (w.extractLsb' 40 5))
      | 1 => some (Instr.tlwaitSluice (ctlOf w) (w.extractLsb' 40 5))
      | 2 => some (Instr.tlwaitMillrace (ctlOf w) (w.extractLsb' 40 5) (w.extractLsb' 45 6))
      | 3 => some (Instr.tlwaitUpdate (ctlOf w) (w.extractLsb' 40 5))
      | _ => none) = _
    rw [hk]
    rfl
  rw [hb, ← hw]
  simp (disch := omega) only [asm, ctlOf, vmOf, VMod.bits, BitVec.extractLsb'_append_eq_of_le, BitVec.extractLsb'_append_eq_of_add_le,
      BitVec.extractLsb'_eq_self, Nat.reduceSub]

theorem tlwaitSluice (k : Ctl) (b : BitVec 5) : Statement (.tlwaitSluice k b) := by
  refine decodeBits_of_build ?_
  show build (asm 0#64 (0#11 ++ 1#2 ++ 0#6) b 0#5 0#5 0x206#10 k 1#2) = _
  generalize hw : asm 0#64 (0#11 ++ 1#2 ++ 0#6) b 0#5 0#5 0x206#10 k 1#2 = w
  have hb : build w = some (Instr.tlwaitSluice (ctlOf w) (w.extractLsb' 40 5)) := by
    unfold build
    rw [show w.extractLsb' 20 10 = 0x206#10 by rw [← hw, asm_op]]
    have hk : w.extractLsb' 51 2 = 1#2 := by
      subst hw
      simp (disch := omega) only [asm, BitVec.extractLsb'_append_eq_of_le, BitVec.extractLsb'_append_eq_of_add_le,
      BitVec.extractLsb'_eq_self, Nat.reduceSub]
    show (match (w.extractLsb' 51 2).toNat with
      | 0 => some (Instr.tlwaitMem (ctlOf w) (w.extractLsb' 35 5) (w.extractLsb' 40 5))
      | 1 => some (Instr.tlwaitSluice (ctlOf w) (w.extractLsb' 40 5))
      | 2 => some (Instr.tlwaitMillrace (ctlOf w) (w.extractLsb' 40 5) (w.extractLsb' 45 6))
      | 3 => some (Instr.tlwaitUpdate (ctlOf w) (w.extractLsb' 40 5))
      | _ => none) = _
    rw [hk]
    rfl
  rw [hb, ← hw]
  simp (disch := omega) only [asm, ctlOf, vmOf, VMod.bits, BitVec.extractLsb'_append_eq_of_le, BitVec.extractLsb'_append_eq_of_add_le,
      BitVec.extractLsb'_eq_self, Nat.reduceSub]

theorem tlwaitMillrace (k : Ctl) (b : BitVec 5) (idx : BitVec 6) : Statement (.tlwaitMillrace k b idx) := by
  refine decodeBits_of_build ?_
  show build (asm 0#64 (0#11 ++ 2#2 ++ idx) b 0#5 0#5 0x206#10 k 1#2) = _
  generalize hw : asm 0#64 (0#11 ++ 2#2 ++ idx) b 0#5 0#5 0x206#10 k 1#2 = w
  have hb : build w = some (Instr.tlwaitMillrace (ctlOf w) (w.extractLsb' 40 5) (w.extractLsb' 45 6)) := by
    unfold build
    rw [show w.extractLsb' 20 10 = 0x206#10 by rw [← hw, asm_op]]
    have hk : w.extractLsb' 51 2 = 2#2 := by
      subst hw
      simp (disch := omega) only [asm, BitVec.extractLsb'_append_eq_of_le, BitVec.extractLsb'_append_eq_of_add_le,
      BitVec.extractLsb'_eq_self, Nat.reduceSub]
    show (match (w.extractLsb' 51 2).toNat with
      | 0 => some (Instr.tlwaitMem (ctlOf w) (w.extractLsb' 35 5) (w.extractLsb' 40 5))
      | 1 => some (Instr.tlwaitSluice (ctlOf w) (w.extractLsb' 40 5))
      | 2 => some (Instr.tlwaitMillrace (ctlOf w) (w.extractLsb' 40 5) (w.extractLsb' 45 6))
      | 3 => some (Instr.tlwaitUpdate (ctlOf w) (w.extractLsb' 40 5))
      | _ => none) = _
    rw [hk]
    rfl
  rw [hb, ← hw]
  simp (disch := omega) only [asm, ctlOf, vmOf, VMod.bits, BitVec.extractLsb'_append_eq_of_le, BitVec.extractLsb'_append_eq_of_add_le,
      BitVec.extractLsb'_eq_self, Nat.reduceSub]

theorem tlwaitUpdate (k : Ctl) (b : BitVec 5) : Statement (.tlwaitUpdate k b) := by
  refine decodeBits_of_build ?_
  show build (asm 0#64 (0#11 ++ 3#2 ++ 0#6) b 0#5 0#5 0x206#10 k 1#2) = _
  generalize hw : asm 0#64 (0#11 ++ 3#2 ++ 0#6) b 0#5 0#5 0x206#10 k 1#2 = w
  have hb : build w = some (Instr.tlwaitUpdate (ctlOf w) (w.extractLsb' 40 5)) := by
    unfold build
    rw [show w.extractLsb' 20 10 = 0x206#10 by rw [← hw, asm_op]]
    have hk : w.extractLsb' 51 2 = 3#2 := by
      subst hw
      simp (disch := omega) only [asm, BitVec.extractLsb'_append_eq_of_le, BitVec.extractLsb'_append_eq_of_add_le,
      BitVec.extractLsb'_eq_self, Nat.reduceSub]
    show (match (w.extractLsb' 51 2).toNat with
      | 0 => some (Instr.tlwaitMem (ctlOf w) (w.extractLsb' 35 5) (w.extractLsb' 40 5))
      | 1 => some (Instr.tlwaitSluice (ctlOf w) (w.extractLsb' 40 5))
      | 2 => some (Instr.tlwaitMillrace (ctlOf w) (w.extractLsb' 40 5) (w.extractLsb' 45 6))
      | 3 => some (Instr.tlwaitUpdate (ctlOf w) (w.extractLsb' 40 5))
      | _ => none) = _
    rw [hk]
    rfl
  rw [hb, ← hw]
  simp (disch := omega) only [asm, ctlOf, vmOf, VMod.bits, BitVec.extractLsb'_append_eq_of_le, BitVec.extractLsb'_append_eq_of_add_le,
      BitVec.extractLsb'_eq_self, Nat.reduceSub]

theorem tlsig (k : Ctl) (a b : BitVec 5) : Statement (.tlsig k a b) := by
  refine decodeBits_of_build ?_
  show build (asm 0#64 (0#11 ++ 0#2 ++ 0#6) b a 0#5 0x207#10 k 1#2) = _
  generalize hw : asm 0#64 (0#11 ++ 0#2 ++ 0#6) b a 0#5 0x207#10 k 1#2 = w
  have hb : build w = some (Instr.tlsig (ctlOf w) (w.extractLsb' 35 5) (w.extractLsb' 40 5)) := by
    unfold build
    rw [show w.extractLsb' 20 10 = 0x207#10 by rw [← hw, asm_op]]
    rfl
  rw [hb, ← hw]
  simp (disch := omega) only [asm, ctlOf, vmOf, VMod.bits, BitVec.extractLsb'_append_eq_of_le, BitVec.extractLsb'_append_eq_of_add_le,
      BitVec.extractLsb'_eq_self, Nat.reduceSub]

theorem comm (k : Ctl) : Statement (.comm k) := by
  refine decodeBits_of_build ?_
  show build (asm 0#64 0#19 0#5 0#5 0#5 0x208#10 k 1#2) = _
  generalize hw : asm 0#64 0#19 0#5 0#5 0#5 0x208#10 k 1#2 = w
  have hb : build w = some (Instr.comm (ctlOf w)) := by
    unfold build
    rw [show w.extractLsb' 20 10 = 0x208#10 by rw [← hw, asm_op]]
    rfl
  rw [hb, ← hw]
  simp (disch := omega) only [asm, ctlOf, vmOf, VMod.bits, BitVec.extractLsb'_append_eq_of_le, BitVec.extractLsb'_append_eq_of_add_le,
      BitVec.extractLsb'_eq_self, Nat.reduceSub]

theorem sendf (k : Ctl) (b f : BitVec 5) : Statement (.sendf k b f) := by
  refine decodeBits_of_build ?_
  show build (asm 0#64 (0#14 ++ f) b 0#5 0#5 0x209#10 k 1#2) = _
  generalize hw : asm 0#64 (0#14 ++ f) b 0#5 0#5 0x209#10 k 1#2 = w
  have hb : build w = some (Instr.sendf (ctlOf w) (w.extractLsb' 40 5) (w.extractLsb' 45 5)) := by
    unfold build
    rw [show w.extractLsb' 20 10 = 0x209#10 by rw [← hw, asm_op]]
    rfl
  rw [hb, ← hw]
  simp (disch := omega) only [asm, ctlOf, vmOf, VMod.bits, BitVec.extractLsb'_append_eq_of_le, BitVec.extractLsb'_append_eq_of_add_le,
      BitVec.extractLsb'_eq_self, Nat.reduceSub]

theorem anew (k : Ctl) (d : BitVec 5) : Statement (.anew k d) := by
  refine decodeBits_of_build ?_
  show build (asm 0#64 (0#13 ++ 0#1 ++ 0#5) 0#5 0#5 d 0x240#10 k 1#2) = _
  generalize hw : asm 0#64 (0#13 ++ 0#1 ++ 0#5) 0#5 0#5 d 0x240#10 k 1#2 = w
  have hb : build w = some (Instr.anew (ctlOf w) (w.extractLsb' 30 5)) := by
    unfold build
    rw [show w.extractLsb' 20 10 = 0x240#10 by rw [← hw, asm_op]]
    have hk : w.extractLsb' 50 1 = 0#1 := by
      subst hw
      simp (disch := omega) only [asm, BitVec.extractLsb'_append_eq_of_le, BitVec.extractLsb'_append_eq_of_add_le,
      BitVec.extractLsb'_eq_self, Nat.reduceSub]
    show (match (w.extractLsb' 50 1).toNat with
      | 0 => some (Instr.anew (ctlOf w) (w.extractLsb' 30 5))
      | 1 => some (Instr.anewTx (ctlOf w) (w.extractLsb' 30 5) (w.extractLsb' 46 4))
      | _ => none) = _
    rw [hk]
    rfl
  rw [hb, ← hw]
  simp (disch := omega) only [asm, ctlOf, vmOf, VMod.bits, BitVec.extractLsb'_append_eq_of_le, BitVec.extractLsb'_append_eq_of_add_le,
      BitVec.extractLsb'_eq_self, Nat.reduceSub]

theorem anewTx (k : Ctl) (d : BitVec 5) (link : BitVec 4) : Statement (.anewTx k d link) := by
  refine decodeBits_of_build ?_
  show build (asm 0#64 (0#13 ++ 1#1 ++ link ++ 0#1) 0#5 0#5 d 0x240#10 k 1#2) = _
  generalize hw : asm 0#64 (0#13 ++ 1#1 ++ link ++ 0#1) 0#5 0#5 d 0x240#10 k 1#2 = w
  have hb : build w = some (Instr.anewTx (ctlOf w) (w.extractLsb' 30 5) (w.extractLsb' 46 4)) := by
    unfold build
    rw [show w.extractLsb' 20 10 = 0x240#10 by rw [← hw, asm_op]]
    have hk : w.extractLsb' 50 1 = 1#1 := by
      subst hw
      simp (disch := omega) only [asm, BitVec.extractLsb'_append_eq_of_le, BitVec.extractLsb'_append_eq_of_add_le,
      BitVec.extractLsb'_eq_self, Nat.reduceSub]
    show (match (w.extractLsb' 50 1).toNat with
      | 0 => some (Instr.anew (ctlOf w) (w.extractLsb' 30 5))
      | 1 => some (Instr.anewTx (ctlOf w) (w.extractLsb' 30 5) (w.extractLsb' 46 4))
      | _ => none) = _
    rw [hk]
    rfl
  rw [hb, ← hw]
  simp (disch := omega) only [asm, ctlOf, vmOf, VMod.bits, BitVec.extractLsb'_append_eq_of_le, BitVec.extractLsb'_append_eq_of_add_le,
      BitVec.extractLsb'_eq_self, Nat.reduceSub]

theorem lapply (k : Ctl) (d a b : BitVec 5) (vm : VMod) (v : BitVec 1) : Statement (.lapply k d a b vm v) := by
  refine decodeBits_of_build ?_
  show build (asm 0#64 (vm.bits ++ v ++ 0#5) b a d 0x241#10 k 1#2) = _
  generalize hw : asm 0#64 (vm.bits ++ v ++ 0#5) b a d 0x241#10 k 1#2 = w
  have hb : build w = some (Instr.lapply (ctlOf w) (w.extractLsb' 30 5) (w.extractLsb' 35 5) (w.extractLsb' 40 5) (vmOf w) (w.extractLsb' 50 1)) := by
    unfold build
    rw [show w.extractLsb' 20 10 = 0x241#10 by rw [← hw, asm_op]]
    rfl
  rw [hb, ← hw]
  simp (disch := omega) only [asm, ctlOf, vmOf, VMod.bits, BitVec.extractLsb'_append_eq_of_le, BitVec.extractLsb'_append_eq_of_add_le,
      BitVec.extractLsb'_eq_self, Nat.reduceSub]

theorem amb (k : Ctl) (a : BitVec 5) : Statement (.amb k a) := by
  refine decodeBits_of_build ?_
  show build (asm 0#64 0#19 0#5 a 0#5 0x242#10 k 1#2) = _
  generalize hw : asm 0#64 0#19 0#5 a 0#5 0x242#10 k 1#2 = w
  have hb : build w = some (Instr.amb (ctlOf w) (w.extractLsb' 35 5)) := by
    unfold build
    rw [show w.extractLsb' 20 10 = 0x242#10 by rw [← hw, asm_op]]
    rfl
  rw [hb, ← hw]
  simp (disch := omega) only [asm, ctlOf, vmOf, VMod.bits, BitVec.extractLsb'_append_eq_of_le, BitVec.extractLsb'_append_eq_of_add_le,
      BitVec.extractLsb'_eq_self, Nat.reduceSub]

theorem nogood (k : Ctl) (a : BitVec 5) : Statement (.nogood k a) := by
  refine decodeBits_of_build ?_
  show build (asm 0#64 0#19 0#5 a 0#5 0x243#10 k 1#2) = _
  generalize hw : asm 0#64 0#19 0#5 a 0#5 0x243#10 k 1#2 = w
  have hb : build w = some (Instr.nogood (ctlOf w) (w.extractLsb' 35 5)) := by
    unfold build
    rw [show w.extractLsb' 20 10 = 0x243#10 by rw [← hw, asm_op]]
    rfl
  rw [hb, ← hw]
  simp (disch := omega) only [asm, ctlOf, vmOf, VMod.bits, BitVec.extractLsb'_append_eq_of_le, BitVec.extractLsb'_append_eq_of_add_le,
      BitVec.extractLsb'_eq_self, Nat.reduceSub]

theorem assert (k : Ctl) (d a : BitVec 5) : Statement (.assert k d a) := by
  refine decodeBits_of_build ?_
  show build (asm 0#64 0#19 0#5 a d 0x244#10 k 1#2) = _
  generalize hw : asm 0#64 0#19 0#5 a d 0x244#10 k 1#2 = w
  have hb : build w = some (Instr.assert (ctlOf w) (w.extractLsb' 30 5) (w.extractLsb' 35 5)) := by
    unfold build
    rw [show w.extractLsb' 20 10 = 0x244#10 by rw [← hw, asm_op]]
    rfl
  rw [hb, ← hw]
  simp (disch := omega) only [asm, ctlOf, vmOf, VMod.bits, BitVec.extractLsb'_append_eq_of_le, BitVec.extractLsb'_append_eq_of_add_le,
      BitVec.extractLsb'_eq_self, Nat.reduceSub]

theorem retract (k : Ctl) (a : BitVec 5) : Statement (.retract k a) := by
  refine decodeBits_of_build ?_
  show build (asm 0#64 0#19 0#5 a 0#5 0x245#10 k 1#2) = _
  generalize hw : asm 0#64 0#19 0#5 a 0#5 0x245#10 k 1#2 = w
  have hb : build w = some (Instr.retract (ctlOf w) (w.extractLsb' 35 5)) := by
    unfold build
    rw [show w.extractLsb' 20 10 = 0x245#10 by rw [← hw, asm_op]]
    rfl
  rw [hb, ← hw]
  simp (disch := omega) only [asm, ctlOf, vmOf, VMod.bits, BitVec.extractLsb'_append_eq_of_le, BitVec.extractLsb'_append_eq_of_add_le,
      BitVec.extractLsb'_eq_self, Nat.reduceSub]

theorem vjoin (k : Ctl) (d a b : BitVec 5) (vm : VMod) : Statement (.vjoin k d a b vm) := by
  refine decodeBits_of_build ?_
  show build (asm 0#64 (vm.bits ++ 0#6) b a d 0x246#10 k 1#2) = _
  generalize hw : asm 0#64 (vm.bits ++ 0#6) b a d 0x246#10 k 1#2 = w
  have hb : build w = some (Instr.vjoin (ctlOf w) (w.extractLsb' 30 5) (w.extractLsb' 35 5) (w.extractLsb' 40 5) (vmOf w)) := by
    unfold build
    rw [show w.extractLsb' 20 10 = 0x246#10 by rw [← hw, asm_op]]
    rfl
  rw [hb, ← hw]
  simp (disch := omega) only [asm, ctlOf, vmOf, VMod.bits, BitVec.extractLsb'_append_eq_of_le, BitVec.extractLsb'_append_eq_of_add_le,
      BitVec.extractLsb'_eq_self, Nat.reduceSub]

theorem lget (k : Ctl) (d a : BitVec 5) (vm : VMod) (v : BitVec 1) : Statement (.lget k d a vm v) := by
  refine decodeBits_of_build ?_
  show build (asm 0#64 (vm.bits ++ v ++ 0#5) 0#5 a d 0x247#10 k 1#2) = _
  generalize hw : asm 0#64 (vm.bits ++ v ++ 0#5) 0#5 a d 0x247#10 k 1#2 = w
  have hb : build w = some (Instr.lget (ctlOf w) (w.extractLsb' 30 5) (w.extractLsb' 35 5) (vmOf w) (w.extractLsb' 50 1)) := by
    unfold build
    rw [show w.extractLsb' 20 10 = 0x247#10 by rw [← hw, asm_op]]
    rfl
  rw [hb, ← hw]
  simp (disch := omega) only [asm, ctlOf, vmOf, VMod.bits, BitVec.extractLsb'_append_eq_of_le, BitVec.extractLsb'_append_eq_of_add_le,
      BitVec.extractLsb'_eq_self, Nat.reduceSub]

theorem lstrip (k : Ctl) (d a : BitVec 5) (vm : VMod) (v : BitVec 1) : Statement (.lstrip k d a vm v) := by
  refine decodeBits_of_build ?_
  show build (asm 0#64 (vm.bits ++ v ++ 0#5) 0#5 a d 0x248#10 k 1#2) = _
  generalize hw : asm 0#64 (vm.bits ++ v ++ 0#5) 0#5 a d 0x248#10 k 1#2 = w
  have hb : build w = some (Instr.lstrip (ctlOf w) (w.extractLsb' 30 5) (w.extractLsb' 35 5) (vmOf w) (w.extractLsb' 50 1)) := by
    unfold build
    rw [show w.extractLsb' 20 10 = 0x248#10 by rw [← hw, asm_op]]
    rfl
  rw [hb, ← hw]
  simp (disch := omega) only [asm, ctlOf, vmOf, VMod.bits, BitVec.extractLsb'_append_eq_of_le, BitVec.extractLsb'_append_eq_of_add_le,
      BitVec.extractLsb'_eq_self, Nat.reduceSub]

theorem lread (k : Ctl) (d a : BitVec 5) (n : BitVec 2) : Statement (.lread k d a n) := by
  refine decodeBits_of_build ?_
  show build (asm 0#64 (0#17 ++ n) 0#5 a d 0x249#10 k 1#2) = _
  generalize hw : asm 0#64 (0#17 ++ n) 0#5 a d 0x249#10 k 1#2 = w
  have hb : build w = some (Instr.lread (ctlOf w) (w.extractLsb' 30 5) (w.extractLsb' 35 5) (w.extractLsb' 45 2)) := by
    unfold build
    rw [show w.extractLsb' 20 10 = 0x249#10 by rw [← hw, asm_op]]
    rfl
  rw [hb, ← hw]
  simp (disch := omega) only [asm, ctlOf, vmOf, VMod.bits, BitVec.extractLsb'_append_eq_of_le, BitVec.extractLsb'_append_eq_of_add_le,
      BitVec.extractLsb'_eq_self, Nat.reduceSub]

theorem ltest (k : Ctl) (d a : BitVec 5) (vm : VMod) (v : BitVec 1) (cond : BitVec 3) : Statement (.ltest k d a vm v cond) := by
  refine decodeBits_of_build ?_
  show build (asm 0#64 (vm.bits ++ v ++ 0#2 ++ cond) 0#5 a d 0x24A#10 k 1#2) = _
  generalize hw : asm 0#64 (vm.bits ++ v ++ 0#2 ++ cond) 0#5 a d 0x24A#10 k 1#2 = w
  have hb : build w = some (Instr.ltest (ctlOf w) (w.extractLsb' 30 5) (w.extractLsb' 35 5) (vmOf w) (w.extractLsb' 50 1) (w.extractLsb' 45 3)) := by
    unfold build
    rw [show w.extractLsb' 20 10 = 0x24A#10 by rw [← hw, asm_op]]
    rfl
  rw [hb, ← hw]
  simp (disch := omega) only [asm, ctlOf, vmOf, VMod.bits, BitVec.extractLsb'_append_eq_of_le, BitVec.extractLsb'_append_eq_of_add_le,
      BitVec.extractLsb'_eq_self, Nat.reduceSub]

theorem lfence (k : Ctl) : Statement (.lfence k) := by
  refine decodeBits_of_build ?_
  show build (asm 0#64 0#19 0#5 0#5 0#5 0x24B#10 k 1#2) = _
  generalize hw : asm 0#64 0#19 0#5 0#5 0#5 0x24B#10 k 1#2 = w
  have hb : build w = some (Instr.lfence (ctlOf w)) := by
    unfold build
    rw [show w.extractLsb' 20 10 = 0x24B#10 by rw [← hw, asm_op]]
    rfl
  rw [hb, ← hw]
  simp (disch := omega) only [asm, ctlOf, vmOf, VMod.bits, BitVec.extractLsb'_append_eq_of_le, BitVec.extractLsb'_append_eq_of_add_le,
      BitVec.extractLsb'_eq_self, Nat.reduceSub]

theorem settle (k : Ctl) (d : BitVec 5) : Statement (.settle k d) := by
  refine decodeBits_of_build ?_
  show build (asm 0#64 0#19 0#5 0#5 d 0x24C#10 k 1#2) = _
  generalize hw : asm 0#64 0#19 0#5 0#5 d 0x24C#10 k 1#2 = w
  have hb : build w = some (Instr.settle (ctlOf w) (w.extractLsb' 30 5)) := by
    unfold build
    rw [show w.extractLsb' 20 10 = 0x24C#10 by rw [← hw, asm_op]]
    rfl
  rw [hb, ← hw]
  simp (disch := omega) only [asm, ctlOf, vmOf, VMod.bits, BitVec.extractLsb'_append_eq_of_le, BitVec.extractLsb'_append_eq_of_add_le,
      BitVec.extractLsb'_eq_self, Nat.reduceSub]

theorem lscrub (k : Ctl) (d a evl : BitVec 5) (eve : BitVec 1) (weirn : BitVec 4) (wpe : BitVec 1) : Statement (.lscrub k d a evl eve weirn wpe) := by
  refine decodeBits_of_build ?_
  show build (asm 0#64 (evl ++ eve ++ weirn ++ wpe ++ 0#8) 0#5 a d 0x24D#10 k 1#2) = _
  generalize hw : asm 0#64 (evl ++ eve ++ weirn ++ wpe ++ 0#8) 0#5 a d 0x24D#10 k 1#2 = w
  have hb : build w = some (Instr.lscrub (ctlOf w) (w.extractLsb' 30 5) (w.extractLsb' 35 5) (w.extractLsb' 59 5) (w.extractLsb' 58 1) (w.extractLsb' 54 4) (w.extractLsb' 53 1)) := by
    unfold build
    rw [show w.extractLsb' 20 10 = 0x24D#10 by rw [← hw, asm_op]]
    rfl
  rw [hb, ← hw]
  simp (disch := omega) only [asm, ctlOf, vmOf, VMod.bits, BitVec.extractLsb'_append_eq_of_le, BitVec.extractLsb'_append_eq_of_add_le,
      BitVec.extractLsb'_eq_self, Nat.reduceSub]

theorem srreg (k : Ctl) (a b : BitVec 5) : Statement (.srreg k a b) := by
  refine decodeBits_of_build ?_
  show build (asm 0#64 0#19 b a 0#5 0x280#10 k 1#2) = _
  generalize hw : asm 0#64 0#19 b a 0#5 0x280#10 k 1#2 = w
  have hb : build w = some (Instr.srreg (ctlOf w) (w.extractLsb' 35 5) (w.extractLsb' 40 5)) := by
    unfold build
    rw [show w.extractLsb' 20 10 = 0x280#10 by rw [← hw, asm_op]]
    rfl
  rw [hb, ← hw]
  simp (disch := omega) only [asm, ctlOf, vmOf, VMod.bits, BitVec.extractLsb'_append_eq_of_le, BitVec.extractLsb'_append_eq_of_add_le,
      BitVec.extractLsb'_eq_self, Nat.reduceSub]

theorem srvFinish (k : Ctl) (n : BitVec 4) : Statement (.srvFinish k n) := by
  refine decodeBits_of_build ?_
  show build (asm 0#64 (0#13 ++ n ++ 0#2) 0#5 0#5 0#5 0x281#10 k 1#2) = _
  generalize hw : asm 0#64 (0#13 ++ n ++ 0#2) 0#5 0#5 0#5 0x281#10 k 1#2 = w
  have hb : build w = some (Instr.srvFinish (ctlOf w) (w.extractLsb' 47 4)) := by
    unfold build
    rw [show w.extractLsb' 20 10 = 0x281#10 by rw [← hw, asm_op]]
    have hk : w.extractLsb' 45 2 = 0#2 := by
      subst hw
      simp (disch := omega) only [asm, BitVec.extractLsb'_append_eq_of_le, BitVec.extractLsb'_append_eq_of_add_le,
      BitVec.extractLsb'_eq_self, Nat.reduceSub]
    show (match (w.extractLsb' 45 2).toNat with
      | 0 => some (Instr.srvFinish (ctlOf w) (w.extractLsb' 47 4))
      | 1 => some (Instr.srvSummarise (ctlOf w))
      | 2 => some (Instr.srvRefuse (ctlOf w))
      | _ => none) = _
    rw [hk]
    rfl
  rw [hb, ← hw]
  simp (disch := omega) only [asm, ctlOf, vmOf, VMod.bits, BitVec.extractLsb'_append_eq_of_le, BitVec.extractLsb'_append_eq_of_add_le,
      BitVec.extractLsb'_eq_self, Nat.reduceSub]

theorem srvSummarise (k : Ctl) : Statement (.srvSummarise k) := by
  refine decodeBits_of_build ?_
  show build (asm 0#64 (0#17 ++ 1#2) 0#5 0#5 0#5 0x281#10 k 1#2) = _
  generalize hw : asm 0#64 (0#17 ++ 1#2) 0#5 0#5 0#5 0x281#10 k 1#2 = w
  have hb : build w = some (Instr.srvSummarise (ctlOf w)) := by
    unfold build
    rw [show w.extractLsb' 20 10 = 0x281#10 by rw [← hw, asm_op]]
    have hk : w.extractLsb' 45 2 = 1#2 := by
      subst hw
      simp (disch := omega) only [asm, BitVec.extractLsb'_append_eq_of_le, BitVec.extractLsb'_append_eq_of_add_le,
      BitVec.extractLsb'_eq_self, Nat.reduceSub]
    show (match (w.extractLsb' 45 2).toNat with
      | 0 => some (Instr.srvFinish (ctlOf w) (w.extractLsb' 47 4))
      | 1 => some (Instr.srvSummarise (ctlOf w))
      | 2 => some (Instr.srvRefuse (ctlOf w))
      | _ => none) = _
    rw [hk]
    rfl
  rw [hb, ← hw]
  simp (disch := omega) only [asm, ctlOf, vmOf, VMod.bits, BitVec.extractLsb'_append_eq_of_le, BitVec.extractLsb'_append_eq_of_add_le,
      BitVec.extractLsb'_eq_self, Nat.reduceSub]

theorem srvRefuse (k : Ctl) : Statement (.srvRefuse k) := by
  refine decodeBits_of_build ?_
  show build (asm 0#64 (0#17 ++ 2#2) 0#5 0#5 0#5 0x281#10 k 1#2) = _
  generalize hw : asm 0#64 (0#17 ++ 2#2) 0#5 0#5 0#5 0x281#10 k 1#2 = w
  have hb : build w = some (Instr.srvRefuse (ctlOf w)) := by
    unfold build
    rw [show w.extractLsb' 20 10 = 0x281#10 by rw [← hw, asm_op]]
    have hk : w.extractLsb' 45 2 = 2#2 := by
      subst hw
      simp (disch := omega) only [asm, BitVec.extractLsb'_append_eq_of_le, BitVec.extractLsb'_append_eq_of_add_le,
      BitVec.extractLsb'_eq_self, Nat.reduceSub]
    show (match (w.extractLsb' 45 2).toNat with
      | 0 => some (Instr.srvFinish (ctlOf w) (w.extractLsb' 47 4))
      | 1 => some (Instr.srvSummarise (ctlOf w))
      | 2 => some (Instr.srvRefuse (ctlOf w))
      | _ => none) = _
    rw [hk]
    rfl
  rw [hb, ← hw]
  simp (disch := omega) only [asm, ctlOf, vmOf, VMod.bits, BitVec.extractLsb'_append_eq_of_le, BitVec.extractLsb'_append_eq_of_add_le,
      BitVec.extractLsb'_eq_self, Nat.reduceSub]

theorem release (k : Ctl) : Statement (.release k) := by
  refine decodeBits_of_build ?_
  show build (asm 0#64 0#19 0#5 0#5 0#5 0x282#10 k 1#2) = _
  generalize hw : asm 0#64 0#19 0#5 0#5 0#5 0x282#10 k 1#2 = w
  have hb : build w = some (Instr.release (ctlOf w)) := by
    unfold build
    rw [show w.extractLsb' 20 10 = 0x282#10 by rw [← hw, asm_op]]
    rfl
  rw [hb, ← hw]
  simp (disch := omega) only [asm, ctlOf, vmOf, VMod.bits, BitVec.extractLsb'_append_eq_of_le, BitVec.extractLsb'_append_eq_of_add_le,
      BitVec.extractLsb'_eq_self, Nat.reduceSub]

theorem lease (k : Ctl) (d a b : BitVec 5) : Statement (.lease k d a b) := by
  refine decodeBits_of_build ?_
  show build (asm 0#64 0#19 b a d 0x283#10 k 1#2) = _
  generalize hw : asm 0#64 0#19 b a d 0x283#10 k 1#2 = w
  have hb : build w = some (Instr.lease (ctlOf w) (w.extractLsb' 30 5) (w.extractLsb' 35 5) (w.extractLsb' 40 5)) := by
    unfold build
    rw [show w.extractLsb' 20 10 = 0x283#10 by rw [← hw, asm_op]]
    rfl
  rw [hb, ← hw]
  simp (disch := omega) only [asm, ctlOf, vmOf, VMod.bits, BitVec.extractLsb'_append_eq_of_le, BitVec.extractLsb'_append_eq_of_add_le,
      BitVec.extractLsb'_eq_self, Nat.reduceSub]

theorem plbset (k : Ctl) (d a b : BitVec 5) : Statement (.plbset k d a b) := by
  refine decodeBits_of_build ?_
  show build (asm 0#64 0#19 b a d 0x2C0#10 k 1#2) = _
  generalize hw : asm 0#64 0#19 b a d 0x2C0#10 k 1#2 = w
  have hb : build w = some (Instr.plbset (ctlOf w) (w.extractLsb' 30 5) (w.extractLsb' 35 5) (w.extractLsb' 40 5)) := by
    unfold build
    rw [show w.extractLsb' 20 10 = 0x2C0#10 by rw [← hw, asm_op]]
    rfl
  rw [hb, ← hw]
  simp (disch := omega) only [asm, ctlOf, vmOf, VMod.bits, BitVec.extractLsb'_append_eq_of_le, BitVec.extractLsb'_append_eq_of_add_le,
      BitVec.extractLsb'_eq_self, Nat.reduceSub]

theorem replay (k : Ctl) (d : BitVec 5) : Statement (.replay k d) := by
  refine decodeBits_of_build ?_
  show build (asm 0#64 0#19 0#5 0#5 d 0x2C1#10 k 1#2) = _
  generalize hw : asm 0#64 0#19 0#5 0#5 d 0x2C1#10 k 1#2 = w
  have hb : build w = some (Instr.replay (ctlOf w) (w.extractLsb' 30 5)) := by
    unfold build
    rw [show w.extractLsb' 20 10 = 0x2C1#10 by rw [← hw, asm_op]]
    rfl
  rw [hb, ← hw]
  simp (disch := omega) only [asm, ctlOf, vmOf, VMod.bits, BitVec.extractLsb'_append_eq_of_le, BitVec.extractLsb'_append_eq_of_add_le,
      BitVec.extractLsb'_eq_self, Nat.reduceSub]

theorem flushcode (k : Ctl) (d a : BitVec 5) : Statement (.flushcode k d a) := by
  refine decodeBits_of_build ?_
  show build (asm 0#64 0#19 0#5 a d 0x2C2#10 k 1#2) = _
  generalize hw : asm 0#64 0#19 0#5 a d 0x2C2#10 k 1#2 = w
  have hb : build w = some (Instr.flushcode (ctlOf w) (w.extractLsb' 30 5) (w.extractLsb' 35 5)) := by
    unfold build
    rw [show w.extractLsb' 20 10 = 0x2C2#10 by rw [← hw, asm_op]]
    rfl
  rw [hb, ← hw]
  simp (disch := omega) only [asm, ctlOf, vmOf, VMod.bits, BitVec.extractLsb'_append_eq_of_le, BitVec.extractLsb'_append_eq_of_add_le,
      BitVec.extractLsb'_eq_self, Nat.reduceSub]

theorem idle (k : Ctl) : Statement (.idle k) := by
  refine decodeBits_of_build ?_
  show build (asm 0#64 0#19 0#5 0#5 0#5 0x2C3#10 k 1#2) = _
  generalize hw : asm 0#64 0#19 0#5 0#5 0#5 0x2C3#10 k 1#2 = w
  have hb : build w = some (Instr.idle (ctlOf w)) := by
    unfold build
    rw [show w.extractLsb' 20 10 = 0x2C3#10 by rw [← hw, asm_op]]
    rfl
  rw [hb, ← hw]
  simp (disch := omega) only [asm, ctlOf, vmOf, VMod.bits, BitVec.extractLsb'_append_eq_of_le, BitVec.extractLsb'_append_eq_of_add_le,
      BitVec.extractLsb'_eq_self, Nat.reduceSub]

theorem fpkt (k : Ctl) (d a : BitVec 5) : Statement (.fpkt k d a) := by
  refine decodeBits_of_build ?_
  show build (asm 0#64 0#19 0#5 a d 0x2C4#10 k 1#2) = _
  generalize hw : asm 0#64 0#19 0#5 a d 0x2C4#10 k 1#2 = w
  have hb : build w = some (Instr.fpkt (ctlOf w) (w.extractLsb' 30 5) (w.extractLsb' 35 5)) := by
    unfold build
    rw [show w.extractLsb' 20 10 = 0x2C4#10 by rw [← hw, asm_op]]
    rfl
  rw [hb, ← hw]
  simp (disch := omega) only [asm, ctlOf, vmOf, VMod.bits, BitVec.extractLsb'_append_eq_of_le, BitVec.extractLsb'_append_eq_of_add_le,
      BitVec.extractLsb'_eq_self, Nat.reduceSub]

theorem resume (k : Ctl) (d a : BitVec 5) : Statement (.resume k d a) := by
  refine decodeBits_of_build ?_
  show build (asm 0#64 0#19 0#5 a d 0x2C5#10 k 1#2) = _
  generalize hw : asm 0#64 0#19 0#5 a d 0x2C5#10 k 1#2 = w
  have hb : build w = some (Instr.resume (ctlOf w) (w.extractLsb' 30 5) (w.extractLsb' 35 5)) := by
    unfold build
    rw [show w.extractLsb' 20 10 = 0x2C5#10 by rw [← hw, asm_op]]
    rfl
  rw [hb, ← hw]
  simp (disch := omega) only [asm, ctlOf, vmOf, VMod.bits, BitVec.extractLsb'_append_eq_of_le, BitVec.extractLsb'_append_eq_of_add_le,
      BitVec.extractLsb'_eq_self, Nat.reduceSub]

theorem kill (k : Ctl) (d a : BitVec 5) : Statement (.kill k d a) := by
  refine decodeBits_of_build ?_
  show build (asm 0#64 0#19 0#5 a d 0x2C6#10 k 1#2) = _
  generalize hw : asm 0#64 0#19 0#5 a d 0x2C6#10 k 1#2 = w
  have hb : build w = some (Instr.kill (ctlOf w) (w.extractLsb' 30 5) (w.extractLsb' 35 5)) := by
    unfold build
    rw [show w.extractLsb' 20 10 = 0x2C6#10 by rw [← hw, asm_op]]
    rfl
  rw [hb, ← hw]
  simp (disch := omega) only [asm, ctlOf, vmOf, VMod.bits, BitVec.extractLsb'_append_eq_of_le, BitVec.extractLsb'_append_eq_of_add_le,
      BitVec.extractLsb'_eq_self, Nat.reduceSub]

theorem qprio (k : Ctl) (a b : BitVec 5) : Statement (.qprio k a b) := by
  refine decodeBits_of_build ?_
  show build (asm 0#64 0#19 b a 0#5 0x2C7#10 k 1#2) = _
  generalize hw : asm 0#64 0#19 b a 0#5 0x2C7#10 k 1#2 = w
  have hb : build w = some (Instr.qprio (ctlOf w) (w.extractLsb' 35 5) (w.extractLsb' 40 5)) := by
    unfold build
    rw [show w.extractLsb' 20 10 = 0x2C7#10 by rw [← hw, asm_op]]
    rfl
  rw [hb, ← hw]
  simp (disch := omega) only [asm, ctlOf, vmOf, VMod.bits, BitVec.extractLsb'_append_eq_of_le, BitVec.extractLsb'_append_eq_of_add_le,
      BitVec.extractLsb'_eq_self, Nat.reduceSub]

theorem aperset (k : Ctl) (d a b : BitVec 5) : Statement (.aperset k d a b) := by
  refine decodeBits_of_build ?_
  show build (asm 0#64 0#19 b a d 0x2C8#10 k 1#2) = _
  generalize hw : asm 0#64 0#19 b a d 0x2C8#10 k 1#2 = w
  have hb : build w = some (Instr.aperset (ctlOf w) (w.extractLsb' 30 5) (w.extractLsb' 35 5) (w.extractLsb' 40 5)) := by
    unfold build
    rw [show w.extractLsb' 20 10 = 0x2C8#10 by rw [← hw, asm_op]]
    rfl
  rw [hb, ← hw]
  simp (disch := omega) only [asm, ctlOf, vmOf, VMod.bits, BitVec.extractLsb'_append_eq_of_le, BitVec.extractLsb'_append_eq_of_add_le,
      BitVec.extractLsb'_eq_self, Nat.reduceSub]

theorem snap (k : Ctl) (d a b : BitVec 5) : Statement (.snap k d a b) := by
  refine decodeBits_of_build ?_
  show build (asm 0#64 0#19 b a d 0x2C9#10 k 1#2) = _
  generalize hw : asm 0#64 0#19 b a d 0x2C9#10 k 1#2 = w
  have hb : build w = some (Instr.snap (ctlOf w) (w.extractLsb' 30 5) (w.extractLsb' 35 5) (w.extractLsb' 40 5)) := by
    unfold build
    rw [show w.extractLsb' 20 10 = 0x2C9#10 by rw [← hw, asm_op]]
    rfl
  rw [hb, ← hw]
  simp (disch := omega) only [asm, ctlOf, vmOf, VMod.bits, BitVec.extractLsb'_append_eq_of_le, BitVec.extractLsb'_append_eq_of_add_le,
      BitVec.extractLsb'_eq_self, Nat.reduceSub]

theorem migrateMove (k : Ctl) (d a b : BitVec 5) : Statement (.migrateMove k d a b) := by
  refine decodeBits_of_build ?_
  show build (asm 0#64 (0#18 ++ 0#1) b a d 0x2CA#10 k 1#2) = _
  generalize hw : asm 0#64 (0#18 ++ 0#1) b a d 0x2CA#10 k 1#2 = w
  have hb : build w = some (Instr.migrateMove (ctlOf w) (w.extractLsb' 30 5) (w.extractLsb' 35 5) (w.extractLsb' 40 5)) := by
    unfold build
    rw [show w.extractLsb' 20 10 = 0x2CA#10 by rw [← hw, asm_op]]
    have hk : w.extractLsb' 45 1 = 0#1 := by
      subst hw
      simp (disch := omega) only [asm, BitVec.extractLsb'_append_eq_of_le, BitVec.extractLsb'_append_eq_of_add_le,
      BitVec.extractLsb'_eq_self, Nat.reduceSub]
    show (match (w.extractLsb' 45 1).toNat with
      | 0 => some (Instr.migrateMove (ctlOf w) (w.extractLsb' 30 5) (w.extractLsb' 35 5) (w.extractLsb' 40 5))
      | 1 => some (Instr.migrateFlush (ctlOf w) (w.extractLsb' 30 5) (w.extractLsb' 35 5))
      | _ => none) = _
    rw [hk]
    rfl
  rw [hb, ← hw]
  simp (disch := omega) only [asm, ctlOf, vmOf, VMod.bits, BitVec.extractLsb'_append_eq_of_le, BitVec.extractLsb'_append_eq_of_add_le,
      BitVec.extractLsb'_eq_self, Nat.reduceSub]

theorem migrateFlush (k : Ctl) (d a : BitVec 5) : Statement (.migrateFlush k d a) := by
  refine decodeBits_of_build ?_
  show build (asm 0#64 (0#18 ++ 1#1) 0#5 a d 0x2CA#10 k 1#2) = _
  generalize hw : asm 0#64 (0#18 ++ 1#1) 0#5 a d 0x2CA#10 k 1#2 = w
  have hb : build w = some (Instr.migrateFlush (ctlOf w) (w.extractLsb' 30 5) (w.extractLsb' 35 5)) := by
    unfold build
    rw [show w.extractLsb' 20 10 = 0x2CA#10 by rw [← hw, asm_op]]
    have hk : w.extractLsb' 45 1 = 1#1 := by
      subst hw
      simp (disch := omega) only [asm, BitVec.extractLsb'_append_eq_of_le, BitVec.extractLsb'_append_eq_of_add_le,
      BitVec.extractLsb'_eq_self, Nat.reduceSub]
    show (match (w.extractLsb' 45 1).toNat with
      | 0 => some (Instr.migrateMove (ctlOf w) (w.extractLsb' 30 5) (w.extractLsb' 35 5) (w.extractLsb' 40 5))
      | 1 => some (Instr.migrateFlush (ctlOf w) (w.extractLsb' 30 5) (w.extractLsb' 35 5))
      | _ => none) = _
    rw [hk]
    rfl
  rw [hb, ← hw]
  simp (disch := omega) only [asm, ctlOf, vmOf, VMod.bits, BitVec.extractLsb'_append_eq_of_le, BitVec.extractLsb'_append_eq_of_add_le,
      BitVec.extractLsb'_eq_self, Nat.reduceSub]

theorem registerCacheFill (core ctx : Nat) (reg : RegRef) : Statement (.registerCacheFill core ctx reg) := nofun
theorem flumeDelivery (src dst off : Nat) (words : List (BitVec 32 × BitVec 16)) : Statement (.flumeDelivery src dst off words) := nofun
theorem hostBar2Read (tenant off width : Nat) : Statement (.hostBar2Read tenant off width) := nofun
theorem hostBar2Write (tenant off width : Nat) (data : BitVec 64) : Statement (.hostBar2Write tenant off width data) := nofun
theorem physicalWindowAccess (write : Bool) (off width : Nat) (data : BitVec 64) : Statement (.physicalWindowAccess write off width data) := nofun
theorem tflushWrite (va : BitVec 64) : Statement (.tflushWrite va) := nofun
theorem queueDoorbell (tenant queue : Nat) (tail : BitVec 64) : Statement (.queueDoorbell tenant queue tail) := nofun
theorem queueCfgWrite (tenant queue : Nat) (cfg : BitVec 64) : Statement (.queueCfgWrite tenant queue cfg) := nofun
theorem faultBufferHeadWrite (tenant : Nat) (v : BitVec 64) : Statement (.faultBufferHeadWrite tenant v) := nofun
theorem failureAnswer (tenant : Nat) (gen : BitVec 64) (host : Bool) : Statement (.failureAnswer tenant gen host) := nofun
theorem nqheadWrite (tenant : Nat) (v : BitVec 64) : Statement (.nqheadWrite tenant v) := nofun
theorem pubvUpdate (tenant : Nat) (addr count : BitVec 64) : Statement (.pubvUpdate tenant addr count) := nofun
theorem directoryWrite (n : Nat) (entry : BitVec 64) : Statement (.directoryWrite n entry) := nofun
theorem pcapWrite (v : BitVec 64) : Statement (.pcapWrite v) := nofun
theorem registerWrite (reg : HostReg) (v : BitVec 64) : Statement (.registerWrite reg v) := nofun
theorem attestReadPage (page : BitVec 8) : Statement (.attestReadPage page) := nofun
theorem powerUp (outcome : BringUp) : Statement (.powerUp outcome) := nofun
theorem moduleReset (outcome : BringUp) : Statement (.moduleReset outcome) := nofun
theorem telemetrySample (samples : List (Nat × Nat)) (rest : Nat) (calm : Bool) : Statement (.telemetrySample samples rest calm) := nofun
theorem flitReceive (link : Nat) (flit : Flit) : Statement (.flitReceive link flit) := nofun
theorem remoteWindowAccess (link : Nat) (acc : RemoteAccess) : Statement (.remoteWindowAccess link acc) := nofun
theorem remoteSlotOpen (link peerSlot : Nat) : Statement (.remoteSlotOpen link peerSlot) := nofun
theorem remoteAssert (link slot : Nat) : Statement (.remoteAssert link slot) := nofun
theorem assertAck (link slot : Nat) : Statement (.assertAck link slot) := nofun
theorem hostReadResponse (id : Nat) (ok : Bool) (words : List (BitVec 32)) : Statement (.hostReadResponse id ok words) := nofun
theorem hostWriteThroughComplete (id : Nat) : Statement (.hostWriteThroughComplete id) := nofun
theorem unassignedEncoding (word : BitVec 128) : Statement (.unassignedEncoding word) := nofun
theorem pcieLinkStateChange (link : Nat) (up : Bool) : Statement (.pcieLinkStateChange link up) := nofun
theorem uncorrectableError (site : ErrSite) : Statement (.uncorrectableError site) := nofun
theorem remoteAccessAnswer (id : Nat) (ok : Bool) (words : List (BitVec 32 × List (BitVec 64) × BitVec 16)) : Statement (.remoteAccessAnswer id ok words) := nofun
theorem remoteSlotAnswer (link id : Nat) (ok : Bool) (peerSlot : Nat) : Statement (.remoteSlotAnswer link id ok peerSlot) := nofun
theorem icacheFill : Statement (.icacheFill) := nofun
theorem resultLanding : Statement (.resultLanding) := nofun
theorem tagFree : Statement (.tagFree) := nofun
theorem gapExpiry : Statement (.gapExpiry) := nofun
theorem homeAccess : Statement (.homeAccess) := nofun
theorem partialCombine : Statement (.partialCombine) := nofun
theorem nearCacheFill : Statement (.nearCacheFill) := nofun
theorem translationWalk : Statement (.translationWalk) := nofun
theorem leafReturn : Statement (.leafReturn) := nofun
theorem memoryFill : Statement (.memoryFill) := nofun
theorem writeBack : Statement (.writeBack) := nofun
theorem faultRecordArrival : Statement (.faultRecordArrival) := nofun
theorem labelResolve : Statement (.labelResolve) := nofun
theorem internProbe : Statement (.internProbe) := nofun
theorem sluiceCapture : Statement (.sluiceCapture) := nofun
theorem sluiceJobStart : Statement (.sluiceJobStart) := nofun
theorem sluiceWriteLanding : Statement (.sluiceWriteLanding) := nofun
theorem sluiceJobComplete : Statement (.sluiceJobComplete) := nofun
theorem millraceCapture : Statement (.millraceCapture) := nofun
theorem millraceJobEnd : Statement (.millraceJobEnd) := nofun
theorem gangStart : Statement (.gangStart) := nofun
theorem gangColumnComplete : Statement (.gangColumnComplete) := nofun
theorem mmarInboundLanding : Statement (.mmarInboundLanding) := nofun
theorem weirArrivalCounted : Statement (.weirArrivalCounted) := nofun
theorem weirRelease : Statement (.weirRelease) := nofun
theorem holdingDeparture : Statement (.holdingDeparture) := nofun
theorem eventSignalEffect : Statement (.eventSignalEffect) := nofun
theorem eventWake : Statement (.eventWake) := nofun
theorem eventLineStore : Statement (.eventLineStore) := nofun
theorem barrierTargetStore : Statement (.barrierTargetStore) := nofun
theorem domainHomeOperation : Statement (.domainHomeOperation) := nofun
theorem domainAnswer : Statement (.domainAnswer) := nofun
theorem eraRewriteDone : Statement (.eraRewriteDone) := nofun
theorem helperRetire : Statement (.helperRetire) := nofun
theorem haltWake : Statement (.haltWake) := nofun
theorem recallDelivery : Statement (.recallDelivery) := nofun
theorem finishDeadline : Statement (.finishDeadline) := nofun
theorem surrenderOverrun : Statement (.surrenderOverrun) := nofun
theorem faultReport : Statement (.faultReport) := nofun
theorem faultPacketOffer : Statement (.faultPacketOffer) := nofun
theorem distributorRound : Statement (.distributorRound) := nofun
theorem launchBind : Statement (.launchBind) := nofun
theorem launchEndSweep : Statement (.launchEndSweep) := nofun
theorem preemption : Statement (.preemption) := nofun
theorem restore : Statement (.restore) := nofun
theorem snapshotCopy : Statement (.snapshotCopy) := nofun
theorem migrationCopyDone : Statement (.migrationCopyDone) := nofun
theorem faultBufferFlush : Statement (.faultBufferFlush) := nofun
theorem tenantReset : Statement (.tenantReset) := nofun
theorem attestMakeReport : Statement (.attestMakeReport) := nofun
theorem attestFetchKey : Statement (.attestFetchKey) := nofun
theorem attestReportReady : Statement (.attestReportReady) := nofun
theorem configRequest : Statement (.configRequest) := nofun
theorem pcieTrainTimeout : Statement (.pcieTrainTimeout) := nofun
theorem nelrekStateAdvance : Statement (.nelrekStateAdvance) := nofun
theorem nelrekStateTimeout : Statement (.nelrekStateTimeout) := nofun
theorem nelrekRetry : Statement (.nelrekRetry) := nofun
theorem divideUnitFree : Statement (.divideUnitFree) := nofun

end Sys2Proof.Laws.Codec
end

