-- ==== Sys2Proof/Tests/Slice0.lean ====
section
/-! SUPPORT. Sys2Proof/Tests/Slice0.lean: the model's own tests. Ill-formed terms that the checks refuse; words from the manual's
listings, decoded; states and operands that meet the hypotheses of the statements; single steps with values worked out from the
rules. -/

namespace Sys2Proof.Tests

set_option Elab.async false
open Sys2Proof.Machine Sys2Proof.Claims

/-! ## Ill-formed terms -/

/-- A control field of zeros, and one that names tag 1. -/
def k0 : Ctl := ⟨0, 0, 0, 0, 0, 0⟩
def k1 : Ctl := { k0 with alloc := 1 }

/-- Modifiers: a type alone; masked by v7. -/
def ty (n : BitVec 3) : VMod := ⟨0, 0, 0, 0, 0, n⟩
def masked (n : BitVec 3) : VMod := ⟨7, 1, 0, 0, 0, n⟩

def refused (is : List Instr) : Bool := is.all (fun i => !i.wellFormed)

/-- ALLOC not zero where no tag is set, and zero where one is needed (R114, R131). -/
theorem test_wf_tags : refused [.nop k1, .br k1 4, .st k1 1 2 0 3 0, .weir k1 0 1, .div k0 3 2 1, .ld k0 3 1 0 3 0 0, .vld k0 3 1 (ty 0) 0 0,
    .mld k0 1 2 3 0, .cpy k0 3 1 0, .anew k0 3, .resume k0 3 1] = true := by decide

/-- A forwarding field where the field it belongs to names no register (R131). -/
theorem test_wf_forwarding : refused [.li { k0 with pa := 1 } 3 1, .call { k0 with pb := 1 } 4, .addi { k0 with pb := 1 } 3 1 1,
    .cpy { k1 with pb := 1 } 3 1 0, .weir { k0 with pb := 1 } 0 1, .accrs { k1 with pa := 1 } 3 1 2 0 0 0 0,
    .evsigLine { k0 with pa := 1 } 0 0 3, .mzero { k0 with pa := 1 } 1] = true := by decide

/-- Modifiers that the form does not take (R132, R201): BS, ME, RM, TY, a mask register without ME, MU without ME or with a scalar. -/
theorem test_wf_modifiers : refused [.vnot k0 3 1 { ty 0 with bs := 1 }, .vext k0 3 1 (masked 0) 2, .vadd k0 3 1 2 { ty 0 with rm := 1 },
    .vadd k0 3 1 2 (ty 2), .vfadd k0 3 1 2 (ty 1), .vmatch k0 3 1 2 (ty 0) 0, .vadd k0 3 1 2 { ty 0 with mreg := 7 },
    .vadd k0 3 1 2 { ty 0 with mu := 1 }, .vpopm k0 3 1 { masked 0 with mu := 1 }, .vqenc k0 3 2 { masked 5 with mu := 1 } 1 0,
    .vld k1 3 1 { ty 0 with bs := 1 } 0 0, .vperm k0 3 1 2 (ty 1)] = true := by decide

/-- A label instruction's scalar form with a mask, and its vector form with a scalar B or a type (R277). -/
theorem test_wf_label_modifiers : refused [.lget k0 3 1 (masked 0) 0, .lget k0 3 1 { masked 0 with bs := 1 } 1, .ltest k0 3 1 (ty 1) 0 0,
    .lapply k0 3 1 2 { ty 0 with rm := 2 } 0, .ltest k0 3 1 (ty 0) 0 7] = true := by decide

/-- Conditions, shift amounts, bit fields, operation codes and widths beyond their entries' limits (R174, R184, R186, R191 to R193, R196). -/
theorem test_wf_limits : refused [.brc k0 1 2 6 4, .shli k0 3 1 64, .shri k0 3 1 64, .sari k0 3 1 64, .bfx k0 3 1 0 0 0, .bfx k0 3 1 0 65 0,
    .bfi k0 3 1 8 57, .vcmp k0 3 1 2 (ty 0) 4, .vfcmp k0 3 1 2 (ty 2) 5, .vfsgn k0 3 1 2 (ty 2) 3, .ld k1 3 1 0 3 1 0, .amo k1 3 1 2 0 1 0,
    .amo k1 3 1 2 0 2 10, .amo k1 3 1 2 0 3 9, .cas k1 3 1 2 4 0 0, .red k0 1 2 0 2 8, .fence k0 5, .loop k0 0 (-2)] = true := by decide

/-- Conversions and block operands outside their tables (R226, R229 to R233). -/
theorem test_wf_blocks : refused [.vcvt k0 3 1 (ty 0) 1, .vcvt k0 3 1 (ty 2) 2, .vqdec k0 3 2 (ty 5) 4, .vqst k0 3 1 4 2 (ty 5) 0,
    .vqst k0 3 1 5 2 (ty 5) 1, .vqenc k0 3 3 (ty 6) 1 0, .vqenc k0 3 2 (ty 5) 1 2, .vhdr k0 3 1 (ty 5) 2, .vhdrw k0 3 1 (ty 5) 3,
    .vpack k0 3 1 2 (ty 2)] = true := by decide

/-- Matrix operands (R73, R237, R242 to R248): bank, mixed types, odd block registers, register 31 in scratchpad form, a masked row write
without MU. -/
theorem test_wf_matrix : refused [.mma k1 4 2 4 1 5 5 0 0, .mma k1 0 2 4 1 3 5 0 0, .mma k1 0 2 4 1 2 2 0 0, .mma k1 0 3 4 1 5 5 0 0,
    .mma k1 0 2 5 1 5 5 0 0, .mma k1 0 31 2 1 3 3 1 0, .mzero k0 4, .mst k0 4 1 2 0, .mrdv k0 3 4 (ty 2) 0, .mwrv k0 1 3 (masked 2) 0,
    .mscale k0 1 3 (masked 2), .mqst k1 1 31 2 5 0 1, .mqst k1 1 2 3 4 0 1, .mqst k1 1 2 3 5 0 0] = true := by decide

/-- Weirs, event indices, a mask of no cores (R260, R262, R267, R288), and steps of the module, which no word encodes. -/
theorem test_wf_system : refused [.weirx k0 0, .evwaitMutex k0 8, .evwaitBarrier k0 4, .evsigMutex k0 8, .evsigLine k0 3 0 1, .srvFinish k0 0,
    .resultLanding, .unassignedEncoding 0, .powerUp ⟨[], none, 0xF⟩] = true := by decide

/-! ## Words of the manual's listings -/

/-- Flow (R174 to R180). -/
theorem test_decode_flow :
    decodeWords [0x00300002, 0x00100130, 0xFFFFFFED] = .brc k0 6 1 4 (-19) ∧ decodeWords [0x00500001, 0xFFFFC020] = .brnz k0 4 (-2) ∧
    decodeWords [0x00100001, 0x00000000] = .halt k0 ∧ decodeWords [0x40B00001, 0xFFFFC000] = .loop k0 1 (-2) ∧
    decodeWords [0x46500001, 0x00020001] = .srd k0 5 0x010 := by decide +kernel

/-- Scalar integer (R183 to R187). -/
theorem test_decode_scalar :
    decodeWords [0x05002001, 0x00000119] = .shl { k0 with wait := 1 } 4 3 1 ∧ decodeWords [0x45100001, 0x0000C031] = .shli k0 5 6 6 ∧
    decodeWords [0x84B00001, 0x0000E029] = .andi k0 6 5 7 ∧ decodeWords [0x86000001, 0x002380CE] = .bfx k0 26 25 0 4 28 ∧
    decodeWords [0x06200002, 0x00000001, 0x00000100] = .li k0 4 256 ∧ decodeWords [0xC4600401, 0x00000010] = .div k1 3 2 0 := by decide +kernel

/-- Scalar memory (R191 to R193). -/
theorem test_decode_memory :
    decodeWords [0x08000009, 0x00034009] = .ld { k0 with gap := 1 } 4 1 0 3 0 1 ∧
    decodeWords [0x08102001, 0x00031DE0] = .st { k0 with wait := 1 } 28 29 0 3 0 ∧ decodeWords [0x08600001, 0x00080128] = .red k0 5 1 0 2 0 ∧
    decodeWords [0x88400401, 0x00080229] = .amo k1 6 5 2 0 2 0 ∧ decodeWords [0xC8400401, 0x000A0329] = .amo k1 7 5 3 0 2 8 := by decide +kernel

/-- Vectors (R206 to R223). -/
theorem test_decode_vector :
    decodeWords [0x4DA00001, 0x00080209] = .vmatch k0 5 1 2 (ty 1) 0 ∧
    decodeWords [0x90200019, 0x01100229] = .vfmul { k0 with gap := 3 } 6 5 2 { ty 2 with bs := 1 } ∧
    decodeWords [0x10500302, 0x00108519, 0x00000000] = .vfnma { k0 with pb := 3 } 4 3 5 4 (ty 2) ∧
    decodeWords [0x91000401, 0x00100411] = .vsqd k1 6 2 4 (ty 2) ∧ decodeWords [0x91200001, 0x3C100942] = .vfdot k0 10 8 9 (masked 2) ∧
    decodeWords [0x54000401, 0x00000010] = .vld k1 1 2 (ty 0) 0 0 ∧ decodeWords [0x14400001, 0x3C04451A] = .vldx k0 8 3 5 (masked 0) 1 2 :=
  by decide +kernel

/-- Block formats, matrix, copy (R231, R246, R251). -/
theorem test_decode_engines :
    decodeWords [0x15000002, 0x00288A1F, 0x0000000F] = .vqst k0 28 3 10 4 (ty 5) 15 ∧
    decodeWords [0x58502001, 0x0010800A] = .mrdv { k0 with wait := 1 } 9 1 (ty 2) 4 ∧
    decodeWords [0x9C200801, 0x0000055A] = .cpyu { k0 with alloc := 2 } 10 11 5 := by decide +kernel

/-- Synchronisation (R263 to R276). -/
theorem test_decode_sync :
    decodeWords [0x20000001, 0x00004400] = .weir k0 4 2 ∧ decodeWords [0x20400001, 0x00002000] = .evwaitLine k0 1 ∧
    decodeWords [0x20500001, 0x00000000] = .evsigLine k0 0 0 0 ∧ decodeWords [0x20800001, 0x00000000] = .comm k0 ∧
    decodeWords [0x20900001, 0x00002500] = .sendf k0 5 1 := by decide +kernel

/-- Domains, holdings and the supervisor's instructions (R277 to R298). -/
theorem test_decode_system :
    decodeWords [0x24000401, 0x00000002] = .anew k1 8 ∧ decodeWords [0x24300001, 0x00000028] = .nogood k0 5 ∧
    decodeWords [0x64600009, 0x00000C5B] = .vjoin { k0 with gap := 1 } 13 11 12 (ty 0) ∧ decodeWords [0x28100001, 0x00002000] = .srvSummarise k0 ∧
    decodeWords [0x28100001, 0x00004000] = .srvRefuse k0 ∧ decodeWords [0x28200001, 0x00000000] = .release k0 ∧
    decodeWords [0x2C300001, 0x00000000] = .idle k0 ∧ decodeWords [0xAC400401, 0x00000008] = .fpkt k1 2 1 := by decide +kernel

/-! ## States and operands that meet the hypotheses of the statements -/

/-- What `Claims.Issues` asks, computed. -/
def issuesB (i : Instr) (s : State) : Bool :=
  match i.info with
  | none => false
  | some m => s.me.live && (!m.priv || s.supervised s.curCore) && histOk s.me.hist m.ctl.pa.toNat m.aReg &&
      histOk s.me.hist m.ctl.pb.toNat m.bReg && (s.metFault i m).isNone

theorem issues_of_issuesB {i : Instr} {s : State} (h : issuesB i s = true) : ∃ m, Issues i s m := by
  unfold issuesB at h
  split at h
  · exact absurd h (by decide)
  next m hm =>
    simp only [Bool.and_eq_true, Bool.or_eq_true, Bool.not_eq_true', Option.isNone_iff_eq_none] at h
    obtain ⟨⟨⟨⟨h1, h2⟩, h3⟩, h4⟩, h5⟩ := h
    exact ⟨m, hm, h1, fun hp => h2.resolve_left (by simp [hp]), h3, h4, h5⟩

/-- `i` is well formed and passes the checks made before its entry's own. -/
def ok (s : State) (i : Instr) : Bool := issuesB i s && i.wellFormed

def isNext (i : Instr) (s : State) : Bool := match exec i s with
  | .next _ => true
  | _ => false

def goes (e : Eff) : Bool := match e with
  | .go _ => true
  | _ => false

/-- Protection ranges: pages 0 to 15 with every right but C; pages 16 to 31 commutative. -/
def ranges : Vector Plb 16 :=
  ((Vector.replicate 16 Plb.empty).set 0 { Plb.empty with valid := true, last := 15, r := true, w := true, x := true, l := true }).set 1
    { Plb.empty with valid := true, base := 16, last := 31, r := true, c := true }

/-- Registers of the tests: s1 an address of the core's own local memory, s2 = 40, s3 = 16, s5 a global address, s6 a code address, s7 an
address of a commutative range. -/
def regs (x : Ctx) : Ctx :=
  (((((x.setS 1 0xFF000000000100#64 0#16).setS 2 40#64 0#16).setS 3 16#64 0#16).setS 5 0x30040#64 0#16).setS 6 0x10020#64 0#16).setS 7
    0x100040#64 0#16

def ctx0 : Ctx := regs { Ctx.zero with live := true, pc := 0x10000#64 }
def core0 : Core := { (Core.zero.setCtx 0 ctx0) with launch := some 1, plb := ranges }

/-- A supervisor launch at cluster (0, 0), with weir 1 over its eight cores. -/
def lau0 : Launch := { Launch.blank with weirs := (Launch.blank.weirs).set 1 ⟨true, 0, 0, 1, 1, 0xFF#8, 0#40, 0⟩ }

/-- A leaf of page 3, cached at its home slice. -/
def leaf3 : TEntry := { slice := homeSlice 0x30040, page := 3, size := 65536, leaf := { w0 := 0x8000000000050000#64, w1 := 0#64 } }

def world (c : Core) (l : Launch) : State := { State.reset with cores := [(0, c)], launches := [(1, l)], tcache := [leaf3] }
def live : State := world core0 lau0

/-- The same with another context, core or launch. -/
def liveX (f : Ctx → Ctx) : State := world { (Core.zero.setCtx 0 (f ctx0)) with launch := some 1, plb := ranges } lau0
def liveC (f : Core → Core) : State := world (f core0) lau0
def liveL (f : Launch → Launch) : State := world core0 (f lau0)
def liveQ (f : Cluster → Cluster) : State := { live with clusters := [(0, f Cluster.zero)] }

/-- ScalarResults: every instruction that it names (R183, R184, R186, R187). -/
def scalarTerms : List Instr :=
  [.add k0 4 1 2, .addi k0 4 1 (-1), .sub k0 4 1 2, .mul k0 4 1 2, .mulh k0 4 1 2, .mulhu k0 4 1 2] ++
  [.and k0 4 1 2, .andi k0 4 1 7, .or k0 4 1 2, .ori k0 4 1 7, .xor k0 4 1 2, .xori k0 4 1 7, .shl k0 4 1 2, .shli k0 4 1 63] ++
  [.shr k0 4 1 2, .shri k0 4 1 63, .sar k0 4 1 2, .sari k0 4 1 0] ++
  [.min k0 4 1 2, .max k0 4 1 2, .minu k0 4 1 2, .maxu k0 4 1 2, .slt k0 4 1 2, .sltu k0 4 1 2, .seq k0 4 1 2, .sel k0 4 1 2 3] ++
  [.clz k0 4 0, .popc k0 4 1, .bfx k0 4 1 1 64 0, .bfi k0 4 1 1 63, .li k0 4 (-1), .liw k0 4 1, .lea k0 4 1 2 7 (-4)]

theorem test_scalar_results_met : scalarTerms.all (fun i => ok live i &&
    [arithmetic live i, logic live i, comparison live i, bitsAndConstants live i].any (fun o =>
      o.any (fun r => (live.formWith r.labels).isSome))) = true := by decide +kernel

theorem test_scalar_frame_met : scalarTerms.all (fun i => isNext i live) = true := by decide +kernel

theorem test_scalar_divides_met : live.now < (liveC (fun c => { c with sdivFree := 9 })).here.sdivFree ∧ (Instr.div k0 4 1 2).wellFormed = false ∧
    (0 : Int).natAbs < (5 : Int).natAbs ∧ [Instr.div k1 4 1 2, .divu k1 4 1 0, .rem k1 4 1 2, .remu k1 4 1 0].all (fun i => ok live i &&
    decide (live.here.sdivFree ≤ live.now) && (live.formWith [0#16, 0#16]).isSome) = true := by decide +kernel

/-- A result in flight: s4 of context 0, free of its tag unless `tag` names one. -/
def flight (tag : Nat) : Pend :=
  { seq := 5, ctx := 0, tag := tag, pc := 0x10000#64, minDue := 1, due := 1, left := 0, writes := [.s 4 7#64 0#16, .s 9 8#64 0#16], raw := [],
    fin := none, flags := 0x20#64, acquire := false, dst := [.s 4], dead := [(RegWrite.s 9 8#64 0#16).key], bad := none,
    lanes := false, bank := none }
def landing (tag : Nat) : State :=
  { liveC (fun c => { c with pend := [flight tag] }) with subj := { a := 0, b := 5 } }

theorem test_landing_met : (landing 0).pendAt 0 5 = some (flight 0) ∧ (landing 3).pendAt 0 5 = some (flight 3) := by decide +kernel

theorem test_issue_leaves_met : live.curCtx < 11 := by decide

theorem test_privileged_only_met : (Instr.idle k0).info.any (·.priv) = true ∧ live.me.live = true ∧
    (liveL (fun l => { l with sup := false })).supervised 0 = false := by decide +kernel

theorem test_issue_faults_met : (Instr.add { k0 with pa := 2 } 4 1 2).info.isSome = true ∧ live.me.live = true ∧
    ¬((2#2 : BitVec 2) = 0#2 ∨ (live.me.hist.getD 1 none = some (.s 1) ∧ (live.me.hist.take 1).any (fun h => h == some (.s 1)) = false)) := by
  decide +kernel

theorem test_trap_and_break_met : [Instr.trap k0 5, .brk k0 5].all (ok live) = true := by decide +kernel

/-- FaultEntry: a fault on core 1 of the supervisor's launch. -/
theorem test_fault_entry_met : live.supCore (live.tenantOf 0) = some 0 ∧ live.supCore (live.tenantOf 1) = some 0 ∧ ¬((0 : Nat) = 1 ∧ (0 : Nat) = 0) ∧
    (live.tenant 0).packets.length < 256 := by decide +kernel

def report0 : Report := { arrived := 0, cause := 0x16, ctx := 0, pc := 0#64, addr := 0#64, resume := none }
theorem test_frozen_and_resumed_met : ((liveC (fun c => { c with frozen := true })).core 0).frozen = true ∧ (live.core 0).held = [] ∧
    ((liveC (fun c => { c with held := [report0] })).core 0).held = [report0] := by decide +kernel

theorem test_nothing_stops_met : live.me.live = true ∧ Instr.gapExpiry.info = none := by decide +kernel

/-! ### Control transfers and system registers -/

theorem test_branching_met : [Instr.br k0 (-2), .brc k0 1 2 0 4, .brc k0 1 2 1 4, .brz k0 0 4, .brz k0 1 4, .brnz k0 0 4, .brnz k0 1 4,
    .brv k0 1 4].all (fun i => ok live i && (branching live i).isSome) = true ∧ isPend (live.srcS 1).2 = false := by decide +kernel
theorem test_brv_waits_met : (let s := liveX (fun x => x.setS 1 0#64 0xFFF3#16); ok s (.brv k0 1 4) && isPend (s.srcS 1).2) = true := by
  decide +kernel

theorem test_counted_loop_met : [Instr.call k0 4, .loop k0 2 (-2)].all (ok live) = true ∧ (live.formWith []).isSome = true ∧
    (live.formWith [(live.srcS 2).2]).isSome = true ∧
    BitVec.ofInt 64 ((live.srcS 2).1.toInt - 1) ≠ 0#64 ∧
    BitVec.ofInt 64 (((liveX (fun x => x.setS 2 1#64 0#16)).srcS 2).1.toInt - 1) = 0#64 := by
  decide +kernel

/-- CallsAndReturns: a code address, one that is no multiple of 4, and a poisoned one. -/
theorem test_calls_and_returns_met : [Instr.callr k0 6, .ret k0, .jmpr k0 6].all (ok live) = true ∧
    (live.srcS 6).1.toNat % 4 = 0 ∧ live.check 0 0 (live.srcS 6).2 ≠ hPoison ∧ ((liveX (fun x => x.setS 6 6#64 0#16)).srcS 6).1.toNat % 4 ≠ 0 ∧
    (liveX (fun x => x.setS 6 4#64 hPoison)).check 0 0 ((liveX (fun x => x.setS 6 4#64 hPoison)).srcS 6).2 = hPoison ∧
    ((live.countVoids [plainIn [0#16]]).formWith []).isSome = true := by decide +kernel

/-- A helper, live in context 2, issuing. -/
def helper : State := { liveC (fun c => c.setCtx 2 { ctx0 with weirN := 0 }) with curCtx := 2 }

theorem test_pauses_met : [Instr.nop k0, .yield k0 9, .hjoin k0 8, .halt k0].all (ok (liveX (fun x => x.setS 8 2#64 0#16))) = true ∧
    (live.here.ctx 2).live = false ∧ live.here.noHelper = true ∧ live.me.sr = false ∧ ok helper (.hend k0) = true ∧
    helper.holdsMutex 0 2 = false ∧ helper.here.noHelper = false ∧ (helper.here.ctx 2).live = true ∧
    ok { helper with curCtx := 0 } (.halt k0) = true := by decide +kernel

theorem test_helper_start_met : ok live (.hstart k0 4 1 2 16) = true ∧ live.me.sr = false ∧ live.here.freeHelper = some 1 ∧
    (live.formWith []).isSome = true := by decide +kernel

theorem test_system_registers_met : [Instr.srd k0 4 0x00C, .srd k0 4 0x018, .swr k0 2 0x008, .swr k0 2 0x009, .swr k0 2 0x00A,
    .swr k0 2 0x00B].all (ok live) = true ∧ live.sysReg 0x00C = some 0 ∧ live.sysReg 0x018 = none ∧ isPend (live.srcS 2).2 = false ∧
    ((live.srcS 2).1.setWidth 16 : Handle).toNat < 0xFFF0 ∧
    ¬(((0xFFFE#64).setWidth 16 : Handle).toNat < 0xFFF0 ∨ (0xFFF8 ≤ ((0xFFFE#64).setWidth 16 : Handle).toNat ∧
      ((0xFFFE#64).setWidth 16 : Handle).toNat < 0xFFFC)) := by decide +kernel

/-! ### Decoding and the step -/

theorem test_codec_round_trip_met : (Instr.vqst k1 3 1 4 2 (ty 5) 15).wellFormed = true := by decide

/-- StepRunsDecoded: the state that a word is placed in. -/
def placed : State := State.reset.withFetchWord 64 0x00000208C4000001
theorem test_step_runs_decoded_met : placed.agenda = [] ∧ placed.renew.overBound 0 0 = false ∧
    placed.renew.nextTask = some (.issue 0 0 0x10000 (.add k0 3 1 2)) ∧ placed.status 0 0 = .ready 0x10000 (.add k0 3 1 2) ∧
    (placed.core 0).issuedAt ≠ placed.now + 1 ∧ (List.range 11).all (fun u => u == 0 || placed.status 0 u == .idle) = true := by decide +kernel

/-! ### Labels and vectors -/

theorem test_label_unit_met : live.here.freeSlots = 8 ∧ live.me.ambient = 0x0000#16 ∧ live.check 0 0 0xFFFA#16 = 0xFFFA#16 := by decide +kernel

/-- A launch with domain 0, whose directory entry is present and whose slot 3 is open in every table entry asked for. -/
def dom : State := { liveL (fun l => { l with domain := some 0 }) with directory := [(0, 0x8000000000000000#64)] }

theorem test_label_check_met : dom.domainOf 0 = some 0 ∧ live.domainOf 0 = none ∧ View.zero.era.toNat = dom.domEra 0 ∧
    dom.tableEntry 0 7 = [] ∧ ({ View.zero with era := 5 } : View).era.toNat ≠ dom.domEra 0 := by decide +kernel

def reductionTerms : List Instr :=
  [.vpopm k0 4 1 (masked 1), .vfirst k0 4 1 (ty 0), .vext k0 4 1 (ty 0) 15, .vred k0 4 1 (ty 0) 0, .vred k0 4 1 (ty 1) 7, .vhdr k0 4 2 (ty 6) 3]
theorem test_lane_reductions_met : reductionTerms.all (fun i => ok live i && (laneReductions live i).any (fun r =>
      (live.formWith r.labels).isSome)) = true ∧
    [Instr.vfred k0 4 1 (ty 2), .vfdot k0 4 1 2 (masked 2)].all (fun i => ok live i && (floatReductions live i).any (fun r =>
      (live.formWith r.1.labels).isSome)) = true := by decide +kernel

/-- Every lane-wise integer instruction and permute. -/
def laneTerms : List Instr :=
  [.vadd k0 4 1 2 (masked 0), .vsub k0 4 1 2 (ty 1), .vmul k0 4 1 2 (ty 0), .vmulh k0 4 1 2 (ty 0), .vand k0 4 1 2 (ty 0), .vor k0 4 1 2 (ty 0),
    .vxor k0 4 1 2 (ty 0), .vnot k0 4 1 (ty 0), .vshl k0 4 1 2 (ty 0), .vshr k0 4 1 2 (ty 0), .vsar k0 4 1 2 (ty 0)] ++
  [.vmin k0 4 1 2 (ty 0), .vmax k0 4 1 2 (ty 0), .vminu k0 4 1 2 (ty 1), .vmaxu k0 4 1 2 (ty 1), .vclz k0 4 1 (ty 0), .vpopc k0 4 1 (ty 0),
    .vcmp k0 4 1 2 (ty 0) 3, .vsel k0 4 1 2 (ty 0) 3, .viota k0 4 1 (masked 1), .vmv k0 4 1 (ty 0), .vbcast k0 4 2 (ty 0),
    .vmatch k0 4 1 2 (ty 1) 0] ++
  [.vperm k0 4 1 2 (ty 0), .vslide k0 4 1 2 (ty 0) 15, .vzip k0 4 1 2 (ty 0) 1, .vunzip k0 4 1 2 (ty 0) 1]
theorem test_vector_integers_met : laneTerms.all (fun i => ok live i && [vectorInteger live i, permuting live i].any (fun o => o.any (fun r =>
      goes (live.vresultAt k0 r.lat r.lat r.d r.vm (live.laneOuts r.vm r.f) r.flags r.sides)))) = true ∧
    ok live (.vins k0 4 2 (ty 0) 9) = true ∧ (live.formWith [(live.srcS 2).2]).isSome = true := by decide +kernel

def floatTerms : List Instr :=
  [.vfadd k0 4 1 2 (ty 2), .vfsub k0 4 1 2 (ty 2), .vfmul k0 4 1 2 (ty 2), .vfma k0 4 1 2 3 (ty 2), .vfms k0 4 1 2 3 (ty 2),
    .vfnma k0 4 1 2 3 (ty 2), .vfmin k0 4 1 2 (ty 2), .vfmax k0 4 1 2 (ty 2), .vfabs k0 4 1 (ty 2), .vfneg k0 4 1 (ty 2)] ++
  [.vfclass k0 4 1 (ty 2), .vfcmp k0 4 1 2 (ty 2) 4, .vfsgn k0 4 1 2 (ty 2) 2, .vfrnd k0 4 1 (ty 2), .vcvt k0 4 1 (ty 0) 2,
    .vpack k0 4 1 2 (ty 3), .vunpack k0 4 1 (ty 4) 1, .vqdec k0 4 1 (ty 6) 7]
theorem test_vector_floats_met : floatTerms.all (fun i => ok live i && (vectorFloat live i).any (fun r =>
      goes (live.vresultAt k0 r.lat r.lat r.d r.vm (live.laneOuts r.vm r.f) r.flags r.sides))) = true := by decide +kernel
theorem test_vector_divides_met : [Instr.vdiv k0 4 1 2 (ty 2), .vsqrt k0 4 1 (ty 2), .vrsqrt k0 4 1 (ty 2), .vrcp k0 4 1 (ty 2),
    .vsqd k0 4 1 2 (ty 2)].all (fun i => ok live i && (dividing live i).any (fun (_, lat, d, vm, g) =>
      goes (live.vresultAt k0 lat (lat + 1) d vm (live.floatOuts vm g).1 (live.floatOuts vm g).2 []))) = true ∧
    live.here.divFree ≤ live.now ∧ live.now < (liveC (fun c => { c with divFree := 9 })).here.divFree := by decide +kernel

/-! ### Memory -/

/-- A core address of local memory, a global address in a range, and checks that fail: poison, LC elsewhere, alignment, a hole, no range, no
right, a DECODE view, a PHASED launch (R190). -/
theorem test_access_checks_met : placeOf 0 0xFF000000000100 = .own 0x100 ∧ placeOf 0 0xFF000000006000 = .hole ∧
    placeOf 0 0xFF000000005FFC = .own 0x5FFC ∧ placeOf 0 0xFF000100008000 = .bank 1 0 ∧ placeOf 0 0x100000000000000 = .outside ∧
    placeOf 0 0x30040 = .global ∧ live.phased 0 = false ∧ (liveL (fun l => { l with phased := true })).phased 0 = true ∧
    live.here.range 0x30040 = some { Plb.empty with valid := true, last := 15, r := true, w := true, x := true, l := true } ∧
    live.here.range 0x300000 = none ∧ (live.here.range 0x30040).any (fun r => r.allows .store && !r.allows .redc) = true ∧
    live.decodeView 0x30040 = false ∧ 0x30041 % 4 ≠ 0 ∧ 0x30040 % 4 = 0 := by decide +kernel

/-- A page that an aperture decodes. -/
def decodes : State :=
  { live with apers := [(0, { ctl := 0xC000000000000010#64, base := 0#64, hdr := 0#64 })],
              tcache := [{ leaf3 with leaf := { w0 := 0x8000030000000000#64, w1 := 0#64 } }] }
theorem test_decode_view_met : decodes.decodeView 0x30040 = true := by decide +kernel

theorem test_scalar_loads_met : [Instr.ld k0 4 1 8 3 0 1, .ld k0 4 1 1 0 1 1, .ldacq k0 4 1 4 2 0 1, .ld k1 4 5 0 2 0 0, .ldacq k1 4 5 8 3 0 0].all
    (fun i => ok live i && (loading i).any (fun r =>
      let va := address live r.a r.off.toInt
      (live.checkAccess .load va (2 ^ r.w.toNat) (r.lc == 1#1) (poisoned live r.a)).isNone && !held live va)) = true ∧
    placeOf 0 (address live 1 8) = .own 0x108 ∧ ((live.countReads [(live.srcS 1).2]).loadLabel [(live.lword 0 0x108).2, (live.lword 0 0x10C).2]).isSome = true := by
  decide +kernel

/-- A store buffer with 64 lines, none of them the line of s5. -/
def reqAt (id va : Nat) : Req :=
  { id := id, core := 0, ctx := 0, launch := 1, pc := 0#64, op := .store, va := va, width := 4, data := 0x11223344#64, cmp := 0#64, lbl := 0#16,
    more := [], dst := .none, seq := 0, words := [], away := false, leaf := none, link := none, fwd := [], value := none, grp := 0,
    sender := 0 }
def full : State := { live with reqs := (List.range 64).map (fun n => reqAt n (0x40000 + 64 * n)) }
theorem test_scalar_stores_met : [Instr.st k0 1 2 8 3 1, .st k0 5 2 0 0 0, .strel k0 5 2 8 3 0, .red k0 5 2 4 2 0].all (fun i => ok live i &&
    (storing live i).any (fun r => (live.checkAccess r.acc r.va r.width r.lc r.poison).isNone && !held live r.va &&
      !live.bufferFull 0 [r.va / 64] && (r.acc == .red || ((live.countReads [(live.srcS r.a).2]).formWith [(live.srcS r.b).2]).isSome))) = true ∧
    (storing live (.red k0 5 2 4 2 0)).any (·.acc == .red) = true ∧ (storing live (.st k0 5 2 0 0 0)).any (·.acc == .store) = true ∧
    ok full (.st k0 5 2 0 0 0) = true ∧ isGlobal 0x30040 = true ∧ full.bufferFull 0 [0x30040 / 64] = true ∧
    full.checkAccess .store 0x30040 1 false false = none := by decide +kernel

theorem test_access_faults_met : ok live (.ld k1 4 5 1 2 0 0) = true ∧
    live.checkAccess .load (address live 5 1) 4 false (poisoned live 5) = some (.fault 0x04 0x30041#64) ∧
    live.checkAccess .store 0x30041 4 false false = some (.fault 0x04 0x30041#64) ∧
    live.checkAccess .atomic 0x100040 4 false false = some (.fault 0x06 0x100040#64) := by decide +kernel

theorem test_bank_stores_met : localOf 0 0xFF000000000104 = some (0, 0x104) ∧ (reqAt 1 0xFF000000000104).width = 2 ^ 2 ∧ 0x104 % 2 ^ 2 = 0 ∧
    (live.core 0).lmem.wf = true ∧ (live.core 0).lplane.wf = true := by decide +kernel

theorem test_atomic_memory_met : [Instr.amo k1 4 1 2 8 2 4, .amo k1 4 5 2 8 3 8, .cas k1 4 5 2 3 3 8].all (fun i => ok live i &&
    (atomic live i).any (fun r => (live.checkAccess .atomic r.va r.width false r.poison).isNone && !held live r.va)) = true := by decide +kernel

def part0 : Partial := { line := 0x100040 / 64, words := List.replicate 16 (0#32, 0#16), age := 0, pc := 0#64, ctx := 0, cop := 0, era := 0 }
theorem test_partial_lines_met : ok live (.redc k0 7 2 0) = true ∧ live.checkAccess .redc (address live 7 0) 4 false (poisoned live 7) = none ∧
    (live.here.range (address live 7 0)).isSome = true ∧ live.here.partials = [] ∧ live.partialCount 0 < 64 ∧
    ((liveC (fun c => { c with partials := [part0] })).here.partials.find? (fun p => p.line == 0x100040 / 64)) = some part0 ∧
    ((live.countReads [(live.srcS 7).2]).formWith [0#16, 0#16]).isSome = true := by decide +kernel

theorem test_ordering_met : [Instr.fence k0 4, .pref k0 5 0, .pref k0 0 0, .rwb k1 5 2, .rinv k1 5 2, .rflush k1 5 0].all (ok live) = true ∧
    live.checkAccess .load 0x30040 1 false false = none ∧ isGlobal 0x30040 = true ∧ isGlobal (address live 0 0) = true ∧ isGlobal 0xFF000000000100 = false ∧
    (liveC (fun c => { c with plb := Vector.replicate 16 Plb.empty })).checkAccess .load 0x30040 1 false false ≠ none ∧
    live.checkRange 0x30040 40 false = none ∧ live.reqs = [] := by decide +kernel

/-- PUBLISH: page 3 in host memory. -/
def hosted : State := { live with tcache := [{ leaf3 with leaf := { w0 := 0x9000000000000000#64, w1 := 0#64 } }] }
theorem test_publish_met : ok hosted (.publish k1 4 5) = true ∧ hosted.checkAccess .publish (address hosted 5 0) 8 false (poisoned hosted 5) = none ∧
    ((((hosted.countReads [(hosted.srcS 5).2]).release.markWrite 0 (0x30040 / 64)).await 1 (16 + homePath 0 0x30040) 1 [] none false [.s 4]).formWith []).isSome = true := by decide +kernel

def passesB (s : State) (acc : Acc) (ls : List Nat) (addr : Address) (width : Nat) (lc : Bool) : Bool :=
  ls.all (fun j => (s.checkAccess acc (addr j).1 width lc (addr j).2).isNone && !held s (addr j).1)

theorem test_vector_loads_met : [Instr.vld k0 4 1 (ty 0) 1 1, .vlds k0 4 1 2 (masked 0) 1, .vldx k0 4 1 8 (ty 0) 1 2, .vldb k0 4 1 (ty 0) 1 3,
      .vld k1 4 5 (ty 0) 0 0, .vlds k1 4 5 2 (masked 0) 0, .vldx k1 4 5 8 (ty 0) 0 2, .vldb k1 4 5 (ty 0) 0 3].all (fun i => ok live i &&
    (vectorLoad live i).any (fun r => passesB live .load (if r.single then (live.lanes r.vm).take 1 else live.lanes r.vm) r.addr 4
      (r.lc == 1#1))) = true ∧ live.lanes (masked 0) = [] ∧ live.lanes (ty 0) ≠ [] := by decide +kernel

theorem test_vector_stores_met : [Instr.vst k0 1 4 (ty 0) 1 1, .vsts k0 4 1 2 (ty 0) 1, .vstx k0 4 5 8 (ty 0) 0 2, .vst k0 5 4 (ty 0) 0 0].all
    (fun i => ok live i && (vectorStore live i).any (fun (v, vm, lc, addr, rs) => passesB live .store (live.lanes vm) addr 4 (lc == 1#1) &&
      ((live.countReads rs).storeItems ((live.lanes vm).map (fun j => ((addr j).1, 4, ((live.srcV v).lane j).1.toNat, plainIn [((live.srcV v).lane j).2])))).isSome
      )) = true ∧ (live.lanes (ty 0)).all (fun j => ((live.srcV 4).lane j).2 == 0x0000#16) = true ∧
    live.bufferFull 0 [0x30040 / 64, 0x30080 / 64] = false := by decide +kernel

/-! ### Blocks -/

/-- A local header of 0x7FFF: corrupt, with and without FPCTL.FMTTRAP. -/
def corrupt (fp : Dword) : State :=
  world { (Core.zero.setCtx 0 { ctx0 with fpctl := fp }) with launch := some 1, plb := ranges, lmem := [(0x100, 0xFF#8), (0x101, 0x7F#8)] } lau0
theorem test_block_loads_met : [Instr.vqld k0 4 1 1 (ty 6) 1, .vqld k1 4 5 5 (ty 5) 0].all (ok live) = true ∧
    passesB live .load (List.range 16) (unit live 1 0) 4 true = true ∧
    passesB live .load (List.range 4) (fun j => ((address live 1 0 + 2 * j) % 2 ^ 64, poisoned live 1)) 2 true = true ∧
    passesB live .load (List.range 16) (unit live 5 0) 4 false = true ∧
    passesB live .load (List.range 2) (fun j => ((address live 5 0 + 2 * j) % 2 ^ 64, poisoned live 5)) 2 false = true ∧
    (List.range 4).all (fun j => !headerBad (live.ownHalf (0xFF000000000100 + 2 * j))) = true ∧
    headerBad ((corrupt 8#64).ownHalf 0xFF000000000100) = true ∧ (corrupt 8#64).me.fpctl.getLsbD 3 = true ∧
    ok (corrupt 8#64) (.vqld k0 4 1 1 (ty 6) 1) = true := by decide +kernel

theorem test_block_writes_met : [Instr.vqenc k0 4 2 (ty 5) 15 1, .vqst k1 4 5 8 5 (ty 6) 1, .vhdrw k0 4 2 (ty 6) 3].all (ok live) = true ∧
    (live.formWith (live.quantisePair 2 (ty 5) 15).2.2.2).isSome = true ∧ passesB live .store (List.range 4) (unit live 5 0) 4 false = true ∧
    passesB live .store [0] (fun j => ((address live 5 0 + 2 * j) % 2 ^ 64, poisoned live 5)) 2 false = true ∧
    (let q := live.quantisePair 8 (ty 6) 1
     ((live.countReads [(live.srcS 8).2, (live.srcS 5).2]).storeItems ((List.range 4).map (fun j => ((unit live 5 0 j).1, 4, q.2.1.getD j 0, plainIn q.2.2.2)) ++
       [(address live 5 0, 2, q.1.toNat, plainIn q.2.2.2)])).any (fun r => match labelIn r.2 (live.checkedIn (plainIn q.2.2.2) [live.ambientNow]) with
         | .now _ => true
         | .later _ => false)) = true ∧
    headerBad ((live.srcS 2).1.setWidth 16) = false ∧
    (let s := corrupt 0#64
     let t := s.onMe (fun x => x.setS 2 0xFFFF#64 0#16)
     headerBad ((t.srcS 2).1.setWidth 16) && !t.me.fpctl.getLsbD 3 && ok t (.vhdrw k0 4 2 (ty 5) 1)) = true ∧
    goes (live.vresultAt k0 2 2 4 (ty 6) ((blockLanes true 3).map (fun i => (i, ((live.srcV 4).lane i).1, plainIn [0#16, 0#16]))) 0
      [.side 4 3 40#16]) = true := by decide +kernel

/-! ### The matrix array and the engines -/

theorem test_accumulators_met : [Instr.mzero k0 1, .mscale k0 1 2 (ty 2), .mrdv k0 4 1 (ty 2) 7, .mwrv k0 1 4 (ty 2) 7, .mwait k0,
      .mst k0 1 5 3 0, .mld k1 1 5 3 16].all (ok live) = true ∧ live.writeWaits 1 = false ∧ live.jobOn 0 8 1 = false ∧ live.gangOpen 0 = false ∧
    (live.formWrites 4 [] ((slice 0).map (fun p => (RegWrite.acc 1 p.1 p.2 0#32 0#16, plainIn [0#16, 0#16])))).isSome = true ∧
    (live.formWrites 2 [] ((List.range 16).map (fun i => (RegWrite.acc 1 (28 + i / 4) (i % 4) 0#32 0#16, plainIn [0#16])))).isSome = true := by
  decide +kernel

def sliceAt (off : Int) : Address := fun n =>
  ((BitVec.ofInt 64 (address live 5 off + (n / 4 : Nat) * (live.srcS 3).1.toInt + (16 * (0 % 8) + 4 * (n % 4) : Nat))).toNat, poisoned live 5)
theorem test_slice_memory_met : poisoned live 5 = false ∧ address live 5 0 % 16 = 0 ∧ address live 5 16 % 16 = 0 ∧ (live.srcS 3).1.toNat % 16 = 0 ∧
    passesB live .store (List.range 128) (sliceAt 0) 4 false = true ∧ passesB live .load (List.range 128) (sliceAt 16) 4 false = true ∧
    ((live.countReads [(live.srcS 5).2, (live.srcS 3).2]).storeItems (((slice 0).zipIdx).map (fun p =>
      ((sliceAt 0 p.2).1, 4, (live.readAcc 1 p.1.1 p.1.2).1.toNat, plainIn [(live.readAcc 1 p.1.1 p.1.2).2])))).isSome = true := by decide +kernel

def gangOp0 : GangOp := ⟨0, 1, 2, 4, 5, 3, 3, 0, 0, 0⟩
def member (c : Nat) : Member := { core := c, ctx := 0, seq := c, pc := 0#64, op := gangOp0, amb := 0#16, va := [], vb := [], ha := [], hb := [] }
def open_ : State := { live with clusters := [(0, { Cluster.zero with gang := [member 7] })] }
theorem test_gang_issue_met : [Instr.mma k1 1 2 4 5 3 3 0 0, .mmar k1 1 2 4 5 5 6 0 1, .mqst k1 1 2 3 5 0 15].all (fun i => ok live i &&
    (gangOp i).any (fun (o, rs) => !live.here.gangBusy && (gangReads 0 rs).all (fun r => !live.regPending r) && !isPend live.me.ambient && !live.localHeld 0 &&
      !live.jobOn 0 8 o.bank)) = true ∧ open_.gangOpen 7 = true := by decide +kernel
theorem test_gang_join_met :
    gangOrder ((List.range 8).reverse.map member) = member 0 :: [member 1, member 2, member 3, member 4, member 5, member 6, member 7] ∧
    (List.range 8).all (fun k => !(live.core k).frozen) = true ∧ gangOp0.kind = 0 ∧ gangOp0.flag = 0#1 ∧ { gangOp0 with d := 0 } ≠ gangOp0 := by
  decide +kernel

def job0 : Job :=
  { id := 0, core := 0, ctx := 0, launch := 1, pc := 0#64, seq := 0, mode := 0, num := 0, bank := 0, addr := 0#64, amend := none, timeline := none,
    desc := [], amb := 0#16, part := 0, captured := false, started := false, landed := false, stopped := false, stat := 0, flags := 0#64, moved := 0,
    evl := none, weir := none, done := 0, mark := 0, away := none, got := [], hist := [none, none, none] }
def jobs (js : List Job) : State := liveQ (fun c => { c with jobs := js })
def copyTerms : List Instr := [.cpy k1 4 1 2, .cpyt k1 4 1 0, .cpyu k1 4 1 0, .cpyg k1 4 1 0, .cpys k1 4 1 0, .cpyf k1 4 1 0, .cpyq k1 4 1 0,
  .accsv k1 4 1 1 3 1 0 0, .accrs k1 4 1 1 0 0 1 1]
theorem test_engine_submissions_met : copyTerms.all (fun i => ok live i && (submission live i).isSome) = true ∧
    ok dom (.lscrub k1 4 1 0 0 0 0) = true ∧ (submission dom (.lscrub k1 4 1 0 0 0 0)).isSome = true ∧
    (live.cluster 0).jobs.length < 16 ∧ live.localHeld 0 = false ∧ 16 ≤ ((jobs (List.replicate 16 job0)).cluster 0).jobs.length ∧
    ok (jobs (List.replicate 16 job0)) (.cpy k1 4 1 2) = true ∧ [Instr.xfer k1 4 1 2 9, .xferq k1 4 1 0 63].all (ok live) = true := by decide +kernel

/-! ### Synchronisation -/

def atWeirB (s : State) (n : Nat) (addend : Dword) : Bool :=
  !s.me.sr && !s.here.gone.getLsbD n && decide (addend.toNat < 2 ^ 40) && (s.launchOf s.curCore).any (fun l => l.member n s.curCore)
theorem test_weir_instructions_met : [Instr.weira k0 2 1, .weirx k0 1, .weirw k0 1, .weir k0 2 1].all (ok live) = true ∧
    atWeirB live 0 40#64 = true ∧ atWeirB live 1 40#64 = true ∧ live.here.arr.getLsbD 1 = false ∧ live.me.ap = false ∧
    (liveC (fun c => { c with arr := 2#16 })).here.arr.getLsbD 1 = true ∧
    (let s := liveX (fun x => { x with ap := true, weirN := 1 })
     ok s (.weir k0 2 1) && atWeirB s 1 40#64 && s.me.ap && s.me.weirN == 1 && !s.here.arr.getLsbD 1) = true ∧ (live.me.weirN = 0#4) := by decide +kernel

theorem test_event_instructions_met : [Instr.evwaitLine k0 3, .evwaitMutex k0 3, .evwaitBarrier k0 3, .evsigLine k0 0 0 3, .evsigLine k0 2 1 3,
      .evsigMutex k0 3].all (ok live) = true ∧ (vget (live.cluster 0).lines 3 default).count = 0 ∧
    0 < (vget ((liveQ (fun c => c.onLine 3 (fun e => { e with count := 2 }))).cluster 0).lines 3 default).count ∧
    (vget (live.cluster 0).mutexes 3 default).owner = none ∧
    (liveQ (fun c => c.onMutex 3 (fun e => { e with owner := some (0, 0) }))).ownsMutex 0 0 3 = true ∧ live.ownsMutex 0 0 3 = false ∧
    (vget ((liveQ (fun c => c.onMutex 3 (fun e => { e with owner := some (1, 0) }))).cluster 0).mutexes 3 default).owner ≠ none ∧
    (liveQ (fun c => c.onMutex 3 (fun e => { e with owner := some (1, 0) }))).ownsMutex 0 0 3 = false ∧
    (vget (live.cluster 0).barriers 3 default).target = 0 ∧
    (vget ((liveQ (fun c => { c with barriers := c.barriers.set 3 ⟨8, []⟩ })).cluster 0).barriers 3 default).target ≠ 0 := by decide +kernel

/-- A launch over two clusters, for a signal to another cluster; s2 names the second. -/
def lau2 : Launch := { lau0 with w := 2, firm := 2, holdings := lau0.holdings ++ lau0.holdings }
def wide : State := world core0 lau2
def far : State := wide.onMe (fun x => x.setS 2 (BitVec.ofNat 64 (coreId (lau2.cluster 1 * 8))) 0#16)
theorem test_remote_signal_met : ok far (.evsigLine k0 2 1 3) = true ∧ clusterOfId (far.srcS 2).1.toNat ≠ 0 ∧ far.phased 0 = false ∧
    (far.launchOf 0).any (fun l => l.holds (clusterOfId (far.srcS 2).1.toNat)) = true ∧
    (live.launchOf 0).any (fun l => !l.holds (clusterOfId (far.srcS 2).1.toNat)) = true ∧
    (liveL (fun l => { l with phased := true })).phased 0 = true := by decide +kernel

theorem test_timelines_met : [Instr.tlwaitMem k0 5 2, .tlwaitSluice k0 0, .tlwaitSluice k0 2, .tlwaitMillrace k0 0 63, .tlwaitMillrace k0 2 63,
      .tlwaitUpdate k0 0, .tlsig k0 5 2].all (ok live) = true ∧ live.checkAccess .tlwait 0x30040 8 false false = none ∧
    live.checkAccess .tlsig 0x30040 8 false false = none ∧ placeOf 0 (address live 5 0) = .global ∧ live.me.jobLast < (live.srcS 2).1.toNat ∧
    (liveX (fun x => { x with jobLast := 40 })).me.timeline < 40 ∧ (live.tenant 0).mill.get 63 0 < (live.srcS 2).1.toNat ∧
    live.domainOf 0 = none ∧ dom.domainOf 0 = some 0 ∧ (dom.srcS 0).1.toNat ≤ dom.domUpdate 0 ∧ dom.domUpdate 0 < (dom.srcS 2).1.toNat ∧
    ok dom (.tlwaitUpdate k0 2) = true := by decide +kernel

/-- A communication phase, with flume 1 in the slot table's first cycle. -/
def phase : State := liveC (fun c => { c with pk := true, flumes := [⟨1, 0, 0, 4, 0⟩], slotTab := [(live.phaseCyc 0, 1)] })
theorem test_phase_instructions_met : [Instr.comm k0, .sendf k0 4 1].all (ok live) = true ∧ [Instr.comm k0, .sendf k0 4 1].all (ok phase) = true ∧
    live.here.pk = false ∧ phase.here.pk = true ∧ live.here.flume 1 = none ∧ (phase.here.flume 1).isSome = true ∧
    phase.here.slotTab.contains (phase.phaseCyc 0, 1) = true ∧ (List.range 16).all (fun i => !isPend ((phase.srcV 4).lane i).2) = true := by
  decide +kernel

/-! ### Domains, holdings, system -/

theorem test_domain_instructions_met : [Instr.anew k1 4, .anewTx k1 4 3, .assert k1 4 2, .settle k1 4].all (fun i => ok live i && ok dom i &&
      (domainAsk dom i).any (fun r => ((dom.countVoids [plainIn r.labels]).formWith []).isSome)) = true ∧
    [Instr.nogood k0 2, .retract k0 2].all (fun i => ok live i && ok dom i) = true ∧ live.domainOf 0 = none ∧ dom.domainOf 0 = some 0 := by
  decide +kernel

def pendX : State := liveX (fun x => x.setS 8 1#64 0xFFF2#16)
theorem test_labels_as_values_met : [Instr.lget k0 4 2 (ty 0) 0, .ltest k0 4 2 (ty 0) 0 6, .lget k0 4 2 (ty 0) 1, .ltest k0 4 2 (masked 0) 1 0].all
      (fun i => ok live i && (labelValue i).isSome) = true ∧ isPend (live.srcS 2).2 = false ∧ ok pendX (.lget k0 4 8 (ty 0) 0) = true ∧
    isPend (pendX.srcS 8).2 = true ∧ (live.lanes (ty 0)).all (fun j => !isPend ((live.srcV 2).lane j).2) = true ∧
    ok live (.lread k1 4 2 1) = true ∧ ok dom (.lread k1 4 2 1) = true := by decide +kernel

/-- A domain whose slots 0 to 2 are open, and where LSTRIP is permitted. -/
def opened (strip : Bool) : State :=
  { dom with directory := [(0, if strip then 0xC000000000000000#64 else 0x8000000000000000#64)] }.openSlot 0 0
theorem test_label_instructions_met : (let s := opened true
    let t := s.onMe (fun x => (x.setS 8 1#64 0#16).setS 9 2#64 0#16)
    [Instr.lapply k0 4 2 8 (ty 0) 0, .lapply k0 4 2 8 (ty 0) 1, .amb k0 0, .vjoin k0 4 1 2 (ty 0), .lstrip k0 4 2 (ty 0) 0, .lfence k0].all (ok t) &&
    decide (t.domainOf 0 = some 0) && t.stripOk 0 && !(opened false).stripOk 0 && !t.namesFree 0 0#64 &&
    goes (t.vresult k0 2 4 (ty 0) ((t.lanes (ty 0)).map (fun i => (i, ((t.srcV 2).lane i).1, envIn [((t.srcV 2).lane i).2, 0#16] 0#64))) 0) &&
    goes (t.resultOf k0 1 4 1#64 (envIn [0#16, 0#16] 0#64) 0) && ((t.countVoids [plainIn [0#16]]).formOne (envIn [] 0#64)).isSome &&
    ((t.stripReads [0#16]).formWith []).isSome) = true := by decide +kernel

/-- LabelInstructions: VJOIN of vectors that agree in every lane, and of vectors that differ in lane 3. -/
theorem test_vjoin_met : [opened true, (opened true).onMe (fun x => x.write (.lane 1 3 9 0))].map (fun t =>
    let apart := (t.lanes (ty 0)).filter (fun i => !(((t.srcV 1).lane i).1 == (t.laneB (ty 0) 2 i).1))
    (ok t (.vjoin k0 4 1 2 (ty 0)), apart, goes ((t.countVoids (apart.map (fun i => plainIn [((t.srcV 1).lane i).2, (t.laneB (ty 0) 2 i).2]))).vresultAt
      k0 2 2 4 (ty 0) (((t.lanes (ty 0)).filter (fun i => ((t.srcV 1).lane i).1 == (t.laneB (ty 0) 2 i).1)).map (fun i => (i, ((t.srcV 1).lane i).1,
        { hs := [], env := none, join := some (((t.srcV 1).lane i).2, (t.laneB (ty 0) 2 i).2) })))
      (if apart = [] then 0 else 0x100) (apart.map (fun i => .lane 4 i ((t.srcV 1).lane i).1 0xFFF9#16))))) = [(true, [], true), (true, [3], true)] := by
  decide +kernel

/-- The supervisor inside its surrender routine, with a recall it serves. -/
def recall0 : Recall := { tenant := 0, launch := 2, prio := 0, kind := 1, queue := 0, sel := 0 }
def routine (verdict : Bool) : State :=
  world { (Core.zero.setCtx 0 { ctx0 with sr := true, srVerdict := verdict, srLink := 0x10040#64 }) with launch := some 1, plb := ranges }
    { lau0 with holdings := lau0.holdings.map (fun h => { h with serving := some recall0 }) }
theorem test_holding_instructions_met : ok live (.srreg k0 6 3) = true ∧ live.curCtx = 0 ∧ live.curCore % 8 = 0 ∧ live.me.sr = false ∧
    16 ≤ (live.srcS 3).1.toNat ∧ (live.srcS 3).1.toNat ≤ 4096 ∧ (live.srcS 6).1.toNat % 4 = 0 ∧
    [Instr.srvFinish k0 3, .srvSummarise k0, .srvRefuse k0, .release k0].all (ok (routine false)) = true ∧ (routine false).me.sr = true ∧
    (routine false).me.srVerdict = false ∧ ((routine false).launch 1).any (fun l => (l.holding 0).serving == some recall0) = true ∧
    ok live (.release k0) = true ∧ (routine true).me.srVerdict = true ∧ ok live (.lease k1 4 2 3) = true ∧ (live.srcS 2).1.toNat ≤ 1024 ∧
    (live.formWith []).isSome = true ∧ live.here.launch = some live.myHolding.1 := by decide +kernel

def packet0 : Packet := { core := 1#64, launch := 2#64, pc := 3#64, addr := 4#64, info := 5#64, gen := 0#64 }
def offered : State := { live with tenants := [(0, { Tenant.zero with packets := [packet0] })] }
/-- A page range in local memory for PLBSET, in s9; LAUNCH_ID of the launch in s8. -/
def supX : State :=
  world { (Core.zero.setCtx 0 ((ctx0.setS 8 1#64 0#16).setS 9 0xFF000000000200#64 0#16)) with
          launch := some 1, plb := ranges, lmem := [(0x20F, 0x80#8)] } lau0
theorem test_system_now_met : ok live (.idle k0) = true ∧ ok offered (.idle k0) = true ∧ supX.localHeld 0 = false ∧ (live.tenant live.myTenant).packets = [] ∧
    (offered.tenant offered.myTenant).packets = [packet0] ∧ [Instr.fpkt k1 4 1, .kill k1 4 8, .qprio k0 3 0, .plbset k1 4 8 9].all (ok supX) = true ∧
    placeOf 0 (supX.srcS 1).1.toNat = .own 0x100 ∧ (supX.srcS 1).1.toNat % 64 = 0 ∧ supX.launchOperand (supX.srcS 8).1 = .inl 1 ∧
    (supX.srcS 3).1.toNat < 64 ∧ (supX.srcS 0).1.toNat < 8 ∧ (supX.srcS 8).1.toNat < 2 ^ 36 ∧ (supX.launch 1).any (fun l => l.tenant == supX.myTenant) = true ∧
    placeOf 0 (supX.srcS 9).1.toNat = .own 0x200 ∧
    (plbOf (leNat (Sparse.bytes supX.here.lmem 0x200 8)) (leNat (Sparse.bytes supX.here.lmem 0x208 8))).isSome = true ∧
    ((supX.countVoids [plainIn [0#16, 0#16]]).formWith []).isSome = true := by decide +kernel

/-- A tenant with a lease of pages 0 to 31 and aperture 3 of die 2. -/
def leasing : State :=
  { world core0 { lau0 with leases := [{ Plb.empty with valid := true, last := 31, r := true }] } with aperOwner := [(2 * 16 + 3, 0x80#8)] }
theorem test_system_sent_met : (let t := leasing.onMe (fun x => ((x.setS 8 1#64 0#16).setS 9 (BitVec.ofNat 64 (2 + 3 * 2 ^ 8)) 0#16).setS 10 0x30000#64 0#16)
    [Instr.replay k1 4, .flushcode k1 4 8, .resume k1 4 0, .aperset k1 4 9 0, .snap k1 4 10 0, .migrateMove k1 4 10 0, .migrateFlush k1 4 10].all
      (fun i => ok t i && (sent t i).any (fun r =>
        (((if r.kind = 0 then t.release else t).countVoids [plainIn r.labels]).formWith []).isSome))) = true := by decide +kernel

/-! ### Steps of the module -/

/-- The operands of a step. -/
def about (s : State) (a b c d e f : Nat) : State := { s with subj := ⟨a, b, c, d, e, f, 0⟩ }

/-- Context 0 waits for its fetch block, and the block's line has come. -/
def fetching (x : Bool) : State :=
  about { world { (Core.zero.setCtx 0 { ctx0 with wait := .fetch }) with
      launch := some 1, plb := ranges.set 0 { Plb.empty with valid := true, last := 15, r := true, x := x } } lau0 with
     reqs := [{ reqAt 9 0x10000 with op := .fetch, width := 64 }] } 0 (0x10000 / 32) 9 0 0 0
theorem test_core_steps_fetch_met : (fetching true).fetchers 0 (0x10000 / 32) = [0] ∧ ((fetching true).core 0).range 0x10000 ≠ none ∧
    ((fetching true).req 9).isSome = true ∧ ((fetching true).core 0).range 0x10000 ≠ ((fetching false).core 0).range 0x10000 ∧
    0 ∈ (fetching true).fillClusters 0 (0x10000 / 32) := by decide +kernel
theorem test_core_steps_met : ((liveX (fun x => { x with wait := .regMiss })).ctxAt 0 0).wait = .regMiss ∧ live.agenda = [] ∧
    (live.ctxAt 0 0).gapUntil ≤ live.now ∧ (live.core 0).divFree ≤ live.now ∧
    (let s := liveC (fun c => (c.setCtx 2 { ctx0 with ending := true }).setCtx 3 { ctx0 with wait := .hjoin 2 })
     (s.ctxAt 0 2).live && (s.ctxAt 0 2).ending && (s.ctxAt 0 2).tags == 0#8 && !s.pendingLabels 0 2 && (s.ctxAt 0 3).wait == .hjoin 2) = true ∧
    (let s := liveX (fun x => { x with wait := .halt })
     (s.ctxAt 0 0).wait == .halt && (s.core 0).noHelper && !(s.core 0).frozen) = true ∧
    (let s := liveC (fun c => { c with held := [report0] })
     (s.core 0).held == [report0] && !(s.core 0).frozen && (s.launchOf 0).all (·.state == .bound)) = true ∧
    (let s := liveC (fun c => { c with packet := some { packet0 with info := 0x100#64 } })
     decide ((s.core 0).packet = some { packet0 with info := 0x100#64 }) && decide (s.supCore (s.tenantOf 0) = some 0) &&
       decide ((0x100#64).toNat / 256 % 16 ≠ 0) && decide ((s.tenant 0).packets.length < 256)) = true ∧
    256 ≤ (({ live with tenants := [(0, { Tenant.zero with packets := List.replicate 256 packet0 })] } : State).tenant 0).packets.length := by
  decide +kernel

theorem test_uncorrectable_errors_met : (live.ctxAt 0 0).live = true ∧ (live.cluster 0).accv.wf = true := by decide +kernel

/-- A home access: the request, the leaf of its page as cached, and the line as present. -/
def line0 : Line := { line := 0x30040 / 64, words := List.replicate 16 (5#32, 0#16), dirty := true, used := 0, corrupt := false }
def homing (op : ReqOp) (leaf : Option Dword) (lines : List Line) : State :=
  { live with reqs := [{ reqAt 9 0x30040 with op := op }], lines := lines, subj := { a := 9 },
              tcache := match leaf with | none => [] | some w => [{ leaf3 with leaf := ⟨w, 0#64⟩ }] }
def fills (g : Gate) : Bool := match g with
  | .fill _ => true
  | _ => false
def readyAt (g : Gate) : Bool := match g with
  | .ready e => e.all (fun x => !x.leaf.hl)
  | _ => false
def plainPage : State := homing .store (some 0x8000000000000000#64) []
theorem test_home_accesses_met : (plainPage.req 9).isSome = true ∧ placeOf 0 0x30040 = .global ∧
    plainPage.blocked (reqAt 9 0x30040) = false ∧
    ({ plainPage with reqs := [reqAt 3 0x30044, reqAt 9 0x30040] } : State).blocked (reqAt 9 0x30040) = true ∧
    (homing .store none []).gate 0 true 0x30040 = .walk ∧ fills (plainPage.gate 0 true 0x30040) = true ∧
    (homing .store (some 0x8400000000000000#64) []).gate 0 true 0x30040 = .wait ∧
    (homing .store (some 0x9000000000000000#64) []).gate 0 true 0x30040 = .park 5 ∧ decodes.gate 0 true 0x30040 = .rights ∧
    readyAt ((homing .load (some 0x8000000000000000#64) [line0]).gate 0 false 0x30040) = true ∧
    readyAt ((homing .store (some 0x8000000000000000#64) [line0]).gate 0 true 0x30040) = true ∧
    (homing .store (some 0x8000000000000000#64) [line0]).line (0x30040 / 64) = some line0 ∧ line0.words.length = 16 ∧
    (reqAt 9 0x30040).grp = 0 := by decide +kernel

/-- A store of a labelled word to a page without labels is refused (R34). -/
theorem test_home_refusal_met : (let s := homing .store (some 0x8000000000000000#64) [line0]
    match s.gate 0 true 0x30040 with
    | .ready e => (s.homeStore 0 0 e 0x30040 4 7 0x0007#16).isNone
    | _ => false) = true := by decide +kernel

/-- A page table in memory: root, two nodes, a node of large pages, whose first leaf is valid; entry 1 is not. -/
def tables : State :=
  let die := homeDie 0x30040
  let e (frame : Nat) : List Byte := leBytes 8 (2 ^ 63 + frame)
  let m := Sparse.putBytes (Sparse.putBytes (Sparse.putBytes [] 0x10000 (e 0x20000)) 0x20000 (e 0x30000)) 0x30000
    (leBytes 8 (2 ^ 63 + 2 ^ 62 + die * 2 ^ 50 + 0x2000000))
  { homing .store none [] with mem := m, root := [(die, 0x10000)] }
theorem test_memory_steps_met : (match tables.walk 0x30040 with | .leaf _ z => z == largePage | .park _ => false) = true ∧
    (homing .store none []).walk 0x30040 = .park 1 ∧
    (let s := { homing .load none [] with reqs := [{ reqAt 9 0x30040 with leaf := some leaf3 }] }
     (s.req 9).any (fun r => r.leaf == some leaf3) && (s.cachedLeaf 0x30040).isNone) = true ∧
    (let s := homing .load (some 0x8000000000000000#64) []
     let t := homing .load (some 0x8000030000000000#64) []
     (s.line (0x30040 / 64)).isNone && (s.cachedLeaf 0x30040).any (fun e => s.lineOk e.leaf e.size 0x30040) &&
       (t.cachedLeaf 0x30040).any (fun e => !t.lineOk e.leaf e.size 0x30040)) = true ∧
    (let r := { reqAt 9 0x30040 with op := .part 0, width := 64, words := List.replicate 16 (7#32, 0#16) }
     let s := { homing .load (some 0x8000000000000000#64) [line0] with reqs := [r] }
     !s.blocked r && (match s.gate 0 true 0x30040 with | .ready e => (s.homePartial r 0 e).isSome && e.all (fun x => !x.leaf.hl) | _ => false)) = true ∧
    (reqAt 9 0x30040).value = none ∧
    (let c : Copy := { id := 0, line := 0x30040 / 64, words := line0.words, stamp := 0, readers := 1, writers := 0, used := 0, page := none, corrupt := false }
     let s := { homing .load none [] with clusters := [(0, { Cluster.zero with near := [c] })] }
     s.nearCopy 0 (0x30040 / 64) == some c) = true := by decide +kernel

theorem test_write_back_met : (let s := { homing .load (some 0x8000000000000000#64) [line0] with subj := { a := 0x30040 / 64 } }
    (s.line s.subj.a).any (fun x => x.dirty && x.words.length == 16) && s.moves.isEmpty && (match s.translate 0x30040 with
      | .leaf l z => !l.hl && !l.labelled && s.mcOk (l.phys z 0x30040) 64 && l.phys z 0x30040 / 2 ^ 40 % 4 != 3
      | _ => false)) = true := by
  decide +kernel

def ffl : FFlight := { id := 4, tenant := 0, page := 0x30000, rcd := { va := 0x30040#64, info := 0#64, gen := 0#64, launch := 1#64 } }
theorem test_fault_record_met : ({ live with recording := [ffl] } : State).recording.find? (fun f => f.id == 4) = some ffl ∧
    ffl.rcd.gen.toNat = (live.tenant 0).gen ∧ (live.tenant 0).fbTail - (live.tenant 0).fbHead < 2016 ∧
    2016 ≤ ({ Tenant.zero with fbTail := 2016 } : Tenant).fbTail - 0 ∧ ffl.rcd.gen.toNat ≠ ({ Tenant.zero with gen := 1 } : Tenant).gen := by
  decide +kernel

def move0 : Move := { id := 4, tenant := 0, page := 0x30000, frame := 0, snap := none, copied := true }
/-- The page of 0x30000 under copy-on-write, in a pool of one frame. -/
def snapping : State :=
  { tables with
    mem := Sparse.putBytes (Sparse.putBytes tables.mem 0x30000 (leBytes 8 (2 ^ 63 + 0x40000) ++ List.replicate 8 0#8)) 0x40030
      (leBytes 8 (2 ^ 63 + 2 ^ 62 + 2 ^ 57 + homeDie 0x30000 * 2 ^ 50 + 0x50000)),
    root := [(homeDie 0x30000, 0x10000)], tenants := [(0, { Tenant.zero with spCount := 1 })] }
theorem test_host_pages_met : ((homing .load (some 0x9800000000000000#64) []).req 9).any (fun r => r.op == .load) = true ∧
    ((homing .load (some 0x9800000000000000#64) []).cachedLeaf 0x30040).any (fun e => e.leaf.owned && State.reset.lineOk e.leaf e.size 0x30040) = true ∧ (1#64 : Dword) ≠ 0#64 ∧
    [move0].find? (fun m => m.id == 4) = some move0 ∧ ({ live with moves := [move0] } : State).pinners 0x30000 = [] ∧
    (match snapping.walk (3 * 65536) with
     | .leaf l z => l.cw && snapping.poolHas 0 l && z == 65536
     | .park _ => false) = true := by decide +kernel

/-! ### Where an instruction completes -/

theorem slots_free : live.here.freeSlots = 8 := by decide +kernel
def completing : List Instr := [.add k0 4 1 2, .vadd k0 4 1 2 (ty 0), .vfma k0 4 1 2 3 (ty 2), .div k1 4 1 2, .vdiv k0 4 1 2 (ty 2), .srd k0 4 0x00C,
  .swr k0 2 0x00A, .ld k0 4 1 8 3 0 1, .st k0 5 2 0 0 0, .cas k1 4 5 2 3 3 8, .redc k0 7 2 0, .rwb k1 5 2, .vldb k1 4 5 (ty 0) 0 3, .vst k0 5 4 (ty 0) 0 0]
theorem test_completes_issue : completing.all (ok live) = true := by decide +kernel
theorem test_completes_results_met : completesWhen live (.add k0 4 1 2) ∧ completesWhen live (.vadd k0 4 1 2 (ty 0)) ∧
    completesWhen live (.vfma k0 4 1 2 3 (ty 2)) ∧ completesWhen live (.div k1 4 1 2) ∧ completesWhen live (.vdiv k0 4 1 2 (ty 2)) :=
  ⟨slots_free, slots_free, slots_free, ⟨slots_free, by decide +kernel⟩, slots_free, by decide +kernel⟩
theorem test_completes_registers_met : completesWhen live (.srd k0 4 0x00C) ∧ completesWhen live (.swr k0 2 0x00A) :=
  ⟨by show live.sysReg 0x00C ≠ none; decide +kernel, .inr (.inr (by decide +kernel))⟩
theorem test_completes_memory_met : completesWhen live (.ld k0 4 1 8 3 0 1) ∧ completesWhen live (.st k0 5 2 0 0 0) ∧
    completesWhen live (.cas k1 4 5 2 3 3 8) ∧ completesWhen live (.redc k0 7 2 0) ∧ completesWhen live (.rwb k1 5 2) := by
  refine ⟨⟨slots_free, fun r h => ?_⟩, ⟨slots_free, fun r h => ?_⟩, fun r h => ?_, ⟨slots_free, by decide +kernel⟩, by decide +kernel, by decide +kernel⟩ <;>
    (cases h; decide +kernel)
theorem test_completes_vectors_met : completesWhen live (.vldb k1 4 5 (ty 0) 0 3) ∧ completesWhen live (.vst k0 5 4 (ty 0) 0 0) := by
  refine ⟨fun r h => ?_, slots_free, fun v vm lc addr rs h => ?_⟩
  · cases h; exact ⟨by decide +kernel, by decide +kernel⟩
  · cases h; exact ⟨⟨by decide +kernel, by decide +kernel⟩, by unfold storesFit; decide +kernel⟩
theorem test_completes_engines_met : completesWhen live (.mzero k0 1) ∧ completesWhen live (.cpy k1 4 1 2) ∧ completesWhen live (.accrs k1 4 1 1 0 0 1 1) ∧
    sliceOk live 5 3 0 ∧ completesWhen live (.xfer k1 4 1 2 9) :=
  ⟨by show live.writeWaits 1 = false; decide +kernel, ⟨by decide +kernel, by decide +kernel⟩, ⟨⟨by decide +kernel, by decide +kernel⟩, by decide +kernel⟩,
    ⟨by decide +kernel, by decide +kernel, by decide +kernel⟩, by show live.localHeld 0 = false; decide +kernel⟩
theorem test_completes_weirs_met : completesWhen live (.weira k0 2 1) ∧ completesWhen live (.weirw k0 1) := by
  have h : ∃ l, live.launchOf live.curCore = some l ∧ l.member 1 live.curCore = true := ⟨lau0, by decide +kernel, by decide +kernel⟩
  exact ⟨⟨by decide +kernel, by decide +kernel, by decide +kernel, h⟩, ⟨by decide +kernel, by decide +kernel, by decide +kernel, h⟩, by decide +kernel⟩
theorem test_completes_events_met : completesWhen (liveQ (fun c => c.onLine 3 (fun e => { e with count := 2 }))) (.evwaitLine k0 3) ∧
    completesWhen live (.evwaitMutex k0 3) ∧ completesWhen live (.tlwaitMillrace k0 0 63) :=
  ⟨by show 0 < _; decide +kernel, ⟨by decide +kernel, by decide +kernel⟩, by show _ ≤ _; decide +kernel⟩
theorem test_completes_labels_met : completesWhen dom (.anew k1 4) ∧ completesWhen dom (.nogood k0 2) ∧
    completesWhen dom (.lget k0 4 2 (ty 0) 0) ∧ completesWhen (opened true) (.lstrip k0 4 2 (ty 0) 0) :=
  ⟨⟨by decide +kernel, by decide +kernel⟩, by show dom.domainOf 0 ≠ none; decide +kernel, by show isPend _ = false; decide +kernel,
    by decide +kernel, ⟨0, by decide +kernel, by decide +kernel⟩, by decide +kernel⟩
theorem test_completes_system_met : completesWhen live (.srreg k0 6 3) ∧ completesWhen (routine true) (.release k0) ∧ completesWhen live (.lease k1 4 2 3) ∧
    completesWhen supX (.fpkt k1 4 1) ∧ completesWhen supX (.kill k1 4 8) ∧ completesWhen supX (.qprio k0 3 0) ∧ completesWhen offered (.idle k0) :=
  ⟨⟨⟨by decide +kernel, by decide +kernel, by decide +kernel⟩, by decide +kernel, .inr (by decide +kernel)⟩,
    .inr ⟨⟨by decide +kernel, by decide +kernel, by decide +kernel⟩, by decide +kernel⟩,
    ⟨by decide +kernel, by decide +kernel, by decide +kernel, by decide +kernel⟩, ⟨by decide +kernel, by decide +kernel, ⟨0x100, by decide +kernel⟩, by decide +kernel⟩,
    ⟨by decide +kernel, 1, by decide +kernel⟩, by show _ ∧ _; decide +kernel, by show _ ≠ _; decide +kernel⟩

/-- Transfers: taken, not taken, to a register, from the surrender routine. -/
theorem test_transfers_met : (transfer live (.brnz k0 1 4)).any (fun x => x.goal == 0x10010#64) = true ∧ transfer live (.ret k0) = some
    ⟨(live.srcS 31).1.toNat % 4 = 0 ∧ poisoned live 31 = false, True, 0#64⟩ ∧ (live.srcS 31).1.toNat % 4 = 0 ∧ poisoned live 31 = false ∧
    (live.srcS 1).1 ≠ 0#64 ∧ ok (routine false) (.srvFinish k0 3) = true ∧ Holder (routine false) true ∧ (routine false).me.srVerdict = false := by
  refine ⟨by decide +kernel, rfl, by decide +kernel, by decide +kernel, by decide +kernel, by decide +kernel, ?_, by decide +kernel⟩
  exact ⟨by decide +kernel, by decide +kernel, by decide +kernel⟩
theorem test_sleeps_met : sleeps live (.idle k0) = some ((live.tenant live.myTenant).packets = [], .idle) ∧ (live.tenant live.myTenant).packets = [] ∧
    sleeps live (.evwaitMutex k0 3) ≠ none ∧ sleeps helper (.halt k0) ≠ none := by
  refine ⟨rfl, by decide +kernel, by simp [sleeps], by simp [sleeps]⟩
theorem test_gang_members_met : memberMay live ⟨0, 1, 2, 4, 5, 3, 3, 0, 0, 0⟩ (productRegs 0 3 3 2 4 5) ∧ ok live (.mma k1 1 2 4 5 3 3 0 0) = true := by
  refine ⟨⟨by decide +kernel, by decide +kernel, by decide +kernel, by decide +kernel, fun _ => by decide +kernel⟩, by decide +kernel⟩

/-- A descriptor of zeros in local memory, read by a CPY job not yet captured; `poison` and the mode as given. -/
def capturing : State := { jobs [{ job0 with id := 7, addr := 0xFF000000000100#64 }] with subj := { a := 7 } }
def started : Job := { job0 with id := 7, captured := true, started := true }
theorem test_engine_steps_met : (capturing.findJob 7).any (fun j => !j.captured && j.mode != 6) = true ∧
    (let d := capturing.readDesc { job0 with id := 7, addr := 0xFF000000000100#64 }
     (capturing.captureCheck d.1 true d.2).isSome) = true ∧
    (let j : Job := { job0 with id := 7, mode := 7, bank := 1, addr := 0x30040#64 }
     let s := jobs [j]
     (s.captureCheck (s.readDesc j).1 false (s.readDesc j).2).isNone && (s.findJob 7).any (fun i => !i.captured)) = true ∧
    live.engineLoad (live.engineOf job0) < 256 ∧ live.copyFirst 0 = false ∧
    ((jobs [{ started with started := false }]).cluster 0).jobs.find? (fun j => j.captured && !j.started) = some { started with started := false } ∧
    ((jobs [{ started with started := false }]).cluster 0).running < 4 ∧ 4 ≤ ((jobs (List.replicate 4 started)).cluster 0).running ∧
    (jobs [started]).jobHeld started = false ∧ (jobs [started]).jobGang started = false ∧ (jobs [started]).stopResumed started = true := by
  decide +kernel

/-- How a job ends. -/
def ends (e : JobEnd) : Nat := match e with
  | .done => 0
  | .halt _ => 1
/-- A save of bank 1 to global memory; to page 3 it is done, elsewhere it halts. -/
def saveTo (va : Dword) : Job := { started with mode := 7, bank := 1, addr := va, desc := List.replicate 16 0#32 }
theorem test_engine_work_met : ends ((jobs [saveTo 0x700000#64]).workJob (saveTo 0x700000#64)).2.2 = 1 ∧
    ends (live.workJob { started with desc := List.replicate 16 0#32 }).2.2 = 0 ∧
    ({ started with desc := List.replicate 16 0#32 } : Job).globalEnds = true := by decide +kernel

def mat0 : MatOp :=
  { id := 6, op := gangOp0, members := (List.range 8).map member, rows := 32, cols := 32, addrs := [], fmt := false, start := 0, begun := false,
    colsDone := false, num := 0, gotA := false, gotB := false, lost := false }
def joined (o : MatOp) : State := { liveQ (fun c => { c with mats := [o] }) with subj := { b := 6 } }
def ringed : State := world core0 { lau0 with rot := some (0, 0, 1, 1) }
theorem test_gang_steps_met : (joined mat0).matOp 0 6 = some mat0 ∧ (joined mat0).gangReady 0 mat0 = true ∧
    (joined { mat0 with start := 9 }).gangReady 0 { mat0 with start := 9 } = false ∧ mat0.begun = false ∧ mat0.lost = false ∧
    ({ gangOp0 with kind := 2 } : GangOp).kind = 2 ∧ (ringed.clusterLaunch 0).any (fun l => (l.neighbour 0 1 0).isSome) = true := by decide +kernel

def armed : State := { liveL (fun l => { l with weirs := l.weirs.set 1 { l.weir 1 with due := 9 } }) with
  now := 9, cores := (0, { core0 with arr := 2#16 }) :: (List.range 7).map (fun c => (c + 1, { core0 with arr := 2#16 })),
  subj := { a := 1, b := 1 } }
theorem test_sync_steps_met : ((live.core 0).launch = some (2 / 2) ∧ (live.core 0).frozen = false ∧ live.outstanding 0 5 = false) ∧
    (armed.launch 1).any (fun l => (l.weir 1).due == armed.now && armed.weirMet l 1 && decide (l.members 1).Nodup) = true ∧
    (live.core (0 * 8)).launch = some (2 / 2) ∧
    (vget (live.cluster 0).lines 31 default).sleepers = [] ∧
    (vget ((liveQ (fun c => c.onLine 31 (fun e => { e with sleepers := [(0, 10)] }))).cluster 0).lines 31 default).sleepers = [(0, 10)] ∧
    (live.ctxAt 0 10).gapUntil ≤ live.now ∧ (live.core 0).launch = some 1 ∧ (live.core 8).launch ≠ some 1 := by decide +kernel

/-! ### Labels, launches -/

/-- A domain at 0x30000, its page cached for the slices that the tests touch. -/
def leafAt (va : Nat) : TEntry := { slice := homeSlice va, page := 0, size := largePage, leaf := { w0 := 0x8000000000000000#64, w1 := 0#64 } }
def slot0 (l : List (List Dword)) (got : Option Handle) : Slot :=
  { ctx := 0, fill := none, inp := plainIn [], ready := 4, started := true, began := 4, order := 0, seen := View.zero, todo := l, got := got, lost := false }
def probing (l : List Dword) : State :=
  { liveL (fun l => { l with domain := some 0 }) with
    directory := [(0, 0x8000000000030000#64)],
    cores := [(0, core0.setSlot 2 (some (slot0 [l] none)))],
    tcache := [leafAt 0x40000, leafAt (0x40000 + 32 * internStart l)], subj := { b := 2, d := 4 } }
/-- The entry where the search begins holds another environment list. -/
def taken (l : List Dword) (v : Nat) : State := { probing l with mem := Sparse.putBytes [] (0x40000 + 32 * internStart l) (leBytes 8 v) }
theorem test_label_steps_probe_met : (let s := probing [1#64]
    ((s.core 0).slotAt 2).any (fun x => x.ready == 4 && x.got.isNone && !x.lost && x.todo == [[1#64]]) && (s.domainOf 0 == some 0) &&
    !(s.core 0).probesLater 2 (slot0 [[1#64]] none) && s.resident (s.domBase 0 + 0x10000) && s.tableEntry 0 (probeAt (internStart [1#64]) 0) == [] &&
    (taken [1#64] 1).tableEntry 0 (probeAt (internStart [1#64]) 0) == [1#64] &&
    (taken [1#64] 2).tableEntry 0 (probeAt (internStart [1#64]) 0) == [2#64]) = true := by decide +kernel

def op0 (kind : Nat) : DomOp :=
  { id := 8, core := 0, ctx := 0, launch := 1, dom := 0, kind := kind, val := 0#64, link := 0, slot := none, reg := 4, seq := 5, lbl := 0#16,
    pc := 0#64, hist := [], res := 0#64, fault := none, change := [] }
def homeOp (kind : Nat) : State :=
  { probing [1#64] with domOps := [op0 kind], tcache := [leafAt 0x30000, leafAt 0x30020, leafAt 0x30040], subj := { a := 8 } }
theorem test_label_steps_met : (core0.setSlot 2 (some (slot0 [] (some 7#16)))).slotAt 2 = some (slot0 [] (some 7#16)) ∧ isPend 7#16 = false ∧
    (homeOp 0).domOps.find? (fun o => o.id == 8) = some (op0 0) ∧ (homeOp 0).resident ((homeOp 0).domBase 0) = true ∧
    (homeOp 0).lowestFree 0 = some 0 ∧ (op0 1).fault = none ∧ (op0 1).change = [] ∧ ({ op0 2 with fault := some (1, 0#64) } : DomOp).fault ≠ none := by
  decide +kernel
/-- A domain with every slot open. -/
theorem test_label_steps_full_met : ({ homeOp 0 with mem := Sparse.putBytes [] 0x30020 (List.replicate 8 0xFF#8) } : State).lowestFree 0 = none := by
  decide +kernel

theorem test_launch_steps_recall_met : (let l : Launch := { lau0 with
      holdings := lau0.holdings.map (fun h => { h with recalls := [recall0], routine := 0x10080#64 }) }
    let s := world core0 l
    (l.holding 0).recalls == [recall0] && (l.holding 0).present && !(l.holding 0).departing && (l.holding 0).serving.isNone && l.forced.isEmpty &&
    (s.ctxAt (l.cluster 0 * 8) 0).live && s.deliverable l 0 && (l.holding 0).routine != 0#64) = true ∧
    lau0.forced = [] ∧ lau0.state = .bound ∧ (lau0.holding 0).serving = none ∧ (lau0.holding 0).recalls = [] ∧
    (let l : Launch := { lau0 with holdings := lau0.holdings.map (fun h => { h with departing := true }) }
     (l.holding 0).departing && (l.holding 0).present && (world core0 l).departureDone (l.cluster 0) && (l.holding 0).serving.isNone) = true ∧
    State.reset.fatal = false ∧ State.reset.tenants = [] ∧ State.reset.launches = [] := by decide +kernel

/-- A selection of one cluster at (0, 0), with a pool of one save record, all its pages cached. -/
def sel0 : Select :=
  { (default : Select) with rcd := ((List.replicate 32 0#64).set 2 0x10001#64).set 6 0x200000#64, got := [0] }
def selecting : State :=
  { State.reset with
    tenants := [(0, { Tenant.zero with saveBase := 0x400000#64, saveCnt := 1#64, queues := [(3, { Queue.zero with selected := some sel0 })] })],
    tcache := (List.range 128).map (fun i => leafAt (65536 * i)), subj := { b := 3 } }
theorem test_launch_steps_bind_met : (selecting.queueAt (0, 3)).selected = some sel0 ∧ sel0.want = [] ∧ recW sel0.rcd * recH sel0.rcd = 1 ∧
    selecting.freeSaves 0 1 = [0] ∧ selecting.leasesResident sel0.rcd = true ∧ selecting.rangeResident (rw sel0.rcd 6) (ctxBytes sel0.rcd) = true ∧
    selecting.rangeResident ((selecting.tenant 0).saveBase.toNat + 0 * Config.saveSize) Config.saveSize = true := by decide +kernel
theorem test_launch_steps_start_met : (selecting.launchOfSel 0 3 { sel0 with rcd := sel0.rcd.set 2 0x10001#64 } [0]).here = [0] := by decide +kernel

def resting : Launch := { lau0 with sweep := some (0, 0) }
def restState : State := { world { core0.setCtx 0 Ctx.zero with launch := some 1 } resting with clusters := [] }
theorem test_launch_steps_end_met : resting.state = .bound ∧
    resting.cores.all (fun k => (List.range 11).all (fun t => !(restState.ctxAt k t).live)) = true ∧
    resting.outGone + (resting.cores.map (fun k => (restState.core k).evOut)).foldl (· + ·) 0 = 0 ∧
    resting.inGone + (resting.cores.map (fun k => (restState.core k).evIn)).foldl (· + ·) 0 = 0 ∧ restState.reqs = [] ∧ restState.late = [] ∧
    (let l : Launch := { lau0 with forced := [(0, none)] }
     !l.forced.isEmpty && !(world core0 l).preemptHeld l) = true ∧
    (let l : Launch := { lau0 with state := .preempting }
     (world core0 l).quiet l) = true ∧
    (let l : Launch := { lau0 with state := .preempted, rcd := sel0.rcd, saves := [0] }
     let s : State := { selecting with launches := [(1, l)], tenants := [(0, { Tenant.zero with saveBase := 0x400000#64, saveCnt := 1#64 })] }
     l.here.all (s.positionFree l) && s.restorable l) = true ∧
    (let l : Launch := { lau0 with state := .restoring }
     (l.here.map l.cluster).all (fun q => ((world core0 l).cluster q).jobs.isEmpty)) = true := by decide +kernel

/-! ### The host, the controller, the links -/

/-- Tenant 0 with a BAR 2 window of 64 KiB at page 3, whose line is present; its PCI Express link is in L0. -/
def hostState : State :=
  { live with tenants := [(0, { Tenant.zero with wBase := 0x30000#64, wCfg := 0x310#64, puba := [(2, 1#64)] })], pwBase := 0x20000#64,
              linksL0 := 0xF#4, lines := [line0] }
def hostPage (w0 : Dword) : State := { hostState with tcache := [{ leaf3 with leaf := ⟨w0, 0#64⟩ }] }
theorem test_host_accesses_met : hostState.reaches 0 = true ∧ live.reaches 0 = false ∧ hostState.bar2Ok 0 0x40 4 8 = true ∧
    hostState.bar2Ok 0 0x40 4 9 = true ∧ hostState.bar2Ok 0 0x10000 4 8 = false ∧ hostState.bar2Ok 0 0x10000 4 9 = false ∧
    hostState.reqs = [] ∧ 0x30040 % 64 + 4 ≤ 64 ∧ 0x30040 % 4 + 4 ≤ 4 ∧ hostState.line (0x30040 / 64) = some line0 ∧
    [false, true].all (fun w => readyAt (hostState.gate 0 w 0x30040)) = true ∧
    (hostPage 0x9000000000000000#64).gate 0 true 0x30040 = .park 5 ∧ ({ hostState with tcache := [], lines := [] } : State).gate 0 false 0x30040 = .walk ∧
    (hostPage 0x8400000000000000#64).gate 0 true 0x30040 = .wait ∧ ({ hostState with tcache := [] } : State).gate 0 true 0x30040 = .walk ∧
    (match (hostPage 0x8200000000000000#64).gate 0 true 0x30040 with | .cow _ => true | _ => false) = true ∧
    ({ hostState with apers := decodes.apers, tcache := decodes.tcache } : State).gate 0 true 0x30040 = .rights ∧
    (match ({ hostPage 0x9800000000000000#64 with pcie := 0xF#4 } : State).gate 0 false 0x30040 with
     | .ready (some e) => e.leaf.hl
     | _ => false) = true ∧
    (match ({ hostPage 0x9000000000000000#64 with pcie := 0xF#4 } : State).gate 0 false 0x30040 with | .host _ => true | _ => false) = true := by
  decide +kernel
theorem test_host_steps_met : hostState.windowOk hostState.pwBase.toNat = true ∧ ({ hostState with pwBase := 0x0003FFFFFFFF0000#64 } : State).windowOk
      0x0003FFFFFFFF0000 = false ∧ (hostState.tenant 0).gen = 0 ∧ (hostState.tenant 0).resetBusy = false ∧
    ({ Tenant.zero with resetBusy := true } : Tenant).resetBusy = true := by decide +kernel
theorem test_host_steps_directory_met : (∀ p ∈ hostState.launches, p.2.domain ≠ some 5) ∧ (∃ p ∈ dom.launches, p.2.domain = some 0) := by decide
theorem test_host_steps_doorbell_met : ((5#64).toNat < ((live.tenant 0).queue 3).head.toNat ∨
    2 ^ (((live.tenant 0).queue 3).cfg.toNat % 32) < (5#64).toNat - ((live.tenant 0).queue 3).head.toNat) := by decide +kernel
theorem test_host_registers_met : State.reset.mailbox.nonce.length = 32 := by decide

theorem test_controller_steps_met : State.reset.ready = false ∧ State.reset.fatal = false ∧ (∀ x ∈ State.reset.agenda, x.what ≠ .pcieTrainTimeout) ∧
    ({ State.reset with linksL0 := 3#4 } : State).linksL0 ≠ 0#4 ∧ ((∀ p ∈ [(0, 761), (1, 500)], p.2 ≤ 840) : Prop) ∧ ((1, 841) ∈ [(0, 761), (1, 841)]) ∧
    ({ State.reset.mailbox with status := 1 } : Mailbox).status = 1 ∧ State.reset.mailbox.status ≠ 1 ∧
    ({ State.reset.mailbox with output := 1 } : Mailbox).output = 1 ∧ loadImages [] = none := by decide +kernel
/-- An image that the fuses accept, and one not signed; five of the first. -/
def image (signed : Bool) : FlashImage := { key := Config.fusedKey, digest := [], signed := signed, version := 0xFFFFFFFF#32 }
theorem test_image_met (i : Nat) : imageOk i (image true) = true ∧ imageOk i (image false) = false := by
  have h := (Config.fusedMinimum i).isLt
  refine ⟨?_, by simp [imageOk, image]⟩
  simp [imageOk, image]
  omega
theorem test_images_met : (loadImages (List.replicate 5 (image false, image true))).isSome = true := by
  have h : ∀ i, loadImage i (image false, image true) = some (image true) := fun i => by
    simp [loadImage, (test_image_met i).1, (test_image_met i).2]
  simp [loadImages, List.range_succ, List.range_zero, h]

/-- Link 3 in a state, with an inbound window at 0x30000 of 64 KiB, rights R, W and L. -/
def linked (st : NState) : State :=
  { homeOp 0 with
    links := State.reset.links.set 3 { NLink.zero with state := st, inBase := 0x30000#64, inCfg := 0xF000000000010000#64, pairs := [(0, 2, 9)] },
    subj := { a := 3 } }
def access0 : RemoteAccess := { kind := 0, off := 0x40, width := 4, data := 0, cmp := 0, envs := [], void := 0 }
def flit0 : Flit := { header := 0, payload := List.replicate 240 0#8, crc := 0 }
theorem crc_zeros (n : Nat) : crc64 (List.replicate n 0#8) = 0#64 := by
  unfold crc64
  induction n with
  | zero => rfl
  | succ n ih => rw [List.replicate_succ, List.foldl_cons, show crcByte 0#64 0#8 = 0#64 from by decide +kernel, ih]
theorem flit0_crc : crc64 (leBytes 8 flit0.header.toNat ++ flit0.payload) = 0#64 := crc_zeros 248
theorem test_link_steps_flit_met : flitWhole flit0 = true ∧ flitWhole { flit0 with crc := 1 } = false := by
  have h : ∀ c, flitWhole { flit0 with crc := c } = (flit0.payload.length == 240 && 0#64 == c) := fun c => by
    rw [← flit0_crc]; rfl
  exact ⟨(h 0#64).trans (by decide +kernel), (h 1#64).trans (by decide +kernel)⟩
theorem test_link_steps_met : ((linked .detect).nlink 3).state = .detect ∧ ((linked .active).nlink 3).state = .active ∧
    ((linked .equalise).nlink 3).entered = (linked .equalise).subj.b ∧ ((linked .down).nlink 3).state = .down ∧
    flit0.header.toNat / 2 ^ 3 % 2 ^ 12 = ((linked .active).nlink 3).rxSeq ∧
    ((linked .active).nlink 3).allows access0 = true ∧ ((linked .active).nlink 3).allows { access0 with off := 0x10000 } = false := by decide +kernel
theorem test_link_steps_window_met : (let s := linked .active
    let va := (s.nlink 3).inBase.toNat + access0.off
    decide (va < 0xC0000000000000) && (s.dirEntry (s.nlink 3).domain).testBit 63 && (match s.translate va with
      | .leaf l z => !l.hl && !l.remote && ((s.keepLeaf va l z).homeLine va).isSome
      | .park _ => false)) = true := by decide +kernel
theorem test_link_steps_slots_met : (let s := linked .active
    (s.nlink 3).inCfg.getLsbD 63 && s.resident (s.domBase (s.nlink 3).domain) && (s.lowestFree 0).isSome && decide ((s.nlink 3).pairs.length < 64) &&
    decide (s.domNgCount 0 ≤ 64 - (s.pairedOpen 0 none + 1)) && ((s.nlink 3).assertedPair 2).isSome) = true ∧
    (let s : State := { linked .active with domOps := [{ op0 3 with link := 3, slot := some 2 }] }
     s.domOps.any (fun o => o.kind == 3 && o.link == 3 && (s.nlink 3).pairs.contains (o.dom, 2, 9))) = true ∧
    ({ linked .active with domOps := [{ op0 1 with link := 3, slot := some 2 }] } : State).domOps.any (fun o =>
      o.id == 8 && o.kind == 1 && o.link == 3 && o.slot == some 2) = true ∧
    ({ live with reqs := [{ reqAt 9 0x30040 with link := some 3 }] } : State).req 9 = some { reqAt 9 0x30040 with link := some 3 } := by decide +kernel

theorem test_canonical_memory_met : Memory.wf State.reset.mem = true ∧ Memory.wf ([(3, 1#8), (4, 9#8)] : Sparse 8) = true ∧
    (match step placed with | .next _ => true | _ => false) = true := by decide +kernel

/-! ### Further witnesses: results, checks, gangs -/

theorem test_landing_fault_met : (landing 3).subj.a = 0 ∧
    ({ liveC (fun c => { c with pend := [{ flight 3 with bad := some (6, 0x30040#64) }] }) with subj := { a := 0, b := 5 } } : State).pendAt 0 5 =
      some { flight 3 with bad := some (6, 0x30040#64) } ∧ (flight 3).bad = none ∧ (flight 3).fin = none ∧ (flight 3).ctx = 0 := by decide +kernel

/-- ForwardMismatch: field B of a store names the first entry of an empty history. -/
theorem test_forward_mismatch_met : (Instr.st { k0 with pb := 1 } 5 2 0 0 0).info.any (fun m => m.bReg == some (.s 2) && m.ctl.pb == 1#2) = true ∧
    live.me.live = true ∧ ¬Forwarded live 1#2 (some (.s 2)) := by
  refine ⟨by decide +kernel, by decide +kernel, ?_⟩
  rintro (h | ⟨x, -, h, -⟩)
  · exact absurd h (by decide)
  · rw [show live.me.hist.getD ((1#2 : BitVec 2).toNat - 1) none = none from by decide +kernel] at h
    cases h

/-- An access outside the launch's leases, and one that a fault refuses. -/
def leaseless : State := liveC (fun c => { c with plb := Vector.replicate 16 Plb.empty })
theorem test_refused_accesses_met : [Instr.ld k1 4 5 0 2 0 0, .st k0 5 2 0 2 0, .amo k1 4 5 2 8 3 8].all (fun i => ok leaseless i) = true ∧
    leaseless.checkAccess .load 0x30040 4 false false = some (.lease 0x30040#64) ∧
    leaseless.checkAccess .store 0x30040 4 false false = some (.lease 0x30040#64) ∧ (leaseless.launch 1).isSome = true ∧
    live.supCore (live.tenantOf 1) = some 0 ∧ ¬((0 : Nat) = 1 ∧ (0 : Nat) = 0) := by decide +kernel

def one32 : Nat := 0x3F800000
/-- FloatValues: finite numbers, both infinities, a quiet and a signalling NaN. -/
theorem test_float_values_met : isFinite one32 ∧ isFinite 0x80000000 ∧ units one32 = 2 ^ 149 ∧ units 0x80000000 = 0 ∧ units 0xBF800000 < 0 ∧
    isNaN32 0x7FC00000 = true ∧ isNaN32 one32 = false ∧ isSignalling 0x7F800001 = true ∧ isSignalling 0x7FC00000 = false ∧
    0x7F800000 % 2 ^ 31 = 0x7F800000 ∧ 0xFF800000 % 2 ^ 31 = 0x7F800000 ∧ units one32 + units 0xBF800000 = 0 ∧
    units one32 + units one32 ≠ 0 ∧ units one32 * units 0x80000000 = 0 := by
  unfold isFinite
  decide +kernel

def gangOf8 (f : Nat → Member) : State := { live with clusters := [(0, { Cluster.zero with gang := (List.range 8).map f })] }
def asOp (o : GangOp) (c : Nat) : Member := { member c with op := o }
/-- Eight members of one operation; one whose seventh differs; an MQST whose address is poisoned; an MMAR in a launch with a ring and without. -/
theorem test_gang_join_cases_met :
    gangOrder ((gangOf8 member).cluster 0).gang = (List.range 8).map member ∧ ((List.range 8).map member).length = 8 ∧
    (gangOrder ((gangOf8 (fun c => if c = 6 then asOp { gangOp0 with d := 0 } c else member c)).cluster 0).gang).any (fun y => y.op != gangOp0) = true ∧
    (((List.range 8).map member).map (fun y => (y.core, y.ctx))).Nodup ∧ ((List.range 8).map member).all (fun y => decide (y.ctx < 11)) = true ∧
    (let s := liveX (fun x => x.setS 5 0x30040#64 0xFFFA#16)
     s.check 0 0 (s.readS 0 0 5).2 = 0xFFFA#16) ∧
    (live.joinCheck 0 (asOp { gangOp0 with kind := 1 } 0) 32 32 []).1 = some (0x01, 0#64) ∧
    (live.clusterLaunch 0).all (fun l => (l.ring 0).isEmpty) = true ∧ (ringed.clusterLaunch 0).any (fun l => !(l.ring 0).isEmpty) = true ∧
    live.check 0 0 (live.readS 0 0 5).2 ≠ 0xFFFA#16 := by decide +kernel
/-- A member that sleeps at the operation, one that is in its surrender routine, and one that a supervisor has moved on. -/
theorem test_gang_members_go_on_met : (let s := liveC (fun c => c.setCtx 0 { ctx0 with wait := .gang, pc := 0#64 })
    (s.ctxAt 0 0).wait == .gang && (s.ctxAt 0 0).pc == (member 0).pc) = true ∧
    (let s := liveC (fun c => c.setCtx 0 { ctx0 with sr := true, srLink := 0#64 })
     (s.ctxAt 0 0).wait != .gang && (s.ctxAt 0 0).sr && (s.ctxAt 0 0).srLink == (member 0).pc) = true ∧
    (let s := liveC (fun c => c.setCtx 0 { ctx0 with wait := .gang, pc := 0x40#64 })
     (s.ctxAt 0 0).wait == .gang && (s.ctxAt 0 0).pc != (member 0).pc) = true := by decide +kernel

/-- A running MMA from registers, one from the scratchpads with a corrupt header, an MMAR of a ring of one cluster. -/
def withRows (c : Nat) : Member := { member c with va := [VReg.zero], vb := [VReg.zero] }
def running : MatOp := { mat0 with begun := true, members := (List.range 8).map withRows }
theorem test_operand_error_met : (joined running).matOp 0 6 = some running ∧ running.begun = true ∧ running.colsDone = false ∧
    running.members[3]? = some (withRows 3) ∧ (withRows 3).va[0]? = some VReg.zero ∧ (withRows 3).vb[0]? = some VReg.zero ∧
    (joined mat0).matOp 0 6 = some mat0 ∧ mat0.begun = false := by decide +kernel
theorem test_sector_error_met : (let s : State := { live with ecc := [0x50040 / 32] }
    s.ecc.contains ((leaf3.leaf.frame + (0x30040 / 64 * 64 + 4 * 0) % leaf3.size) / 32) &&
      decide ((leaf3.leaf.frame + (0x30040 / 64 * 64 + 4 * 0) % leaf3.size) / 2 ^ 40 % 4 ≠ 3)) = true := by decide +kernel

/-- Block format 5 from the scratchpads: its header 0x7FFF is corrupt. -/
def tiled : MatOp := { mat0 with op := { gangOp0 with flag := 1, ty := 5, tb := 5 }, addrs := [0xFF000000000100#64, 0x20000000010#64, 0xFF000000000100#64, 0x20000000010#64] }
def ringing : MatOp := { mat0 with op := { gangOp0 with kind := 1 }, num := 1 }
def inbound0 (dir : Nat) : Inbound := ⟨0, dir, 0, 0, []⟩
theorem test_gang_start_met : (joined mat0).tilesBad 0 mat0 = false ∧ (joined mat0).gangReady 0 mat0 = true ∧
    (ringed.clusterLaunch 0).all (fun l => !l.rotLost) = true ∧ mat0.op.kind = 0 ∧ ringing.op.kind = 1 ∧ mat0.op.flag = 0#1 ∧
    (let s : State := { ringed with clusters := [(0, { Cluster.zero with mats := [ringing, { ringing with id := 9, num := 2 }], mmarDone := 0 })] }
     (s.matOp 0 6).isSome) = true ∧
    (({ Cluster.zero with inbound := [inbound0 0] } : Cluster).inbound.find? (fun t => t.num == mat0.num && t.dir == 0)) = some (inbound0 0) ∧
    (Cluster.zero.inbound.find? (fun t => t.num == mat0.num && t.dir == 0)) = none ∧
    (world core0 { lau0 with rot := some (0, 0, 1, 1), rotLost := true }).clusterLaunch 0 = some { lau0 with rot := some (0, 0, 1, 1), rotLost := true } := by
  decide +kernel

theorem test_gang_start_format_met : (let s : State := { corrupt 8#64 with clusters := [(0, { Cluster.zero with mats := [tiled] })] }
    (s.matOp 0 6 == some tiled) && s.gangReady 0 tiled && s.tilesBad 0 tiled && (s.ctxAt 0 0).fpctl.getLsbD 3) = true ∧
    (let o : MatOp := { ringing with num := 0 }
     let s : State := { ringed with clusters := [(0, { Cluster.zero with mats := [o] })] }
     (s.matOp 0 6 == some o) && s.gangReady 0 o && (s.clusterLaunch 0 == some { lau0 with rot := some (0, 0, 1, 1) })) = true := by decide +kernel

/-! ### Further witnesses: pages, events, labels -/

/-- Accesses of page 3 that a host answers: a load of an owned page and of one that is not, a PUBLISH, one of a peer. -/
def asked (op : ReqOp) (w0 : Dword) : State := { homing op (some w0) [] with tenants := [(0, { Tenant.zero with puba := [(2, 0x30040#64)] })] }
theorem test_host_answers_met : [0x9800000000000000#64, 0x9000000000000000#64].map (fun w => ((asked .load w).cachedLeaf 0x30040).map (fun e =>
      (e.leaf.owned, (asked .load w).lineOk e.leaf e.size 0x30040))) = [some (true, true), some (false, true)] ∧
    ((asked .publish 0x9800000000000000#64).req 9).any (fun r => r.op == .publish) = true ∧
    (((asked .publish 0x9800000000000000#64).tenant 0).puba.any (fun p => p.2.toNat == 0x30040)) = true ∧
    ((asked (.peer 3 { kind := 1, off := 0, width := 4, data := 0, cmp := 0, envs := [], void := 0 }) 0x9800000000000000#64).req 9).isSome = true := by
  decide +kernel

/-- Copy-on-write: a copied page; an empty pool; a pool of one frame; a page move with its copy done, that no launch or one holds back. -/
theorem test_page_moves_met : (match (homing .load none []).walk 0x30000 with | .park _ => true | _ => false) = true ∧
    (match tables.walk (4 * 65536) with | .leaf l _ => !l.cw | .park _ => false) = true ∧
    (let s : State := { snapping with tenants := [] }
     match s.walk 0x30000 with | .leaf l z => l.cw && !s.poolHas 0 l && z == 65536 | .park _ => false) = true ∧
    (match snapping.walk 0x30000 with
     | .leaf l z => l.cw && !l.hl && !l.remote && snapping.poolHas 0 l && snapping.pageOk l z 0x30000 &&
         !(l.copied (snapping.takeFrame 0).2 l.lpage).remote && !(snapping.tenant 0).nqCfg.getLsbD 63
     | .park _ => false) = true ∧ snapping.moves = [] ∧
    (let s : State := { snapping with moves := [move0], reqs := [{ reqAt 4 0x30000 with op := .sys 5, away := true }], subj := { a := 4 } }
     (s.moves.find? (fun m => m.id == 4) == some move0) && (s.req 4).isSome && (s.pinners 0x30000).isEmpty &&
       (match s.walk move0.page with | .leaf _ _ => true | .park _ => false)) = true := by decide +kernel
theorem test_moved_leaf_met : (0x70000 : Nat) < 2 ^ 50 ∧ 0x70000 % 65536 = 0 ∧ 0x78000 % 32768 = 0 ∧ Memory.wf snapping.mem = true ∧
    (snapping.leafAt 0x30000).isSome = true := by decide +kernel

/-- Signals to cluster 0 from core 0: to line 3, with no sleeper and with one; to mutex 3, that a helper owns alone or with a sleeper, or not
at all; to barrier 3, as the last and as another arrival; behind a store; for another cluster. -/
def signalling (c d : Nat) (f : Cluster → Cluster) : State := { liveQ f with subj := { a := 0, b := 0, c := c, d := d, e := 1, f := 2 } }
def atBarrier (target : Nat) (ws : List (Nat × Nat)) : State :=
  { world { core0.setCtx 0 { ctx0 with wait := .barrier 3 } with ctxs := (core0.setCtx 0 { ctx0 with wait := .barrier 3 }).ctxs.set 2 { ctx0 with wait := .barrier 3 } } lau0 with
    clusters := [(0, { Cluster.zero with barriers := Cluster.zero.barriers.set 3 ⟨target, ws⟩ })], subj := { a := 0, b := 0, c := 101, d := 3, e := 1, f := 2 } }
theorem test_signals_met : (signalling 0 3 (fun c => c)).outstanding 0 1 = false ∧ ((signalling 0 3 (fun c => c)).core 0).launch = some (2 / 2) ∧ 2 % 2 = 0 ∧
    ({ signalling 0 3 (fun c => c) with reqs := [reqAt 0 0x30040] } : State).outstanding 0 1 = true ∧ (3 % 2 = 1) ∧
    (vget ((signalling 0 3 (fun c => c)).cluster 0).lines 3 default).sleepers = [] ∧
    (vget ((signalling 0 3 (fun c => c.onLine 3 (fun e => { e with sleepers := [(0, 2), (0, 4)] }))).cluster 0).lines 3 default).sleepers = [(0, 2), (0, 4)] ∧
    (vget ((signalling 1 3 (fun c => c)).cluster 0).mutexes 3 default).owner ≠ some (0, 0) ∧
    (let e := vget ((signalling 1 3 (fun c => c.onMutex 3 (fun e => { e with owner := some (0, 0) }))).cluster 0).mutexes 3 default
     e.owner = some (0, 0) ∧ e.sleepers = []) ∧
    (let e := vget ((signalling 1 3 (fun c => c.onMutex 3 (fun e => { e with owner := some (0, 0), sleepers := [(1, 2)] }))).cluster 0).mutexes 3 default
     e.owner = some (0, 0) ∧ e.sleepers = [(1, 2)]) ∧
    [((atBarrier 3 [(0, 2)]), true), ((atBarrier 2 [(0, 2)]), false)].all (fun p =>
      let e := vget (p.1.cluster 0).barriers 3 default
      (p.1.ctxAt 0 0).wait == .barrier 3 && !e.waiting.contains (0, 0) && e.target != 0 && (decide (e.waiting.length + 1 < e.target) == p.2) &&
        decide e.waiting.Nodup && e.waiting.all (fun w => decide (w.2 < 11) && (p.1.ctxAt w.1 w.2).wait == .barrier 3)) = true := by decide +kernel
theorem test_event_stores_met : (let e := vget ((liveQ (fun c => c.onLine 3 (fun e => { e with sleepers := [(0, 2), (0, 4)] }))).cluster 0).lines 3 default
    e.sleepers.Nodup ∧ e.sleepers.all (fun p => decide (p.2 < 11)) = true) ∧
    (let ws := (vget ((atBarrier 3 [(0, 2)]).cluster 0).barriers 3 default).waiting
     ws.Nodup ∧ ws.all (fun p => ((atBarrier 3 [(0, 2)]).ctxAt p.1 p.2).wait == .barrier 3) = true) ∧
    ({ live with reqs := [reqAt 3 0x30040] } : State).outstanding 0 5 = true := by decide +kernel

/-- A domain at 0x30000 whose words and nogood list stand in its slice, with OPEN, ASSERTED and RETRACTED as given, and an operation under way. -/
def wordsOf (v : Nat) : List LWord := [(BitVec.ofNat 32 v, 0#16), (BitVec.ofNat 32 (v / 2 ^ 32), 0#16)]
def domain0 (o : DomOp) (opn asserted retracted : Nat) : State :=
  { homeOp 0 with
    domOps := [o],
    lines := ({ line := 0x30000 / 64, words := wordsOf 0 ++ wordsOf 0 ++ wordsOf asserted ++ wordsOf retracted ++ wordsOf opn ++ wordsOf 0 ++ wordsOf 0 ++ wordsOf 0, dirty := true, used := 0, corrupt := false } : Line) ::
      (List.range 8).map (fun i => { line := 0x30000 / 64 + 4 + i, words := List.replicate 16 (0#32, 0#16), dirty := true, used := 0, corrupt := false }) }
def opv (kind : Nat) (v : Dword) : DomOp := { op0 kind with val := v }
theorem test_domain_home_met : (let s := domain0 (opv 2 3#64) 7 0 0
    (s.domOps.find? (fun o => o.id == s.subj.a) == some (opv 2 3#64)) && s.resident (s.domBase 0) && (s.line (s.domBase 0 / 64)).any (fun x => x.words.length == 16) &&
    decide (s.domNgCount 0 ≤ 64) && decide (s.domOpen 0 = 7) && (s.lowestFree 0 == some 3) && ((3#64 : Dword) &&& s.domFree 0 == 0#64) &&
    ((8#64 : Dword) &&& s.domFree 0 != 0#64) && (List.range 8).all (fun i => (s.line (s.domBase 0 / 64 + 4 + i)).any (fun x => x.words.length == 16)) &&
    (s.domNogoods 0).isEmpty && decide (([3#64] : List Dword).length ≤ 64 - s.pairedOpen 0 none) && s.aborted.isEmpty && (s.pairOf 0 1).isNone &&
    (s.domOpen 0).testBit 1 && !(s.domOpen 0).testBit 3) = true ∧
    ({ domain0 (opv 3 1#64) 2 0 0 with aborted := [(0, 1)] } : State).aborted.contains (0, 1) = true ∧
    (domain0 (opv 5 0#64) 0 0 0).domOpen 0 = 0 ∧ (domain0 (opv 5 0#64) 0 0 0).domLive 0 (((domain0 (opv 5 0#64) 0 0 0).domEra 0 + 1) % 16) = 0 ∧
    (domain0 (opv 5 0#64) 0 0 0).outstanding 0 8 = false ∧ (domain0 (opv 5 0#64) 7 0 0).domOpen 0 ≠ 0 ∧
    ({ domain0 (opv 0 0#64) 7 0 0 with tcache := [] } : State).resident 0x30000 = false := by decide +kernel
theorem test_domain_answers_met : (op0 1).fault = none ∧ (op0 1).kind < 2 ∧ (op0 1).change = [] ∧ (op0 1).ctx < 11 ∧
    ({ op0 2 with change := [.nogood 1 3#64] } : DomOp).change = [.nogood 1 3#64] ∧ (dom.core 0).view.update < (Change.nogood 1 3#64).upd ∧
    (Change.nogood 0 3#64).upd ≤ (dom.core 0).view.update := by decide +kernel
theorem test_label_slots_resolve_met : (let s : State := { probing [1#64] with cores := [(0, core0.setSlot 2 (some (slot0 [] (some 7#16))))] }
    ((s.core 0).slotAt s.subj.b == some (slot0 [] (some 7#16))) && (s.subj.d == (slot0 [] (some 7#16)).ready) && decide (s.subj.b < 8)) = true := by
  decide +kernel
/-- Vector LSTRIP where it is permitted, where it is not, and of a pending lane; vector LAPPLY of an environment that names a free slot. -/
theorem test_vector_labels_met : (let s := opened true
    let t := s.onMe (fun x => x.write (.lane 2 3 9#32 0xFFF2#16))
    ok s (.lstrip k0 4 2 (ty 0) 1) && ok (opened false) (.lstrip k0 4 2 (ty 0) 1) && !(opened false).stripOk 0 && s.stripOk 0 &&
    ok t (.lstrip k0 4 2 (ty 0) 1) && ((t.lanes (ty 0)).any (fun i => isPend ((t.srcV 2).lane i).2)) &&
    ((s.lanes (ty 0)).all (fun i => !isPend ((s.srcV 2).lane i).2)) && s.namesFree 0 2#64) = true := by decide +kernel

/-- A line that arrives for a load: used as it comes, when a copy is near, behind an earlier load of the line, and older than the core's view. -/
def arriving (f : State → State) : State :=
  f { homing .load (some 0x8000000000000000#64) [line0] with
      reqs := [{ reqAt 9 0x30040 with op := .load, words := line0.words, away := true, data := 4#64 }] }
theorem test_near_cache_fill_met : (let s := arriving (fun s => s)
    (s.req 9).any (fun r => r.op == .load && r.value.isNone && r.fwd.isEmpty && !s.overtaken r && (s.nearCopy 0 (0x30040 / 64)).isNone &&
      decide ((s.core 0).viewStamp ≤ r.data.toNat))) = true ∧
    (let s := arriving (fun s => s.onCore 0 (fun c => { c with viewStamp := 5 }))
     (s.req 9).any (fun r => !s.overtaken r && (s.nearCopy 0 (0x30040 / 64)).isNone && decide (r.data.toNat < (s.core 0).viewStamp))) = true ∧
    (let s := arriving (fun s => { s with reqs := { reqAt 3 0x30044 with op := .load } :: s.reqs })
     (s.req 9).any (fun r => s.overtaken r)) = true := by decide +kernel

/-! ### Further witnesses: launches, the host, the controller, the links -/

/-- A record of one cluster, its lease table at 0x10000 with pages 0 to 255, and its context area at 0x200000. -/
def rec0 : List Dword := ((((List.replicate 32 0#64).set 1 0x100000000#64).set 2 0x100010001#64).set 3 0x10000#64).set 6 0x200000#64
/-- Queue 3 of tenant 0 with that record at 0. -/
def distState (r : List Dword) : State :=
  { State.reset with
    mem := Sparse.putBytes (Sparse.putBytes [] 0 (r.flatMap (fun d => leBytes 8 d.toNat))) 0x10000 (leBytes 8 0 ++ leBytes 8 (2 ^ 63 + 255 * 2 ^ 16 + 0x180)),
    tcache := [leafAt 0, leafAt 64, leafAt 128, leafAt 192, leafAt 0x10000],
    tenants := [(0, { Tenant.zero with saveCnt := 1#64, queues := [(3, { Queue.zero with cfg := 0x8000000000000000#64, tail := 1#64 })] })] }
theorem test_records_met : [(rec0.set 0 2#64, some 1), (rec0.set 1 0x100000008#64, some 2), (rec0.set 1 0x100000004#64, some 3),
      (rec0.set 3 0x10#64, some 4), (rec0.set 6 0x2000000#64, some 5), (rec0.set 18 0x8000000000080000#64, some 6), (rec0.set 4 0x10#64, some 7),
      ((rec0.set 20 0x80000000000FF000#64).set 2 0x100010002#64, some 8), (rec0, none)].all (fun p =>
        (distState rec0).recordDetail 0 ((distState rec0).queueAt (0, 3)) p.1 == p.2) = true ∧
    sendsClash (0, 8, 1) (16, 8, 1) = true ∧ sendsClash (0, 8, 1) (0, 8, 1) = false ∧ sendTime (0, 8, 1) = sendTime (16, 8, 1) := by decide +kernel

/-- A launch of two holdings, of which the second may be recalled; as one that came by a recall. -/
def lauN (by_ : Option Nat) : Launch := { lau2 with prio := 2, firm := 1, holdings := lau2.holdings.map (fun h => { h with byRecall := by_ }) }
theorem test_recalls_met : [none, some 3].all (fun b => (world core0 (lauN b)).holderOf ((lauN b).cluster 1) == some (1, 1) &&
      ((world core0 (lauN b)).launch 1).isSome) = true ∧ (world core0 (lauN none)).canRecall ((lauN none).cluster 1) 3 = true ∧
    (world core0 (lauN none)).canRecall ((lauN none).cluster 1) 2 = false ∧ (world core0 (lauN none)).canName (lauN none) ((lauN none).cluster 1) 1 = true ∧
    (world core0 (lauN (some 3))).canName (lauN none) ((lauN none).cluster 1) 1 = false := by decide +kernel

theorem test_placement_met : (distState rec0).visits = [(0, 3)] ∧ (distState rec0).placement 0 3 0 (rec0.set 20 0x80000000000FF000#64) = some (255, 0) ∧
    (rw (rec0.set 20 0x80000000000FF000#64) 20).testBit 63 = true ∧ (rw rec0 20).testBit 63 = false ∧ recW rec0 = 1 ∧ recH rec0 = 1 ∧
    ({ State.reset with lastBound := [(0, (0, 3))] } : State).lastBound.find 0 = some (0, 3) := by decide +kernel

/-- Rounds: a record selected at its ORIGIN, one that nothing covers, one refused, a queue with nothing pending. -/
def fixed : List Dword := rec0.set 20 0x8000000000000000#64
theorem test_rounds_met : (let s := distState fixed
    let q := s.queueAt (0, 3)
    let r := s.readRecord q.headAddr
    s.eligible q && (s.recordDetail 0 q r).isNone && (s.placement 0 3 q.effective r == some (0, 0)) && !s.clashAt r 0 0 && !s.fatal) = true ∧
    (let s : State := { distState fixed with launches := [(1, lau0)] }
     let q := s.queueAt (0, 3)
     s.eligible q && (s.recordDetail 0 q (s.readRecord q.headAddr)).isNone && (s.placement 0 3 q.effective (s.readRecord q.headAddr)).isNone) = true ∧
    (let s := distState (fixed.set 0 2#64)
     (s.recordDetail 0 (s.queueAt (0, 3)) (s.readRecord 0)).isSome && s.eligible (s.queueAt (0, 3))) = true ∧
    (distState fixed).eligible ((distState fixed).queueAt (0, 4)) = false ∧ (wide.holderOf (lau2.cluster 1)).isSome = true := by decide +kernel

/-- Holdings: a recall that a registered routine, none, a busy context and a released context meets. -/
def recalled (f : Holding → Holding) : Launch := { lau0 with holdings := lau0.holdings.map (fun h => f { h with recalls := [recall0] }) }
theorem test_holdings_met : (let l := recalled (fun h => h)
    (l.holding 0).recalls == [recall0] && (l.holding 0).present && !(l.holding 0).departing && (l.holding 0).serving.isNone && l.forced.isEmpty &&
      ((world core0 l).ctxAt 0 0).live && (world core0 l).deliverable l 0 && ((l.holding 0).routine == 0#64) &&
      !((world { core0 with frozen := true } l).deliverable l 0) && !((world Core.zero l).ctxAt 0 0).live && !((world Core.zero l).core 0).frozen) = true ∧
    (let l : Launch := { lau0 with state := .preempting, forced := [(0, none)] }
     l.forced.any (fun f => f.1 == 0) && !l.forced.any (fun f => f.1 == 1) && (l.holding 0).recalls.isEmpty) = true ∧
    (let l : Launch := { lau0 with holdings := lau0.holdings.map (fun h => { h with departing := true }) }
     (world core0 l).departureDone 0 && !(({ world core0 l with reqs := [reqAt 0 0x30040], nextId := 1 } : State).departureDone 0)) = true := by decide +kernel
theorem test_launch_waits_met : ({ lau0 with forced := [(0, none)] } : Launch).forced ≠ [] ∧
    (world { core0 with frozen := true } { lau0 with forced := [(0, none)] }).preemptHeld { lau0 with forced := [(0, none)] } = true ∧
    ({ world core0 lau0 with reqs := [reqAt 0 0x30040] } : State).quiet lau0 = false ∧
    (let s : State := { distState rec0 with launches := [(1, lau0)] }
     s.clusterFree 0 3 0 = false) ∧ (distState rec0).agenda = [] := by decide +kernel

/-- Bring-up: every outcome of R393's table that a statement speaks of. -/
def flash (good : Bool) : List (FlashImage × FlashImage) := List.replicate 5 (image good, image good)
theorem test_images_refused_met : loadImages (flash false) = none := by
  have h : ∀ i, loadImage i (image false, image false) = none := fun i => by simp [loadImage, (test_image_met i).2]
  simp [loadImages, flash, List.range_succ, h]
theorem test_power_met : State.reset.railOff = false ∧ ((∀ p ∈ [(24001000, 700)], p.2 ≤ 840) : Prop) ∧
    State.reset.watts * 1000 * 1 < (24001000 : Nat) ∧ (100 : Nat) ≤ ({ State.reset with calm := 99 } : State).calm + 1 ∧ (5 : Nat) < State.reset.watts * 900 ∧
    timedInNs .pcieTrainTimeout = true ∧ timedInNs .gapExpiry = false ∧ ({ State.reset with linksL0 := 0#4 } : State).linksL0 = 0#4 := by decide
theorem test_attestation_met : ({ State.reset.mailbox with output := 1 } : Mailbox).output = 1 ∧ ({ State.reset.mailbox with output := 2 } : Mailbox).output = 2 ∧
    State.reset.mailbox.status ≠ 1 := by decide

/-- Links: a capability flit that the peer has acknowledged and answered; a flit to come, one repeated, one out of order; a lane nearly full. -/
def trained (f : NLink → NLink) : State := (linked .active).onLink 3 f
theorem test_training_met : (linked .detect).railOff = false ∧ ((linked .deskew).nlink 3).sendq = [] ∧ ((linked .deskew).nlink 3).replayBuf = [] ∧
    ((linked .deskew).nlink 3).stopIn = 0#8 ∧ (({ (linked .exchange).nlink 3 with peer := some default } : NLink).exchanged) = true ∧
    ((linked .exchange).nlink 3).exchanged = false ∧ ((linked .exchange).nlink 3).state = .exchange := by decide +kernel
theorem test_flits_in_met : ((linked .active).nlink 3).sends = true ∧ ((linked .down).nlink 3).sends = false ∧ (linked .active).subj.a ≠ 1 ∧
    flit0.header.toNat / 2 ^ 3 % 2 ^ 12 = ((linked .active).nlink 3).rxSeq ∧ (0 : Nat) ≠ ((trained (fun l => { l with rxSeq := 1 })).nlink 3).rxSeq ∧
    (0 : Nat) = (((trained (fun l => { l with rxSeq := 1 })).nlink 3).rxSeq + 4095) % 4096 ∧
    (0 : Nat) ≠ (((trained (fun l => { l with rxSeq := 7 })).nlink 3).rxSeq + 4095) % 4096 ∧ (0 : Nat) < 8 ∧
    (∀ x ∈ ({ linked .active with subj := { a := 1, b := 0 } } : State).agenda, drains 3 x = true → x.who.b = 0 → 0 ≤ x.who.c) ∧
    (56 : Nat) ≤ vget ((trained (fun l => { l with rxCount := l.rxCount.set 0 55 })).nlink 3).rxCount 0 0 + 1 := by decide +kernel
def msg0 : LinkMsg := .assertSlot 3 9
theorem test_flits_out_met : ((linked .active).nlink 3).sendq = [] ∧ ((linked .active).nlink 3).txSeq < 4096 ∧ ((linked .active).nlink 3).replayBuf.length < 128 ∧
    ((linked .active).nlink 3).stopIn.getLsbD msg0.lane = false ∧ ((trained (fun l => { l with stopIn := 0xFF#8 })).nlink 3).stopIn.getLsbD msg0.lane = true ∧
    128 ≤ ((trained (fun l => { l with replayBuf := List.replicate 128 (0, msg0) })).nlink 3).replayBuf.length ∧
    ((trained (fun l => { l with replayBuf := [(4, msg0), (5, msg0), (6, msg0)] })).nlink 3).replayBuf = [(4, msg0)] ++ (5, msg0) :: [(6, msg0)] ∧
    (5 * 2 ^ 15 + 2 ^ 27) / 2 ^ 15 % 2 ^ 12 = 5 ∧ (5 * 2 ^ 15 + 2 ^ 27).testBit 27 = true ∧ (5 * 2 ^ 15).testBit 27 = false ∧
    ((linked .active).nlink 3).exchanged = false ∧ (∀ q ∈ [(4, msg0), (5, msg0)], q.1 ≠ (3 * 2 ^ 15 + 2 ^ 27) / 2 ^ 15 % 2 ^ 12) ∧
    ((trained (fun l => { l with replays := 7 })).nlink 3).replays = 7 := by decide +kernel
def windowed (lines : List Line) : State := { linked .active with lines := lines, tcache := leaf3 :: (linked .active).tcache }
theorem test_peer_accesses_met : (let s := windowed [line0]
    let a : RemoteAccess := { access0 with kind := 1 }
    (s.nlink 3).allows a && (s.nlink 3).allows access0 && !s.railOff && readyAt (s.gate 0 true 0x30040) && readyAt (s.gate 0 false 0x30040) &&
    a.envs.isEmpty && (a.void == 0x0000#16) && (s.line (0x30040 / 64) == some line0)) = true ∧
    (windowed []).peerTenant 3 0x30040 = 0 ∧ ({ windowed [] with tcache := [] } : State).gate 0 true 0x30040 = .walk ∧
    ({ windowed [] with tcache := [{ leaf3 with leaf := ⟨0x9000000000000000#64, 0#64⟩ }] } : State).gate 0 true 0x30040 = .park 5 ∧
    ({ windowed [] with tcache := decodes.tcache, apers := decodes.apers } : State).gate 0 true 0x30040 = .rights := by decide +kernel
theorem test_paired_slots_met : (let s := linked .active
    (s.nlink 3).inCfg.getLsbD 63 && (s.dirEntry (s.nlink 3).domain).testBit 63 && !(({ NLink.zero with state := .active } : NLink).inCfg.getLsbD 63)) = true ∧
    64 ≤ ((trained (fun l => { l with pairs := List.replicate 64 (0, 2, 9) })).nlink 3).pairs.length ∧
    (let s : State := { linked .active with mem := Sparse.putBytes [] 0x30020 (List.replicate 8 0xFF#8) }
     s.lowestFree 0 = none) ∧ ({ op0 3 with link := 3, slot := some 2 } : DomOp).slot = some 2 ∧ (linked .active).pairOf 0 2 = some (3, 9) ∧
    ([LinkMsg.assertSlot 3 9] : List LinkMsg).contains (.assertSlot 3 9) = true := by decide +kernel

/-! ## Single steps, with values worked out from the rules -/

/-- What an instruction delivers: the writes of the result it puts in flight. -/
def delivers (i : Instr) (s : State) : List RegWrite := match exec i s with
  | .next t => (t.here.pend.getLast?.map (·.writes)).getD []
  | _ => []

/-- The value of the first write, and the flags. -/
def value (i : Instr) (s : State) : Option Nat := match delivers i s with
  | .s _ v _ :: _ => some v.toNat
  | .lane _ _ v _ :: _ => some v.toNat
  | _ => none
def flagsOf (i : Instr) (s : State) : Dword := match exec i s with
  | .next t => (t.here.pend.getLast?.map (·.flags)).getD 0
  | _ => 0

/-- s1 and s2 as given. -/
def withS (x y : Dword) : State := liveX (fun c => (c.setS 1 x 0#16).setS 2 y 0#16)

/-- R183: sums wrap; the high word of -1 × -1 is 0, of its unsigned reading 2^64 - 2. -/
theorem test_step_add_wraps : value (.add k0 4 1 2) (withS 0xFFFFFFFFFFFFFFFF 2) = some 1 := by decide +kernel
theorem test_step_mulh : value (.mulh k0 4 1 2) (withS 0xFFFFFFFFFFFFFFFF 0xFFFFFFFFFFFFFFFF) = some 0 ∧
    value (.mulhu k0 4 1 2) (withS 0xFFFFFFFFFFFFFFFF 0xFFFFFFFFFFFFFFFF) = some 0xFFFFFFFFFFFFFFFE := by decide +kernel
/-- R184: a shift counts modulo 64, and SAR copies the sign. -/
theorem test_step_shifts : value (.shl k0 4 1 2) (withS 3 65) = some 6 ∧ value (.sar k0 4 1 2) (withS 0x8000000000000000 63) =
    some 0xFFFFFFFFFFFFFFFF := by decide +kernel
/-- R185: -7 / 2 is -3, remainder -1; the most negative number by -1 wraps; a zero divisor gives all ones and INT_DIV0. -/
theorem test_step_div : value (.div k1 4 1 2) (withS 0xFFFFFFFFFFFFFFF9 2) = some 0xFFFFFFFFFFFFFFFD ∧
    value (.rem k1 4 1 2) (withS 0xFFFFFFFFFFFFFFF9 2) = some 0xFFFFFFFFFFFFFFFF ∧
    value (.div k1 4 1 2) (withS 0x8000000000000000 0xFFFFFFFFFFFFFFFF) = some 0x8000000000000000 := by decide +kernel
theorem test_step_div_zero : value (.divu k1 4 1 2) (withS 5 0) = some 0xFFFFFFFFFFFFFFFF ∧ flagsOf (.divu k1 4 1 2) (withS 5 0) = 0x20 := by
  decide +kernel
/-- R186: the field 0xB of 4 bits at 4 reads as -5 under SX; BFI keeps the other bits of s4. -/
theorem test_step_bitfields : value (.bfx k0 4 1 1 4 4) (withS 0xB0 0) = some 0xFFFFFFFFFFFFFFFB ∧
    value (.bfi k0 2 1 4 4) (withS 0x5A 0xFFFF) = some 0xFFAF := by decide +kernel
/-- R187: LI extends its sign; LEA adds a scaled index. -/
theorem test_step_constants : value (.li k0 4 0x80000000) live = some 0xFFFFFFFF80000000 ∧
    value (.lea k0 4 1 2 3 (-4)) (withS 0x100 5) = some 0x124 := by decide +kernel
theorem test_step_clz : value (.clz k0 4 1) (withS 0 0) = some 64 ∧ value (.popc k0 4 1) (withS 0xF0F 0) = some 8 := by decide +kernel
/-- R174 and R173: a taken branch goes to PC + 4 × offset. -/
theorem test_step_branch : (match exec (.brnz k0 1 (-2)) live with | .next t => t.me.pc.toNat | _ => 0) = 0xFFF8 ∧
    (match exec (.brz k0 1 (-2)) live with | .next t => t.me.pc.toNat | _ => 0) = 0x10008 := by decide +kernel
/-- R191 and R55: a byte of local memory, sign- and zero-extended; a word little-endian. -/
def bytes : State := liveC (fun c => { c with lmem := [(0x100, 0x80#8), (0x101, 0x01#8), (0x103, 0xFF#8)] })
theorem test_step_load : value (.ld k0 4 1 0 0 0 1) bytes = some 0xFFFFFFFFFFFFFF80 ∧ value (.ld k0 4 1 0 0 1 1) bytes = some 0x80 ∧
    value (.ld k0 4 1 0 2 1 1) bytes = some 0xFF000180 := by decide +kernel
/-- R191: a store of a halfword, little-endian. -/
theorem test_step_store : (let t := live.performLocal { reqAt 1 0xFF000000000102 with width := 2, data := 0xABCD }
    ((t.core 0).lmem.get 0x102, (t.core 0).lmem.get 0x103, (t.core 0).lmem.get 0x104)) = (0xCD#8, 0xAB#8, 0#8) := by decide +kernel
/-- R192: the nine operations at 32 bits on 0xFFFFFFFF and 1. -/
theorem test_amo_values : (List.range 9).map (fun op => (amoValue op 4 0xFFFFFFFF 1).1) =
    [0, 1, 0xFFFFFFFF, 0xFFFFFFFE, 0xFFFFFFFF, 1, 1, 0xFFFFFFFF, 1] := by decide +kernel

/-- Vector registers v1 and v2 with one value in every lane. -/
def withV (x y : Word) : State :=
  liveX (fun c => { c with vr := (c.vr.set 1 { VReg.zero with lanes := Vector.replicate 16 x }).set 2 { VReg.zero with lanes := Vector.replicate 16 y } })
/-- R206 to R209: a lane wraps; VMULH by sign; VCMP by type; with no active lane the least of nothing is the largest number. -/
theorem test_step_vector_integer : value (.vadd k0 4 1 2 (ty 0)) (withV 0xFFFFFFFF 2) = some 1 ∧
    value (.vmulh k0 4 1 2 (ty 0)) (withV 0xFFFFFFFF 2) = some 0xFFFFFFFF ∧ value (.vmulh k0 4 1 2 (ty 1)) (withV 0xFFFFFFFF 2) = some 1 ∧
    value (.vcmp k0 4 1 2 (ty 0) 2) (withV 0xFFFFFFFF 2) = some 1 ∧ value (.vcmp k0 4 1 2 (ty 1) 2) (withV 0xFFFFFFFF 2) = some 0 := by decide +kernel
theorem test_step_reduction : value (.vred k0 4 1 (ty 0) 0) (withV 3 0) = some 48 ∧ value (.vred k0 4 1 (masked 0) 4) (withV 3 0) = some 0x7FFFFFFF ∧
    value (.vred k0 4 1 (masked 1) 6) (withV 3 0) = some 0xFFFFFFFF := by decide +kernel
/-- R212 to R218 in binary32: 1 + 2 = 3; 3 × 0.5 = 1.5; infinity - infinity is a NaN of cause 3 (R59); 1 / 0 is infinity with a flag; 4's root is 2. -/
theorem test_step_float : value (.vfadd k0 4 1 2 (ty 2)) (withV 0x3F800000 0x40000000) = some 0x40400000 ∧
    value (.vfmul k0 4 1 2 (ty 2)) (withV 0x40400000 0x3F000000) = some 0x3FC00000 ∧
    value (.vfsub k0 4 1 2 (ty 2)) (withV 0x7F800000 0x7F800000) = some 0x7FC00003 ∧
    value (.vdiv k0 4 1 2 (ty 2)) (withV 0x3F800000 0) = some 0x7F800000 ∧ value (.vsqrt k0 4 1 (ty 2)) (withV 0x40800000 0) = some 0x40000000 := by
  decide +kernel
/-- R226: -1 as a signed integer is -1.0; 2.5 rounds to 2. -/
theorem test_step_convert : value (.vcvt k0 4 1 (ty 0) 2) (withV 0xFFFFFFFF 0) = some 0xBF800000 ∧
    value (.vcvt k0 4 1 (ty 2) 0) (withV 0x40200000 0) = some 2 := by decide +kernel
/-- R182 and R342: a trap of core 1 freezes it with cause 0x0F; RESUME continues with the next instruction. -/
def core1 : State := { live with curCore := 1, cores := [(0, core0), (1, core0)] }
theorem test_step_trap : (match exec (.trap k0 7) core1 with
    | .next t => ((t.core 1).frozen, (t.core 1).dbgCause, (t.ctxAt 1 0).pc.toNat, (t.tenant 0).packets.map (·.addr.toNat))
    | _ => (false, 0, 0, [])) = (true, 0x0F, 0x10008, [7]) := by decide +kernel
/-- R263 and R264: WEIR sleeps with its PC unmoved. -/
theorem test_step_weir : (match exec (.weir k0 0 0) live with
    | .next t => (t.me.wait, t.me.pc.toNat)
    | _ => (.none, 0)) = (.weir 0, 0x10000) := by decide +kernel
/-- R82 and R280: without a domain, ANEW is ILLEGAL. -/
theorem test_step_no_domain : (match exec (.anew k1 4) core1 with
    | .next t => (t.core 1).dbgCause
    | _ => 0) = 0x01 := by decide +kernel
/-- The word that a placed instruction stands in is issued by `step` (R112). -/
theorem test_step_placed : (match step placed with
    | .next t => (t.me.pc.toNat, (t.here.pend.getLast?.map (·.writes)).getD [])
    | _ => (0, [])) = (0x10008, [.s 3 0#64 0#16]) := by decide +kernel

end Sys2Proof.Tests
end

section
/-! SUPPORT. Operations that leave memory alone: one lemma an operation, so that what follows never unfolds them. -/

namespace Sys2Proof.Machine

/-- Every step of a fold leaves memory as it was. -/
def KeepsMem {α : Type} (f : State → α → State) : Prop := ∀ s x, (f s x).mem = s.mem

@[simp] theorem keepsMem_iff {α : Type} {f : State → α → State} : KeepsMem f ↔ ∀ s x, (f s x).mem = s.mem := ⟨id, id⟩

@[simp] theorem State.mem_foldl {α : Type} (l : List α) {f : State → α → State} (h : KeepsMem f) (s : State) :
    (l.foldl f s).mem = s.mem := by
  induction l generalizing s with
  | nil => rfl
  | cons x r ih => rw [List.foldl_cons, ih, h]

@[simp] theorem State.mem_ite (p : Prop) [Decidable p] (s t : State) :
    (if p then s else t).mem = if p then s.mem else t.mem := apply_ite _ _ _ _

section
variable (s : State)

/-! ## Parts of the state, the agenda (Machine/Base.lean) -/

@[simp] theorem State.onLaunch_mem (n : Nat) (f : Launch → Launch) : (s.onLaunch n f).mem = s.mem := by
  unfold State.onLaunch
  split <;> rfl

@[simp] theorem State.sendOut_mem (r : Req) : (s.sendOut r).mem = s.mem := rfl

/-! ## Physical memory and translation (Machine/Paging.lean) -/

@[simp] theorem State.keepLeaf_mem (va : Nat) (l : Leaf) (size : Nat) : (s.keepLeaf va l size).mem = s.mem := rfl

@[simp] theorem State.putLine_mem (x : Line) : (s.putLine x).mem = s.mem := by
  unfold State.putLine
  split <;> rfl

@[simp] theorem State.dropLine_mem (n : Nat) : (s.dropLine n).mem = s.mem := rfl

/-! ## Labels and domains (Machine/Labels.lean) -/

@[simp] theorem State.flag_mem (k t : Nat) (f : Dword) : (s.flag k t f).mem = s.mem := rfl

@[simp] theorem State.takeSlot_mem (k t order : Nat) (i : LabelIn) (store : Bool) :
    (s.takeSlot k t order i store).1.mem = s.mem := by
  unfold State.takeSlot
  dsimp only
  split <;> split <;> rfl

theorem State.formAll_mem {s : State} {k t order : Nat} {ins : List LabelIn} {store : Bool} {u : State}
    {ls : List (LabelIn × Label)} (h : s.formAll k t order ins store = some (u, ls)) : u.mem = s.mem := by
  unfold State.formAll at h
  dsimp only at h
  split at h
  · cases h
  · obtain rfl : _ = u := congrArg Prod.fst (Option.some.inj h)
    refine List.foldlRecOn (motive := fun acc : State × List (LabelIn × Label) => acc.1.mem = s.mem) _ _ rfl
      fun acc hacc i _ => ?_
    split <;> simp [hacc]

@[simp] theorem State.relabel_mem (k : Nat) (f : Handle → Handle) : (s.relabel k f).mem = s.mem := rfl

/-! ## Operations every meaning shares (Machine/Ops.lean) -/

@[simp] theorem State.planLanding_mem (k seq n : Nat) : (s.planLanding k seq n).mem = s.mem := by
  unfold State.planLanding
  split <;> rfl

@[simp] theorem State.acquire_mem (k : Nat) : (s.acquire k).mem = s.mem := rfl
@[simp] theorem State.lanesWritten_mem (k t : Nat) : (s.lanesWritten k t).mem = s.mem := by simp [State.lanesWritten]

@[simp] theorem State.land_mem (k seq : Nat) : (s.land k seq).mem = s.mem := by
  unfold State.land
  split <;> simp

@[simp] theorem State.received_mem (k ln : Nat) : (s.received k ln).mem = s.mem := by simp [State.received]
@[simp] theorem State.wakeMem_mem (va : Nat) : (s.wakeMem va).mem = s.mem := by simp [State.wakeMem]
@[simp] theorem State.msi_mem (tenant vector : Nat) : (s.msi tenant vector).mem = s.mem := rfl
@[simp] theorem State.scrubCore_mem (k : Nat) : (s.scrubCore k).mem = s.mem := rfl
@[simp] theorem State.scrubCluster_mem (q : Nat) : (s.scrubCluster q).mem = s.mem := rfl

@[simp] theorem State.interrupt_mem (k t : Nat) : (s.interrupt k t).mem = s.mem := by
  unfold State.interrupt
  dsimp only
  (repeat' split) <;> rfl

@[simp] theorem State.interruptAll_mem (k : Nat) : (s.interruptAll k).mem = s.mem := by simp [State.interruptAll]

@[simp] theorem State.queuePacket_mem (t : Nat) (p : Packet) :
    (s.queuePacket t p).mem = s.mem := by
  simp [State.queuePacket]

@[simp] theorem State.inform_mem (t : Nat) (p : Packet) : (s.inform t p).mem = s.mem := by simp [State.inform]
@[simp] theorem State.reoffer_mem (t : Nat) : (s.reoffer t).mem = s.mem := by simp [State.reoffer]
@[simp] theorem State.report_mem (k t cause : Nat) (pc addr : Dword) : (s.report k t cause pc addr).mem = s.mem := rfl

/-! ## Operands and results (Machine/Operands.lean) -/

theorem State.formOne_mem {s : State} {i : LabelIn} {u : State} {x : Handle} (h : s.formOne i = some (u, x)) :
    u.mem = s.mem := by
  unfold State.formOne at h
  split at h
  · cases h
  next u ls hu =>
    split at h
    · cases h
      exact State.formAll_mem hu
    · cases h

@[simp] theorem State.lanesInFlight_mem (k t : Nat) (pc : Dword) (lat : Nat) (d : BitVec 5)
    (ls : List (LabelIn × Label)) (outs : List LaneOut) (n : Nat) :
    (s.lanesInFlight k t pc lat d ls outs n).mem = s.mem := rfl

@[simp] theorem State.laterPend_mem (lat : Nat) (d : BitVec 5) (ls : List (LabelIn × Label)) (outs : List LaneOut)
    (n : Nat) : (s.laterPend lat d ls outs n).mem = s.mem := rfl

/-! ## Addresses, checks and requests (Machine/Requests.lean) -/

@[simp] theorem State.send_mem (r : Req) (n : Nat) : (s.send r n).mem = s.mem := rfl

@[simp] theorem State.sendPartials_mem (k t : Nat) (pc : Dword) :
    (s.sendPartials k t pc).mem = s.mem := by
  simp [State.sendPartials]

@[simp] theorem State.release_mem : (s.release).mem = s.mem := by simp [State.release]
@[simp] theorem State.markRead_mem (k : Nat) (q : Copy) : (s.markRead k q).mem = s.mem := rfl
@[simp] theorem State.markWrite_mem (k line : Nat) : (s.markWrite k line).mem = s.mem := rfl

theorem State.formAt_mem {s : State} {k t seq : Nat} {hs : List Handle} {u : State} {x : Handle}
    (h : s.formAt k t seq hs = some (u, x)) : u.mem = s.mem := by
  have h0 : (if (s.checkAll k t hs).2 = 0 then s else s.onCore k (fun c => c.count 8 (s.checkAll k t hs).2)).mem = s.mem := by
    simp
  unfold State.formAt at h
  dsimp only at h
  split at h
  · cases h
    exact h0
  · split at h
    · cases h
      exact h0
    · split at h
      next u ls hu =>
        split at h
        · cases h
          exact (State.formAll_mem hu).trans h0
        · cases h
      · cases h

@[simp] theorem State.arrive_mem (k seq n : Nat) (ws : List RegWrite) : (s.arrive k seq n ws).mem = s.mem := by
  unfold State.arrive
  dsimp only
  split <;> simp

@[simp] theorem State.arriveRaw_mem (k seq n i : Nat) (w : LWord) : (s.arriveRaw k seq n i w).mem = s.mem := by
  unfold State.arriveRaw
  dsimp only
  split <;> simp

@[simp] theorem State.deliver_mem (r : Req) (v : Nat) (hs : List Handle) (n : Nat) :
    (s.deliver r v hs n).mem = s.mem := by
  unfold State.deliver
  split
  · rfl
  split
  · rfl
  next u h hu => split <;> simp [State.formAt_mem hu]

@[simp] theorem State.failLoad_mem (r : Req) (cause : Nat) : (s.failLoad r cause).mem = s.mem := by
  unfold State.failLoad
  split <;> simp

@[simp] theorem State.deliverWords_mem (r : Req) (lo hi : Word × List Handle) (corrupt : Bool) (n : Nat) :
    (s.deliverWords r lo hi corrupt n).mem = s.mem := by
  simp [State.deliverWords]

@[simp] theorem State.dropReq_mem (id : Nat) : (s.dropReq id).mem = s.mem := rfl
@[simp] theorem State.onReq_mem (id : Nat) (f : Req → Req) : (s.onReq id f).mem = s.mem := rfl

/-! ## Control transfers and system registers (Machine/Control.lean) -/

theorem State.formWith_mem {s : State} {hs : List Handle} {u : State} {x : Handle} (h : s.formWith hs = some (u, x)) :
    u.mem = s.mem :=
  (State.formOne_mem h).trans (State.countVoids_mem s _)

@[simp] theorem State.tagOnly_mem (k : Ctl) (lat : Nat) : (s.tagOnly k lat).mem = s.mem := by simp [State.tagOnly]

@[simp] theorem State.arriveAt_mem (k weir addend : Nat) (withdraw : Bool) (by_ : Nat) :
    (s.arriveAt k weir addend withdraw by_).mem = s.mem := rfl

@[simp] theorem State.haltCore_mem (k : Nat) : (s.haltCore k).mem = s.mem := by
  unfold State.haltCore
  dsimp only
  split <;> simp

theorem State.link_mem {s u : State} {k : Ctl} (h : s.link k = some u) : u.mem = s.mem := by
  unfold State.link at h
  split at h
  · cases h
  next u x hu =>
    cases h
    simp [State.formWith_mem hu]

/-! ## Windows (Machine/Window.lean) -/

@[simp] theorem State.debugPut_mem (t k o v b m : Nat) :
    (s.debugPut t k o v b m).mem = s.mem := by
  simp [State.debugPut]

@[simp] theorem State.controlPut_mem (t o v b m : Nat) : (s.controlPut t o v b m).mem = s.mem := by
  unfold State.controlPut
  dsimp only
  (repeat' split) <;> simp

/-! ## Scalar memory (Machine/Memory.lean) -/

@[simp] theorem State.windowLoad_mem (r : Req) (n : Nat) : (s.windowLoad r n).mem = s.mem := by
  unfold State.windowLoad
  split <;> simp

@[simp] theorem State.startLoad_mem (r : Req) (n : Nat) : (s.startLoad r n).mem = s.mem := by
  unfold State.startLoad
  dsimp only
  (repeat' split) <;> simp

theorem State.loadLabel_mem {s : State} {hs : List Handle} {u : State} {x : Handle} (h : s.loadLabel hs = some (u, x)) :
    u.mem = s.mem := by
  unfold State.loadLabel at h
  dsimp only at h
  split at h
  · cases h
    exact State.countVoids_mem s _
  · exact (State.formOne_mem h).trans (State.countVoids_mem s _)

@[simp] theorem State.putStore_mem (r : Req) : (s.putStore r).mem = s.mem := by
  unfold State.putStore
  dsimp only
  split <;> simp

@[simp] theorem State.sendOnePartial_mem (k : Nat) (p : Partial) : (s.sendOnePartial k p).mem = s.mem := rfl
@[simp] theorem State.refresh_mem (k : Nat) : (s.refresh k).mem = s.mem := rfl
@[simp] theorem State.dropCopies_mem (q line : Nat) : (s.dropCopies q line).mem = s.mem := by simp [State.dropCopies]

/-! ## Fetch and issue (Machine/Fetch.lean) -/

@[simp] theorem State.startFetch_mem (k t pc : Nat) : (s.startFetch k t pc).mem = s.mem := by simp [State.startFetch]

@[simp] theorem State.startRegs_mem (k t : Nat) (rs : List RegRef) :
    (s.startRegs k t rs).mem = s.mem := by
  simp [State.startRegs]

@[simp] theorem State.toIssue_mem (k t pc : Nat) : (s.toIssue k t pc).mem = s.mem := rfl

@[simp] theorem State.putLword_mem (bank off : Nat) (w : Word) (h : Handle) : (s.putLword bank off w h).mem = s.mem :=
  rfl

/-! ## Vector memory, permutes, blocks (Machine/VectorMem.lean) -/

theorem State.storeItems_mem {s : State} {its : List StoreItem} {u : State} {ls : List (LabelIn × Label)}
    (h : s.storeItems its = some (u, ls)) : u.mem = s.mem := by
  unfold State.storeItems at h
  split at h
  · cases h
  dsimp only at h
  split at h
  · cases h
  next u ls hu =>
    cases h
    rw [State.mem_ite, State.onMe_mem, ite_self, State.mem_foldl]
    · simpa using State.formAll_mem hu
    · intro st x
      dsimp only
      split <;> simp

theorem State.finishVq_mem {s u : State} {k seq : Nat} (h : s.finishVq k seq = some u) : u.mem = s.mem := by
  unfold State.finishVq at h
  split at h
  · cases h
    rfl
  split at h
  · cases h
    rfl
  dsimp only at h
  split at h
  · cases h
    rfl
  split at h
  · cases h
  next v ls hv =>
    cases h
    simpa using State.formAll_mem hv

/-! ## The matrix array (Machine/Matrix.lean) -/

theorem State.formWrites_mem {s : State} {lat : Nat} {dst : List RegRef} {outs : List (RegWrite × LabelIn)} {u : State}
    {ws : List RegWrite} (h : s.formWrites lat dst outs = some (u, ws)) : u.mem = s.mem := by
  unfold State.formWrites at h
  dsimp only at h
  split at h
  · cases h
  next u ls hu =>
    cases h
    simpa using State.formAll_mem hu

@[simp] theorem State.countFormed_mem (k t : Nat) (ins : List (List Handle)) :
    (s.countFormed k t ins).mem = s.mem := by
  simp [State.countFormed]

@[simp] theorem State.countReadsAt_mem (k t : Nat) (hs : List Handle) :
    (s.countReadsAt k t hs).mem = s.mem := by
  simp [State.countReadsAt]

@[simp] theorem State.arrayStore_mem (m : Member) (va width v : Nat) (h : Handle) :
    (s.arrayStore m va width v h).mem = s.mem := rfl

@[simp] theorem State.wakeMwait_mem (q : Nat) : (s.wakeMwait q).mem = s.mem := by simp [State.wakeMwait]
@[simp] theorem State.onMat_mem (q id : Nat) (f : MatOp → MatOp) : (s.onMat q id f).mem = s.mem := rfl
@[simp] theorem State.freeMembers_mem (o : MatOp) : (s.freeMembers o).mem = s.mem := by simp [State.freeMembers]

@[simp] theorem State.settleMat_mem (q id : Nat) : (s.settleMat q id).mem = s.mem := by
  unfold State.settleMat
  split <;> simp

@[simp] theorem State.planInbound_mem (q : Nat) (o : MatOp) (t : Inbound) : (s.planInbound q o t).mem = s.mem := rfl

@[simp] theorem State.sendTile_mem (q : Nat) (o : MatOp) (dir : Nat) (w : Option Nat) :
    (s.sendTile q o dir w).mem = s.mem := by
  unfold State.sendTile
  dsimp only
  (repeat' split) <;> rfl

@[simp] theorem State.rotate_mem (l : Launch) (q : Nat) (o : MatOp) :
    (s.rotate l q o).mem = s.mem := by
  simp [State.rotate]

@[simp] theorem State.noTile_mem (num dir : Nat) (w : Option Nat) : (s.noTile num dir w).mem = s.mem := by
  unfold State.noTile
  (repeat' split) <;> simp

@[simp] theorem State.loseMmar_mem (q : Nat) (o : MatOp) : (s.loseMmar q o).mem = s.mem := by
  unfold State.loseMmar
  split <;> simp

@[simp] theorem State.readTiles_mem (q : Nat) (o : MatOp) : (s.readTiles q o).mem = s.mem := by simp [State.readTiles]

@[simp] theorem State.inboundReg_mem (m : Member) (n : BitVec 5) (ty : BitVec 3) (vs : List VReg) :
    (s.inboundReg m n ty vs).mem = s.mem := by
  unfold State.inboundReg
  split <;> simp

@[simp] theorem State.landedTile_mem (q id : Nat) (t : Inbound) :
    (s.landedTile q id t).mem = s.mem := by
  simp [State.landedTile]

/-! ## Home slices (Machine/Home.lean) -/

@[simp] theorem State.flushLeaf_mem (va : Nat) : (s.flushLeaf va).mem = s.mem := rfl
@[simp] theorem State.park_mem (p : Park) : (s.park p).mem = s.mem := by simp [State.park]
@[simp] theorem State.toHost_mem (m : HostMsg) : (s.toHost m).mem = s.mem := rfl

@[simp] theorem State.parkCow_mem (p : Park) (l : Leaf) (size : Nat) :
    (s.parkCow p l size).mem = s.mem := by
  simp [State.parkCow]

@[simp] theorem State.onLink_mem (n : Nat) (f : NLink → NLink) : (s.onLink n f).mem = s.mem := rfl

@[simp] theorem State.setSlot_mem (va : Nat) (w : Word) (h : Handle) : (s.setSlot va w h).mem = s.mem := by
  unfold State.setSlot
  split <;> simp

@[simp] theorem State.touched_mem (va : Nat) : (s.touched va).mem = s.mem := by simp [State.touched]

@[simp] theorem State.installCopy_mem (q : Nat) (x : Copy) : (s.installCopy q x).mem = s.mem := by
  unfold State.installCopy
  dsimp only
  (repeat' split) <;> simp

/-! ## What crosses a link (Machine/Links.lean) -/

@[simp] theorem State.reply_mem (n : Nat) (nak : Bool) : (s.reply n nak).mem = s.mem := rfl
@[simp] theorem State.pump_mem (n : Nat) : (s.pump n).mem = s.mem := by simp [State.pump]
@[simp] theorem State.toLink_mem (n : Nat) (m : LinkMsg) : (s.toLink n m).mem = s.mem := by simp [State.toLink]

@[simp] theorem State.answerPeer_mem (link : Nat) (ok : Bool) (ws : List (Word × List Dword × Handle)) :
    (s.answerPeer link ok ws).mem = s.mem := by
  simp [State.answerPeer]

/-! ## Steps of the memory system (Machine/EventsMem.lean) -/

@[simp] theorem State.retry_mem (r : Req) (n : Nat) : (s.retry r n).mem = s.mem := rfl
@[simp] theorem State.fetchFault_mem (k t cause : Nat) : (s.fetchFault k t cause).mem = s.mem := rfl

@[simp] theorem State.fetchFail_mem (k block cause : Nat) :
    (s.fetchFail k block cause).mem = s.mem := by
  simp [State.fetchFail]

@[simp] theorem State.barFail_mem (r : Req) : (s.barFail r).mem = s.mem := by
  unfold State.barFail
  split <;> rfl

@[simp] theorem State.refuse_mem (r : Req) (cause : Nat) : (s.refuse r cause).mem = s.mem := by
  unfold State.refuse
  split <;> simp

@[simp] theorem State.writeThrough_mem (r : Req) (e : Option TEntry) (data : Nat) :
    (s.writeThrough r e data).mem = s.mem := by
  unfold State.writeThrough
  split <;> simp

@[simp] theorem State.lineRead_mem (r : Req) (e : Option TEntry) (ws : List LWord) (corrupt : Bool) (n : Nat) :
    (s.lineRead r e ws corrupt n).mem = s.mem := rfl

@[simp] theorem State.hostWord_mem (va width data word : Nat) :
    (s.hostWord va width data word).mem = s.mem := by
  simp [State.hostWord]

@[simp] theorem State.barNext_mem (r : Req) (n : Nat) (data : Dword) :
    (s.barNext r n data).mem = s.mem := by
  simp [State.barNext]

@[simp] theorem State.barRead_mem (r : Req) (words : List LWord) :
    (s.barRead r words).mem = s.mem := by
  simp [State.barRead]

@[simp] theorem State.barWrite_mem (r : Req) : (s.barWrite r).mem = s.mem := by simp [State.barWrite]

@[simp] theorem State.stage_mem (t va : Nat) : (s.stage t va).mem = s.mem := by
  unfold State.stage
  split <;> rfl

@[simp] theorem State.unstage_mem (t page : Nat) : (s.unstage t page).mem = s.mem := rfl

@[simp] theorem State.sendHost_mem (t : Nat) (r : Req) (e : TEntry) :
    (s.sendHost t r e).mem = s.mem := by
  simp [State.sendHost]

@[simp] theorem State.windowStore_mem (r : Req) (isEvent : Bool) (q off : Nat) :
    (s.windowStore r isEvent q off).mem = s.mem := by
  simp [State.windowStore]

@[simp] theorem State.localAccess_mem (r : Req) (bank : Nat) : (s.localAccess r bank).mem = s.mem := by
  unfold State.localAccess
  split <;> rfl

@[simp] theorem State.refetch_mem (r : Req) : (s.refetch r).mem = s.mem := rfl
@[simp] theorem State.fillCopy_mem (r : Req) : (s.fillCopy r).mem = s.mem := by simp [State.fillCopy]

@[simp] theorem State.loadFrom_mem (r : Req) (q : Copy) (w : List (Word × List Handle)) :
    (s.loadFrom r q w).mem = s.mem := by
  simp [State.loadFrom]

@[simp] theorem State.mapJob_mem (id : Nat) (f : Job → Job) : (s.mapJob id f).mem = s.mem := rfl

@[simp] theorem State.resumeJob_mem (j : Job) (n : Nat) : (s.resumeJob j n).mem = s.mem := by
  unfold State.resumeJob
  split <;> rfl

@[simp] theorem State.unpark_mem (which : Park → Bool) {onReq : State → Req → State} {onJob : State → Job → State}
    (hr : KeepsMem onReq) (hj : KeepsMem onJob) : (s.unpark which onReq onJob).mem = s.mem := by
  unfold State.unpark
  refine State.mem_foldl _ (fun s p => ?_) _
  split <;> split <;> simp [hr _ _, hj _ _]

@[simp] theorem State.retryPage_mem (t page : Nat) : (s.retryPage t page).mem = s.mem := by simp [State.retryPage]

@[simp] theorem State.watched_mem (r : Req) (words : List Word) :
    (s.watched r words).mem = s.mem := by
  simp [State.watched]

@[simp] theorem State.onJob_mem (id : Nat) (f : Job → Job) (ok : Bool) (kind : Nat) :
    (s.onJob id f ok kind).mem = s.mem := by
  unfold State.onJob
  split <;> simp

@[simp] theorem State.published_mem (r : Req) : (s.published r).mem = s.mem := by simp [State.published]

/-! ## Weirs, events, timelines (Machine/Sync.lean) -/

@[simp] theorem State.weirCheck_mem (ln n : Nat) : (s.weirCheck ln n).mem = s.mem := by
  unfold State.weirCheck
  split <;> simp

@[simp] theorem State.weirAdd_mem (ln n : Nat) (v : BitVec 40) :
    (s.weirAdd ln n v).mem = s.mem := by
  simp [State.weirAdd]

@[simp] theorem State.countArrival_mem (k ln n addend : Nat) (withdraw : Bool) :
    (s.countArrival k ln n addend withdraw).mem = s.mem := by
  simp [State.countArrival]

@[simp] theorem State.wakeAt_mem (p : Nat × Nat) : (s.wakeAt p).mem = s.mem := rfl

@[simp] theorem State.signalLine_mem (q n : Nat) : (s.signalLine q n).mem = s.mem := by
  unfold State.signalLine
  split <;> rfl

@[simp] theorem State.storeLine_mem (q n v : Nat) : (s.storeLine q n v).mem = s.mem := by simp [State.storeLine]

@[simp] theorem State.freeMutex_mem (q n : Nat) : (s.freeMutex q n).mem = s.mem := by
  unfold State.freeMutex
  split <;> rfl

@[simp] theorem State.passAt_mem (p : Nat × Nat) : (s.passAt p).mem = s.mem := rfl

@[simp] theorem State.leaveBarrier_mem (n : Nat) (p : Nat × Nat) : (s.leaveBarrier n p).mem = s.mem := by
  unfold State.leaveBarrier
  split <;> rfl

@[simp] theorem State.openBarrier_mem (q n : Nat) : (s.openBarrier q n).mem = s.mem := by simp [State.openBarrier]
@[simp] theorem State.tryBarrier_mem (q n : Nat) : (s.tryBarrier q n).mem = s.mem := by simp [State.tryBarrier]
@[simp] theorem State.planSignal_mem (n : Nat) (u : Subj) : (s.planSignal n u).mem = s.mem := rfl
@[simp] theorem State.signal_mem (cluster kind idx : Nat) : (s.signal cluster kind idx).mem = s.mem := rfl

@[simp] theorem State.withdrawArrival_mem (u : Subj) :
    (s.withdrawArrival u).mem = s.mem := by
  simp [State.withdrawArrival]

@[simp] theorem State.signalEffect_mem (u : Subj) : (s.signalEffect u).mem = s.mem := by simp [State.signalEffect]

@[simp] theorem State.afterSignals_mem (kind : Nat → Bool) (n : Nat) : (s.afterSignals kind n).mem = s.mem := by
  unfold State.afterSignals
  split <;> simp

@[simp] theorem State.eventStored_mem : (s.eventStored).mem = s.mem := by
  unfold State.eventStored
  split <;> rfl

@[simp] theorem State.newEra_mem (k : Nat) (era : BitVec 4) : (s.newEra k era).mem = s.mem := rfl

@[simp] theorem State.takeView_mem (k : Nat) (clear : Bool) : (s.takeView k clear).mem = s.mem := by
  unfold State.takeView
  split <;> simp

@[simp] theorem State.wakeUpdate_mem (d : Nat) : (s.wakeUpdate d).mem = s.mem := by simp [State.wakeUpdate]

@[simp] theorem State.wakeSluice_mem (k t : Nat) : (s.wakeSluice k t).mem = s.mem := by
  unfold State.wakeSluice
  dsimp only
  split <;> simp

@[simp] theorem State.wakeMill_mem (t n : Nat) : (s.wakeMill t n).mem = s.mem := by simp [State.wakeMill]

/-! ## The engines (Machine/Copy.lean) -/

@[simp] theorem State.jobPort_mem (j : Job) (op : ReqOp) (va width v : Nat) (h : Handle) :
    (s.jobPort j op va width v h).mem = s.mem := rfl

@[simp] theorem State.jobBytes_mem (j : Job) (n : Nat) : (s.jobBytes j n).mem = s.mem := by
  unfold State.jobBytes
  (repeat' split) <;> simp

@[simp] theorem State.stopJob_mem (j : Job) : (s.stopJob j).1.mem = s.mem := State.jobBytes_mem s j _
@[simp] theorem State.setJob_mem (j : Job) : (s.setJob j).mem = s.mem := rfl

@[simp] theorem State.fireJob_mem (j : Job) : (s.fireJob j).mem = s.mem := by
  unfold State.fireJob
  (repeat' split) <;> simp

@[simp] theorem State.receiveJob_mem (j : Job) : (s.receiveJob j).mem = s.mem := by simp [State.receiveJob]
@[simp] theorem State.advanceSluice_mem (k t : Nat) : (s.advanceSluice k t).mem = s.mem := by simp [State.advanceSluice]
@[simp] theorem State.advanceMill_mem (t n : Nat) : (s.advanceMill t n).mem = s.mem := by simp [State.advanceMill]
@[simp] theorem State.advanceMills_mem (t : Nat) : (s.advanceMills t).mem = s.mem := by simp [State.advanceMills]

@[simp] theorem State.captureFail_mem (j : Job) (cause addr : Nat) : (s.captureFail j cause addr).mem = s.mem := by
  unfold State.captureFail
  split <;> rfl

@[simp] theorem State.millEnd_mem (j : Job) : (s.millEnd j).mem = s.mem := by simp [State.millEnd]
@[simp] theorem State.millDone_mem (j : Job) : (s.millDone j).mem = s.mem := by simp [State.millDone]

/-! ## The label group and domain homes (Machine/LabelOps.lean) -/

@[simp] theorem State.unpair_mem (n k : Nat) : (s.unpair n k).mem = s.mem := rfl
@[simp] theorem State.onDomOp_mem (id : Nat) (f : DomOp → DomOp) : (s.onDomOp id f).mem = s.mem := rfl
@[simp] theorem State.answerOp_mem (o : DomOp) : (s.answerOp o).mem = s.mem := rfl
@[simp] theorem State.settleCtx_mem (k t : Nat) (era : BitVec 4) : (s.settleCtx k t era).mem = s.mem := rfl

@[simp] theorem State.takeChange_mem (k t : Nat) (c : Change) : (s.takeChange k t c).mem = s.mem := by
  unfold State.takeChange
  (repeat' split) <;> rfl

@[simp] theorem State.domFault_mem (o : DomOp) (f : Nat × Dword) : (s.domFault o f).mem = s.mem := rfl

@[simp] theorem State.askDomain_mem (k : Ctl) (kind : Nat) (v : Dword) (link : Nat) (d : BitVec 5) (l : Handle)
    (dom : Nat) : (s.askDomain k kind v link d l dom).mem = s.mem := by
  simp [State.askDomain]

@[simp] theorem State.stripReads_mem (hs : List Handle) : (s.stripReads hs).mem = s.mem := by simp [State.stripReads]
@[simp] theorem State.startSlots_mem (k : Nat) : (s.startSlots k).mem = s.mem := by simp [State.startSlots]

@[simp] theorem State.slotDone_mem (k n : Nat) (x : Slot) (h : Handle) (full tooMany : Bool) :
    (s.slotDone k n x h full tooMany).mem = s.mem := by
  simp [State.slotDone]

@[simp] theorem State.fillLabel_mem (k : Nat) (f : Fill) (h : Handle) : (s.fillLabel k f h).mem = s.mem := by
  unfold State.fillLabel
  split <;> simp

/-! ## Holdings and recalls (Machine/Holdings.lean) -/

@[simp] theorem State.onHolding_mem (ln h : Nat) (f : Holding → Holding) :
    (s.onHolding ln h f).mem = s.mem := by
  simp [State.onHolding]

@[simp] theorem State.withdrawRecalls_mem (t q : Nat) : (s.withdrawRecalls t q).mem = s.mem := rfl

@[simp] theorem State.giveUp_mem (r : Recall) : (s.giveUp r).mem = s.mem := by
  unfold State.giveUp
  dsimp only
  (repeat' split) <;> rfl

@[simp] theorem State.award_mem (r : Recall) (q : Nat) : (s.award r q).mem = s.mem := by
  unfold State.award
  (repeat' split) <;> simp

@[simp] theorem State.handOver_mem (rs : List Recall) (q : Nat) : (s.handOver rs q).mem = s.mem := by
  unfold State.handOver
  split <;> simp

@[simp] theorem State.beginDeparture_mem (ln h : Nat) : (s.beginDeparture ln h).mem = s.mem := by
  unfold State.beginDeparture
  split <;> simp

@[simp] theorem State.keepCounts_mem (ln k : Nat) : (s.keepCounts ln k).mem = s.mem := by simp [State.keepCounts]

@[simp] theorem State.countIssued_mem (ln : Nat) (ks : List Nat) :
    (s.countIssued ln ks).mem = s.mem := by
  simp [State.countIssued]

@[simp] theorem State.force_mem (ln h : Nat) : (s.force ln h).mem = s.mem := by
  unfold State.force
  split <;> simp

@[simp] theorem State.refuseRecall_mem (ln h : Nat) (r : Recall) : (s.refuseRecall ln h r).mem = s.mem := by
  unfold State.refuseRecall
  split <;> simp

@[simp] theorem State.enterRoutine_mem (k : Nat) (entry : Dword) (cause : Nat) :
    (s.enterRoutine k entry cause).mem = s.mem := by
  simp [State.enterRoutine]

@[simp] theorem State.leaveRoutine_mem : (s.leaveRoutine).mem = s.mem := rfl

@[simp] theorem State.informSup_mem (k t cause : Nat) (pc : Dword) :
    (s.informSup k t cause pc).mem = s.mem := by
  simp [State.informSup]

/-! ## System instructions (Machine/System.lean) -/

@[simp] theorem State.setPlb_mem (ln i : Nat) (p : Plb) : (s.setPlb ln i p).mem = s.mem := by
  unfold State.setPlb
  split <;> simp

@[simp] theorem State.carryError_mem (src dst : Nat) : (s.carryError src dst).mem = s.mem := by
  unfold State.carryError
  split <;> rfl

@[simp] theorem State.sysAnswer_mem (r : Req) (v : Nat) : (s.sysAnswer r v).mem = s.mem := by simp [State.sysAnswer]

@[simp] theorem State.dropFetches_mem (l : Launch) : (s.dropFetches l).mem = s.mem := by
  refine State.mem_foldl _ (fun s r => ?_) s
  simp

@[simp] theorem State.flushDone_mem (ln : Nat) : (s.flushDone ln).mem = s.mem := by
  unfold State.flushDone
  split
  · rfl
  next l _ =>
    split
    · rfl
    · dsimp only
      rw [State.mem_foldl]
      · simp
      · intro s id
        dsimp only
        split <;> simp

@[simp] theorem State.replayAll_mem (r : Req) : (s.replayAll r).mem = s.mem := by
  simp only [State.replayAll, State.sysAnswer_mem]
  refine State.mem_foldl _ (fun s p => ?_) _
  split <;> split <;> simp

@[simp] theorem State.movedWaits_mem (k : Nat) : (s.movedWaits k).mem = s.mem := by simp [State.movedWaits]

@[simp] theorem State.flushStep_mem (r : Req) : (s.flushStep r).mem = s.mem := by
  unfold State.flushStep
  split <;> simp

@[simp] theorem State.unstaged_mem (id : Nat) : (s.unstaged id).mem = s.mem := by
  unfold State.unstaged
  (repeat' split) <;> rfl

/-! ## Steps of a core (Machine/EventsCore.lean) -/

@[simp] theorem State.deliverBlock_mem (k : Nat) (b : IBlock) :
    (s.deliverBlock k b).mem = s.mem := by
  simp [State.deliverBlock]

/-! ## The distributor and launches (Machine/EventsLaunch.lean) -/

@[simp] theorem State.releaseCore_mem (ln n k : Nat) : (s.releaseCore ln n k).mem = s.mem := by simp [State.releaseCore]
@[simp] theorem State.startCore_mem (l : Launch) (h c : Nat) (run : Bool) : (s.startCore l h c run).mem = s.mem := rfl

@[simp] theorem State.startHolding_mem (ln h : Nat) : (s.startHolding ln h).mem = s.mem := by
  unfold State.startHolding
  split <;> simp

@[simp] theorem State.mapUpdate_mem (ln : Nat) : (s.mapUpdate ln).mem = s.mem := by
  unfold State.mapUpdate
  split <;> simp

@[simp] theorem State.finishTick_mem (ln : Nat) : (s.finishTick ln).mem = s.mem := by
  unfold State.finishTick
  split
  · rfl
  refine State.mem_foldl _ (fun s h => ?_) _
  split <;> simp

@[simp] theorem State.sendRecall_mem (c : Nat) (r : Recall) : (s.sendRecall c r).mem = s.mem := by
  unfold State.sendRecall
  split <;> simp

@[simp] theorem State.probeWaits_mem : (s.probeWaits).mem = s.mem := by simp [State.probeWaits]

@[simp] theorem State.select_mem (t q p : Nat) (r : List Dword) (x y : Nat) :
    (s.select t q p r x y).mem = s.mem := by
  simp [State.select]

@[simp] theorem State.lease_mem (ln : Nat) (a : LeaseReq) : (s.lease ln a).mem = s.mem := by
  unfold State.lease
  split <;> simp

@[simp] theorem State.leases_mem : (s.leases).mem = s.mem := by simp [State.leases]

/-! ## Pre-emption and restore (Machine/Preempt.lean) -/

@[simp] theorem State.withdrawGang_mem (q : Nat) : (s.withdrawGang q).mem = s.mem := by simp [State.withdrawGang]
@[simp] theorem State.stopCore_mem (k : Nat) : (s.stopCore k).mem = s.mem := by simp [State.stopCore]
@[simp] theorem State.stopLaunch_mem (l : Launch) : (s.stopLaunch l).mem = s.mem := by simp [State.stopLaunch]
@[simp] theorem State.recallFor_mem (l : Launch) : (s.recallFor l).mem = s.mem := by simp [State.recallFor]

@[simp] theorem State.restoreCore_mem (l : Launch) (h c : Nat) :
    (s.restoreCore l h c).mem = s.mem := by
  simp [State.restoreCore]

@[simp] theorem State.restoreHolding_mem (l : Launch) (h : Nat) :
    (s.restoreHolding l h).mem = s.mem := by
  simp [State.restoreHolding]

@[simp] theorem State.refreshViews_mem (l : Launch) : (s.refreshViews l).mem = s.mem := by simp [State.refreshViews]
@[simp] theorem State.beginRestore_mem (l : Launch) : (s.beginRestore l).mem = s.mem := by simp [State.beginRestore]

@[simp] theorem State.applyHeld_mem (l : Launch) : (s.applyHeld l).mem = s.mem := by
  simp only [State.applyHeld]
  rw [State.mem_foldl, State.onLaunch_mem]
  intro s e
  dsimp only
  split <;> split <;> simp

/-! ## The host (Machine/EventsHost.lean) -/

@[simp] theorem State.stopHostMoves_mem (link : Nat) :
    (s.stopHostMoves link).mem = s.mem := by
  simp [State.stopHostMoves]

@[simp] theorem State.takeFrame_mem (t : Nat) : (s.takeFrame t).1.mem = s.mem := rfl

/-! ## The controller (Machine/EventsMgmt.lean) -/

@[simp] theorem State.setClock_mem (st : Nat) : (s.setClock st).mem = s.mem := by simp [State.setClock]
@[simp] theorem State.startNelrek_mem : (s.startNelrek).mem = s.mem := rfl
@[simp] theorem State.failUp_mem (step die : Nat) : (s.failUp step die).mem = s.mem := rfl

@[simp] theorem State.finishUp_mem : (s.finishUp).mem = s.mem := by
  unfold State.finishUp
  split <;> rfl

/-! ## The links (Machine/EventsLink.lean) -/

@[simp] theorem State.passOn_mem (n : Nat) (a : RemoteAccess) (va : Nat) (ws : List LWord) :
    (s.passOn n a va ws).mem = s.mem := by
  simp [State.passOn]

@[simp] theorem State.exchange_mem (n : Nat) : (s.exchange n).mem = s.mem := by simp [State.exchange]

@[simp] theorem State.enterLink_mem (n : Nat) (st : NState) : (s.enterLink n st).mem = s.mem := by
  unfold State.enterLink
  dsimp only
  split <;> simp

@[simp] theorem State.takeFlit_mem (n : Nat) (f : Flit) : (s.takeFlit n f).mem = s.mem := rfl

@[simp] theorem State.activate_mem (n : Nat) : (s.activate n).mem = s.mem := by
  unfold State.activate
  split <;> rfl

@[simp] theorem State.readFlit_mem (n : Nat) (f : Flit) : (s.readFlit n f).mem = s.mem := by
  unfold State.readFlit
  split <;> simp

/-! ## The step (Machine/Step.lean) -/

@[simp] theorem State.begin_mem (t : Todo) (rest : List Todo) : (s.begin t rest).mem = s.mem := rfl
@[simp] theorem State.renew_mem : (s.renew).mem = s.mem := rfl

end

end Sys2Proof.Machine
end

section
/-! SUPPORT. Operations that write memory keep its canonical form (entry 7): a write goes through `Sparse.putBytes`, a scrub
filters cells out. -/

namespace Sys2Proof.Machine

theorem Sparse.wfFrom_filter {n lo : Nat} {m : Sparse n} (p : Nat × BitVec n → Bool) (h : Sparse.wfFrom lo m = true) :
    Sparse.wfFrom lo (m.filter p) = true := by
  induction m generalizing lo with
  | nil => rfl
  | cons c r ih =>
    obtain ⟨j, x⟩ := c
    simp only [Sparse.wfFrom, Bool.and_eq_true, decide_eq_true_eq] at h
    obtain ⟨⟨hlo, hx⟩, hr⟩ := h
    rw [List.filter_cons]
    split
    · simp only [Sparse.wfFrom, Bool.and_eq_true, decide_eq_true_eq]
      exact ⟨⟨hlo, hx⟩, ih hr⟩
    · exact ih (Sparse.wfFrom_mono hr (by omega))

/-- Dropping cells keeps the canonical form. -/
theorem Memory.wf_filter {m : Sparse 8} (p : Nat × Byte → Bool) (h : Memory.wf m) : Memory.wf (m.filter p) :=
  Sparse.wfFrom_filter p h

theorem State.wf_foldl {α : Type} (l : List α) {f : State → α → State}
    (hf : ∀ s x, Memory.wf s.mem → Memory.wf (f s x).mem) {s : State} (h : Memory.wf s.mem) :
    Memory.wf (l.foldl f s).mem :=
  List.foldlRecOn (motive := fun t : State => Memory.wf t.mem) l f h fun t ht x _ => hf t x ht

theorem State.wf_foldl_fst {α β : Type} (l : List α) {f : State × β → α → State × β}
    (hf : ∀ a x, Memory.wf a.1.mem → Memory.wf (f a x).1.mem) {s : State} {b : β} (h : Memory.wf s.mem) :
    Memory.wf (l.foldl f (s, b)).1.mem :=
  List.foldlRecOn (motive := fun t : State × β => Memory.wf t.1.mem) l f h fun t ht x _ => hf t x ht

section
variable {s : State} (h : Memory.wf s.mem)
include h

/-! ## Physical memory and translation (Machine/Paging.lean) -/

@[simp] theorem State.putRam_wf {pa : Nat} {bs : List Byte} : Memory.wf (s.putRam pa bs).mem :=
  Sparse.wf_putBytes pa bs h

@[simp] theorem State.mcPut_wf {pa : Nat} {bs : List Byte} : Memory.wf (s.mcPut pa bs).mem := by
  unfold State.mcPut
  split <;> simp [h]

@[simp] theorem State.writeLine_wf {l : Leaf} {size : Nat} {x : Line} : Memory.wf (s.writeLine l size x).mem := by
  unfold State.writeLine
  (repeat' split) <;> simp [h]

@[simp] theorem State.cleanLine_wf {n : Nat} : Memory.wf (s.cleanLine n).mem := by
  unfold State.cleanLine
  split
  · exact h
  split
  · exact h
  split
  · simp [h]
  · dsimp only
    rw [State.putLine_mem]
    refine State.wf_foldl _ (fun s x hs => ?_) (State.writeLine_wf h)
    split <;> simp [hs]

@[simp] theorem State.addLine_wf {x : Line} : Memory.wf (s.addLine x).mem := by
  unfold State.addLine
  dsimp only
  (repeat' split) <;> simp [h]

@[simp] theorem State.homePoke_wf {va : Nat} {w : Word} {h0 : Handle} : Memory.wf (s.homePoke va w h0).mem := by
  unfold State.homePoke
  split <;> simp [h]

@[simp] theorem State.put64_wf {va v : Nat} : Memory.wf (s.put64 va v).mem := by simp [State.put64, h]
@[simp] theorem State.put32_wf {va v : Nat} : Memory.wf (s.put32 va v).mem := by simp [State.put32, h]

/-! ## Labels and domains (Machine/Labels.lean) -/

@[simp] theorem State.putNogoods_wf {n : Nat} {l : List Dword} : Memory.wf (s.putNogoods n l).mem :=
  State.wf_foldl _ (fun _ _ hs => State.put64_wf hs) (State.put64_wf h)

@[simp] theorem State.intern_wf {n : Nat} {l : List Dword} : Memory.wf (s.intern n l).1.mem := by
  unfold State.intern
  split
  · exact h
  · split
    · exact h
    · exact State.wf_foldl _ (fun s i hs => State.put64_wf hs) h

@[simp] theorem State.settleForm_wf {k t n : Nat} {f : Formed} : Memory.wf (s.settleForm k t n f).1.mem := by
  unfold State.settleForm
  split
  · simp [h]
  next l =>
    have hi := State.intern_wf (n := n) (l := l) h
    split
    next u x full hu =>
      rw [hu] at hi
      simpa using hi

@[simp] theorem State.refine_wf {k t : Nat} {x : Handle} : Memory.wf (s.refine k t x).1.mem := by
  unfold State.refine
  split
  · exact h
  split
  · exact h
  split
  · split
    · exact h
    · exact State.settleForm_wf h
  · exact State.settleForm_wf h

@[simp] theorem State.combineNow_wf {k t : Nat} {hs : List Handle} : Memory.wf (s.combineNow k t hs).1.mem := by
  unfold State.combineNow
  split
  · exact h
  dsimp only
  split
  · exact h
  · exact State.refine_wf h
  · exact State.settleForm_wf h

/-! ## Operations every meaning shares (Machine/Ops.lean) -/

@[simp] theorem State.raise_wf {t va v : Nat} : Memory.wf (s.raise t va v).mem := by
  unfold State.raise
  split <;> simp [h]

@[simp] theorem State.finishRecord_wf {tenant recAddr : Nat} {rcd : List Dword} {number detail outcome : Nat} :
    Memory.wf (s.finishRecord tenant recAddr rcd number detail outcome).mem :=
  State.raise_wf (by simpa [State.finishRecord] using State.put64_wf h)

@[simp] theorem State.retire_wf {n detail outcome : Nat} : Memory.wf (s.retire n detail outcome).mem := by
  unfold State.retire
  split
  · exact h
  · dsimp only
    refine State.finishRecord_wf ?_
    rw [State.mem_foldl _ (by simp)]
    simpa using h

@[simp] theorem State.endNow_wf {n detail outcome : Nat} : Memory.wf (s.endNow n detail outcome).mem := by
  unfold State.endNow
  split <;> simp [h]

@[simp] theorem State.offer_wf {k : Nat} : Memory.wf (s.offer k).mem := by
  unfold State.offer
  dsimp only
  (repeat' split) <;> simp [h]

@[simp] theorem State.takeReport_wf {k : Nat} {r : Report} :
    Memory.wf (s.takeReport k r).mem := by
  simp [State.takeReport, h]

@[simp] theorem State.takeFault_wf {k t cause : Nat} {pc addr resume : Dword} :
    Memory.wf (s.takeFault k t cause pc addr resume).mem := by
  simp [State.takeFault, h]

@[simp] theorem State.resumeCore_wf {k : Nat} : Memory.wf (s.resumeCore k).mem := by
  unfold State.resumeCore
  dsimp only
  split <;> simp [h]

@[simp] theorem State.outOfLease_wf {n k t : Nat} {pc addr : Dword} : Memory.wf (s.outOfLease n k t pc addr).mem := by
  unfold State.outOfLease
  split <;> simp [h]

/-! ## Scalar memory (Machine/Memory.lean) -/

@[simp] theorem State.maintain_wf {k line kind : Nat} : Memory.wf (s.maintain k line kind).mem := by
  unfold State.maintain
  dsimp only
  (repeat' split) <;> simp [h]

/-! ## Fetch and issue (Machine/Fetch.lean) -/

@[simp] theorem State.bankStore_wf {r : Req} {bank off : Nat} : Memory.wf (s.bankStore r bank off).mem := by
  unfold State.bankStore
  split <;> simp [h]

@[simp] theorem State.bankAtomic_wf {r : Req} {bank off : Nat} : Memory.wf (s.bankAtomic r bank off).mem := by
  unfold State.bankAtomic
  dsimp only
  (repeat' split) <;> simp [h]

@[simp] theorem State.performLocal_wf {r : Req} : Memory.wf (s.performLocal r).mem := by
  unfold State.performLocal
  (repeat' split) <;> simp [h]

@[simp] theorem State.performLate_wf : Memory.wf (s.performLate).mem :=
  State.wf_foldl _ (fun _ _ hs => State.performLocal_wf hs) h

/-! ## The matrix array (Machine/Matrix.lean) -/

@[simp] theorem State.faultMember_wf {cause : Nat} {addr : Dword} {m : Member} :
    Memory.wf (s.faultMember cause addr m).mem := by
  unfold State.faultMember
  (repeat' split) <;> simp [h]

@[simp] theorem State.faultGang_wf {q : Nat} {ms : List Member} {cause : Nat} {addr : Dword} :
    Memory.wf (s.faultGang q ms cause addr).mem := State.wf_foldl _ (fun _ _ hs => State.faultMember_wf hs) h

@[simp] theorem State.gangCore_wf {q : Nat} {o : MatOp} {c : Nat} {m : Member} :
    Memory.wf (s.gangCore q o c m).1.mem := by
  unfold State.gangCore
  dsimp only
  rw [State.onCore_mem]
  refine State.wf_foldl_fst _ (fun acc p hacc => ?_) ?_
  · dsimp only
    rw [State.onCluster_mem]
    exact State.combineNow_wf hacc
  · rw [State.countFormed_mem, State.countReadsAt_mem]
    refine State.wf_foldl_fst _ (fun acc r hacc => ?_) (State.wf_foldl_fst _ (fun acc r hacc => ?_) h)
    · exact State.combineNow_wf hacc
    · exact State.combineNow_wf hacc

@[simp] theorem State.gangQuantise_wf {q : Nat} {o : MatOp} : Memory.wf (s.gangQuantise q o).mem := by
  unfold State.gangQuantise
  dsimp only
  split
  · exact h
  refine State.wf_foldl _ (fun s i hs => ?_) h
  rw [State.mem_ite, State.mem_foldl _ (by simp), ite_self, State.arrayStore_mem, State.mem_foldl _ (by simp)]
  refine State.combineNow_wf ?_
  rw [State.countFormed_mem, State.mem_foldl _ (by simp)]
  exact hs

@[simp] theorem State.faultMat_wf {q : Nat} {o : MatOp} {cause : Nat} {addr : Dword} :
    Memory.wf (s.faultMat q o cause addr).mem := by
  rw [State.faultMat, State.wakeMwait_mem]
  exact State.wf_foldl _ (fun _ _ hs => State.faultMember_wf hs) h

@[simp] theorem State.inboundTile_wf {m : Member} {t : Tile} {ty : BitVec 3} {kk c : Nat} {vs : List VReg}
    {hs : List Handle} : Memory.wf (s.inboundTile m t ty kk c vs hs).mem := by
  unfold State.inboundTile
  dsimp only
  refine State.wf_foldl _ (fun s p hs => ?_) ?_
  · rw [State.arrayStore_mem]
    exact State.combineNow_wf hs
  · simp [h]

@[simp] theorem State.joinGang_wf {q : Nat} : Memory.wf (s.joinGang q).mem := by
  unfold State.joinGang
  dsimp only
  (repeat' split) <;> simp [h]

/-! ## Home slices (Machine/Home.lean) -/

@[simp] theorem State.liveAdd_wf {n era : Nat} {up : Bool} :
    Memory.wf (s.liveAdd n era up).mem := by
  simp [State.liveAdd, h]

@[simp] theorem State.putLeaf_wf {va : Nat} {l : Leaf} {keep : Bool} : Memory.wf (s.putLeaf va l keep).mem := by
  have hmem : Memory.wf (match s.leafAt va with
      | none => s
      | some (a, _) =>
        { s with mem := Sparse.putBytes (Sparse.putBytes s.mem a (leBytes 8 l.w0.toNat)) (a + 8) (leBytes 8 l.w1.toNat) }).mem := by
    split
    · exact h
    · exact Sparse.wf_putBytes _ _ (Sparse.wf_putBytes _ _ h)
  unfold State.putLeaf
  dsimp only
  split
  · exact hmem
  · rw [State.flushLeaf_mem]
    exact hmem

theorem State.accept_wf {u : State} {dom : Option Nat} {e : Option TEntry} {va : Nat} {hs : List Handle}
    (hu : s.accept dom e va hs = some u) : Memory.wf u.mem := by
  unfold State.accept at hu
  split at hu
  · cases hu; exact h
  split at hu
  · cases hu; exact h
  split at hu
  · cases hu
  split at hu
  · cases hu; exact h
  split at hu
  · cases hu
  split at hu
  · cases hu; exact State.liveAdd_wf (State.putLeaf_wf h)
  split at hu
  · cases hu; exact h
  · cases hu

@[simp] theorem State.notify_wf {t page kind count old new : Nat} :
    Memory.wf (s.notify t page kind count old new).mem := by
  unfold State.notify
  dsimp only
  split
  · exact h
  split
  · exact h
  · have hput : ∀ a b c d w x y z, Memory.wf ((((s.put64 a w).put64 b x).put64 c y).put64 d z).mem := fun _ _ _ _ _ _ _ _ =>
      State.put64_wf (State.put64_wf (State.put64_wf (State.put64_wf h)))
    split <;> simp [hput]

@[simp] theorem State.countRemote_wf {t va : Nat} : Memory.wf (s.countRemote t va).mem := by
  unfold State.countRemote
  dsimp only
  split
  · exact h
  split
  · exact State.notify_wf (by exact h)
  · exact h

theorem State.homeStore_wf {u : State} {k t : Nat} {e : Option TEntry} {va width data : Nat} {x : Handle}
    (hu : s.homeStore k t e va width data x = some u) : Memory.wf u.mem := by
  unfold State.homeStore at hu
  dsimp only at hu
  split at hu
  · cases hu
  next s1 hs1 =>
    have h1 := State.accept_wf h hs1
    split at hu <;> cases hu <;> simp [h1]

theorem State.homeAtomic_wf {u : State} {r : Req} {e : Option TEntry} {x : Nat × List Handle × Nat}
    (hu : s.homeAtomic r e = some (u, x)) : Memory.wf u.mem := by
  unfold State.homeAtomic at hu
  dsimp only at hu
  split at hu
  · cases hu; exact h
  split at hu
  · cases hu
  next s1 hs1 =>
    have h1 : Memory.wf s1.mem := by
      refine State.accept_wf ?_ hs1
      split <;> simp [h]
    cases hu
    simp [h1]

theorem State.homePartial_wf {u : State} {r : Req} {cop : BitVec 2} {e : Option TEntry}
    (hu : s.homePartial r cop e = some u) : Memory.wf u.mem := by
  unfold State.homePartial at hu
  dsimp only at hu
  split at hu
  · cases hu
  next s1 hs1 =>
    have h1 : Memory.wf s1.mem := by
      refine State.accept_wf ?_ hs1
      refine State.wf_foldl_fst _ (fun acc i hacc => ?_) h
      dsimp only
      exact State.combineNow_wf hacc
    obtain rfl := Option.some.inj hu
    simp [h1]

/-! ## What crosses a link (Machine/Links.lean) -/

@[simp] theorem State.internFormed_wf {n : Nat} {f : Formed} : Memory.wf (s.internFormed n f).1.mem := by
  unfold State.internFormed
  split <;> simp [h]

@[simp] theorem State.inLabel_wf {dom : Option Nat} {envs : List Dword} {x : Handle} :
    Memory.wf (s.inLabel dom envs x).1.mem := by
  unfold State.inLabel
  (repeat' split) <;> simp [h]

@[simp] theorem State.combineIn_wf {dom : Option Nat} {hs : List Handle} : Memory.wf (s.combineIn dom hs).1.mem := by
  unfold State.combineIn
  split <;> simp [h]

@[simp] theorem State.inWords_wf {dom : Option Nat} {ws : List (Word × List Dword × Handle)} :
    Memory.wf (s.inWords dom ws).1.mem := by
  refine State.wf_foldl_fst _ (fun acc w hacc => ?_) h
  exact State.inLabel_wf hacc

theorem State.putHere_wf {u : State} {dom : Option Nat} {e : Option TEntry} {va width v : Nat} {x y : Handle}
    (hu : s.putHere dom e va width v x y = some u) : Memory.wf u.mem := by
  unfold State.putHere at hu
  split at hu
  · cases hu
  next s1 hs1 =>
    cases hu
    simp [State.accept_wf h hs1]

theorem State.peerStore_wf {u : State} {dom : Option Nat} {e : Option TEntry} {va width v : Nat} {x : Handle}
    (hu : s.peerStore dom e va width v x = some u) : Memory.wf u.mem := by
  unfold State.peerStore at hu
  split at hu
  · dsimp only at hu
    split at hu
    · cases hu
    next s1 hs1 =>
      cases hu
      simp [State.accept_wf (State.combineIn_wf h) hs1]
  · exact State.putHere_wf h hu

theorem State.peerAtomic_wf {u : State} {dom : Option Nat} {e : Option TEntry} {va : Nat} {a : RemoteAccess}
    {x : Handle} (hu : s.peerAtomic dom e va a x = some u) : Memory.wf u.mem := by
  unfold State.peerAtomic at hu
  dsimp only at hu
  split at hu
  · cases hu; exact h
  split at hu
  · exact State.putHere_wf h hu
  · refine State.putHere_wf ?_ hu
    split <;> simp [h]

theorem State.peerEffect_wf {u : State} {link : Nat} {e : Option TEntry} {va : Nat} {a : RemoteAccess} {x : Handle}
    {ws : List (Word × List Dword × Handle)} (hu : s.peerEffect link e va a x = some (u, ws)) : Memory.wf u.mem := by
  unfold State.peerEffect at hu
  dsimp only at hu
  split at hu
  · cases hu; exact h
  · obtain ⟨v, hv, hvu⟩ := Option.map_eq_some_iff.mp hu
    cases hvu
    split at hv
    · exact State.peerStore_wf h hv
    · exact State.peerAtomic_wf h hv

/-! ## Steps of the memory system (Machine/EventsMem.lean) -/

@[simp] theorem State.parkReq_wf {r : Req} {kind : Nat} : Memory.wf (s.parkReq r kind).mem := by
  unfold State.parkReq
  (repeat' split) <;> simp [h]

@[simp] theorem State.peerLabel_wf {r : Req} : Memory.wf (s.peerLabel r).1.mem := by
  unfold State.peerLabel
  split <;> simp [h]

@[simp] theorem State.performPeer_wf {r : Req} {n : Nat} {a : RemoteAccess} {e : Option TEntry} :
    Memory.wf (s.performPeer r n a e).mem := by
  unfold State.performPeer
  dsimp only
  split
  · simp [h]
  next u ws hu => split <;> simp [State.peerEffect_wf (State.peerLabel_wf h) hu]

@[simp] theorem State.performHome_wf {r : Req} {e : Option TEntry} : Memory.wf (s.performHome r e).mem := by
  unfold State.performHome
  dsimp only
  split
  · simp [h]
  split
  case h_4 | h_5 | h_6 =>
    split
    · simp [h]
    next hs1 => simp [State.homeStore_wf h hs1]
  case h_7 | h_8 | h_9 =>
    split
    · simp [h]
    next hs1 => simp [State.homeAtomic_wf h hs1]
  case h_15 =>
    split
    · simp [h]
    next hs1 => simp [State.homePartial_wf h hs1]
  case h_16 =>
    split_ifs
    · simp [h]
    split
    · simp [h]
    next hs1 => simp [State.homeStore_wf h hs1]
  all_goals (repeat' split) <;> simp [h]

@[simp] theorem State.gatherHome_wf {r : Req} : Memory.wf (s.gatherHome r).mem := by
  unfold State.gatherHome
  dsimp only
  split
  · refine State.wf_foldl _ (fun s q hs => ?_) h
    split <;> simp [hs]
  · simp [h]

@[simp] theorem State.sendRemote_wf {r : Req} {e : TEntry} :
    Memory.wf (s.sendRemote r e).mem := by
  simp [State.sendRemote, h]

@[simp] theorem State.homeGlobal_wf {r : Req} : Memory.wf (s.homeGlobal r).mem := by
  unfold State.homeGlobal
  dsimp only
  (repeat' split) <;> simp [h]

/-! ## The engines (Machine/Copy.lean) -/

@[simp] theorem State.jobCombine_wf {j : Job} {hs : List Handle} : Memory.wf (s.jobCombine j hs).1.mem := by
  unfold State.jobCombine
  split
  · exact State.combineNow_wf h
  split
  · exact h
  · dsimp only
    split <;> simp [h]

/-- The state that an action of a job leaves has its memory in canonical form. -/
def Act.Wf {α : Type} : Act α → Prop
  | .ok s _ => Memory.wf s.mem
  | .halted s _ _ => Memory.wf s.mem

omit h in
theorem Act.wf_bind {α β : Type} {a : Act α} {f : State → α → Act β} (ha : a.Wf)
    (hf : ∀ s x, Memory.wf s.mem → (f s x).Wf) : (a.bind f).Wf := by
  cases a with
  | ok s x => exact hf s x ha
  | halted s x n => exact ha

theorem State.jobLine_wf {j : Job} {write : Bool} {va n : Nat} : (s.jobLine j write va n).Wf := by
  induction n generalizing s with
  | zero => exact h
  | succ n ih =>
    unfold State.jobLine
    split
    case h_2 =>
      split
      · exact h
      · exact ih (by simpa using h)
    case h_3 =>
      split
      · exact h
      · exact ih (State.addLine_wf h)
    all_goals exact h

theorem State.jobBank_wf {j : Job} {va b o : Nat} : (s.jobBank j va b o).Wf := by
  unfold State.jobBank
  split <;> exact h

theorem State.jobWord_wf {j : Job} {va : Nat} : (s.jobWord j va).Wf := by
  unfold State.jobWord
  split
  · exact h
  · exact State.jobBank_wf h
  · exact State.jobBank_wf h
  · split
    · exact h
    · split
      · exact h
      · exact Act.wf_bind (State.jobLine_wf h) fun _ _ hs => hs
  · exact h

theorem State.jobRead_wf {j : Job} {va size : Nat} : (s.jobRead j va size).Wf := by
  unfold State.jobRead
  split
  · exact h
  refine Act.wf_bind (State.jobWord_wf h) fun s x hs => ?_
  split
  · exact hs
  · exact Act.wf_bind (State.jobWord_wf hs) fun _ _ hs => hs

theorem State.jobPut_wf {j : Job} {va width v : Nat} {x : Handle} : (s.jobPut j va width v x).Wf := by
  unfold State.jobPut
  split
  · exact h
  split
  · exact h
  split
  case h_4 =>
    split
    · exact h
    have hline := State.jobLine_wf (j := j) (write := true) (va := va) (n := 4) h
    split
    next heq => rw [heq] at hline; exact hline
    next heq => rw [heq] at hline; exact hline
    next u e heq =>
      rw [heq] at hline
      split
      · split <;> exact hline
      next s1 hs1 =>
        have h1 := State.accept_wf hline hs1
        dsimp only
        (repeat' split) <;> simp [Act.Wf, h1]
  all_goals exact h

theorem State.jobPuts_wf {j : Job} {l : List (Nat × Nat × Nat × Handle)} : (s.jobPuts j l).Wf := by
  induction l generalizing s with
  | nil => exact h
  | cons w rest ih =>
    obtain ⟨va, width, v, x⟩ := w
    refine Act.wf_bind (State.jobPut_wf h) fun s w hs => ?_
    have hr := ih hs
    dsimp only
    split <;> next heq => rw [heq] at hr; exact hr

theorem State.jobLanes_wf {j : Job} {va n : Nat} : (s.jobLanes j va n).Wf := by
  induction n generalizing s va with
  | zero => exact h
  | succ n ih => exact Act.wf_bind (State.jobRead_wf h) fun _ _ hs => Act.wf_bind (ih hs) fun _ _ hs => hs

theorem State.jobBlock_wf {j : Job} {i : Nat} : (s.jobBlock j i).Wf :=
  Act.wf_bind (State.jobLanes_wf h) fun _ _ hs =>
    Act.wf_bind (State.jobPuts_wf (State.jobCombine_wf hs)) fun _ _ hs => hs

theorem State.scrubLine_wf {j : Job} {va : Nat} : (s.scrubLine j va).Wf := by
  unfold State.scrubLine
  split
  · exact h
  refine Act.wf_bind (State.jobLine_wf h) fun s _ hs => ?_
  split
  · exact hs
  · simpa [Act.Wf] using hs

theorem State.scrubPage_wf {j : Job} : (s.scrubPage j).Wf := by
  unfold State.scrubPage
  dsimp only
  split
  · exact h
  refine Act.wf_bind (State.jobLine_wf h) fun s e hs => ?_
  (repeat' split) <;> exact hs

theorem State.jobUnit_wf {j : Job} {i : Nat} : (s.jobUnit j i).Wf := by
  unfold State.jobUnit
  split
  · exact State.jobBlock_wf h
  · dsimp only
    split
    · exact h
    · exact Act.wf_bind (State.jobPuts_wf h) fun _ _ hs => hs
  · exact Act.wf_bind (State.jobWord_wf h) fun _ _ hs => hs
  · exact Act.wf_bind (State.scrubLine_wf h) fun _ _ hs => hs
  · refine Act.wf_bind ?_ fun s x hs => ?_
    · split
      · exact State.jobRead_wf h
      · exact h
    · split
      · exact hs
      · refine Act.wf_bind ?_ fun s v hs => Act.wf_bind (State.jobPuts_wf hs) fun _ _ hs => hs
        split
        · exact State.jobRead_wf hs
        · exact hs

theorem State.runJob_wf {j : Job} {n : Nat} : Memory.wf (s.runJob j n).1.mem := by
  induction n generalizing s j with
  | zero => exact h
  | succ n ih =>
    unfold State.runJob
    split
    · exact h
    have hu := State.jobUnit_wf (j := j) (i := j.done) h
    split
    next heq =>
      rw [heq] at hu
      exact ih (by simpa [Act.Wf] using hu)
    next heq => rw [heq] at hu; exact hu
    next heq =>
      rw [heq] at hu
      dsimp only
      split
      · simpa [Act.Wf] using hu
      · exact hu

@[simp] theorem State.jobHalt_wf {j : Job} {h0 : Halt} : Memory.wf (s.jobHalt j h0).mem := by
  unfold State.jobHalt
  dsimp only
  (repeat' split) <;> simp [h]

@[simp] theorem State.scrubDone_wf {j : Job} : Memory.wf (s.scrubDone j).mem := by
  unfold State.scrubDone
  dsimp only
  split
  · exact h
  split
  · exact h
  · exact State.liveAdd_wf (State.liveAdd_wf (State.putLeaf_wf h))

theorem State.workJob_wf {j : Job} : Memory.wf (s.workJob j).1.mem := by
  unfold State.workJob
  split
  · have hp := State.scrubPage_wf (j := j) h
    split
    next heq => rw [heq] at hp; exact hp
    next heq => rw [heq] at hp; exact hp
    next heq => rw [heq] at hp; exact State.runJob_wf hp
  · exact State.runJob_wf h

/-! ## The label group and domain homes (Machine/LabelOps.lean) -/

@[simp] theorem State.domTick_wf {n : Nat} : Memory.wf (s.domTick n).mem := by simp [State.domTick, h]
@[simp] theorem State.openSlot_wf {n k : Nat} : Memory.wf (s.openSlot n k).mem := by simp [State.openSlot, h]
@[simp] theorem State.closeSlot_wf {n k : Nat} : Memory.wf (s.closeSlot n k).mem := by simp [State.closeSlot, h]

theorem State.recordAt_wf {u : State} {n : Nat} {e : Dword} {but : Option Nat} (hu : s.recordAt n e but = .inr u) :
    Memory.wf u.mem := by
  unfold State.recordAt at hu
  dsimp only at hu
  split at hu
  · cases hu
  split at hu
  · cases hu; exact h
  split at hu
  · cases hu
  · cases hu; exact State.putNogoods_wf h

theorem State.retractSlot_wf {u : State} {n k : Nat} (hu : s.retractSlot n k = .inr u) : Memory.wf u.mem := by
  unfold State.retractSlot at hu
  split at hu
  · cases hu
  next s1 hs1 =>
    cases hu
    refine State.domTick_wf ?_
    rw [State.unpair_mem]
    exact State.put64_wf (State.put64_wf (State.recordAt_wf h hs1))

@[simp] theorem State.assertSlot_wf {n k : Nat} : Memory.wf (s.assertSlot n k).mem := by
  unfold State.assertSlot
  refine State.domTick_wf ?_
  rw [State.unpair_mem]
  exact State.put64_wf (State.put64_wf h)

@[simp] theorem State.zeroRange_wf {va n : Nat} : Memory.wf (s.zeroRange va n).mem := by
  refine State.wf_foldl _ (fun s i hs => ?_) h
  split
  · exact hs
  · exact Memory.wf_filter _ hs

@[simp] theorem State.settleDomain_wf {n : Nat} : Memory.wf (s.settleDomain n).mem := by
  unfold State.settleDomain
  dsimp only
  refine State.domTick_wf ?_
  dsimp only
  exact State.put64_wf (State.zeroRange_wf (State.put64_wf (State.put64_wf (State.put64_wf (State.put64_wf h)))))

@[simp] theorem State.homeAnew_wf {o : DomOp} : Memory.wf (s.homeAnew o).mem := by
  unfold State.homeAnew
  (repeat' split) <;> simp [h]

@[simp] theorem State.homeAssert_wf {o : DomOp} : Memory.wf (s.homeAssert o).mem := by
  unfold State.homeAssert
  dsimp only
  (repeat' split) <;> simp [h]

@[simp] theorem State.homeSettle_wf {o : DomOp} : Memory.wf (s.homeSettle o).mem := by
  unfold State.homeSettle
  dsimp only
  (repeat' split) <;> simp [h]

@[simp] theorem State.homeNogood_wf {o : DomOp} : Memory.wf (s.homeNogood o).mem := by
  unfold State.homeNogood
  split
  · simp [h]
  next s1 hs1 => simp [State.recordAt_wf h hs1]

@[simp] theorem State.homeRetract_wf {o : DomOp} : Memory.wf (s.homeRetract o).mem := by
  unfold State.homeRetract
  dsimp only
  split
  · simp [h]
  split
  · simp [h]
  next s1 hs1 => simp [State.retractSlot_wf h hs1]

@[simp] theorem State.formEnv_wf {n : Nat} {v : View} {i : LabelIn} : Memory.wf (s.formEnv n v i).1.mem := by
  unfold State.formEnv
  split
  · exact h
  · dsimp only
    (repeat' split) <;> simp [h]

@[simp] theorem State.formJoin_wf {n : Nat} {v : View} {i : LabelIn} : Memory.wf (s.formJoin n v i).1.mem := by
  unfold State.formJoin
  split
  · exact h
  · split <;> simp [h]

/-! ## System instructions (Machine/System.lean) -/

@[simp] theorem State.copyLine_wf {a size : Nat} {old new : Leaf} :
    Memory.wf (s.copyLine a size old new).mem := by
  simp [State.copyLine, h]

omit h in
@[simp] theorem State.copyFrame_wf {s0 : State} {va size : Nat} {old new : Leaf} (h : Memory.wf s0.mem) :
    Memory.wf (s0.copyFrame va size old new).mem :=
  State.wf_foldl _ (fun _ _ hs => State.copyLine_wf hs) (State.wf_foldl _ (fun _ _ hs => State.cleanLine_wf hs) h)

@[simp] theorem State.flipMove_wf {m : Move} : Memory.wf (s.flipMove m).mem := by
  unfold State.flipMove
  dsimp only
  (repeat' split) <;> simp [h]

@[simp] theorem State.flushStop_wf {ln : Nat} : Memory.wf (s.flushStop ln).mem := by
  unfold State.flushStop
  split
  · exact h
  split
  · exact h
  · dsimp only
    rw [State.flushDone_mem]
    exact State.wf_foldl _ (fun _ _ hs => State.flipMove_wf hs) (by simpa using h)

@[simp] theorem State.refuseMove_wf {r : Req} : Memory.wf (s.refuseMove r).mem := by
  unfold State.refuseMove
  dsimp only
  split
  · rw [State.mem_foldl _ (by simp)]
    simpa using h
  · rw [State.mem_foldl _ (by simp)]
    (repeat' split) <;> simp [h]

@[simp] theorem State.moveSend_wf {r : Req} {l new : Leaf} : Memory.wf (s.moveSend r l new).mem := by
  unfold State.moveSend
  split <;> simp [h]

@[simp] theorem State.moveFetch_wf {r : Req} {l : Leaf} {size : Nat} {m : Move} :
    Memory.wf (s.moveFetch r l size m).mem := by
  unfold State.moveFetch
  (repeat' split) <;> simp [h]

@[simp] theorem State.moveNext_wf {r : Req} {l : Leaf} {size : Nat} {m : Move} :
    Memory.wf (s.moveNext r l size m).mem := by
  unfold State.moveNext
  dsimp only
  split <;> simp [h]

@[simp] theorem State.moveGot_wf {r : Req} {l : Leaf} {size : Nat} {m : Move} {ws : List LWord} :
    Memory.wf (s.moveGot r l size m ws).mem := by
  unfold State.moveGot
  dsimp only
  split <;> simp [h]

@[simp] theorem State.moveLine_wf {r : Req} {ok : Bool} {words : List Word} :
    Memory.wf (s.moveLine r ok words).mem := by
  unfold State.moveLine
  (repeat' split) <;> simp [h]

@[simp] theorem State.moveAnswered_wf {r : Req} {ws : List LWord} : Memory.wf (s.moveAnswered r ws).mem := by
  unfold State.moveAnswered
  (repeat' split) <;> simp [h]

@[simp] theorem State.moveResume_wf {r : Req} : Memory.wf (s.moveResume r).mem := by
  unfold State.moveResume
  (repeat' split) <;> simp [h]

@[simp] theorem State.beginMove_wf {r : Req} {l : Leaf} {size : Nat} {m : Move} :
    Memory.wf (s.beginMove r l size m).mem := by
  unfold State.beginMove
  split <;> simp [h]

@[simp] theorem State.startMove_wf {r : Req} : Memory.wf (s.startMove r).mem := by
  unfold State.startMove
  dsimp only
  (repeat' split) <;> simp [h]

@[simp] theorem State.snapPage_wf {va : Nat} : Memory.wf (s.snapPage va).1.mem := by
  unfold State.snapPage
  split
  · exact h
  · dsimp only
    split <;> simp [h]

@[simp] theorem State.snapRange_wf {va len : Nat} : Memory.wf (s.snapRange va len).1.mem := by
  refine State.wf_foldl_fst _ (fun acc i hacc => ?_) h
  dsimp only
  split
  · exact hacc
  · split
    · exact hacc
    · exact State.snapPage_wf hacc

@[simp] theorem State.resumeStep_wf {r : Req} : Memory.wf (s.resumeStep r).mem := by
  unfold State.resumeStep
  (repeat' split) <;> simp [h]

@[simp] theorem State.sysStep_wf {r : Req} {n : Nat} : Memory.wf (s.sysStep r n).mem := by
  unfold State.sysStep
  (repeat' split) <;> simp [h]

/-! ## The distributor and launches (Machine/EventsLaunch.lean) -/

@[simp] theorem State.refuseRecord_wf {t q : Nat} {r : List Dword} {detail : Nat} :
    Memory.wf (s.refuseRecord t q r detail).mem := by
  simp [State.refuseRecord, h]

@[simp] theorem State.visit_wf {v : Nat × Nat} : Memory.wf (s.visit v).mem := by
  unfold State.visit
  dsimp only
  (repeat' split) <;> simp [h]

@[simp] theorem State.moveHome_wf {t va : Nat} : Memory.wf (s.moveHome t va).mem := by
  unfold State.moveHome
  dsimp only
  (repeat' split) <;> simp [h]

@[simp] theorem State.bringHome_wf {t : Nat} {r : List Dword} : Memory.wf (s.bringHome t r).mem := by
  unfold State.bringHome
  split <;> simp [h]

@[simp] theorem State.bind_wf {t q : Nat} {sel : Select} {saves : List Nat} :
    Memory.wf (s.bind t q sel saves).mem := by
  simp [State.bind, h]

/-! ## Pre-emption and restore (Machine/Preempt.lean) -/

@[simp] theorem State.putWords_wf {base : Nat} {ws : List (Nat × Nat)} : Memory.wf (s.putWords base ws).mem :=
  State.wf_foldl _ (fun _ _ hs => State.put64_wf hs) h

@[simp] theorem State.sealHolding_wf {l : Launch} {h0 : Nat} : Memory.wf (s.sealHolding l h0).mem := by
  unfold State.sealHolding
  dsimp only
  rw [State.scrubCluster_mem, State.mem_foldl _ (by simp), State.onLaunch_mem]
  exact State.putWords_wf (State.wf_foldl _ (fun _ _ hs => State.wf_foldl _ (fun _ _ hs => State.putWords_wf hs) hs) h)

@[simp] theorem State.sealLaunch_wf {l : Launch} : Memory.wf (s.sealLaunch l).mem := by
  unfold State.sealLaunch
  dsimp only
  rw [State.plan_mem, State.mem_foldl _ (fun s f => by split <;> simp), State.mem_foldl _ (by simp), State.onLaunch_mem]
  exact State.wf_foldl _ (fun _ _ hs => State.sealHolding_wf hs) (State.putWords_wf h)

@[simp] theorem State.takeHeld_wf {k : Nat} : Memory.wf (s.takeHeld k).mem := by
  unfold State.takeHeld
  split <;> simp [h]

@[simp] theorem State.endRestore_wf {l : Launch} : Memory.wf (s.endRestore l).mem := by
  unfold State.endRestore
  dsimp only
  rw [State.mem_foldl _ (by simp)]
  exact State.wf_foldl _ (fun _ _ hs => State.takeHeld_wf hs) (by simpa using h)

/-! ## The host (Machine/EventsHost.lean) -/

@[simp] theorem State.bar2_wf {t off width : Nat} {write : Bool} {data : Dword} :
    Memory.wf (s.bar2 t off width write data).mem := State.homeGlobal_wf (by exact h)

@[simp] theorem State.killTenant_wf {t : Nat} : Memory.wf (s.killTenant t).mem :=
  State.wf_foldl _ (fun _ _ hs => State.endNow_wf hs) h

@[simp] theorem State.copySnapshot_wf {t va : Nat} {l : Leaf} : Memory.wf (s.copySnapshot t va l).mem := by
  have hb : Memory.wf (if l.labelled then (s.takeFrame t).1.takeFrame t else ((s.takeFrame t).1, l.lpage)).1.mem := by
    split <;> simp [h]
  unfold State.copySnapshot
  dsimp only
  generalize (if l.labelled then (s.takeFrame t).1.takeFrame t else ((s.takeFrame t).1, l.lpage)) = b at hb ⊢
  split
  · exact State.beginMove_wf (by exact hb)
  · exact State.notify_wf (State.putLeaf_wf (State.copyFrame_wf hb))

/-! ## The controller (Machine/EventsMgmt.lean) -/

@[simp] theorem State.upTo_wf {o : BringUp} {step : Nat} : Memory.wf (s.upTo o step).mem := by
  simp only [State.upTo, State.memAt]
  split
  · exact h
  split
  · exact Memory.wf_filter _ h
  · rfl

@[simp] theorem State.bringUp_wf {o : BringUp} : Memory.wf (s.bringUp o).mem := by
  unfold State.bringUp
  split
  · simp [h]
  · dsimp only
    split
    · simp [h]
    · rw [State.mem_foldl _ (by simp)]
      simp [h]

@[simp] theorem State.shutDown_wf {die : Nat} : Memory.wf (s.shutDown die).mem := by
  have hend : Memory.wf (s.launches.foldl (fun s p => s.endNow p.1 0 4) s).mem :=
    State.wf_foldl _ (fun _ _ hs => State.endNow_wf hs) h
  simpa [State.shutDown] using hend

/-! ## The links (Machine/EventsLink.lean) -/

@[simp] theorem State.answered_wf {r : Req} {ws : List LWord} : Memory.wf (s.answered r ws).mem := by
  unfold State.answered
  split <;> simp [h]

@[simp] theorem State.parkLink_wf {n : Nat} : Memory.wf (s.parkLink n).mem := by
  unfold State.parkLink
  dsimp only
  rw [State.mem_foldl _ (by simp)]
  exact State.wf_foldl _ (fun s r hs => State.parkReq_wf (by simpa using hs)) h

@[simp] theorem State.dropDomOp_wf {n : Nat} {q : List LinkMsg} {o : DomOp} : Memory.wf (s.dropDomOp n q o).mem := by
  unfold State.dropDomOp
  split
  · exact h
  split
  · exact h
  split
  · simp [h]
  · dsimp only
    rw [State.answerOp_mem]
    split
    · exact h
    next s1 hs1 => exact State.retractSlot_wf h hs1

@[simp] theorem State.dropPair_wf {p : Nat × Nat × Nat} : Memory.wf (s.dropPair p).mem := by
  unfold State.dropPair
  split
  · exact h
  next s1 hs1 =>
    have h1 := State.retractSlot_wf h hs1
    exact h1

@[simp] theorem State.linkDown_wf {n : Nat} : Memory.wf (s.linkDown n).mem := by
  unfold State.linkDown
  dsimp only
  rw [State.plan_mem]
  split
  · refine State.parkLink_wf ?_
    rw [State.onLink_mem]
    exact State.wf_foldl _ (fun _ _ hs => State.dropPair_wf hs)
      (State.wf_foldl _ (fun _ _ hs => State.dropDomOp_wf hs) (by simpa using h))
  · simpa using h

@[simp] theorem State.takeHeader_wf {n h0 : Nat} : Memory.wf (s.takeHeader n h0).mem := by
  unfold State.takeHeader
  dsimp only
  (repeat' split) <;> simp [h]

/-! ## The end of a cycle (Machine/Cycle.lean) -/

@[simp] theorem State.countWaits_wf {k : Nat} : Memory.wf (s.countWaits k).mem := by simp [State.countWaits, h]

@[simp] theorem State.imageToHome_wf {k t base o : Nat} :
    Memory.wf (s.imageToHome k t base o).mem := by
  simp [State.imageToHome, h]

@[simp] theorem State.writeBackReg_wf {k t : Nat} {r : RegRef} : Memory.wf (s.writeBackReg k t r).mem := by
  unfold State.writeBackReg
  split
  · exact h
  dsimp only
  split
  · exact h
  split
  · exact State.put64_wf (State.imageToHome_wf h)
  · exact State.wf_foldl _ (fun _ _ hs => State.imageToHome_wf hs) h

@[simp] theorem State.writeBackRegs_wf {k : Nat} : Memory.wf (s.writeBackRegs k).mem := by
  unfold State.writeBackRegs
  split
  · exact h
  · rw [State.onCore_mem]
    exact State.wf_foldl _ (fun _ _ hs => State.writeBackReg_wf hs) h

@[simp] theorem State.tick_wf : Memory.wf (s.tick).mem :=
  State.wf_foldl _ (fun _ _ hs => State.writeBackRegs_wf (State.countWaits_wf hs)) (State.performLate_wf h)

end

end Sys2Proof.Machine
end

section
/-! SUPPORT. Every instruction and every step of the agenda keeps the canonical form of memory. -/

namespace Sys2Proof.Machine

/-- The state that an effect continues with, where there is one, has its memory in canonical form. -/
inductive Eff.Wf : Eff → Prop
  | stall : Wf .stall
  | fault {c : Nat} {a : Dword} : Wf (.fault c a)
  | met {n c : Nat} {a : Dword} : Wf (.met n c a)
  | lease {a : Dword} : Wf (.lease a)
  | go {s : State} (h : Memory.wf s.mem) : Wf (.go s)
  | jump {s : State} {pc : Dword} {n : Nat} (h : Memory.wf s.mem) : Wf (.jump s pc n)
  | rest {s : State} {n : Nat} (h : Memory.wf s.mem) : Wf (.rest s n)
  | sleep {s : State} {w : Wait} (h : Memory.wf s.mem) : Wf (.sleep s w)
  | trap {s : State} {c : Nat} {n : Dword} (h : Memory.wf s.mem) : Wf (.trap s c n)

@[simp] theorem Eff.wf_stall : Wf .stall := .stall

@[simp] theorem Eff.wf_fault {c : Nat} {a : Dword} : Wf (.fault c a) := .fault

@[simp] theorem Eff.wf_lease {a : Dword} : Wf (.lease a) := .lease

@[simp] theorem Eff.wf_go {s : State} : Wf (.go s) ↔ Memory.wf s.mem := ⟨fun | .go h => h, .go⟩

@[simp] theorem Eff.wf_jump {s : State} {pc : Dword} {n : Nat} : Wf (.jump s pc n) ↔ Memory.wf s.mem :=
  ⟨fun | .jump h => h, .jump⟩

@[simp] theorem Eff.wf_rest {s : State} {n : Nat} : Wf (.rest s n) ↔ Memory.wf s.mem := ⟨fun | .rest h => h, .rest⟩

@[simp] theorem Eff.wf_sleep {s : State} {w : Wait} : Wf (.sleep s w) ↔ Memory.wf s.mem := ⟨fun | .sleep h => h, .sleep⟩

@[simp] theorem Eff.wf_trap {s : State} {c : Nat} {n : Dword} : Wf (.trap s c n) ↔ Memory.wf s.mem :=
  ⟨fun | .trap h => h, .trap⟩

/-- The next state of an outcome, where there is one, has its memory in canonical form. -/
def WfNext : Host.Outcome State Fault Refusal → Prop
  | .next t => Memory.wf t.mem
  | _ => True

theorem wfNext_ite {p : Prop} [Decidable p] {a b : Host.Outcome State Fault Refusal} (ha : WfNext a) (hb : WfNext b) :
    WfNext (if p then a else b) := by
  split
  · exact ha
  · exact hb

section
variable {k : Ctl} {i : Instr} {d a b c : BitVec 5} {vm : VMod} {s : State} (h : Memory.wf s.mem)
include h

/-! ## Operations every meaning shares (Machine/Ops.lean) -/

omit h in
theorem State.precheck_wf {s : State} {i : Instr} {m : Meta} {e : Eff} (he : s.precheck i m = some e) : e.Wf := by
  unfold State.precheck at he
  dsimp only at he
  (repeat' split at he) <;> cases he <;> constructor

theorem State.conclude_wf {m : Meta} {e : Eff} (he : e.Wf) : Memory.wf (s.conclude m e).mem := by
  unfold State.conclude
  cases he with
  | trap hu => exact State.takeFault_wf (by simpa using hu)
  | _ => simp [*]

/-- An instruction keeps the canonical form where its entry's effect does. -/
theorem issue_wf {f : State → Eff} (hf : (f s).Wf) : WfNext (issue i s f) := by
  unfold issue
  split
  · trivial
  split
  · trivial
  split
  next e he => exact State.conclude_wf h (State.precheck_wf he)
  · exact State.conclude_wf h hf

/-! ## Operands and results (Machine/Operands.lean) -/

@[simp] theorem State.resultOf_wf {lat : Nat} {v : Dword} {i : LabelIn} {flags : Nat} :
    (s.resultOf k lat d v i flags).Wf := by
  unfold State.resultOf
  dsimp only
  split
  · constructor
  next hu => simpa [State.formOne_mem hu] using h

@[simp] theorem State.result_wf {lat : Nat} {v : Dword} {hs : List Handle} {flags : Nat} :
    (s.result k lat d v hs flags).Wf := by
  simp [State.result, h]

@[simp] theorem State.resultAs_wf {lat : Nat} {v : Dword} {h0 : Handle} :
    (s.resultAs k lat d v h0).Wf := by
  simp [State.resultAs, h]

@[simp] theorem State.vresultAt_wf {lo hi : Nat} {outs : List LaneOut} {flags : Nat} {sides : List RegWrite} :
    (s.vresultAt k lo hi d vm outs flags sides).Wf := by
  unfold State.vresultAt
  dsimp only
  split
  · constructor
  next hu => split <;> simpa [State.formAll_mem hu] using h

@[simp] theorem State.vresult_wf {lat : Nat} {outs : List LaneOut} {flags : Nat} :
    (s.vresult k lat d vm outs flags).Wf := by
  simp [State.vresult, h]

/-! ## Addresses, checks and requests (Machine/Requests.lean) -/

omit h in
theorem State.checkAccess_wf {s : State} {a : Acc} {va width : Nat} {lc poison : Bool} {e : Eff}
    (he : s.checkAccess a va width lc poison = some e) : e.Wf := by
  unfold State.checkAccess at he
  dsimp only at he
  (repeat' split at he) <;> cases he <;> constructor

/-! ## Control transfers and system registers (Machine/Control.lean) -/

theorem State.jumpReg_wf {r : BitVec 5} {f : State → Option State} (hf : ∀ {t u}, f t = some u → u.mem = t.mem) :
    (s.jumpReg r f).Wf := by
  unfold State.jumpReg
  dsimp only
  split
  · constructor
  split
  · constructor
  split
  · constructor
  next u hu => simpa [hf hu] using h

theorem execNop_wf : WfNext (execNop k s) := issue_wf h (by simp [h])

theorem execHalt_wf : WfNext (execHalt k s) := issue_wf h <| by
  split
  · constructor
  split
  · constructor
  split
  · exact .go (by simpa using h)
  · exact .sleep h

theorem execBr_wf {off : BitVec 19} : WfNext (execBr k off s) := issue_wf h (by simp [h])

@[simp] theorem State.branch_wf {taken : Bool} {target : Dword} {hs : List Handle} : (s.branch taken target hs).Wf := by
  unfold State.branch
  dsimp only
  split <;> simpa using h

theorem execBrc_wf {cond : BitVec 3} {off : BitVec 32} : WfNext (execBrc k a b cond off s) := issue_wf h (by simp [h])
theorem execBrz_wf {off : BitVec 19} : WfNext (execBrz k a off s) := issue_wf h (by simp [h])
theorem execBrnz_wf {off : BitVec 19} : WfNext (execBrnz k a off s) := issue_wf h (by simp [h])

theorem execBrv_wf {off : BitVec 19} : WfNext (execBrv k a off s) := issue_wf h <| by
  dsimp only
  split
  · constructor
  · exact State.branch_wf h

theorem execCall_wf {off : BitVec 19} : WfNext (execCall k off s) := issue_wf h <| by
  split
  · constructor
  next hu => simpa [State.link_mem hu] using h

theorem execCallr_wf : WfNext (execCallr k a s) := issue_wf h (State.jumpReg_wf h State.link_mem)
theorem execRet_wf : WfNext (execRet k s) := issue_wf h (State.jumpReg_wf h fun hu => by rw [Option.some.inj hu])
theorem execJmpr_wf : WfNext (execJmpr k a s) := issue_wf h (State.jumpReg_wf h fun hu => by rw [Option.some.inj hu])

theorem execLoop_wf {off : BitVec 19} : WfNext (execLoop k d off s) := issue_wf h <| by
  dsimp only
  split
  · constructor
  next hu => split <;> simpa [State.formWith_mem hu] using h

theorem execHstart_wf {off : BitVec 32} : WfNext (execHstart k d a b off s) := issue_wf h <| by
  split
  · constructor
  split
  · constructor
  dsimp only
  split
  · constructor
  next hu => simpa [State.formWith_mem hu] using h

theorem execHend_wf : WfNext (execHend k s) := issue_wf h <| by
  split
  · constructor
  split
  · constructor
  · exact .go h

theorem execHjoin_wf : WfNext (execHjoin k a s) := issue_wf h <| by
  dsimp only
  (repeat' split) <;> simp [h]

theorem execYield_wf {n : BitVec 19} : WfNext (execYield k n s) := issue_wf h (by simp [h])
theorem execTrap_wf {n : BitVec 19} : WfNext (execTrap k n s) := issue_wf h (by simp [h])
theorem execBrk_wf {n : BitVec 19} : WfNext (execBrk k n s) := issue_wf h (by simp [h])

theorem execSrd_wf {n : BitVec 12} : WfNext (execSrd k d n s) := issue_wf h <| by
  split
  · constructor
  · exact State.resultAs_wf h

theorem execSwr_wf {n : BitVec 12} : WfNext (execSwr k a n s) := issue_wf h <| by
  dsimp only
  (repeat' split) <;> simp [h]

/-! ## Scalar memory (Machine/Memory.lean) -/

theorem loadScalar_wf {off : BitVec 14} {w : BitVec 2} {z lc : BitVec 1} {acq : Bool} :
    WfNext (loadScalar i s k d a off w z lc acq) := issue_wf h <| by
  dsimp only
  split
  next he => exact State.checkAccess_wf he
  split
  · constructor
  split
  · split
    · constructor
    split
    · constructor
    next hu => simpa [State.loadLabel_mem hu] using h
  · simpa using h

theorem execLd_wf {off : BitVec 14} {w : BitVec 2} {z lc : BitVec 1} : WfNext (execLd k d a off w z lc s) :=
  loadScalar_wf h

theorem execLdacq_wf {off : BitVec 14} {w : BitVec 2} {z lc : BitVec 1} : WfNext (execLdacq k d a off w z lc s) :=
  loadScalar_wf h

theorem storeScalar_wf {off : BitVec 14} {w : BitVec 2} {lc : BitVec 1} {rel : Bool} :
    WfNext (storeScalar i s a b off w lc rel) := issue_wf h <| by
  dsimp only
  split
  next he => exact State.checkAccess_wf he
  split
  · constructor
  split
  · constructor
  split
  · constructor
  next hu => simpa [State.formWith_mem hu] using h

theorem execSt_wf {off : BitVec 14} {w : BitVec 2} {lc : BitVec 1} : WfNext (execSt k a b off w lc s) :=
  storeScalar_wf h

theorem execStrel_wf {off : BitVec 14} {w : BitVec 2} {lc : BitVec 1} : WfNext (execStrel k a b off w lc s) :=
  storeScalar_wf h

@[simp] theorem State.startAtomic_wf {acc : Acc} {op : ReqOp} {va width : Nat} {poison : Bool} {data cmp : Dword}
    {base : Handle} {hs : List Handle} : (s.startAtomic k d acc op va width poison data cmp base hs).Wf := by
  unfold State.startAtomic
  split
  next e he => exact State.checkAccess_wf he
  · dsimp only
    (repeat' split) <;> simp [h]

theorem execAmo_wf {off : BitVec 12} {w : BitVec 2} {op : BitVec 4} : WfNext (execAmo k d a b off w op s) :=
  issue_wf h (by simp [h])

theorem execCas_wf {w : BitVec 2} {off : BitVec 32} : WfNext (execCas k d a b c w off s) := issue_wf h (by simp [h])

theorem execRed_wf {off : BitVec 12} {w : BitVec 2} {op : BitVec 4} :
    WfNext (execRed k a b off w op s) := issue_wf h <| by
  dsimp only
  split
  next he => exact State.checkAccess_wf he
  split
  · constructor
  split
  · constructor
  · simpa using h

theorem execRedc_wf {off : BitVec 12} : WfNext (execRedc k a b off s) := issue_wf h <| by
  dsimp only
  split
  next he => exact State.checkAccess_wf he
  split
  · constructor
  next u x hu =>
    have hu := State.formWith_mem hu
    exact .go (by (repeat' split) <;> simpa [hu] using h)

theorem execFence_wf {scope : BitVec 3} : WfNext (execFence k scope s) := issue_wf h (by simp [h])

theorem execPref_wf {off : BitVec 14} : WfNext (execPref k a off s) := issue_wf h <| by
  dsimp only
  (repeat' split) <;> simp [h]

omit h in
theorem State.checkRange_wf {s : State} {va len : Nat} {w : Bool} {e : Eff} (he : s.checkRange va len w = some e) :
    e.Wf := by
  unfold State.checkRange at he
  dsimp only at he
  (repeat' split at he) <;> cases he <;> constructor

theorem maintainRange_wf {kind : Nat} : WfNext (maintainRange i s k a b kind) := issue_wf h <| by
  dsimp only
  split
  next he => exact State.checkRange_wf he
  split
  · constructor
  · have hkept := State.wf_foldl (s.heldLines (s.curCore / 8) (s.srcS a).1.toNat (s.srcS b).1.toNat)
      (f := fun s l => s.maintain s.curCore l kind) (s := s.countReads [(s.srcS a).2, (s.srcS b).2])
      (fun _ _ hs => State.maintain_wf hs) (by simpa using h)
    simpa using hkept

theorem execRinv_wf : WfNext (execRinv k a b s) := maintainRange_wf h
theorem execRwb_wf : WfNext (execRwb k a b s) := maintainRange_wf h
theorem execRflush_wf : WfNext (execRflush k a b s) := maintainRange_wf h

theorem execPublish_wf : WfNext (execPublish k d a s) := issue_wf h <| by
  dsimp only
  split
  next he => exact State.checkAccess_wf he
  split
  · constructor
  next hu => simpa [State.formWith_mem hu] using h

/-! ## Scalar integers (Machine/Scalar.lean) -/

theorem alu2_wf {lat : Nat} {f : Dword → Dword → Dword} : WfNext (alu2 i s k lat d a b f) := issue_wf h (by simp [h])
theorem alu1_wf {f : Dword → Dword} : WfNext (alu1 i s k d a f) := issue_wf h (by simp [h])
theorem execAdd_wf : WfNext (execAdd k d a b s) := alu2_wf h
theorem execAddi_wf {imm : BitVec 19} : WfNext (execAddi k d a imm s) := alu1_wf h
theorem execSub_wf : WfNext (execSub k d a b s) := alu2_wf h
theorem execMul_wf : WfNext (execMul k d a b s) := alu2_wf h
theorem execMulh_wf : WfNext (execMulh k d a b s) := alu2_wf h
theorem execMulhu_wf : WfNext (execMulhu k d a b s) := alu2_wf h
theorem execAnd_wf : WfNext (execAnd k d a b s) := alu2_wf h
theorem execAndi_wf {imm : BitVec 19} : WfNext (execAndi k d a imm s) := alu1_wf h
theorem execOr_wf : WfNext (execOr k d a b s) := alu2_wf h
theorem execOri_wf {imm : BitVec 19} : WfNext (execOri k d a imm s) := alu1_wf h
theorem execXor_wf : WfNext (execXor k d a b s) := alu2_wf h
theorem execXori_wf {imm : BitVec 19} : WfNext (execXori k d a imm s) := alu1_wf h
theorem execShl_wf : WfNext (execShl k d a b s) := alu2_wf h
theorem execShli_wf {sh : BitVec 19} : WfNext (execShli k d a sh s) := alu1_wf h
theorem execShr_wf : WfNext (execShr k d a b s) := alu2_wf h
theorem execShri_wf {sh : BitVec 19} : WfNext (execShri k d a sh s) := alu1_wf h
theorem execSar_wf : WfNext (execSar k d a b s) := alu2_wf h
theorem execSari_wf {sh : BitVec 19} : WfNext (execSari k d a sh s) := alu1_wf h
theorem execMin_wf : WfNext (execMin k d a b s) := alu2_wf h
theorem execMax_wf : WfNext (execMax k d a b s) := alu2_wf h
theorem execMinu_wf : WfNext (execMinu k d a b s) := alu2_wf h
theorem execMaxu_wf : WfNext (execMaxu k d a b s) := alu2_wf h
theorem execSlt_wf : WfNext (execSlt k d a b s) := alu2_wf h
theorem execSltu_wf : WfNext (execSltu k d a b s) := alu2_wf h
theorem execSeq_wf : WfNext (execSeq k d a b s) := alu2_wf h
theorem execSel_wf : WfNext (execSel k d a b c s) := issue_wf h (by simp [h])
theorem execClz_wf : WfNext (execClz k d a s) := alu1_wf h
theorem execPopc_wf : WfNext (execPopc k d a s) := alu1_wf h

theorem execBfx_wf {sx : BitVec 1} {width : BitVec 7} {pos : BitVec 6} : WfNext (execBfx k d a sx width pos s) :=
  alu1_wf h

theorem execBfi_wf {width : BitVec 7} {pos : BitVec 6} : WfNext (execBfi k d a width pos s) := issue_wf h (by simp [h])
theorem execLi_wf {imm : BitVec 32} : WfNext (execLi k d imm s) := issue_wf h (by simp [h])
theorem execLiw_wf {imm : BitVec 64} : WfNext (execLiw k d imm s) := issue_wf h (by simp [h])
theorem execLea_wf {sh : BitVec 3} {imm : BitVec 32} : WfNext (execLea k d a b sh imm s) := issue_wf h (by simp [h])

theorem divide_wf {signed : Bool} {f : Dword → Dword → Dword} : WfNext (divide i s k d a b signed f) := issue_wf h <| by
  split
  · constructor
  dsimp only
  split
  · constructor
  next hu => simpa [State.formOne_mem hu] using h

theorem execDiv_wf : WfNext (execDiv k d a b s) := divide_wf h
theorem execDivu_wf : WfNext (execDivu k d a b s) := divide_wf h
theorem execRem_wf : WfNext (execRem k d a b s) := divide_wf h
theorem execRemu_wf : WfNext (execRemu k d a b s) := divide_wf h

/-! ## Vector integers (Machine/VectorInt.lean) -/

theorem vint2_wf {f : Word → Word → Word} : WfNext (vint2 i s k d a b vm f) := issue_wf h (by simp [h])
theorem vint1_wf {f : Word → Word} : WfNext (vint1 i s k d a vm f) := issue_wf h (by simp [h])
theorem execVadd_wf : WfNext (execVadd k d a b vm s) := vint2_wf h
theorem execVsub_wf : WfNext (execVsub k d a b vm s) := vint2_wf h
theorem execVmul_wf : WfNext (execVmul k d a b vm s) := vint2_wf h
theorem execVmulh_wf : WfNext (execVmulh k d a b vm s) := vint2_wf h
theorem execVand_wf : WfNext (execVand k d a b vm s) := vint2_wf h
theorem execVor_wf : WfNext (execVor k d a b vm s) := vint2_wf h
theorem execVxor_wf : WfNext (execVxor k d a b vm s) := vint2_wf h
theorem execVshl_wf : WfNext (execVshl k d a b vm s) := vint2_wf h
theorem execVshr_wf : WfNext (execVshr k d a b vm s) := vint2_wf h
theorem execVsar_wf : WfNext (execVsar k d a b vm s) := vint2_wf h
theorem execVmin_wf : WfNext (execVmin k d a b vm s) := vint2_wf h
theorem execVmax_wf : WfNext (execVmax k d a b vm s) := vint2_wf h
theorem execVminu_wf : WfNext (execVminu k d a b vm s) := vint2_wf h
theorem execVmaxu_wf : WfNext (execVmaxu k d a b vm s) := vint2_wf h
theorem execVnot_wf : WfNext (execVnot k d a vm s) := vint1_wf h
theorem execVclz_wf : WfNext (execVclz k d a vm s) := vint1_wf h
theorem execVpopc_wf : WfNext (execVpopc k d a vm s) := vint1_wf h
theorem execVcmp_wf {cond : BitVec 3} : WfNext (execVcmp k d a b vm cond s) := vint2_wf h
theorem execVsel_wf {svec : BitVec 5} : WfNext (execVsel k d a b vm svec s) := issue_wf h (by simp [h])
theorem execViota_wf : WfNext (execViota k d a vm s) := issue_wf h (by simp [h])
theorem execVpopm_wf : WfNext (execVpopm k d a vm s) := issue_wf h (by simp [h])
theorem execVfirst_wf : WfNext (execVfirst k d a vm s) := issue_wf h (by simp [h])
theorem execVmv_wf : WfNext (execVmv k d a vm s) := issue_wf h (by simp [h])
theorem execVbcast_wf : WfNext (execVbcast k d a vm s) := issue_wf h (by simp [h])
theorem execVext_wf {n : BitVec 4} : WfNext (execVext k d a vm n s) := issue_wf h (by simp [h])

theorem execVins_wf {n : BitVec 4} : WfNext (execVins k d a vm n s) := issue_wf h <| by
  dsimp only
  split
  · constructor
  next hu => simpa [State.formWith_mem hu] using h

theorem execVmatch_wf {side : BitVec 1} : WfNext (execVmatch k d a b vm side s) := issue_wf h (by simp [h])
theorem execVred_wf {op : BitVec 3} : WfNext (execVred k d a vm op s) := issue_wf h (by simp [h])

/-! ## Vector floats and solver (Machine/VectorFloat.lean) -/

@[simp] theorem State.fresult_wf {lat : Nat} {f : Nat → (Nat × Nat) × List Handle} :
    (s.fresult k lat d vm f).Wf := by
  simp [State.fresult, h]

@[simp] theorem State.divideUnit_wf {busy lat : Nat} {f : Nat → (Nat × Nat) × List Handle} :
    (s.divideUnit k busy lat d vm f).Wf := by
  have hv := State.vresultAt_wf (k := k) (lo := lat) (hi := lat + 1) (d := d) (vm := vm) (outs := (s.floatOuts vm f).1)
    (flags := (s.floatOuts vm f).2) (sides := []) h
  unfold State.divideUnit
  split
  · constructor
  split
  next heq =>
    rw [heq] at hv
    simpa using hv
  · exact hv

theorem execDivideUnitFree_wf : WfNext (execDivideUnitFree s) := by simp [execDivideUnitFree, WfNext, h]
theorem execVfadd_wf : WfNext (execVfadd k d a b vm s) := issue_wf h (by simp [h])
theorem execVfsub_wf : WfNext (execVfsub k d a b vm s) := issue_wf h (by simp [h])
theorem execVfmul_wf : WfNext (execVfmul k d a b vm s) := issue_wf h (by simp [h])
theorem execVfma_wf : WfNext (execVfma k d a b c vm s) := issue_wf h (by simp [h])
theorem execVfms_wf : WfNext (execVfms k d a b c vm s) := issue_wf h (by simp [h])
theorem execVfnma_wf : WfNext (execVfnma k d a b c vm s) := issue_wf h (by simp [h])
theorem execVfmin_wf : WfNext (execVfmin k d a b vm s) := issue_wf h (by simp [h])
theorem execVfmax_wf : WfNext (execVfmax k d a b vm s) := issue_wf h (by simp [h])
theorem execVfabs_wf : WfNext (execVfabs k d a vm s) := issue_wf h (by simp [h])
theorem execVfneg_wf : WfNext (execVfneg k d a vm s) := issue_wf h (by simp [h])
theorem execVfclass_wf : WfNext (execVfclass k d a vm s) := issue_wf h (by simp [h])
theorem execVfcmp_wf {cond : BitVec 3} : WfNext (execVfcmp k d a b vm cond s) := issue_wf h (by simp [h])
theorem execVdiv_wf : WfNext (execVdiv k d a b vm s) := issue_wf h (by simp [h])
theorem execVsqrt_wf : WfNext (execVsqrt k d a vm s) := issue_wf h (by simp [h])
theorem execVrsqrt_wf : WfNext (execVrsqrt k d a vm s) := issue_wf h (by simp [h])
theorem execVrcp_wf : WfNext (execVrcp k d a vm s) := issue_wf h (by simp [h])
theorem execVsqd_wf : WfNext (execVsqd k d a b vm s) := issue_wf h (by simp [h])
theorem execVfred_wf : WfNext (execVfred k d a vm s) := issue_wf h (by simp [h])
theorem execVfdot_wf : WfNext (execVfdot k d a b vm s) := issue_wf h (by simp [h])
theorem execVfsgn_wf {mode : BitVec 2} : WfNext (execVfsgn k d a b vm mode s) := vint2_wf h
theorem execVfrnd_wf : WfNext (execVfrnd k d a vm s) := issue_wf h (by simp [h])

/-! ## Vector memory, permutes, blocks (Machine/VectorMem.lean) -/

omit h in
theorem State.checkLanes_wf {s : State} {acc : Acc} {ls : List Nat} {a : LaneAddr} {n : Nat} {lc : Bool} {e : Eff}
    (he : s.checkLanes acc ls a n lc = some e) : e.Wf := by
  unfold State.checkLanes at he
  obtain ⟨i, _, hi⟩ := List.exists_of_findSome?_eq_some he
  exact State.checkAccess_wf hi

theorem loadVector_wf {lc : BitVec 1} {lat : Nat} {addrOf : State → LaneAddr} {regs : State → List Handle}
    {one idx : Bool} : WfNext (loadVector i s k d vm lc lat addrOf regs one idx) := issue_wf h <| by
  dsimp only
  generalize (if one then (s.lanes vm).take 1 else s.lanes vm) = acc
  split
  next he => exact State.checkLanes_wf he
  split
  · constructor
  split
  · simpa using h
  split <;> simpa using h

theorem storeVector_wf {v : BitVec 5} {lc : BitVec 1} {addrOf : State → LaneAddr} {regs : State → List Handle} :
    WfNext (storeVector i s v vm lc addrOf regs) := issue_wf h <| by
  dsimp only
  split
  next he => exact State.checkLanes_wf he
  split
  · constructor
  split
  · constructor
  next hu => simpa [State.storeItems_mem hu] using h

theorem execVld_wf {lc : BitVec 1} {off : BitVec 5} : WfNext (execVld k d a vm lc off s) := loadVector_wf h
theorem execVst_wf {lc : BitVec 1} {off : BitVec 5} : WfNext (execVst k a b vm lc off s) := storeVector_wf h
theorem execVlds_wf {lc : BitVec 1} : WfNext (execVlds k d a b vm lc s) := loadVector_wf h
theorem execVsts_wf {lc : BitVec 1} : WfNext (execVsts k d a b vm lc s) := storeVector_wf h
theorem execVldx_wf {lc : BitVec 1} {scale : BitVec 2} : WfNext (execVldx k d a b vm lc scale s) := loadVector_wf h
theorem execVstx_wf {lc : BitVec 1} {scale : BitVec 2} : WfNext (execVstx k d a b vm lc scale s) := storeVector_wf h
theorem execVldb_wf {lc : BitVec 1} {off : BitVec 5} : WfNext (execVldb k d a vm lc off s) := loadVector_wf h
theorem permute_wf {src : Nat → Nat} : WfNext (permute i s k d a b vm src) := issue_wf h (by simp [h])
theorem execVperm_wf : WfNext (execVperm k d a b vm s) := issue_wf h (by simp [h])
theorem execVslide_wf {n : BitVec 4} : WfNext (execVslide k d a b vm n s) := permute_wf h
theorem execVzip_wf {half : BitVec 1} : WfNext (execVzip k d a b vm half s) := permute_wf h
theorem execVunzip_wf {half : BitVec 1} : WfNext (execVunzip k d a b vm half s) := permute_wf h
theorem execVcvt_wf {u : BitVec 3} : WfNext (execVcvt k d a vm u s) := issue_wf h (by simp [h])
theorem execVpack_wf : WfNext (execVpack k d a b vm s) := issue_wf h (by simp [h])
theorem execVunpack_wf {half : BitVec 1} : WfNext (execVunpack k d a vm half s) := issue_wf h (by simp [h])

theorem execVqld_wf {lc : BitVec 1} : WfNext (execVqld k d a b vm lc s) := issue_wf h <| by
  dsimp only
  split
  next he =>
    obtain he | ⟨-, he⟩ := Option.or_eq_some_iff.mp he <;> exact State.checkLanes_wf he
  split
  · constructor
  split
  · split
    · constructor
    split
    · constructor
    next hu => simpa [State.formAll_mem hu] using h
  · simpa using h

theorem execVqdec_wf {part : BitVec 3} : WfNext (execVqdec k d a vm part s) := issue_wf h (by simp [h])

theorem execVqenc_wf {mask : BitVec 4} {slot : BitVec 2} : WfNext (execVqenc k d a vm mask slot s) := issue_wf h <| by
  dsimp only
  split
  · constructor
  next hu => simpa [State.formWith_mem hu] using h

theorem execVqst_wf {mask : BitVec 4} : WfNext (execVqst k d a b c vm mask s) := issue_wf h <| by
  dsimp only
  split
  next he =>
    obtain he | ⟨-, he⟩ := Option.or_eq_some_iff.mp he <;> exact State.checkLanes_wf he
  split
  · constructor
  split
  · constructor
  next hu => simpa [State.storeItems_mem hu] using h

theorem execVhdr_wf {slot : BitVec 2} : WfNext (execVhdr k d a vm slot s) := issue_wf h (by simp [h])

theorem execVhdrw_wf {slot : BitVec 2} : WfNext (execVhdrw k d a vm slot s) := issue_wf h <| by
  dsimp only
  (repeat' split)
  · constructor
  · simpa using h
  · exact State.vresultAt_wf h

/-! ## The matrix array (Machine/Matrix.lean) -/

theorem execMzero_wf : WfNext (execMzero k d s) := issue_wf h <| by
  split <;> simp [h]

theorem execMscale_wf : WfNext (execMscale k d a vm s) := issue_wf h <| by
  dsimp only
  split
  · constructor
  split
  · constructor
  next hu => simpa [State.formWrites_mem hu] using h

theorem execMrdv_wf {r : BitVec 3} : WfNext (execMrdv k d a vm r s) := issue_wf h <| by
  dsimp only
  split <;> simp [h]

theorem execMwrv_wf {r : BitVec 3} : WfNext (execMwrv k d a vm r s) := issue_wf h <| by
  dsimp only
  split
  · constructor
  split
  · constructor
  next hu => simpa [State.formWrites_mem hu] using h

theorem execMst_wf {off : BitVec 32} : WfNext (execMst k a b c off s) := issue_wf h <| by
  dsimp only
  split
  · constructor
  split
  · constructor
  split
  next he => exact State.checkLanes_wf he
  split
  · constructor
  split
  · constructor
  next hu => simpa [State.storeItems_mem hu] using h

theorem execMld_wf {off : BitVec 32} : WfNext (execMld k d b c off s) := issue_wf h <| by
  dsimp only
  split
  · constructor
  split
  · constructor
  split
  next he => exact State.checkLanes_wf he
  split
  · constructor
  · simpa using h

theorem execMwait_wf : WfNext (execMwait k s) := issue_wf h <| by
  split <;> simp [h]

theorem execGangStart_wf : WfNext (execGangStart s) := by
  unfold execGangStart
  dsimp only
  (repeat' split) <;> simp [WfNext, h]

theorem execGangColumnComplete_wf : WfNext (execGangColumnComplete s) := by
  unfold execGangColumnComplete
  dsimp only
  split
  · exact h
  split
  · simp [WfNext, h]
  · simp only [WfNext, State.settleMat_mem, State.onMat_mem]
    split
    · exact h
    · exact State.wf_foldl _ (fun s p hs => by simpa using State.gangCore_wf hs) h

theorem execMmarInboundLanding_wf : WfNext (execMmarInboundLanding s) := by
  unfold execMmarInboundLanding
  dsimp only
  split
  · exact h
  split
  · exact h
  split
  · split
    · simpa [WfNext] using h
    · simp only [WfNext, State.plan_mem]
      exact State.wf_foldl _ (fun _ _ hs => State.inboundTile_wf hs) h
  · simpa [WfNext] using h

theorem gangIssue_wf {o : GangOp} {regs : List RegRef} : WfNext (gangIssue i s k o regs) := by
  unfold gangIssue
  dsimp only
  split
  next t ht =>
    refine State.joinGang_wf (?_ : WfNext (.next t))
    rw [← ht]
    exact issue_wf h (by (repeat' split) <;> simp [h])
  · trivial
  · trivial

theorem execMma_wf {tb ty : BitVec 3} {sp zc : BitVec 1} : WfNext (execMma k d a b c tb ty sp zc s) := gangIssue_wf h
theorem execMmar_wf {tb ty : BitVec 3} {sp zc : BitVec 1} : WfNext (execMmar k d a b c tb ty sp zc s) := gangIssue_wf h

theorem execMqst_wf {ty : BitVec 3} {co : BitVec 1} {mask : BitVec 4} : WfNext (execMqst k a b c ty co mask s) :=
  gangIssue_wf h

/-! ## Steps of the memory system (Machine/EventsMem.lean) -/

theorem execPartialCombine_wf : WfNext (execPartialCombine s) := by
  unfold execPartialCombine
  split <;> simp [WfNext, h]

theorem execTranslationWalk_wf : WfNext (execTranslationWalk s) := by
  unfold execTranslationWalk
  dsimp only
  (repeat' split) <;> simp [WfNext, h]

theorem execLeafReturn_wf : WfNext (execLeafReturn s) := by
  unfold execLeafReturn
  (repeat' split) <;> simp [WfNext, h]

theorem execMemoryFill_wf : WfNext (execMemoryFill s) := by
  unfold execMemoryFill
  dsimp only
  (repeat' split) <;> simp [WfNext, h]

theorem execWriteBack_wf : WfNext (execWriteBack s) := by simp [execWriteBack, WfNext, h]

theorem execNearCacheFill_wf : WfNext (execNearCacheFill s) := by
  unfold execNearCacheFill
  dsimp only
  (repeat' split) <;> simp [WfNext, h]

theorem execFaultRecordArrival_wf : WfNext (execFaultRecordArrival s) := by
  unfold execFaultRecordArrival
  dsimp only
  (repeat' split) <;> simp [WfNext, h]

theorem State.unpark_wf {which : Park → Bool} {onReq : State → Req → State} {onJob : State → Job → State}
    (hr : ∀ s r, Memory.wf s.mem → Memory.wf (onReq s r).mem)
    (hj : ∀ s j, Memory.wf s.mem → Memory.wf (onJob s j).mem) : Memory.wf (s.unpark which onReq onJob).mem := by
  unfold State.unpark
  refine State.wf_foldl _ (fun s p hs => ?_) h
  split
  · split
    · exact hs
    · exact hj _ _ hs
  · split
    · exact hs
    · exact hr _ _ hs

theorem execHostWriteThroughComplete_wf {id : Nat} : WfNext (execHostWriteThroughComplete id s) := by
  unfold execHostWriteThroughComplete
  dsimp only
  (repeat' split) <;> simp [WfNext, h]

theorem execPubvUpdate_wf {tenant : Nat} {addr count : BitVec 64} :
    WfNext (execPubvUpdate tenant addr count s) := by
  simp [execPubvUpdate, WfNext, h]

/-! ## Weirs, events, timelines (Machine/Sync.lean) -/

omit h in
theorem State.weirFault_wf {s : State} {n : Nat} {v : Dword} {e : Eff} (he : s.weirFault n v = some e) : e.Wf := by
  unfold State.weirFault at he
  dsimp only at he
  (repeat' split at he) <;> cases he <;> constructor

@[simp] theorem State.weirWait_wf {n : Nat} : (s.weirWait n).Wf := by
  unfold State.weirWait
  split <;> simp [h]

theorem execWeir_wf {n : BitVec 4} : WfNext (execWeir k b n s) := issue_wf h <| by
  dsimp only
  split
  next he => exact State.weirFault_wf he
  split
  · exact State.weirWait_wf h
  · simpa using h

theorem execWeira_wf {n : BitVec 4} : WfNext (execWeira k b n s) := issue_wf h <| by
  dsimp only
  split
  next he => exact State.weirFault_wf he
  · simpa using h

theorem execWeirw_wf {n : BitVec 4} : WfNext (execWeirw k n s) := issue_wf h <| by
  split
  next he => exact State.weirFault_wf he
  · exact State.weirWait_wf h

theorem execWeirx_wf {n : BitVec 4} : WfNext (execWeirx k n s) := issue_wf h <| by
  split
  next he => exact State.weirFault_wf he
  · simpa using h

theorem execEvwaitLine_wf {idx : BitVec 5} : WfNext (execEvwaitLine k idx s) := issue_wf h <| by
  dsimp only
  split <;> simp [h]

theorem execEvwaitMutex_wf {idx : BitVec 5} : WfNext (execEvwaitMutex k idx s) := issue_wf h <| by
  dsimp only
  (repeat' split) <;> simp [h]

theorem execEvwaitBarrier_wf {idx : BitVec 5} : WfNext (execEvwaitBarrier k idx s) := issue_wf h <| by
  split <;> simp [h]

theorem execEvsigLine_wf {rem : BitVec 1} {idx : BitVec 5} : WfNext (execEvsigLine k a rem idx s) := issue_wf h <| by
  dsimp only
  (repeat' split) <;> simp [h]

theorem execEvsigMutex_wf {idx : BitVec 5} : WfNext (execEvsigMutex k idx s) := issue_wf h <| by
  split <;> simp [h]

theorem execEventSignalEffect_wf : WfNext (execEventSignalEffect s) := by simp [execEventSignalEffect, WfNext, h]
theorem execEventWake_wf : WfNext (execEventWake s) := by simp [execEventWake, WfNext, h]
theorem execEventLineStore_wf : WfNext (execEventLineStore s) := by simp [execEventLineStore, WfNext, h]
theorem execBarrierTargetStore_wf : WfNext (execBarrierTargetStore s) := by simp [execBarrierTargetStore, WfNext, h]
theorem execEraRewriteDone_wf : WfNext (execEraRewriteDone s) := by simp [execEraRewriteDone, WfNext, h]

@[simp] theorem State.tlPass_wf {there : Bool} {w : Wait} : (s.tlPass there w).Wf := by
  unfold State.tlPass
  split <;> simp [h]

theorem execTlwaitMem_wf : WfNext (execTlwaitMem k a b s) := issue_wf h <| by
  dsimp only
  split
  next he => exact State.checkAccess_wf he
  split
  · exact State.tlPass_wf (by simpa using h)
  · simpa using h

theorem execTlwaitSluice_wf : WfNext (execTlwaitSluice k b s) := issue_wf h <| by
  dsimp only
  split
  · constructor
  · exact State.tlPass_wf (by simpa using h)

theorem execTlwaitMillrace_wf {n : BitVec 6} : WfNext (execTlwaitMillrace k b n s) := issue_wf h (by simp [h])

theorem execTlwaitUpdate_wf : WfNext (execTlwaitUpdate k b s) := issue_wf h <| by
  dsimp only
  (repeat' split) <;> simp [h]

theorem execTlsig_wf : WfNext (execTlsig k a b s) := issue_wf h <| by
  dsimp only
  split
  next he => exact State.checkAccess_wf he
  · simpa using h

theorem execComm_wf : WfNext (execComm k s) := issue_wf h <| by
  split <;> simp [h]

theorem execSendf_wf {f : BitVec 5} : WfNext (execSendf k b f s) := issue_wf h <| by
  dsimp only
  (repeat' split) <;> simp [h]

theorem execFlumeDelivery_wf {src dst off : Nat} {words : List (BitVec 32 × BitVec 16)} :
    WfNext (execFlumeDelivery src dst off words s) := by
  unfold execFlumeDelivery
  dsimp only
  split <;> simp [WfNext, h]

/-! ## The engines (Machine/Copy.lean) -/

theorem execSluiceJobStart_wf : WfNext (execSluiceJobStart s) := by
  unfold execSluiceJobStart
  dsimp only
  (repeat' split) <;> simp [WfNext, h]

theorem execSluiceWriteLanding_wf : WfNext (execSluiceWriteLanding s) := by
  unfold execSluiceWriteLanding
  split
  · exact h
  next j _ =>
    have hw := State.workJob_wf (j := j) h
    split
    · exact h
    split
    · simpa [WfNext] using h
    split
    · simpa [WfNext] using h
    split
    next heq =>
      rw [heq] at hw
      dsimp only at hw ⊢
      split <;> simp [WfNext, hw]
    next heq =>
      rw [heq] at hw
      exact State.jobHalt_wf hw

theorem execSluiceJobComplete_wf : WfNext (execSluiceJobComplete s) := by
  unfold execSluiceJobComplete
  (repeat' split) <;> simp [WfNext, h]

theorem execSluiceCapture_wf : WfNext (execSluiceCapture s) := by
  unfold execSluiceCapture
  dsimp only
  (repeat' split) <;> simp [WfNext, h]

@[simp] theorem State.submit_wf {x : Handle} {others : List Handle} {j : Job} : (s.submit k d x others j).Wf := by
  unfold State.submit
  split
  · constructor
  · simpa using h

theorem copyJob_wf {mode : Nat} : WfNext (copyJob i s k d a b mode) := issue_wf h (by simp [h])
theorem execCpy_wf : WfNext (execCpy k d a b s) := copyJob_wf h
theorem execCpyt_wf : WfNext (execCpyt k d a b s) := copyJob_wf h
theorem execCpyu_wf : WfNext (execCpyu k d a b s) := copyJob_wf h
theorem execCpyg_wf : WfNext (execCpyg k d a b s) := copyJob_wf h
theorem execCpys_wf : WfNext (execCpys k d a b s) := copyJob_wf h
theorem execCpyf_wf : WfNext (execCpyf k d a b s) := copyJob_wf h
theorem execCpyq_wf : WfNext (execCpyq k d a b s) := copyJob_wf h

theorem execAccsv_wf {evl : BitVec 5} {eve : BitVec 1} {weirn : BitVec 4} {wpe : BitVec 1} :
    WfNext (execAccsv k d a b evl eve weirn wpe s) := issue_wf h <| by
  dsimp only
  split
  · constructor
  · exact State.submit_wf h

theorem execAccrs_wf {evl : BitVec 5} {eve : BitVec 1} {weirn : BitVec 4} {wpe : BitVec 1} :
    WfNext (execAccrs k d a b evl eve weirn wpe s) := issue_wf h <| by
  dsimp only
  split
  · constructor
  · exact State.submit_wf h

theorem execLscrub_wf {evl : BitVec 5} {eve : BitVec 1} {weirn : BitVec 4} {wpe : BitVec 1} :
    WfNext (execLscrub k d a evl eve weirn wpe s) := issue_wf h <| by
  split
  · constructor
  · exact State.submit_wf h

theorem execMillraceCapture_wf : WfNext (execMillraceCapture s) := by
  unfold execMillraceCapture
  dsimp only
  (repeat' split) <;> simp [WfNext, h]

theorem execMillraceJobEnd_wf : WfNext (execMillraceJobEnd s) := by
  unfold execMillraceJobEnd
  split
  · simpa [WfNext] using h
  next j _ =>
    have hw := State.workJob_wf (j := j) h
    split
    · exact h
    split
    · split <;> simpa [WfNext] using h
    split
    · simpa [WfNext] using h
    split
    · simpa [WfNext] using h
    split
    · simpa [WfNext] using h
    split
    next heq =>
      rw [heq] at hw
      simpa [WfNext] using hw
    next heq =>
      rw [heq] at hw
      exact State.jobHalt_wf hw

theorem xferJob_wf {n : BitVec 6} {mode : Nat} : WfNext (xferJob i s k d a b n mode) := issue_wf h <| by
  dsimp only
  split <;> simp [h]

theorem execXfer_wf {n : BitVec 6} : WfNext (execXfer k d a b n s) := xferJob_wf h
theorem execXferq_wf {n : BitVec 6} : WfNext (execXferq k d a b n s) := xferJob_wf h

/-! ## The label group and domain homes (Machine/LabelOps.lean) -/

theorem execDomainHomeOperation_wf : WfNext (execDomainHomeOperation s) := by
  unfold execDomainHomeOperation
  (repeat' split) <;> simp [WfNext, h]

theorem execDomainAnswer_wf : WfNext (execDomainAnswer s) := by
  unfold execDomainAnswer
  dsimp only
  (repeat' split) <;> simp [WfNext, h]

@[simp] theorem State.domResult_wf {kind : Nat} {v : Dword} {link : Nat} {hs : List Handle} :
    (s.domResult k kind v link d hs).Wf := by
  unfold State.domResult
  split
  · constructor
  split
  · constructor
  next hu => simpa [State.formWith_mem hu] using h

@[simp] theorem State.domPlain_wf {kind : Nat} {v : Dword} {hs : List Handle} : (s.domPlain k kind v hs).Wf := by
  unfold State.domPlain
  split <;> simp [h]

theorem execAnew_wf : WfNext (execAnew k d s) := issue_wf h (by simp [h])
theorem execAnewTx_wf {link : BitVec 4} : WfNext (execAnewTx k d link s) := issue_wf h (by simp [h])
theorem execNogood_wf : WfNext (execNogood k a s) := issue_wf h (by simp [h])
theorem execAssert_wf : WfNext (execAssert k d a s) := issue_wf h (by simp [h])
theorem execRetract_wf : WfNext (execRetract k a s) := issue_wf h (by simp [h])
theorem execSettle_wf : WfNext (execSettle k d s) := issue_wf h (by simp [h])

theorem execLapply_wf {v : BitVec 1} : WfNext (execLapply k d a b vm v s) := issue_wf h <| by
  dsimp only
  (repeat' split)
  · constructor
  · constructor
  · exact State.vresult_wf h
  · exact State.resultOf_wf h

theorem execAmb_wf : WfNext (execAmb k a s) := issue_wf h <| by
  dsimp only
  split
  · constructor
  split
  · constructor
  split
  · constructor
  next hu => simpa [State.formOne_mem hu] using h

theorem execVjoin_wf : WfNext (execVjoin k d a b vm s) := issue_wf h <| by
  split
  · constructor
  · exact State.vresultAt_wf (by simpa using h)

@[simp] theorem State.labelValues_wf {v : BitVec 1} {f : Handle → Nat} : (s.labelValues k d a vm v f).Wf := by
  unfold State.labelValues
  dsimp only
  split
  · split
    · constructor
    · simpa using h
  · split
    · constructor
    · exact State.resultAs_wf (by simpa using h)

theorem execLget_wf {v : BitVec 1} : WfNext (execLget k d a vm v s) := issue_wf h (by simp [h])
theorem execLtest_wf {v : BitVec 1} {cond : BitVec 3} : WfNext (execLtest k d a vm v cond s) := issue_wf h (by simp [h])

theorem execLread_wf {n : BitVec 2} : WfNext (execLread k d a n s) := issue_wf h <| by
  dsimp only
  (repeat' split) <;> simp [h]

theorem execLstrip_wf {v : BitVec 1} : WfNext (execLstrip k d a vm v s) := issue_wf h <| by
  dsimp only
  split
  · constructor
  split
  · constructor
  split
  · split
    · constructor
    · exact State.vresult_wf (by simpa using h)
  · split
    · constructor
    · exact State.result_wf (by simpa using h)

theorem execLfence_wf : WfNext (execLfence k s) := issue_wf h <| by
  split <;> simp [h]

theorem execInternProbe_wf : WfNext (execInternProbe s) := by
  unfold execInternProbe
  extract_lets u
  split
  · refine wfNext_ite h (wfNext_ite h (wfNext_ite h ?_))
    extract_lets v x r q s1
    have hs1 : Memory.wf s1.mem := by simp [s1, q, r, h]
    split
    next t form ht =>
      have hw : Memory.wf t.mem := by
        split at ht <;> obtain ⟨rfl, -⟩ := Prod.mk.inj ht
        · exact h
        · simpa using hs1
      split
      · simpa [WfNext] using hw
      · exact wfNext_ite (by simpa [WfNext] using hw)
          (wfNext_ite (by simpa [WfNext] using hw) (wfNext_ite (by simp [WfNext, hw]) hw))
  · exact h

theorem execLabelResolve_wf : WfNext (execLabelResolve s) := by
  unfold execLabelResolve
  dsimp only
  (repeat' split) <;> simp [WfNext, h]

/-! ## Holdings and recalls (Machine/Holdings.lean) -/

theorem execHoldingDeparture_wf : WfNext (execHoldingDeparture s) := by
  unfold execHoldingDeparture
  dsimp only
  (repeat' split) <;> simp [WfNext, h]

theorem execRecallDelivery_wf : WfNext (execRecallDelivery s) := by
  unfold execRecallDelivery
  dsimp only
  (repeat' split) <;> simp [WfNext, h]

theorem execFinishDeadline_wf : WfNext (execFinishDeadline s) := by simp [execFinishDeadline, WfNext, h]
theorem execSurrenderOverrun_wf : WfNext (execSurrenderOverrun s) := by simp [execSurrenderOverrun, WfNext, h]

theorem execSrreg_wf : WfNext (execSrreg k a b s) := issue_wf h <| by
  dsimp only
  (repeat' split) <;> simp [h]

omit h in
@[simp] theorem State.returnTo_wf {s t : State} (h : Memory.wf t.mem) : (s.returnTo t).Wf := by
  simpa [State.returnTo] using h

omit h in
theorem State.srvFault_wf {s : State} {e : Eff} (he : s.srvFault = some e) : e.Wf := by
  unfold State.srvFault at he
  (repeat' split at he) <;> cases he <;> constructor

theorem execSrvFinish_wf {n : BitVec 4} : WfNext (execSrvFinish k n s) := issue_wf h <| by
  split
  next he => exact State.srvFault_wf he
  split
  · constructor
  · exact State.returnTo_wf (by simpa using h)

theorem execSrvSummarise_wf : WfNext (execSrvSummarise k s) := issue_wf h <| by
  split
  next he => exact State.srvFault_wf he
  · simpa using h

theorem execSrvRefuse_wf : WfNext (execSrvRefuse k s) := issue_wf h <| by
  split
  next he => exact State.srvFault_wf he
  refine State.returnTo_wf ?_
  (repeat' split) <;> simpa using h

theorem execRelease_wf : WfNext (execRelease k s) := issue_wf h <| by
  dsimp only
  (repeat' split) <;> simp [h]

theorem execLease_wf : WfNext (execLease k d a b s) := issue_wf h <| by
  dsimp only
  split
  · constructor
  split
  · constructor
  split
  · constructor
  next hu => simpa [State.formWith_mem hu] using h

/-! ## System instructions (Machine/System.lean) -/

theorem execMigrationCopyDone_wf : WfNext (execMigrationCopyDone s) := by
  unfold execMigrationCopyDone
  dsimp only
  (repeat' split) <;> simp [WfNext, h]

theorem execHomeAccess_wf : WfNext (execHomeAccess s) := by
  unfold execHomeAccess
  (repeat' split) <;> simp [WfNext, h]

theorem execHostReadResponse_wf {id : Nat} {ok : Bool} {words : List Word} :
    WfNext (execHostReadResponse id ok words s) := by
  unfold execHostReadResponse
  dsimp only
  (repeat' split) <;> simp [WfNext, h]

@[simp] theorem State.sendSys_wf {kind va : Nat} {data cmp : Dword} {hs : List Handle} {n : Nat} :
    (s.sendSys k kind va data cmp d hs n).Wf := by
  unfold State.sendSys
  split
  · constructor
  next hu => simpa [State.formWith_mem hu] using h

theorem State.sysNow_wf {v : Nat} {hs : List Handle} {least : Nat} {f : State → State}
    (hf : ∀ t, Memory.wf t.mem → Memory.wf (f t).mem) : (s.sysNow k d v hs least f).Wf := by
  unfold State.sysNow
  split
  · constructor
  next hu => exact .go (hf _ (by simpa [State.formWith_mem hu] using h))

omit h in
theorem State.localOperand_wf {s : State} {va n : Nat} {e : Eff} (he : s.localOperand va n = .inr e) : e.Wf := by
  unfold State.localOperand at he
  (repeat' split at he) <;> cases he <;> constructor

theorem execPlbset_wf : WfNext (execPlbset k d a b s) := issue_wf h <| by
  dsimp only
  generalize ho : s.localOperand (s.srcS b).1.toNat 16 = o
  cases o with
  | inr e =>
    have he := State.localOperand_wf ho
    split_ifs <;> simp [he]
  | inl o =>
    dsimp only
    split_ifs
    · constructor
    · constructor
    · constructor
    · split
      · constructor
      · exact State.sysNow_wf h fun t ht => by simpa using ht

theorem execReplay_wf : WfNext (execReplay k d s) := issue_wf h (by simp [h])

omit h in
theorem State.launchOperand_wf {s : State} {v : Dword} {e : Eff} (he : s.launchOperand v = .inr e) : e.Wf := by
  unfold State.launchOperand at he
  (repeat' split at he) <;> cases he <;> constructor

theorem execFlushcode_wf : WfNext (execFlushcode k d a s) := issue_wf h <| by
  dsimp only
  generalize ho : s.launchOperand (s.srcS a).1 = o
  cases o with
  | inr e => exact State.launchOperand_wf ho
  | inl n => exact State.sendSys_wf h

theorem execIdle_wf : WfNext (execIdle k s) := issue_wf h <| by
  split <;> simp [h]

theorem execFpkt_wf : WfNext (execFpkt k d a s) := issue_wf h <| by
  dsimp only
  generalize ho : s.localOperand (s.srcS a).1.toNat 64 = o
  cases o with
  | inr e => exact State.localOperand_wf ho
  | inl o =>
    dsimp only
    split
    · constructor
    split
    · exact State.sysNow_wf h fun _ ht => ht
    · exact State.sysNow_wf h fun _ ht => ht

theorem execResume_wf : WfNext (execResume k d a s) := issue_wf h <| by
  dsimp only
  split
  · constructor
  split
  · constructor
  · exact State.sendSys_wf h

theorem execKill_wf : WfNext (execKill k d a s) := issue_wf h <| by
  dsimp only
  generalize ho : s.launchOperand (s.srcS a).1 = o
  cases o with
  | inr e => exact State.launchOperand_wf ho
  | inl n => exact State.sysNow_wf h fun _ ht => State.endNow_wf ht

theorem execQprio_wf : WfNext (execQprio k a b s) := issue_wf h <| by
  dsimp only
  split <;> simp [h]

theorem execAperset_wf : WfNext (execAperset k d a b s) := issue_wf h <| by
  dsimp only
  split
  · constructor
  split
  · constructor
  · exact State.sendSys_wf h

theorem execSnap_wf : WfNext (execSnap k d a b s) := issue_wf h <| by
  dsimp only
  split
  · constructor
  split
  · constructor
  · exact State.sendSys_wf h

theorem execMigrateMove_wf : WfNext (execMigrateMove k d a b s) := issue_wf h <| by
  dsimp only
  split
  · constructor
  · exact State.sendSys_wf h

theorem execMigrateFlush_wf : WfNext (execMigrateFlush k d a s) := issue_wf h <| by
  dsimp only
  split
  · constructor
  · exact State.sendSys_wf h

/-! ## Steps of a core (Machine/EventsCore.lean) -/

theorem execUnassignedEncoding_wf (w : BitVec 128) : WfNext (execUnassignedEncoding w s) := by
  unfold execUnassignedEncoding
  split <;> simp [WfNext, h]

theorem execIcacheFill_wf : WfNext (execIcacheFill s) := by
  unfold execIcacheFill
  dsimp only
  (repeat' split) <;> simp [WfNext, h]

theorem execRegisterCacheFill_wf {core ctx : Nat} {reg : RegRef} :
    WfNext (execRegisterCacheFill core ctx reg s) := by
  simp [execRegisterCacheFill, WfNext, h]

theorem execResultLanding_wf : WfNext (execResultLanding s) := by simp [execResultLanding, WfNext, h]

theorem execTagFree_wf : WfNext (execTagFree s) := by
  unfold execTagFree
  split
  next hu => simpa [WfNext, State.finishVq_mem hu] using h
  · simpa [WfNext] using h

theorem execGapExpiry_wf : WfNext (execGapExpiry s) := by simp [execGapExpiry, WfNext, h]

theorem execHelperRetire_wf : WfNext (execHelperRetire s) := by
  unfold execHelperRetire
  dsimp only
  (repeat' split) <;> simp [WfNext, h]

theorem execHaltWake_wf : WfNext (execHaltWake s) := by simp [execHaltWake, WfNext, h]

theorem execFaultReport_wf : WfNext (execFaultReport s) := by
  unfold execFaultReport
  dsimp only
  (repeat' split) <;> simp [WfNext, h]

theorem execFaultPacketOffer_wf : WfNext (execFaultPacketOffer s) := by
  unfold execFaultPacketOffer
  split <;> simp [WfNext, h]

theorem execUncorrectableError_wf {site : ErrSite} : WfNext (execUncorrectableError site s) := by
  unfold execUncorrectableError
  split <;> simp [WfNext, h]

/-! ## The distributor and launches (Machine/EventsLaunch.lean) -/

theorem execWeirArrivalCounted_wf : WfNext (execWeirArrivalCounted s) := by
  unfold execWeirArrivalCounted
  dsimp only
  (repeat' split) <;> simp [WfNext, h]

theorem execWeirRelease_wf : WfNext (execWeirRelease s) := by
  unfold execWeirRelease
  dsimp only
  (repeat' split) <;> simp [WfNext, h]

theorem execDistributorRound_wf : WfNext (execDistributorRound s) := by
  unfold execDistributorRound
  split
  · exact h
  · simp only [WfNext, State.plan_mem, State.probeWaits_mem]
    exact State.wf_foldl _ (fun _ _ hs => State.visit_wf hs) (by simpa using h)

theorem execLaunchBind_wf : WfNext (execLaunchBind s) := by
  unfold execLaunchBind
  dsimp only
  (repeat' split) <;> simp [WfNext, h]

theorem execLaunchEndSweep_wf : WfNext (execLaunchEndSweep s) := by
  unfold execLaunchEndSweep
  dsimp only
  (repeat' split) <;> simp [WfNext, h]

/-! ## Pre-emption and restore (Machine/Preempt.lean) -/

theorem execPreemption_wf : WfNext (execPreemption s) := by
  unfold execPreemption
  (repeat' split) <;> simp [WfNext, h]

theorem execRestore_wf : WfNext (execRestore s) := by
  unfold execRestore
  dsimp only
  (repeat' split) <;> simp [WfNext, h]

/-! ## The host (Machine/EventsHost.lean) -/

theorem execHostBar2Read_wf {tenant off width : Nat} : WfNext (execHostBar2Read tenant off width s) := by
  unfold execHostBar2Read
  (repeat' split) <;> simp [WfNext, h]

theorem execHostBar2Write_wf {tenant off width : Nat} {data : Dword} :
    WfNext (execHostBar2Write tenant off width data s) := by
  unfold execHostBar2Write
  split <;> simp [WfNext, h]

theorem execPhysicalWindowAccess_wf {write : Bool} {off width : Nat} {data : Dword} :
    WfNext (execPhysicalWindowAccess write off width data s) := by
  unfold execPhysicalWindowAccess
  dsimp only
  (repeat' split) <;> simp [WfNext, h]

theorem execTflushWrite_wf {va : Dword} : WfNext (execTflushWrite va s) := by simp [execTflushWrite, WfNext, h]

theorem execQueueDoorbell_wf {tenant queue : Nat} {tail : Dword} :
    WfNext (execQueueDoorbell tenant queue tail s) := by
  simp [execQueueDoorbell, WfNext, h]

theorem execQueueCfgWrite_wf {tenant queue : Nat} {cfg : Dword} :
    WfNext (execQueueCfgWrite tenant queue cfg s) := by
  simp [execQueueCfgWrite, WfNext, h]

theorem execFaultBufferHeadWrite_wf {tenant : Nat} {v : Dword} :
    WfNext (execFaultBufferHeadWrite tenant v s) := by
  simp [execFaultBufferHeadWrite, WfNext, h]

theorem execFaultBufferFlush_wf : WfNext (execFaultBufferFlush s) := by simp [execFaultBufferFlush, WfNext, h]

theorem execFailureAnswer_wf {tenant : Nat} {gen : Dword} {host : Bool} :
    WfNext (execFailureAnswer tenant gen host s) := by
  have hs : Memory.wf (if host || gen.toNat == (s.tenant tenant).gen then
      s.unstage tenant (bits (s.tenant tenant).ansPage.toNat 55 16) else s).mem := by
    split <;> simp [h]
  simp only [execFailureAnswer, WfNext]
  split
  · exact h
  split
  · exact hs
  · refine State.unpark_wf hs (fun s r hs => ?_) (fun s j hs => State.jobHalt_wf hs)
    split <;> simp [hs]

theorem execNqheadWrite_wf {tenant : Nat} {v : Dword} :
    WfNext (execNqheadWrite tenant v s) := by
  simp [execNqheadWrite, WfNext, h]

theorem execDirectoryWrite_wf {n : Nat} {entry : Dword} :
    WfNext (execDirectoryWrite n entry s) := by
  simp [execDirectoryWrite, WfNext, h]

theorem execRegisterWrite_wf {reg : HostReg} {v : Dword} : WfNext (execRegisterWrite reg v s) := by
  unfold execRegisterWrite
  dsimp only
  (repeat' split) <;> simp [WfNext, h]

theorem execPcieLinkStateChange_wf {link : Nat} {up : Bool} :
    WfNext (execPcieLinkStateChange link up s) := by
  simp [execPcieLinkStateChange, WfNext, h]

theorem execTenantReset_wf : WfNext (execTenantReset s) := by
  unfold execTenantReset
  dsimp only
  (repeat' split) <;> simp [WfNext, h]

theorem execSnapshotCopy_wf : WfNext (execSnapshotCopy s) := by
  unfold execSnapshotCopy
  dsimp only
  (repeat' split) <;> simp [WfNext, h]

/-! ## The controller (Machine/EventsMgmt.lean) -/

theorem execPowerUp_wf {outcome : BringUp} : WfNext (execPowerUp outcome s) := by simp [execPowerUp, WfNext, h]

theorem execModuleReset_wf {outcome : BringUp} :
    WfNext (execModuleReset outcome s) := by
  simp [execModuleReset, WfNext, h]

theorem execPcieTrainTimeout_wf : WfNext (execPcieTrainTimeout s) := by simp [execPcieTrainTimeout, WfNext, h]
theorem execConfigRequest_wf : WfNext (execConfigRequest s) := by simp [execConfigRequest, WfNext, h]
theorem execPcapWrite_wf {v : Dword} : WfNext (execPcapWrite v s) := by simp [execPcapWrite, WfNext, h]

theorem execTelemetrySample_wf {samples : List (Nat × Nat)} {rest : Nat} {calm : Bool} :
    WfNext (execTelemetrySample samples rest calm s) := by
  unfold execTelemetrySample
  dsimp only
  (repeat' split) <;> simp [WfNext, h]

theorem execAttestMakeReport_wf : WfNext (execAttestMakeReport s) := by simp [execAttestMakeReport, WfNext, h]
theorem execAttestReportReady_wf : WfNext (execAttestReportReady s) := by simp [execAttestReportReady, WfNext, h]

theorem execAttestReadPage_wf {page : BitVec 8} :
    WfNext (execAttestReadPage page s) := by
  simp [execAttestReadPage, WfNext, h]

theorem execAttestFetchKey_wf : WfNext (execAttestFetchKey s) := by simp [execAttestFetchKey, WfNext, h]

/-! ## The links (Machine/EventsLink.lean) -/

theorem execRemoteWindowAccess_wf {link : Nat} {acc : RemoteAccess} : WfNext (execRemoteWindowAccess link acc s) := by
  unfold execRemoteWindowAccess
  dsimp only
  (repeat' split) <;> simp [WfNext, h]

theorem execRemoteAccessAnswer_wf {id : Nat} {ok : Bool} {words : List (Word × List Dword × Handle)} :
    WfNext (execRemoteAccessAnswer id ok words s) := by
  unfold execRemoteAccessAnswer
  dsimp only
  (repeat' split) <;> simp [WfNext, h]

theorem execRemoteSlotOpen_wf {link peerSlot : Nat} : WfNext (execRemoteSlotOpen link peerSlot s) := by
  unfold execRemoteSlotOpen
  dsimp only
  (repeat' split) <;> simp [WfNext, h]

theorem execRemoteSlotAnswer_wf {link id : Nat} {ok : Bool} {peerSlot : Nat} :
    WfNext (execRemoteSlotAnswer link id ok peerSlot s) := by
  unfold execRemoteSlotAnswer
  (repeat' split) <;> simp [WfNext, h]

theorem execRemoteAssert_wf {link slot : Nat} : WfNext (execRemoteAssert link slot s) := by
  unfold execRemoteAssert
  dsimp only
  (repeat' split) <;> simp [WfNext, h]

theorem execAssertAck_wf {link slot : Nat} : WfNext (execAssertAck link slot s) := by
  unfold execAssertAck
  dsimp only
  split <;> simp [WfNext, h]

theorem execNelrekStateAdvance_wf : WfNext (execNelrekStateAdvance s) := by
  unfold execNelrekStateAdvance
  dsimp only
  (repeat' split) <;> simp [WfNext, h]

theorem execNelrekStateTimeout_wf : WfNext (execNelrekStateTimeout s) := by
  unfold execNelrekStateTimeout
  dsimp only
  split <;> simp [WfNext, h]

theorem execNelrekRetry_wf : WfNext (execNelrekRetry s) := by simp [execNelrekRetry, WfNext, h]

theorem execFlitReceive_wf {link : Nat} {flit : Flit} : WfNext (execFlitReceive link flit s) := by
  unfold execFlitReceive
  dsimp only
  (repeat' split) <;> simp [WfNext, h]

end

end Sys2Proof.Machine
end

section
/-! SUPPORT. Dispatch and the step keep the canonical form of memory. -/

namespace Sys2Proof.Machine

/-- The case split over the instructions: each arm of `exec` is one meaning. -/
theorem exec_wf (i : Instr) {s : State} (h : Memory.wf s.mem) : WfNext (exec i s) := by
  cases i with
  | nop => exact execNop_wf h
  | halt => exact execHalt_wf h
  | br => exact execBr_wf h
  | brc => exact execBrc_wf h
  | brz => exact execBrz_wf h
  | brnz => exact execBrnz_wf h
  | brv => exact execBrv_wf h
  | call => exact execCall_wf h
  | callr => exact execCallr_wf h
  | ret => exact execRet_wf h
  | jmpr => exact execJmpr_wf h
  | loop => exact execLoop_wf h
  | hstart => exact execHstart_wf h
  | hend => exact execHend_wf h
  | hjoin => exact execHjoin_wf h
  | yield => exact execYield_wf h
  | trap => exact execTrap_wf h
  | brk => exact execBrk_wf h
  | add => exact execAdd_wf h
  | addi => exact execAddi_wf h
  | sub => exact execSub_wf h
  | mul => exact execMul_wf h
  | mulh => exact execMulh_wf h
  | mulhu => exact execMulhu_wf h
  | div => exact execDiv_wf h
  | divu => exact execDivu_wf h
  | rem => exact execRem_wf h
  | remu => exact execRemu_wf h
  | and => exact execAnd_wf h
  | andi => exact execAndi_wf h
  | or => exact execOr_wf h
  | ori => exact execOri_wf h
  | xor => exact execXor_wf h
  | xori => exact execXori_wf h
  | shl => exact execShl_wf h
  | shli => exact execShli_wf h
  | shr => exact execShr_wf h
  | shri => exact execShri_wf h
  | sar => exact execSar_wf h
  | sari => exact execSari_wf h
  | min => exact execMin_wf h
  | max => exact execMax_wf h
  | minu => exact execMinu_wf h
  | maxu => exact execMaxu_wf h
  | slt => exact execSlt_wf h
  | sltu => exact execSltu_wf h
  | seq => exact execSeq_wf h
  | sel => exact execSel_wf h
  | clz => exact execClz_wf h
  | popc => exact execPopc_wf h
  | bfx => exact execBfx_wf h
  | bfi => exact execBfi_wf h
  | li => exact execLi_wf h
  | liw => exact execLiw_wf h
  | lea => exact execLea_wf h
  | srd => exact execSrd_wf h
  | swr => exact execSwr_wf h
  | ld => exact execLd_wf h
  | st => exact execSt_wf h
  | ldacq => exact execLdacq_wf h
  | strel => exact execStrel_wf h
  | amo => exact execAmo_wf h
  | cas => exact execCas_wf h
  | red => exact execRed_wf h
  | redc => exact execRedc_wf h
  | fence => exact execFence_wf h
  | pref => exact execPref_wf h
  | rinv => exact execRinv_wf h
  | rwb => exact execRwb_wf h
  | rflush => exact execRflush_wf h
  | publish => exact execPublish_wf h
  | vadd => exact execVadd_wf h
  | vsub => exact execVsub_wf h
  | vmul => exact execVmul_wf h
  | vmulh => exact execVmulh_wf h
  | vand => exact execVand_wf h
  | vor => exact execVor_wf h
  | vxor => exact execVxor_wf h
  | vnot => exact execVnot_wf h
  | vshl => exact execVshl_wf h
  | vshr => exact execVshr_wf h
  | vsar => exact execVsar_wf h
  | vmin => exact execVmin_wf h
  | vmax => exact execVmax_wf h
  | vminu => exact execVminu_wf h
  | vmaxu => exact execVmaxu_wf h
  | vcmp => exact execVcmp_wf h
  | vsel => exact execVsel_wf h
  | viota => exact execViota_wf h
  | vpopm => exact execVpopm_wf h
  | vfirst => exact execVfirst_wf h
  | vmv => exact execVmv_wf h
  | vbcast => exact execVbcast_wf h
  | vext => exact execVext_wf h
  | vins => exact execVins_wf h
  | vclz => exact execVclz_wf h
  | vpopc => exact execVpopc_wf h
  | vmatch => exact execVmatch_wf h
  | vred => exact execVred_wf h
  | vfadd => exact execVfadd_wf h
  | vfsub => exact execVfsub_wf h
  | vfmul => exact execVfmul_wf h
  | vfma => exact execVfma_wf h
  | vfms => exact execVfms_wf h
  | vfnma => exact execVfnma_wf h
  | vfmin => exact execVfmin_wf h
  | vfmax => exact execVfmax_wf h
  | vfabs => exact execVfabs_wf h
  | vfneg => exact execVfneg_wf h
  | vfcmp => exact execVfcmp_wf h
  | vfclass => exact execVfclass_wf h
  | vdiv => exact execVdiv_wf h
  | vsqrt => exact execVsqrt_wf h
  | vrsqrt => exact execVrsqrt_wf h
  | vrcp => exact execVrcp_wf h
  | vsqd => exact execVsqd_wf h
  | vfred => exact execVfred_wf h
  | vfdot => exact execVfdot_wf h
  | vfsgn => exact execVfsgn_wf h
  | vfrnd => exact execVfrnd_wf h
  | vld => exact execVld_wf h
  | vst => exact execVst_wf h
  | vlds => exact execVlds_wf h
  | vsts => exact execVsts_wf h
  | vldx => exact execVldx_wf h
  | vstx => exact execVstx_wf h
  | vldb => exact execVldb_wf h
  | vperm => exact execVperm_wf h
  | vslide => exact execVslide_wf h
  | vzip => exact execVzip_wf h
  | vunzip => exact execVunzip_wf h
  | vcvt => exact execVcvt_wf h
  | vpack => exact execVpack_wf h
  | vunpack => exact execVunpack_wf h
  | vqld => exact execVqld_wf h
  | vqdec => exact execVqdec_wf h
  | vqst => exact execVqst_wf h
  | vqenc => exact execVqenc_wf h
  | vhdr => exact execVhdr_wf h
  | vhdrw => exact execVhdrw_wf h
  | mma => exact execMma_wf h
  | mmar => exact execMmar_wf h
  | mzero => exact execMzero_wf h
  | mst => exact execMst_wf h
  | mld => exact execMld_wf h
  | mrdv => exact execMrdv_wf h
  | mwrv => exact execMwrv_wf h
  | mscale => exact execMscale_wf h
  | mqst => exact execMqst_wf h
  | mwait => exact execMwait_wf h
  | cpy => exact execCpy_wf h
  | cpyt => exact execCpyt_wf h
  | cpyu => exact execCpyu_wf h
  | cpyg => exact execCpyg_wf h
  | cpys => exact execCpys_wf h
  | cpyf => exact execCpyf_wf h
  | cpyq => exact execCpyq_wf h
  | accsv => exact execAccsv_wf h
  | accrs => exact execAccrs_wf h
  | xfer => exact execXfer_wf h
  | xferq => exact execXferq_wf h
  | weir => exact execWeir_wf h
  | weira => exact execWeira_wf h
  | weirw => exact execWeirw_wf h
  | weirx => exact execWeirx_wf h
  | evwaitLine => exact execEvwaitLine_wf h
  | evwaitMutex => exact execEvwaitMutex_wf h
  | evwaitBarrier => exact execEvwaitBarrier_wf h
  | evsigLine => exact execEvsigLine_wf h
  | evsigMutex => exact execEvsigMutex_wf h
  | tlwaitMem => exact execTlwaitMem_wf h
  | tlwaitSluice => exact execTlwaitSluice_wf h
  | tlwaitMillrace => exact execTlwaitMillrace_wf h
  | tlwaitUpdate => exact execTlwaitUpdate_wf h
  | tlsig => exact execTlsig_wf h
  | comm => exact execComm_wf h
  | sendf => exact execSendf_wf h
  | anew => exact execAnew_wf h
  | anewTx => exact execAnewTx_wf h
  | lapply => exact execLapply_wf h
  | amb => exact execAmb_wf h
  | nogood => exact execNogood_wf h
  | assert => exact execAssert_wf h
  | retract => exact execRetract_wf h
  | vjoin => exact execVjoin_wf h
  | lget => exact execLget_wf h
  | lstrip => exact execLstrip_wf h
  | lread => exact execLread_wf h
  | ltest => exact execLtest_wf h
  | lfence => exact execLfence_wf h
  | settle => exact execSettle_wf h
  | lscrub => exact execLscrub_wf h
  | srreg => exact execSrreg_wf h
  | srvFinish => exact execSrvFinish_wf h
  | srvSummarise => exact execSrvSummarise_wf h
  | srvRefuse => exact execSrvRefuse_wf h
  | release => exact execRelease_wf h
  | lease => exact execLease_wf h
  | plbset => exact execPlbset_wf h
  | replay => exact execReplay_wf h
  | flushcode => exact execFlushcode_wf h
  | idle => exact execIdle_wf h
  | fpkt => exact execFpkt_wf h
  | resume => exact execResume_wf h
  | kill => exact execKill_wf h
  | qprio => exact execQprio_wf h
  | aperset => exact execAperset_wf h
  | snap => exact execSnap_wf h
  | migrateMove => exact execMigrateMove_wf h
  | migrateFlush => exact execMigrateFlush_wf h
  | registerCacheFill => exact execRegisterCacheFill_wf h
  | flumeDelivery => exact execFlumeDelivery_wf h
  | hostBar2Read => exact execHostBar2Read_wf h
  | hostBar2Write => exact execHostBar2Write_wf h
  | physicalWindowAccess => exact execPhysicalWindowAccess_wf h
  | tflushWrite => exact execTflushWrite_wf h
  | queueDoorbell => exact execQueueDoorbell_wf h
  | queueCfgWrite => exact execQueueCfgWrite_wf h
  | faultBufferHeadWrite => exact execFaultBufferHeadWrite_wf h
  | failureAnswer => exact execFailureAnswer_wf h
  | nqheadWrite => exact execNqheadWrite_wf h
  | pubvUpdate => exact execPubvUpdate_wf h
  | directoryWrite => exact execDirectoryWrite_wf h
  | pcapWrite => exact execPcapWrite_wf h
  | registerWrite => exact execRegisterWrite_wf h
  | attestReadPage => exact execAttestReadPage_wf h
  | powerUp => exact execPowerUp_wf h
  | moduleReset => exact execModuleReset_wf h
  | telemetrySample => exact execTelemetrySample_wf h
  | flitReceive => exact execFlitReceive_wf h
  | remoteWindowAccess => exact execRemoteWindowAccess_wf h
  | remoteSlotOpen => exact execRemoteSlotOpen_wf h
  | remoteAssert => exact execRemoteAssert_wf h
  | assertAck => exact execAssertAck_wf h
  | hostReadResponse => exact execHostReadResponse_wf h
  | hostWriteThroughComplete => exact execHostWriteThroughComplete_wf h
  | unassignedEncoding w => exact execUnassignedEncoding_wf h w
  | pcieLinkStateChange => exact execPcieLinkStateChange_wf h
  | uncorrectableError => exact execUncorrectableError_wf h
  | remoteAccessAnswer => exact execRemoteAccessAnswer_wf h
  | remoteSlotAnswer => exact execRemoteSlotAnswer_wf h
  | icacheFill => exact execIcacheFill_wf h
  | resultLanding => exact execResultLanding_wf h
  | tagFree => exact execTagFree_wf h
  | gapExpiry => exact execGapExpiry_wf h
  | homeAccess => exact execHomeAccess_wf h
  | partialCombine => exact execPartialCombine_wf h
  | nearCacheFill => exact execNearCacheFill_wf h
  | translationWalk => exact execTranslationWalk_wf h
  | leafReturn => exact execLeafReturn_wf h
  | memoryFill => exact execMemoryFill_wf h
  | writeBack => exact execWriteBack_wf h
  | faultRecordArrival => exact execFaultRecordArrival_wf h
  | labelResolve => exact execLabelResolve_wf h
  | internProbe => exact execInternProbe_wf h
  | sluiceCapture => exact execSluiceCapture_wf h
  | sluiceJobStart => exact execSluiceJobStart_wf h
  | sluiceWriteLanding => exact execSluiceWriteLanding_wf h
  | sluiceJobComplete => exact execSluiceJobComplete_wf h
  | millraceCapture => exact execMillraceCapture_wf h
  | millraceJobEnd => exact execMillraceJobEnd_wf h
  | gangStart => exact execGangStart_wf h
  | gangColumnComplete => exact execGangColumnComplete_wf h
  | mmarInboundLanding => exact execMmarInboundLanding_wf h
  | weirArrivalCounted => exact execWeirArrivalCounted_wf h
  | weirRelease => exact execWeirRelease_wf h
  | holdingDeparture => exact execHoldingDeparture_wf h
  | eventSignalEffect => exact execEventSignalEffect_wf h
  | eventWake => exact execEventWake_wf h
  | eventLineStore => exact execEventLineStore_wf h
  | barrierTargetStore => exact execBarrierTargetStore_wf h
  | domainHomeOperation => exact execDomainHomeOperation_wf h
  | domainAnswer => exact execDomainAnswer_wf h
  | eraRewriteDone => exact execEraRewriteDone_wf h
  | helperRetire => exact execHelperRetire_wf h
  | haltWake => exact execHaltWake_wf h
  | recallDelivery => exact execRecallDelivery_wf h
  | finishDeadline => exact execFinishDeadline_wf h
  | surrenderOverrun => exact execSurrenderOverrun_wf h
  | faultReport => exact execFaultReport_wf h
  | faultPacketOffer => exact execFaultPacketOffer_wf h
  | distributorRound => exact execDistributorRound_wf h
  | launchBind => exact execLaunchBind_wf h
  | launchEndSweep => exact execLaunchEndSweep_wf h
  | preemption => exact execPreemption_wf h
  | restore => exact execRestore_wf h
  | snapshotCopy => exact execSnapshotCopy_wf h
  | migrationCopyDone => exact execMigrationCopyDone_wf h
  | faultBufferFlush => exact execFaultBufferFlush_wf h
  | tenantReset => exact execTenantReset_wf h
  | attestMakeReport => exact execAttestMakeReport_wf h
  | attestFetchKey => exact execAttestFetchKey_wf h
  | attestReportReady => exact execAttestReportReady_wf h
  | configRequest => exact execConfigRequest_wf h
  | pcieTrainTimeout => exact execPcieTrainTimeout_wf h
  | nelrekStateAdvance => exact execNelrekStateAdvance_wf h
  | nelrekStateTimeout => exact execNelrekStateTimeout_wf h
  | nelrekRetry => exact execNelrekRetry_wf h
  | divideUnitFree => exact execDivideUnitFree_wf h

theorem runTask_wf {x : Task} {s : State} (h : Memory.wf s.mem) : WfNext (runTask x s) := by
  unfold runTask
  split
  · simpa [WfNext] using h
  · simpa [WfNext] using h
  · split <;> exact exec_wf _ (by simpa using h)

theorem stepCores_wf {s : State} (h : Memory.wf s.mem) : WfNext (stepCores s) := by
  unfold stepCores
  split
  · exact runTask_wf h
  split
  · split
    · exact exec_wf _ (by simpa using h)
    · exact State.tick_wf h
  · exact State.tick_wf h

/-- The strengthened step lemma: no step leaves a zero cell or an address out of order. -/
theorem step_wf {s : State} (h : Memory.wf s.mem) : WfNext (step s) := by
  unfold step
  dsimp only
  split
  · split
    · exact exec_wf _ (by simpa using h)
    · exact stepCores_wf (by simpa using h)
  · exact stepCores_wf (by simpa using h)

end Sys2Proof.Machine

/-- Settles O60, by the lemma for one step. -/
theorem canonicalMemory : Obligations.CanonicalMemory := by
  intro s t hs ht
  have h : Sys2Proof.Machine.WfNext (Sys2Proof.Machine.step s) := Sys2Proof.Machine.step_wf hs
  rw [ht] at h
  exact h

end

section
/-! SUPPORT. A store to cluster memory that finds its launch gone (R364). -/

namespace Sys2Proof.Machine

/-- A one-byte store of the value 1 by core 0 to the first byte of its own memory, in the name of launch 0. -/
def lostStore : Req := { State.reset.outsideReq 0 .store (255 * 2 ^ 48) 1 1#64 with core := 0 }

/-- After reset no core belongs to a launch, so the store finds its launch gone and is dropped. -/
theorem performLocal_lostStore : State.reset.performLocal lostStore = State.reset := by
  have hplace : localOf lostStore.core lostStore.va = some (0, 0) := by decide
  have hlost : State.reset.bankLost lostStore 0 = true := by decide
  rw [State.performLocal, hplace]
  dsimp only
  rw [if_pos hlost]
  rfl

/-- The byte that the store names stays 0. -/
theorem get_performLocal_lostStore : ((State.reset.performLocal lostStore).core 0).lmem.get 0 = 0 := by
  rw [performLocal_lostStore]
  rfl

end Sys2Proof.Machine

/-- Refutes O31: the statement lets the access's launch have left the cluster, and such an access writes nothing (R364). -/
theorem not_bankStores : ¬ Obligations.BankStores := by
  unfold Obligations.BankStores
  intro h
  obtain ⟨hbytes, -⟩ := h Sys2Proof.Machine.State.reset Sys2Proof.Machine.lostStore 0 0 0 (by decide) rfl (by decide) rfl rfl rfl
  have hbyte := hbytes 0 (by decide) (by decide)
  rw [Sys2Proof.Machine.get_performLocal_lostStore] at hbyte
  exact absurd hbyte (by decide)

end

section
/-! SUPPORT. Requests, lines, words and lists of the state after an update, for the steps of the module. -/

namespace Sys2Proof.Machine

/-! ## Folds and lists -/

/-- A fold of steps, each of which keeps a part of the state, keeps it. -/
theorem foldl_keeps {α β : Type} (part : State → β) {f : State → α → State} (h : ∀ s x, part (f s x) = part s) (l : List α)
    (s : State) : part (l.foldl f s) = part s := by
  induction l generalizing s with
  | nil => rfl
  | cons x r ih => rw [List.foldl_cons, ih, h]

theorem mem_agendaInsert {l : List Todo} {x y : Todo} : y ∈ agendaInsert l x ↔ y = x ∨ y ∈ l := by
  induction l with
  | nil => simp [agendaInsert]
  | cons z r ih =>
    unfold agendaInsert
    split
    · rw [List.mem_cons, ih, List.mem_cons]
      tauto
    · rw [List.mem_cons]

/-- A planned step stands on the agenda. -/
theorem State.mem_plan (s : State) (n phase : Nat) (i : Instr) (who : Subj) :
    { key := 4 * (s.now + n) + phase, what := i, who := who } ∈ (s.plan n phase i who).agenda :=
  mem_agendaInsert.2 (.inl rfl)

/-- Records changed one by one, their numbers kept, are found under the same numbers. -/
theorem find?_map_of_key {α : Type} (l : List α) {f : α → α} {p : α → Bool} (h : ∀ x, p (f x) = p x) :
    (l.map f).find? p = (l.find? p).map f := by
  rw [List.find?_map]
  exact congrArg (fun q => (l.find? q).map f) (funext h)

/-! ## Requests -/

theorem State.id_of_req {s : State} {id : Nat} {r : Req} (h : s.req id = some r) : r.id = id := by
  simpa using List.find?_some h

@[simp] theorem State.req_dropReq_same (s : State) (id : Nat) : (s.dropReq id).req id = none := by
  simp [State.req, State.dropReq]

theorem State.req_onReq {s : State} {id : Nat} {r : Req} (h : s.req id = some r) {f : Req → Req} (hf : ∀ q, (f q).id = q.id) :
    (s.onReq id f).req id = some (f r) := by
  have hid := State.id_of_req h
  unfold State.req at h ⊢
  unfold State.onReq
  rw [find?_map_of_key _ (fun x => by split <;> simp [hf]), h]
  simp [hid]

/-! ## Lines of a home slice -/

theorem State.line_eq_of_lines {s t : State} (h : t.lines = s.lines) (n : Nat) : t.line n = s.line n := by
  unfold State.line
  rw [h]

theorem State.number_of_line {s : State} {n : Nat} {x : Line} (h : s.line n = some x) : x.line = n := by
  simpa using List.find?_some h

theorem State.line_putLine_same (s : State) (x : Line) : (s.putLine x).line x.line = some x := by
  unfold State.putLine State.line
  split
  next h =>
    rw [find?_map_of_key _ (fun l => by split <;> simp_all)]
    cases hf : s.lines.find? (fun l => l.line == x.line) with
    | none => exact absurd h (by simpa using hf)
    | some y =>
      have hy : y.line = x.line := by simpa using List.find?_some hf
      simp [hy]
  next h =>
    rw [List.find?_append, List.find?_eq_none.2 (by simpa using h)]
    simp

theorem State.line_putLine_ne (s : State) {x : Line} {n : Nat} (h : n ≠ x.line) : (s.putLine x).line n = s.line n := by
  unfold State.putLine State.line
  split
  · rw [find?_map_of_key _ (fun l => by split <;> simp_all)]
    cases hf : s.lines.find? (fun l => l.line == n) with
    | none => rfl
    | some y =>
      have hy : y.line = n := by simpa using List.find?_some hf
      simp [hy, h]
  · simp [List.find?_append, Ne.symm h]

/-- A line that is made present is the one found under its number. -/
theorem State.line_addLine_same (s : State) (x : Line) : (s.addLine x).line x.line = some x := by
  unfold State.addLine
  dsimp only
  split
  · split <;> exact State.line_putLine_same _ _
  · exact State.line_putLine_same _ _

theorem State.slotWord_eq_of_lines {s t : State} (h : t.lines = s.lines) (a : Nat) : t.slotWord a = s.slotWord a := by
  unfold State.slotWord
  rw [State.line_eq_of_lines h]

theorem State.slotWord_of_line {s : State} {a : Nat} {l : Line} (h : s.line (a / 64) = some l) :
    s.slotWord a = l.words.getD (a / 4 % 16) (0#32, 0x0000#16) := by
  unfold State.slotWord
  rw [h]
  rfl

theorem State.setSlot_of_line {s : State} {va : Nat} {l : Line} (h : s.line (va / 64) = some l) (w : Word) (x : Handle) :
    s.setSlot va w x = s.putLine { l with words := l.words.set (va / 4 % 16) (w, x), dirty := true, used := s.now } := by
  unfold State.setSlot
  rw [h]

/-- The line of a word that has been written. -/
theorem State.line_setSlot_same {s : State} {va : Nat} {l : Line} (h : s.line (va / 64) = some l) (w : Word) (x : Handle) :
    (s.setSlot va w x).line (va / 64) = some { l with words := l.words.set (va / 4 % 16) (w, x), dirty := true, used := s.now } := by
  rw [State.setSlot_of_line h, ← State.number_of_line h]
  exact State.line_putLine_same _ _

theorem State.slotWord_setSlot_same {s : State} {va : Nat} {l : Line} (h : s.line (va / 64) = some l) (h16 : l.words.length = 16)
    (w : Word) (x : Handle) : (s.setSlot va w x).slotWord va = (w, x) := by
  have hlt : va / 4 % 16 < l.words.length := by omega
  rw [State.slotWord_of_line (State.line_setSlot_same h w x)]
  simp [List.getD_eq_getElem?_getD, hlt]

/-- Writing a word leaves every other word of every line. -/
theorem State.slotWord_setSlot_ne (s : State) {va a : Nat} (h : a / 4 ≠ va / 4) (w : Word) (x : Handle) :
    (s.setSlot va w x).slotWord a = s.slotWord a := by
  cases hl : s.line (va / 64) with
  | none => rw [State.setSlot, hl]
  | some l =>
    by_cases ha : a / 64 = va / 64
    · have hne : va / 4 % 16 ≠ a / 4 % 16 := by omega
      have hs : s.line (a / 64) = some l := ha ▸ hl
      have ht := State.line_setSlot_same hl w x
      rw [← ha] at ht
      rw [State.slotWord_of_line ht, State.slotWord_of_line hs]
      simp [List.getD_eq_getElem?_getD, List.getElem?_set_ne hne]
    · rw [State.setSlot_of_line hl]
      unfold State.slotWord
      rw [State.line_putLine_ne _ (by rw [State.number_of_line hl]; exact ha)]

theorem State.setSlot_parts (s : State) (va : Nat) (w : Word) (x : Handle) :
    (s.setSlot va w x).reqs = s.reqs ∧ (s.setSlot va w x).hostOut = s.hostOut := by
  unfold State.setSlot State.putLine
  (repeat' split) <;> exact ⟨rfl, rfl⟩

/-- Watchers that are told of a write change no line, no request and no message to the host. -/
theorem State.touched_parts (s : State) (va : Nat) :
    (s.touched va).lines = s.lines ∧ (s.touched va).reqs = s.reqs ∧ (s.touched va).hostOut = s.hostOut := by
  unfold State.touched State.wakeMem
  refine ⟨foldl_keeps State.lines ?_ _ _, foldl_keeps State.reqs ?_ _ _, foldl_keeps State.hostOut ?_ _ _⟩ <;> exact fun _ _ => rfl

end Sys2Proof.Machine
end

section
/-! SUPPORT. What a home does with a request of a global line, by what the request meets there (R25, R37, R351, R379, R381). -/

namespace Sys2Proof.Machine

section
variable {s : State} {r : Req}

theorem State.homeGlobal_blocked (h : s.blocked r = true) : s.homeGlobal r = s.retry r 1 := by
  simp [State.homeGlobal, h]

section
variable (hb : s.blocked r = false)
include hb

theorem State.homeGlobal_ready {e : Option TEntry} (hg : s.gate (s.reqTenant r) (!r.isLoad) r.va = .ready e) (h0 : r.grp = 0) :
    s.homeGlobal r = s.performHome r e := by
  simp [State.homeGlobal, hb, hg, h0]

theorem State.homeGlobal_walk (hg : s.gate (s.reqTenant r) (!r.isLoad) r.va = .walk) :
    s.homeGlobal r = s.plan 1 0 .translationWalk { a := r.id } := by
  simp [State.homeGlobal, hb, hg]

theorem State.homeGlobal_fill {e : TEntry} (hg : s.gate (s.reqTenant r) (!r.isLoad) r.va = .fill e) :
    s.homeGlobal r = s.plan (1 + s.freeN r.va % 256) 0 .memoryFill { a := r.id } := by
  simp [State.homeGlobal, hb, hg]

theorem State.homeGlobal_wait (hg : s.gate (s.reqTenant r) (!r.isLoad) r.va = .wait) : s.homeGlobal r = s.retry r 16 := by
  simp [State.homeGlobal, hb, hg]

theorem State.homeGlobal_park {n : Nat} (hg : s.gate (s.reqTenant r) (!r.isLoad) r.va = .park n) : s.homeGlobal r = s.parkReq r n := by
  simp [State.homeGlobal, hb, hg]

theorem State.homeGlobal_rights (hg : s.gate (s.reqTenant r) (!r.isLoad) r.va = .rights) : s.homeGlobal r = s.refuse r 0x06 := by
  simp [State.homeGlobal, hb, hg, cRights]

theorem State.homeGlobal_host {e : TEntry} {w : Bool} (hg : s.gate (s.reqTenant r) (!r.isLoad) r.va = .host e) (ho : r.op = .bar w) :
    s.homeGlobal r = s.barFail r := by
  simp [State.homeGlobal, hb, hg, ho]

theorem State.homeGlobal_cow {e : TEntry} (hg : s.gate (s.reqTenant r) (!r.isLoad) r.va = .cow e) (ho : r.op ≠ .pref) :
    s.homeGlobal r = s.parkCow (s.reqPark r 3) e.leaf e.size := by
  simp [State.homeGlobal, hb, hg, ho]

end

/-! ## Requests performed on their line -/

theorem State.performHome_load {e : Option TEntry} {l : Line} (ho : r.op = .load) (hl : s.line (r.va / 64) = some l) :
    s.performHome r e = s.lineRead r e l.words l.corrupt (homePath r.core r.va) := by
  simp [State.performHome, ho, ReqOp.hostOk, hl]

theorem State.performHome_store_refused {e : Option TEntry} (ho : r.op = .store)
    (hs : s.homeStore r.core r.ctx e r.va r.width r.data.toNat r.lbl = none) : s.performHome r e = s.refuse r 0x09 := by
  simp [State.performHome, ho, ReqOp.hostOk, hs, cLabelDrop]

theorem State.performHome_store {e : Option TEntry} {t : State} (ho : r.op = .store)
    (hs : s.homeStore r.core r.ctx e r.va r.width r.data.toNat r.lbl = some t) :
    s.performHome r e = t.writeThrough r e r.data.toNat := by
  simp [State.performHome, ho, ReqOp.hostOk, hs]

theorem State.performHome_part {e : Option TEntry} {t : State} {cop : BitVec 2} (ho : r.op = .part cop)
    (he : ∀ x, e = some x → x.leaf.hl = false) (hs : s.homePartial r cop e = some t) : s.performHome r e = t.dropReq r.id := by
  have hhl : e.any (fun x => x.leaf.hl) = false := by
    cases e with
    | none => rfl
    | some x => exact he x rfl
  simp [State.performHome, ho, hhl, hs]

theorem State.writeThrough_module {e : Option TEntry} (he : ∀ x, e = some x → x.leaf.hl = false) (data : Nat) :
    s.writeThrough r e data = s.dropReq r.id := by
  cases e with
  | none => rfl
  | some x => simp [State.writeThrough, he x rfl]

end

/-! ## A word stored under TRUE -/

theorem State.storeHandle_true (s : State) (k t : Nat) : s.storeHandle k t 0x0000#16 = 0x0000#16 := by
  unfold State.storeHandle
  split
  · rfl
  · split <;> rfl

/-- A word under TRUE is taken whatever its page, and put into its line (R34). -/
theorem State.homeStore_word_true (s : State) (k t : Nat) (e : Option TEntry) (va : Nat) (d : Dword) :
    s.homeStore k t e va 4 d.toNat 0x0000#16 = some ((s.setSlot va (d.setWidth 32) 0x0000#16).touched va) := by
  simp [State.homeStore, State.storeHandle_true, State.accept, hTrue]

end Sys2Proof.Machine
end

section
/-! SUPPORT. The steps of a core between issues (R110, R113, R118, R179, R180, R290, R342 to R345). -/

namespace Sys2Proof.Machine

/-! ## Blocks and register lines that arrive -/

section
variable {s : State} {x : Nat} {xs : List Nat} {p : Plb} (hf : s.fetchers s.subj.a s.subj.b = x :: xs)
  (hp : (s.core s.subj.a).range (s.subj.b * 32) = some p)
include hf hp

/-- A block of a range with X reaches the clusters that wait for it (R118). -/
theorem exec_icacheFill_block {r : Req} (hx : p.x = true) (hr : s.req s.subj.c = some r) :
    exec .icacheFill s = .next ((s.dropReq s.subj.c).deliverBlock s.subj.a
      { block := s.subj.b, words := (List.range 8).map (fun n => (r.words.getD (s.subj.b % 2 * 8 + n) (0#32, 0#16)).1) }) := by
  rw [exec_icacheFill, execIcacheFill]
  simp only [hf, hp, hx, hr, Bool.not_true, Bool.false_eq_true, if_false]
  rfl

/-- A block of a range without X is CODE_PERM for every context that waits for it (R118; entry 60). -/
theorem exec_icacheFill_noX (hx : p.x = false) : exec .icacheFill s = .next ((s.dropReq s.subj.c).fetchFail s.subj.a s.subj.b 0x17) := by
  rw [exec_icacheFill, execIcacheFill]
  simp only [hf, hp, hx, Bool.not_false, if_true]
  rfl

end

/-- A block just put into an instruction cache is the last to leave it (R117). -/
theorem Cluster.mem_fill (c : Cluster) (b : IBlock) : b ∈ (c.fill b).icache := by
  unfold Cluster.fill
  dsimp only
  rw [List.drop_append_of_le_length (by simp)]
  simp

/-- A block delivered to one cluster, where contexts wait for it (R118). -/
def State.deliverTo (s : State) (b : IBlock) (q : Nat) : State :=
  ((List.range 8).flatMap (fun c => (s.fetchers (q * 8 + c) b.block).map (fun t => (q * 8 + c, t)))).foldl
    (fun s p => s.onCtx p.1 p.2 (fun x => { x with wait := .none })) (s.onCluster q (fun c => c.fill b))

theorem State.deliverBlock_eq (s : State) (k : Nat) (b : IBlock) :
    s.deliverBlock k b = (s.fillClusters k b.block).foldl (fun s q => s.deliverTo b q) s := rfl

theorem State.clusters_deliverTo (s : State) (b : IBlock) (q : Nat) :
    (s.deliverTo b q).clusters = (s.onCluster q (fun c => c.fill b)).clusters := by
  unfold State.deliverTo
  refine foldl_keeps State.clusters ?_ _ _
  exact fun _ _ => rfl

/-- A block once in a cluster's instruction cache stays there while it is delivered to clusters, and comes into each of them. -/
theorem State.mem_icache_deliver {b : IBlock} {n : Nat} (l : List Nat) {s : State} (h : n ∈ l ∨ b ∈ (s.cluster n).icache) :
    b ∈ ((l.foldl (fun s q => s.deliverTo b q) s).cluster n).icache := by
  induction l generalizing s with
  | nil => simpa using h
  | cons q r ih =>
    rw [List.foldl_cons]
    have hq : (s.deliverTo b q).cluster n = (s.onCluster q (fun c => c.fill b)).cluster n := by
      unfold State.cluster
      rw [State.clusters_deliverTo]
    refine ih (or_iff_not_imp_left.2 fun hr => ?_)
    rw [hq]
    by_cases hn : n = q
    · rw [hn, State.cluster_onCluster]
      exact Cluster.mem_fill _ _
    · rw [State.cluster_onCluster_ne _ _ hn]
      simpa [hn, hr] using h

/-- The oldest of several lines, the newest of which is `p`, is not `p`. -/
theorem oldest_of_append {α : Type} {l : List α} {p o : α} {rest : List α} {f : α → Bool} (h : (l ++ [p]).filter f = o :: rest)
    (hlen : 1 < ((l ++ [p]).filter f).length) : o ∈ l := by
  rw [List.filter_append] at h hlen
  have hp : ([p].filter f).length ≤ 1 := List.length_filter_le _ _
  cases hl : l.filter f with
  | nil =>
    rw [hl, List.nil_append] at hlen
    omega
  | cons a as =>
    rw [hl, List.cons_append] at h
    obtain ⟨rfl, -⟩ := List.cons.inj h
    exact List.mem_of_mem_filter (hl ▸ List.mem_cons_self)

/-- A register line that has arrived is in the register cache: the line that a full cache gives up is an older one (R110; entry 8). -/
theorem Core.mem_install (c : Core) (t : Nat) (r : RegRef) : (t, r) ∈ (c.install t r).regCache := by
  unfold Core.install
  split
  next h => simpa using h
  next h =>
    have hnew : (t, r) ∉ c.regCache := by simpa using h
    have hcap : 1 ≤ if isVec r then 64 else 128 := by split <;> decide
    dsimp only
    generalize (if isVec r then 64 else 128) = cap at hcap ⊢
    split
    next => simp
    next hfull =>
      split
      next => simp
      next hold =>
        rw [hold, List.length_nil] at hfull
        split
        next o rest hmine =>
          have ho : o ∈ c.regCache := oldest_of_append hmine (by omega)
          have hne : (t, r) ≠ o := fun he => hnew (he ▸ ho)
          exact (List.mem_erase_of_ne hne).2 (by simp)
        next hmine =>
          rw [hmine, List.length_nil] at hfull
          omega

theorem Core.ctx_install (c : Core) (t u : Nat) (r : RegRef) : (c.install t r).ctx u = c.ctx u := by
  unfold Core.install
  dsimp only
  (repeat' split) <;> rfl

/-- While no other line of a context is on its way, a line that arrives lets it go on (R110). -/
theorem exec_registerCacheFill_last {s : State} {c u : Nat} (reg : RegRef)
    (h : ∀ x ∈ s.agenda, ∀ r, x.what ≠ .registerCacheFill c u r) :
    exec (.registerCacheFill c u reg) s = .next ((s.onCore c (fun y => y.install u reg)).onCtx c u
      (fun x => if x.wait = .regMiss then { x with wait := .none } else x)) := by
  rw [exec_registerCacheFill, execRegisterCacheFill]
  refine congrArg Host.Outcome.next (if_neg ?_)
  rw [List.any_eq_true]
  rintro ⟨x, hx, hmore⟩
  split at hmore
  next k t r hwhat =>
    obtain ⟨rfl, rfl⟩ : k = c ∧ t = u := by simpa using hmore
    exact h x hx r hwhat
  next => cases hmore

/-- A register line that arrives is in the core's register cache (R110). -/
theorem exec_registerCacheFill_mem (s : State) (c u : Nat) (reg : RegRef) :
    ∃ v, exec (.registerCacheFill c u reg) s = .next v ∧ (u, reg) ∈ (v.core c).regCache ∧ v.mem = s.mem := by
  rw [exec_registerCacheFill, execRegisterCacheFill]
  refine ⟨_, rfl, ?_, ?_⟩ <;> split
  · rw [State.core_onCore]
    exact Core.mem_install _ _ _
  · rw [State.core_onCtx, Core.setCtx_regCache, State.core_onCore]
    exact Core.mem_install _ _ _
  · rfl
  · rfl

/-! ## Helpers and HALT -/

/-- The contexts of core `k` that sleep in HJOIN for helper `t`, made ready (R179). -/
def State.wakeJoiners (s : State) (k t : Nat) (l : List Nat) : State :=
  l.foldl (fun s u => if (s.ctxAt k u).wait = .hjoin t then s.onCtx k u Ctx.woken else s) s

/-- Each of them is woken once; another context is as it was. -/
theorem State.ctxAt_wakeJoiners (k t : Nat) {u : Nat} (hu : u < 11) (l : List Nat) (s : State) : (s.wakeJoiners k t l).ctxAt k u =
    if (s.ctxAt k u).wait = .hjoin t ∧ u ∈ l then (s.ctxAt k u).woken else s.ctxAt k u := by
  induction l generalizing s with
  | nil => simp [State.wakeJoiners]
  | cons n r ih =>
    unfold State.wakeJoiners at ih ⊢
    rw [List.foldl_cons, ih]
    by_cases hn : u = n
    · subst hn
      by_cases hw : (s.ctxAt k u).wait = .hjoin t
      · simp [hw, State.ctxAt_onCtx _ _ _ hu, Ctx.woken]
      · simp [hw]
    · have hsame : (if (s.ctxAt k n).wait = .hjoin t then s.onCtx k n Ctx.woken else s).ctxAt k u = s.ctxAt k u := by
        split
        · exact State.ctxAt_onCtx_ne _ _ (fun h => hn h.2)
        · rfl
      simp [hsame, hn]

/-- Helper `t` of core `k` stopped: its registers, results in flight and register lines are gone (R178, R179). -/
def State.stopHelper (s : State) (k t : Nat) : State :=
  s.onCore k (fun c => { c.setCtx t (s.ctxAt k t).stopped with
    pend := c.pend.filter (fun p => p.ctx != t), regCache := c.regCache.filter (fun p => p.1 != t) })

theorem State.ctxAt_stopHelper_same (s : State) (k : Nat) {t : Nat} (ht : t < 11) :
    (s.stopHelper k t).ctxAt k t = (s.ctxAt k t).stopped := by
  unfold State.stopHelper
  rw [State.ctxAt, State.core_onCore]
  exact Core.ctx_setCtx _ _ ht

theorem State.ctxAt_stopHelper_ne (s : State) (k : Nat) {t u : Nat} (hu : u ≠ t) : (s.stopHelper k t).ctxAt k u = s.ctxAt k u := by
  unfold State.stopHelper
  rw [State.ctxAt, State.core_onCore]
  exact Core.ctx_setCtx_ne _ _ hu.symm

/-- A helper that is ending, without a busy tag or a pending label, stops; whoever waits for it goes on (R179, R180). -/
theorem exec_helperRetire_stops {s : State} (hl : (s.ctxAt s.subj.a s.subj.b).live = true)
    (he : (s.ctxAt s.subj.a s.subj.b).ending = true) (ht : (s.ctxAt s.subj.a s.subj.b).tags = 0#8)
    (hp : s.pendingLabels s.subj.a s.subj.b = false) : ∃ v, exec .helperRetire s = .next v ∧
      v.cores = ((s.stopHelper s.subj.a s.subj.b).wakeJoiners s.subj.a s.subj.b (List.range 11)).cores ∧ v.mem = s.mem := by
  rw [exec_helperRetire, execHelperRetire]
  simp only [hl, he, ht, hp, Bool.and_self, Bool.not_true, Bool.false_eq_true, if_false, bne_self_eq_false, Bool.or_self]
  refine ⟨_, rfl, ?_, ?_⟩
  · rw [apply_ite State.cores, State.plan_cores, ite_self]
    rfl
  · rw [apply_ite State.mem, State.plan_mem, ite_self]
    simp

/-- A control context that halts is no longer live (R180). -/
theorem State.live_haltCore (s : State) (k : Nat) : ((s.haltCore k).ctxAt k 0).live = false := by
  have hstop : ∀ t : State, ((t.onCtx k 0 (fun x => { x with live := false, wait := .none })).ctxAt k 0).live = false := fun t => by
    rw [State.ctxAt_onCtx _ _ _ (by decide)]
  unfold State.haltCore
  dsimp only
  split
  · exact hstop _
  · refine (congrArg Ctx.live (foldl_keeps (fun t : State => t.ctxAt k 0) ?_ _ _)).trans (hstop _)
    exact fun _ _ => rfl

theorem exec_haltWake_halts {s : State} (hw : (s.ctxAt s.subj.a 0).wait = .halt) (hn : (s.core s.subj.a).noHelper = true)
    (hf : (s.core s.subj.a).frozen = false) : exec .haltWake s = .next (s.haltCore s.subj.a) := by
  simp [exec_haltWake, execHaltWake, hw, hn, hf]

/-! ## Reports and packets -/

theorem exec_faultReport_takes {s : State} {r : Report} {rest : List Report} (hh : (s.core s.subj.a).held = r :: rest)
    (hf : (s.core s.subj.a).frozen = false) (hb : ∀ l, s.launchOf s.subj.a = some l → l.state = .bound) :
    exec .faultReport s = .next ((s.onCore s.subj.a (fun c => { c with held := rest })).takeReport s.subj.a r) := by
  have hstop : (s.launchOf s.subj.a).any (fun l => l.state != .bound) = false := by
    cases hl : s.launchOf s.subj.a with
    | none => rfl
    | some l => simp [hb l hl]
  simp [exec_faultReport, execFaultReport, hh, hf, hstop]

theorem exec_faultReport_frozen {s : State} (hf : (s.core s.subj.a).frozen = true) : exec .faultReport s = .next s := by
  simp [exec_faultReport, execFaultReport, hf]

theorem State.packet_onCtx (s : State) (k t n : Nat) (f : Ctx → Ctx) : ((s.onCtx k t f).core n).packet = (s.core n).packet := by
  by_cases hn : n = k
  · rw [hn, State.core_onCtx, Core.setCtx_packet]
  · rw [State.core_onCtx_ne _ _ _ hn]

/-- A packet queued changes no packet that a core holds (R345). -/
theorem State.packet_queuePacket (s : State) (t n : Nat) (p : Packet) : ((s.queuePacket t p).core n).packet = (s.core n).packet := by
  unfold State.queuePacket
  refine (foldl_keeps (fun u : State => (u.core n).packet) (fun u q => ?_) _ _).trans ?_
  · split
    · exact State.packet_onCtx _ _ _ _ _
    · rfl
  · split <;> rfl

/-- A packet queued stands last in its tenant's queue, and changes nothing else of the tenant (R345). -/
theorem State.tenant_queuePacket (s : State) (t : Nat) (p : Packet) :
    (s.queuePacket t p).tenant t = { s.tenant t with packets := (s.tenant t).packets ++ [p] } := by
  unfold State.queuePacket
  refine (foldl_keeps (fun u : State => u.tenant t) (fun u q => ?_) _ _).trans ?_
  · split <;> rfl
  · rw [State.tenant_onTenant]
    split <;> rfl

theorem State.tenant_queuePackets (t : Nat) (l : List Packet) (s : State) :
    (l.foldl (fun s p => s.queuePacket t p) s).tenant t = { s.tenant t with packets := (s.tenant t).packets ++ l } := by
  induction l generalizing s with
  | nil => simp
  | cons p r ih => simp [ih, State.tenant_queuePacket]

/-- Offered again, as many of the packets kept for a tenant enter its queue as it has room for (R345). -/
theorem State.tenant_reoffer (s : State) (t : Nat) : (s.reoffer t).tenant t = { s.tenant t with
    packets := (s.tenant t).packets ++ (s.tenant t).offers.take (256 - (s.tenant t).packets.length)
    offers := (s.tenant t).offers.drop (256 - (s.tenant t).packets.length) } := by
  unfold State.reoffer
  dsimp only
  split <;> simp [State.tenant_queuePackets]

section
variable {s : State} {k c : Nat} {p : Packet} (hp : (s.core k).packet = some p) (hc : s.supCore (s.tenantOf k) = some c)
  (hsup : ¬(c = k ∧ p.info.toNat / 256 % 16 = 0))
include hp hc hsup

/-- A frozen core's packet is queued while the queue of its tenant has room (R345). -/
theorem State.offer_room (h : (s.tenant (s.tenantOf k)).packets.length < 256) :
    s.offer k = (s.onCore k (fun c => { c with packet := none })).queuePacket (s.tenantOf k) p := by
  have hsup' : ¬(c = k ∧ bits p.info.toNat 11 8 = 0) := hsup
  unfold State.offer
  simp only [hp, hc, h, if_true]
  rw [if_neg (by simpa using hsup')]

/-- Otherwise it is offered again in the next round of 64 cycles (R345; entry 95). -/
theorem State.offer_full (h : 256 ≤ (s.tenant (s.tenantOf k)).packets.length) :
    s.offer k = s.plan (64 - s.now % 64) 0 .faultPacketOffer { a := k } := by
  have hsup' : ¬(c = k ∧ bits p.info.toNat 11 8 = 0) := hsup
  unfold State.offer
  simp only [hp, hc, Nat.not_lt.2 h, if_false]
  rw [if_neg (by simpa using hsup')]

end

theorem exec_faultPacketOffer_core {s : State} (h : s.subj.b = 0) : exec .faultPacketOffer s = .next (s.offer s.subj.a) := by
  simp [exec_faultPacketOffer, execFaultPacketOffer, h]

theorem exec_faultPacketOffer_tenant {s : State} (h : s.subj.b ≠ 0) : exec .faultPacketOffer s = .next (s.reoffer (s.subj.b - 1)) := by
  simp [exec_faultPacketOffer, execFaultPacketOffer, h]

/-! ## An overrun routine -/

/-- What a routine returns to: its link and the ambient label of before (R289, R336). -/
def Ctx.saved (x : Ctx) : Dword × Handle := (x.srLink, x.savAmb)

/-- A context that is woken keeps what its routine returns to. -/
theorem State.saved_woken (s : State) (k t n : Nat) {u : Nat} (hu : u < 11) :
    ((s.onCtx k t Ctx.woken).ctxAt n u).saved = (s.ctxAt n u).saved := by
  by_cases h : n = k ∧ u = t
  · obtain ⟨rfl, rfl⟩ := h
    rw [State.ctxAt_onCtx _ _ _ hu]
    rfl
  · rw [State.ctxAt_onCtx_ne _ _ h]

theorem State.saved_queuePacket (s : State) (t n : Nat) {u : Nat} (hu : u < 11) (p : Packet) :
    ((s.queuePacket t p).ctxAt n u).saved = (s.ctxAt n u).saved := by
  unfold State.queuePacket
  refine (foldl_keeps (fun v : State => (v.ctxAt n u).saved) (fun v q => ?_) _ _).trans ?_
  · split
    · exact State.saved_woken _ _ _ _ hu
    · rfl
  · split <;> rfl

theorem State.saved_inform (s : State) (t n : Nat) {u : Nat} (hu : u < 11) (p : Packet) :
    ((s.inform t p).ctxAt n u).saved = (s.ctxAt n u).saved := by
  unfold State.inform
  split
  · rfl
  · split
    · exact State.saved_queuePacket _ _ _ hu _
    · rfl

theorem State.giveUp_cores (s : State) (r : Recall) : (s.giveUp r).cores = s.cores := by
  unfold State.giveUp
  dsimp only
  (repeat' split) <;> rfl

theorem State.onLaunch_cores (s : State) (n : Nat) (f : Launch → Launch) : (s.onLaunch n f).cores = s.cores := by
  unfold State.onLaunch
  split <;> rfl

/-- A forced recall changes launches and queues, and no core (R338). -/
theorem State.force_cores (s : State) (ln h : Nat) : (s.force ln h).cores = s.cores := by
  unfold State.force
  split
  · rfl
  · split
    · rfl
    · dsimp only
      split <;> exact (foldl_keeps State.cores State.giveUp_cores _ _).trans (State.onLaunch_cores _ _ _)

/-- An overrun routine is left at its link, under the ambient label it was entered with (R290; entry 51). -/
theorem exec_surrenderOverrun_leaves {s : State} (ht : s.subj.b < 11) : ∃ v, exec .surrenderOverrun s = .next v ∧
    (v.ctxAt s.subj.a s.subj.b).sr = false ∧ (v.ctxAt s.subj.a s.subj.b).pc = (s.ctxAt s.subj.a s.subj.b).srLink ∧
    (v.ctxAt s.subj.a s.subj.b).ambient = (s.ctxAt s.subj.a s.subj.b).savAmb := by
  refine ⟨_, exec_surrenderOverrun s, ?_⟩
  rw [State.ctxAt, State.core, State.force_cores, ← State.core, ← State.ctxAt, State.ctxAt_onCtx _ _ _ ht]
  exact ⟨rfl, congrArg Prod.fst (State.saved_inform _ _ _ ht _), congrArg Prod.snd (State.saved_inform _ _ _ ht _)⟩

end Sys2Proof.Machine

open Sys2Proof.Machine

/-- Settles O46: each step of a core by the lemma about it. -/
theorem coreSteps : Obligations.CoreSteps := by
  unfold Obligations.CoreSteps
  intro s k t
  refine ⟨fun x xs p r hf hp hr => ⟨fun hx => exec_icacheFill_block hf hp hx hr, fun hx => exec_icacheFill_noX hf hp hx⟩,
    fun b hb => State.mem_icache_deliver _ (.inl hb), fun c u reg => ?line, fun ht hg => ?gap, fun hd => ?divide,
    fun hl he htag hp ht => ?retire, fun hw hn hf => ?halt,
    fun r rest hh => ⟨fun hf hb => exec_faultReport_takes hh hf hb, fun hf => exec_faultReport_frozen hf⟩,
    fun p c ht hp hc hsup => ?packet, fun ht => ?tenant, fun ht => exec_surrenderOverrun_leaves ht⟩
  case line =>
    obtain ⟨v, hv, hmem, hm⟩ := exec_registerCacheFill_mem s c u reg
    refine ⟨v, hv, hmem, hm, fun hw hlast => ?_⟩
    have hu : u < 11 := by
      by_contra hu
      rw [State.ctxAt, Core.ctx, vget_beyond _ _ (by omega)] at hw
      cases hw
    obtain rfl := Host.Outcome.next.inj (hv.symm.trans (exec_registerCacheFill_last reg hlast))
    rw [State.ctxAt_onCtx _ _ _ hu, State.ctxAt, State.core_onCore, Core.ctx_install]
    exact congrArg Ctx.wait (if_pos hw)
  case gap =>
    refine ⟨_, exec_gapExpiry s, ?_⟩
    rw [State.ctxAt_onCtx _ _ _ ht]
    exact if_pos hg
  case divide =>
    refine ⟨_, exec_divideUnitFree s, ?_⟩
    rw [State.core_onCore]
    exact if_pos hd
  case retire =>
    obtain ⟨v, hv, hcores, hm⟩ := exec_helperRetire_stops hl he htag hp
    have hctx (u : Nat) (hu : u < 11) : v.ctxAt k u = ((s.stopHelper k t).wakeJoiners k t (List.range 11)).ctxAt k u := by
      rw [State.ctxAt, State.core, hcores]
      rfl
    have hself : v.ctxAt k t = (s.ctxAt k t).stopped := by
      rw [hctx t ht, State.ctxAt_wakeJoiners _ _ ht, State.ctxAt_stopHelper_same _ _ ht]
      exact if_neg (fun h => nomatch h.1)
    refine ⟨v, hv, by rw [hself]; rfl, by rw [hself]; rfl, hm, fun u hu hne hw => ?_⟩
    rw [hctx u hu, State.ctxAt_wakeJoiners _ _ hu, State.ctxAt_stopHelper_ne _ _ hne]
    exact if_pos ⟨hw, List.mem_range.2 hu⟩
  case halt => exact ⟨s.haltCore k, exec_haltWake_halts hw hn hf, rfl, State.live_haltCore s k⟩
  case packet =>
    refine ⟨fun h => ⟨_, (exec_faultPacketOffer_core ht).trans (congrArg Host.Outcome.next (State.offer_room hp hc hsup h)), ?_, ?_⟩,
      fun h => (exec_faultPacketOffer_core ht).trans (congrArg Host.Outcome.next (State.offer_full hp hc hsup h))⟩
    · rw [State.packet_queuePacket, State.core_onCore]
    · rw [State.tenant_queuePacket]
      rfl
  case tenant =>
    refine ⟨_, exec_faultPacketOffer_tenant ht, ?_⟩
    rw [State.tenant_reoffer]
    exact ⟨rfl, rfl⟩

end

section
/-! SUPPORT. Uncorrectable errors (R19, R363): what stands in the affected words. -/

namespace Sys2Proof.Machine

/-- A cell that is not zero reads back, whatever the store held. -/
theorem Sparse.get_put_of_ne_zero {n : Nat} (m : Sparse n) (k : Nat) {x : BitVec n} (hx : x ≠ 0#n) : (m.put k x).get k = x := by
  induction m with
  | nil => simp [Sparse.put, Sparse.get, hx]
  | cons p r ih =>
    obtain ⟨j, y⟩ := p
    unfold Sparse.put
    split
    · simp [Sparse.get]
    · split
      · simp [Sparse.get]
      next h1 h2 =>
        simp only [Sparse.get]
        rw [if_neg (by omega), if_neg h1, ih]

/-- A word of a sector in error arrives with its bits and the handle VOID.POISON (R19). -/
theorem State.fillWord_poisoned {s : State} {l : Leaf} {z va : Nat} (h3 : l.phys z va / 2 ^ 40 % 4 ≠ 3)
    (he : l.phys z va / 32 ∈ s.ecc) : (s.fillWord l z va).1 = (BitVec.ofNat 32 (s.ram (l.phys z va) 4), 0xFFFA#16) := by
  have hb : bits (l.phys z va) 41 40 ≠ 3 := h3
  have hp : s.poisoned (l.phys z va) = true := by simpa [State.poisoned] using he
  simp [State.fillWord, State.mcWord, hb, hp]

theorem State.fillLine_getElem? (s : State) (l : Leaf) (z va : Nat) {j : Nat} (hj : j < 16) :
    (s.fillLine l z va).1[j]? = some (s.fillWord l z (va / 64 * 64 + 4 * j)).1 := by
  simp [State.fillLine, hj]

theorem Ctx.sreg_setS_same (x : Ctx) {r : BitVec 5} (hr : r ≠ 0#5) (v : Dword) (h : Handle) : (x.setS r v h).sreg r = (v, h) := by
  simp [Ctx.setS, Ctx.sreg, hr]

theorem Ctx.vreg_onV_same (x : Ctx) (r : BitVec 5) (f : VReg → VReg) : (x.onV r f).vreg r = f (x.vreg r) := by
  simp [Ctx.onV, Ctx.vreg]

/-- A vector register in error keeps its values under VOID.POISON (R363). -/
theorem VReg.lane_poisoned (v : VReg) {i : Nat} (hi : i < 16) :
    ({ v with labels := Vector.replicate 16 hPoison } : VReg).lane i = ((v.lane i).1, 0xFFFA#16) := by
  simp [VReg.lane, vget, hi, hPoison]

theorem VReg.lane_setLane_same (v : VReg) {i : Nat} (hi : i < 16) (w : Word) (h : Handle) : (v.setLane i w h).lane i = (w, h) := by
  simp only [VReg.lane, VReg.setLane, vget_vset_same _ _ _ hi]

/-- An accumulator word in error keeps its value under VOID.POISON (R363). -/
theorem Cluster.acc_poisoned {c : Cluster} (h : c.accv.wf = true) (b i j : Nat) :
    (c.setAcc b i j (c.acc b i j).1 hPoison).acc b i j = ((c.acc b i j).1, 0xFFFA#16) := by
  unfold Cluster.setAcc Cluster.acc
  rw [Sparse.get_put_same _ _ h, Sparse.get_put_of_ne_zero _ _ (by decide)]
  rfl

theorem State.matOp_onMat {s : State} {q n : Nat} {o : MatOp} (h : s.matOp q n = some o) {f : MatOp → MatOp}
    (hf : ∀ x, (f x).id = x.id) : (s.onMat q n f).matOp q n = some (f o) := by
  have hid : o.id = n := by simpa using List.find?_some h
  unfold State.matOp at h ⊢
  unfold State.onMat
  rw [State.cluster_onCluster, find?_map_of_key _ (fun x => by split <;> simp [hf]), h]
  simp [hid]

/-- An operand register of a member in error keeps its value under VOID.POISON, in the operand that the error names (R363). -/
theorem Member.spoil_lane (m : Member) {r i : Nat} (hi : i < 16) (isB : Bool) :
    (isB = false → ∀ w, m.va[r]? = some w → ∃ w', (m.spoil isB r i).va[r]? = some w' ∧ w'.lane i = ((w.lane i).1, 0xFFFA#16)) ∧
    (isB = true → ∀ w, m.vb[r]? = some w → ∃ w', (m.spoil isB r i).vb[r]? = some w' ∧ w'.lane i = ((w.lane i).1, 0xFFFA#16)) := by
  refine ⟨fun h w hw => ?_, fun h w hw => ?_⟩ <;>
    · subst h
      exact ⟨w.setLane i (w.lane i).1 hPoison, by simp [Member.spoil, hw], VReg.lane_setLane_same w hi _ _⟩

/-- A running operation whose member `c` has an operand word in error; one that has not begun, or has its columns, has none (R363). -/
def MatOp.spoil (o : MatOp) (c : Nat) (isB : Bool) (r i : Nat) : MatOp :=
  if !o.begun || o.colsDone then o
  else { o with members := (o.members.zipIdx).map (fun p => if p.2 = c then p.1.spoil isB r i else p.1) }

theorem exec_uncorrectableError_operand (s : State) (q n c : Nat) (isB : Bool) (r i : Nat) :
    exec (.uncorrectableError (.operand q n c isB r i)) s = .next (s.onMat q n (fun o => o.spoil c isB r i)) := rfl

theorem MatOp.spoil_id (o : MatOp) (c : Nat) (isB : Bool) (r i : Nat) : (o.spoil c isB r i).id = o.id := by
  unfold MatOp.spoil
  split <;> rfl

theorem MatOp.spoil_of_idle {o : MatOp} (h : o.begun = false ∨ o.colsDone = true) (c : Nat) (isB : Bool) (r i : Nat) :
    o.spoil c isB r i = o := by
  rcases h with h | h <;> simp [MatOp.spoil, h]

theorem MatOp.spoil_member {o : MatOp} {c : Nat} {m : Member} (hb : o.begun = true) (hd : o.colsDone = false)
    (hm : o.members[c]? = some m) (isB : Bool) (r i : Nat) : (o.spoil c isB r i).members[c]? = some (m.spoil isB r i) := by
  simp [MatOp.spoil, hb, hd, hm]

end Sys2Proof.Machine

open Sys2Proof.Machine

/-- Settles O47: each site of an error by the lemma about the words read there. -/
theorem uncorrectableErrors : Obligations.UncorrectableErrors := by
  unfold Obligations.UncorrectableErrors
  intro s
  refine ⟨fun n => ?sector, fun l z va j hj h3 he => ?line, fun k t r hl hr ht => ?scalar, fun k t r hl ht => ?vector,
    fun k w hw => ?bank, fun q b i j hw => ?acc, fun q n c isB r i o ho => ?operand⟩
  case sector =>
    refine ⟨_, exec_uncorrectableError _ _, ?_, ?_⟩ <;> dsimp only <;> split <;> simp_all
  case line =>
    rw [State.fillLine_getElem? _ _ _ _ hj, State.fillWord_poisoned h3 he]
    rfl
  case scalar =>
    refine ⟨_, exec_uncorrectableError _ _, ?_⟩
    simp only [hl, if_true]
    rw [State.ctxAt_onCtx _ _ _ ht, Ctx.sreg_setS_same _ hr]
    rfl
  case vector =>
    refine ⟨_, exec_uncorrectableError _ _, fun i hi => ?_⟩
    simp only [hl, if_true]
    rw [State.ctxAt_onCtx _ _ _ ht, Ctx.vreg_onV_same, VReg.lane_poisoned _ hi]
  case bank =>
    refine ⟨_, exec_uncorrectableError _ _, ?_, ?_⟩ <;> dsimp only <;> rw [State.core_onCore]
    exact Sparse.get_put_of_ne_zero _ _ (by decide)
  case acc =>
    refine ⟨_, exec_uncorrectableError _ _, ?_⟩
    dsimp only
    rw [State.cluster_onCluster]
    exact Cluster.acc_poisoned hw b i j
  case operand =>
    refine ⟨_, o.spoil c isB r i, exec_uncorrectableError_operand s q n c isB r i, State.matOp_onMat ho (fun x => x.spoil_id c isB r i),
      fun h => MatOp.spoil_of_idle h c isB r i, fun m hb hd hm hi => ⟨m.spoil isB r i, MatOp.spoil_member hb hd hm isB r i, ?_⟩⟩
    exact m.spoil_lane hi isB

end

section
/-! SUPPORT. A home's accesses to global memory (R25, R34, R37). -/

namespace Sys2Proof.Machine

theorem exec_homeAccess_global {s : State} {r : Req} (hr : s.req s.subj.a = some r) (haway : r.away = false)
    (hsys : ∀ n, r.op ≠ .sys n) (hplace : placeOf r.core r.va = .global) : exec .homeAccess s = .next (s.homeGlobal r) := by
  rw [exec_homeAccess, execHomeAccess, hr]
  dsimp only
  split
  next n hn => exact absurd hn (hsys n)
  next => simp [haway, hplace]

/-- A load is answered with its line, as its core's domain reads the handles and its core's own stores cover the words (R35, R44). -/
theorem State.lineRead_load {s : State} {r : Req} (ho : r.op = .load) (e : Option TEntry) (ws : List LWord) (corrupt : Bool) (n : Nat) :
    s.lineRead r e ws corrupt n =
      let w := fun va => (let x := ws.getD (va / 4 % 16) (0#32, 0x0000#16)
        (x.1, s.readHandle (s.domainOf r.core) e x.2))
      (s.onReq r.id (fun q => { q with
        words := ws, data := BitVec.ofNat 64 s.now, cmp := (s.writersOf (r.core / 8) (r.va / 64)).setWidth 64, away := true,
        leaf := e, fwd := s.forward r (w r.va) (w (r.va + 4)), more := if corrupt then [0xFFFA#16] else [] })).plan
          n 0 .nearCacheFill { a := r.id } := by
  simp only [State.lineRead, ho, if_true]
  rfl

/-- A store of a word under TRUE to a page of this module: its line takes the word, and the request is gone (R34, R37). -/
theorem State.homeGlobal_store_word {s : State} {r : Req} {e : Option TEntry} (hb : s.blocked r = false)
    (hg : s.gate (s.reqTenant r) (!r.isLoad) r.va = .ready e) (he : ∀ x, e = some x → x.leaf.hl = false) (ho : r.op = .store)
    (h0 : r.grp = 0) (hw : r.width = 4) (hlbl : r.lbl = 0x0000#16) :
    s.homeGlobal r = ((s.setSlot r.va (r.data.setWidth 32) 0x0000#16).touched r.va).dropReq r.id := by
  have hs := State.homeStore_word_true s r.core r.ctx e r.va r.data
  rw [← hw, ← hlbl] at hs
  rw [State.homeGlobal_ready hb hg h0, State.performHome_store ho hs, State.writeThrough_module he, hlbl]

end Sys2Proof.Machine

open Sys2Proof.Machine

/-- Settles O48: an outcome of the gate each, by the lemma about the home there. -/
theorem homeAccesses : Obligations.HomeAccesses := by
  unfold Obligations.HomeAccesses
  intro s r hr haway hsys hplace g
  have hexec := exec_homeAccess_global hr haway hsys hplace
  refine ⟨fun hb => ?blocked, fun hb => ⟨fun hg => ?walk, fun e hg => ?fill, fun hg => ?wait, fun n hg => ?park, fun hg => ?rights,
    fun e l hg ho h0 hl => ?load, fun e hg ho h0 hs => ?refused, fun e l hg he ho h0 hw hlbl hl h16 => ?store⟩⟩
  case blocked => exact hexec.trans (congrArg _ (State.homeGlobal_blocked hb))
  case walk => exact hexec.trans (congrArg _ (State.homeGlobal_walk hb hg))
  case fill => exact ⟨1 + s.freeN r.va % 256, by omega, hexec.trans (congrArg _ (State.homeGlobal_fill hb hg))⟩
  case wait => exact hexec.trans (congrArg _ (State.homeGlobal_wait hb hg))
  case park => exact hexec.trans (congrArg _ (State.homeGlobal_park hb hg))
  case rights => exact hexec.trans (congrArg _ (State.homeGlobal_rights hb hg))
  case load =>
    refine hexec.trans (congrArg _ ?_)
    rw [State.homeGlobal_ready hb hg h0, State.performHome_load ho hl]
    exact State.lineRead_load ho e l.words l.corrupt _
  case refused =>
    refine hexec.trans (congrArg _ ?_)
    rw [State.homeGlobal_ready hb hg h0]
    exact State.performHome_store_refused ho hs
  case store =>
    have hslot (a : Nat) : (((s.setSlot r.va (r.data.setWidth 32) 0x0000#16).touched r.va).dropReq r.id).slotWord a =
        (s.setSlot r.va (r.data.setWidth 32) 0x0000#16).slotWord a := State.slotWord_eq_of_lines (State.touched_parts _ _).1 a
    refine ⟨_, hexec.trans (congrArg _ (State.homeGlobal_store_word hb hg he ho h0 hw hlbl)), ?_, State.req_dropReq_same _ _,
      fun a ha => ?_, ?_⟩
    · rw [hslot, State.slotWord_setSlot_same hl h16]
    · rw [hslot, State.slotWord_setSlot_ne _ ha]
    · simp

end

section
/-! SUPPORT. Walks, fills, write-backs, partial lines, copies and fault records (R19, R25, R33, R36, R41, R42, R354). -/

namespace Sys2Proof.Machine

section
variable {s : State} {r : Req} (hr : s.req s.subj.a = some r)

/-! ## Translation -/

section
include hr

theorem exec_translationWalk_leaf {l : Leaf} {z : Nat} (hw : s.walk r.va = .leaf l z) :
    exec .translationWalk s = .next ((s.onReq r.id (fun q => { q with
      leaf := some { slice := homeSlice r.va, page := r.va / z, size := z, leaf := l } })).plan (1 + s.freeN r.va % 32) 0 .leafReturn
        { a := r.id }) := by
  simp [exec_translationWalk, execTranslationWalk, hr, hw]

theorem exec_translationWalk_park {n : Nat} (hw : s.walk r.va = .park n) : exec .translationWalk s = .next (s.parkReq r n) := by
  simp [exec_translationWalk, execTranslationWalk, hr, hw]

theorem exec_leafReturn_leaf {e : TEntry} (he : r.leaf = some e) :
    exec .leafReturn s = .next (((s.keepLeaf r.va e.leaf e.size).onReq r.id (fun q => { q with leaf := none })).retry r 0) := by
  simp [exec_leafReturn, execLeafReturn, hr, he]

end

/-- A leaf kept where the slice had none is the one that it finds for the address (R25). -/
theorem State.cachedLeaf_keepLeaf {va : Nat} (h : s.cachedLeaf va = none) (l : Leaf) (z : Nat) :
    (s.keepLeaf va l z).cachedLeaf va = some { slice := homeSlice va, page := va / z, size := z, leaf := l } := by
  have hnone : ∀ t ∈ s.tcache, (t.slice == homeSlice va && t.page == va / t.size) = false := by
    simpa [State.cachedLeaf] using h
  unfold State.keepLeaf State.cachedLeaf
  dsimp only
  rw [List.find?_append, List.find?_eq_none.2]
  · simp
  · intro t ht
    have hmem : t ∈ s.tcache := by
      split at ht
      · split at ht
        · exact List.mem_of_mem_filter (List.mem_of_mem_erase ht)
        · exact List.mem_of_mem_filter ht
      · exact List.mem_of_mem_filter ht
    simp [hnone t hmem]

/-! ## Fills -/

/-- The line of an address as it arrives from memory: clean, with the words that the memory controller delivers (R19, R36). -/
def State.arrived (s : State) (e : TEntry) (va : Nat) : Line :=
  { line := va / 64, words := (s.fillLine e.leaf e.size va).1, dirty := false, used := s.now, corrupt := (s.fillLine e.leaf e.size va).2 }

section
variable {e : TEntry} (hl : s.line (r.va / 64) = none) (hc : s.cachedLeaf r.va = some e)
include hr hl hc

theorem exec_memoryFill_park (h : s.lineOk e.leaf e.size r.va = false) : exec .memoryFill s = .next (s.parkReq r 2) := by
  simp [exec_memoryFill, execMemoryFill, hr, hl, hc, h]

/-- A line that the memory controller can deliver is present after its fill (R19, R36). -/
theorem exec_memoryFill_line (h : s.lineOk e.leaf e.size r.va = true) :
    ∃ v, exec .memoryFill s = .next v ∧ v.line (r.va / 64) = some (s.arrived e r.va) := by
  rw [exec_memoryFill, execMemoryFill, hr]
  dsimp only
  rw [hl, hc]
  simp only [h, Bool.not_true, Bool.false_eq_true, if_false]
  refine ⟨_, rfl, (State.line_eq_of_lines ?_ _).trans (State.line_addLine_same s (s.arrived e r.va))⟩
  dsimp only [State.retry, State.plan_lines]
  split <;> rfl

end

/-! ## Partial lines -/

/-- A partial line that its home takes is combined, and its request is gone (R41). -/
theorem exec_partialCombine_part {cop : BitVec 2} {e : Option TEntry} {v : State} (hr : s.req s.subj.a = some r) (ho : r.op = .part cop)
    (h0 : r.grp = 0) (hb : s.blocked r = false) (hg : s.gate (s.reqTenant r) true r.va = .ready e)
    (he : ∀ x, e = some x → x.leaf.hl = false) (hs : s.homePartial r cop e = some v) :
    exec .partialCombine s = .next (v.dropReq r.id) := by
  have hload : r.isLoad = false := by simp [Req.isLoad, ho]
  rw [exec_partialCombine, execPartialCombine, hr]
  dsimp only
  rw [State.homeGlobal_ready hb (by rw [hload]; exact hg) h0, State.performHome_part ho he hs]

/-! ## Copies -/

/-- A copy installed changes no request and no step to come. -/
theorem State.installCopy_parts (s : State) (q : Nat) (x : Copy) :
    (s.installCopy q x).reqs = s.reqs ∧ (s.installCopy q x).now = s.now := by
  unfold State.installCopy
  dsimp only
  split
  · exact ⟨rfl, rfl⟩
  · split
    · exact ⟨rfl, rfl⟩
    · constructor
      · refine (foldl_keeps State.reqs (fun t i => ?_) _ _).trans rfl
        split <;> rfl
      · refine (foldl_keeps State.now (fun t i => ?_) _ _).trans rfl
        split <;> rfl

/-- A load at its home for its line again: its request waits without words, and stands on the agenda for when it is there (R42, R300). -/
theorem State.refetch_again {s u : State} {r : Req} (hr : s.req r.id = some r) (ho : r.op = .load) (hu : u.reqs = s.reqs)
    (hn : u.now = s.now) : ∃ q x, (u.refetch r).req r.id = some q ∧ q.away = false ∧ q.words = [] ∧ x ∈ (u.refetch r).agenda ∧
      x.what = .homeAccess ∧ x.who.a = r.id ∧ x.key = 4 * (s.now + homePath r.core r.va) := by
  have hreq : u.req r.id = some r := by
    unfold State.req
    rw [hu]
    exact hr
  have hback : (u.refetch r).req r.id = some { r with away := false, words := [], more := [], fwd := [], leaf := none } :=
    State.req_onReq hreq (fun _ => rfl)
  refine ⟨_, _, hback, rfl, rfl, State.mem_plan _ _ _ _ _, ?_, rfl, ?_⟩
  · simp [ho]
  · simp [State.onReq, hn]

section
include hr

theorem exec_nearCacheFill_pref (hv : r.value = none) (ho : r.op = .pref) :
    exec .nearCacheFill s = .next ((s.fillCopy r).dropReq r.id) := by
  simp [exec_nearCacheFill, execNearCacheFill, hr, hv, ho]

section
variable (hv : r.value = none) (ho : r.op = .load)
include hv ho

theorem exec_nearCacheFill_overtaken (h : s.overtaken r = true) : exec .nearCacheFill s = .next ((s.fillCopy r).refetch r) := by
  simp [exec_nearCacheFill, execNearCacheFill, hr, hv, ho, h]

section
variable (h : s.overtaken r = false)
include h

theorem exec_nearCacheFill_copy {q : Copy} (hq : s.nearCopy r.core (r.va / 64) = some q) :
    exec .nearCacheFill s = .next (s.loadFrom r q
      [s.mergeStores r.core r.va r.id (s.copyWord r.core q r.va), s.mergeStores r.core (r.va + 4) r.id (s.copyWord r.core q (r.va + 4))]) := by
  simp [exec_nearCacheFill, execNearCacheFill, hr, hv, ho, h, hq]

theorem exec_nearCacheFill_stale (hq : s.nearCopy r.core (r.va / 64) = none)
    (hs : (s.copyOf r).stamp < ((s.fillCopy r).core r.core).viewStamp) : exec .nearCacheFill s = .next ((s.fillCopy r).refetch r) := by
  simp [exec_nearCacheFill, execNearCacheFill, hr, hv, ho, h, hq, hs]

theorem exec_nearCacheFill_fill (hq : s.nearCopy r.core (r.va / 64) = none)
    (hs : ((s.fillCopy r).core r.core).viewStamp ≤ (s.copyOf r).stamp) (hf : r.fwd = []) :
    exec .nearCacheFill s = .next ((s.fillCopy r).loadFrom r (s.copyOf r)
      [(s.fillCopy r).mergeStores r.core r.va r.id ((s.fillCopy r).copyWord r.core (s.copyOf r) r.va),
       (s.fillCopy r).mergeStores r.core (r.va + 4) r.id ((s.fillCopy r).copyWord r.core (s.copyOf r) (r.va + 4))]) := by
  simp [exec_nearCacheFill, execNearCacheFill, hr, hv, ho, h, hq, Nat.not_lt.2 hs, hf]

end
end
end
end

/-! ## Write-backs -/

theorem State.mcTakes_of_ok {s : State} {pa n : Nat} (h : s.mcOk pa n = true) (h3 : pa / 2 ^ 40 % 4 ≠ 3) : s.mcTakes pa n = true := by
  have hb : bits pa 41 40 ≠ 3 := h3
  simp [State.mcTakes, State.decodePlace, h, hb]

/-- Bytes that no aperture stands before go to memory where they are sent (R29). -/
theorem State.mcPut_mem_of_ne {s : State} {pa : Nat} (h3 : pa / 2 ^ 40 % 4 ≠ 3) (bs : List Byte) :
    (s.mcPut pa bs).mem = Sparse.putBytes s.mem pa bs := by
  have hb : bits pa 41 40 ≠ 3 := h3
  simp [State.mcPut, hb, State.putRam]

section
variable {s : State} {l : Leaf} {z : Nat} {x : Line}
  (hd : l.hl = false → s.mcOk (l.phys z (x.line * 64)) 64 = true ∧ l.phys z (x.line * 64) / 2 ^ 40 % 4 ≠ 3)
  (hh : l.labelled = true → s.mcOk (l.labelAt z (x.line * 64)) 32 = true ∧ l.labelAt z (x.line * 64) / 2 ^ 40 % 4 ≠ 3)
include hd hh

/-- Where the memory controllers find the frame and the label page in memory, they take a line with its handles (R20, R33). -/
theorem State.lineTakes_of_ok : s.lineTakes l z (x.line * 64) = true := by
  unfold State.lineTakes
  rw [Bool.and_eq_true, Bool.or_eq_true, Bool.or_eq_true]
  constructor
  · cases hl : l.hl with
    | true => exact .inl rfl
    | false => exact .inr (State.mcTakes_of_ok (hd hl).1 (hd hl).2)
  · cases hl : l.labelled with
    | false => exact .inl rfl
    | true => exact .inr (State.mcTakes_of_ok (hh hl).1 (hh hl).2)

/-- A line written back: its bytes stand in its frame, its handles in the label page (R33, R36). -/
theorem State.writeLine_mem : (s.writeLine l z x).mem =
    (let m := if l.hl then s.mem else Sparse.putBytes s.mem (l.phys z (x.line * 64)) (x.words.flatMap (fun w => leBytes 4 w.1.toNat))
     if l.labelled then Sparse.putBytes m (l.labelAt z (x.line * 64)) (x.words.flatMap (fun w => leBytes 2 w.2.toNat)) else m) := by
  have hdata : (if l.hl then s else s.mcPut (l.phys z (x.line * 64)) (x.words.flatMap (fun w => leBytes 4 w.1.toNat))).mem =
      if l.hl then s.mem else Sparse.putBytes s.mem (l.phys z (x.line * 64)) (x.words.flatMap (fun w => leBytes 4 w.1.toNat)) := by
    cases hl : l.hl with
    | true => rfl
    | false => exact State.mcPut_mem_of_ne (hd hl).2 _
  unfold State.writeLine
  rw [State.lineTakes_of_ok hd hh]
  cases hl : l.labelled with
  | false => simpa using hdata
  | true => simpa [State.mcPut_mem_of_ne (hh hl).2] using congrArg (fun m => Sparse.putBytes m (l.labelAt z (x.line * 64)) _) hdata

end

/-- Moves of other pages, and those that have not copied yet, take no write-back of a line (R299). -/
theorem State.moves_skip {s : State} {ms : List Move} {l : Leaf} {z va : Nat} {x : Line}
    (h : ∀ m ∈ ms, m.copied = true → m.page / z ≠ va / z) :
    ms.foldl (fun s m => if m.copied && m.page / z == va / z then s.writeLine (m.leaf l) z x else s) s = s := by
  induction ms with
  | nil => rfl
  | cons m ms ih =>
    have hskip : (m.copied && m.page / z == va / z) = false := by
      cases hc : m.copied with
      | false => rfl
      | true => simpa using h m (by simp) hc
    rw [List.foldl_cons, hskip]
    exact ih (fun m' hm' => h m' (by simp [hm']))

/-- A dirty line of a page that no move has copied is written back to its own page alone, and is clean (R36, R198, R299). -/
theorem State.cleanLine_dirty {s : State} {n : Nat} {x : Line} {l : Leaf} {z : Nat} (hx : s.line n = some x) (hdirty : x.dirty = true)
    (ht : s.translate (n * 64) = .leaf l z) (hm : ∀ m ∈ s.moves, m.copied = true → m.page / z ≠ n * 64 / z) :
    s.cleanLine n = (s.writeLine l z x).putLine { x with dirty := false } := by
  simp only [State.cleanLine, hx, hdirty, ht, Bool.not_true, Bool.false_eq_true, if_false, State.moves_skip hm]

/-! ## Fault records -/

section
variable {s : State} {f : FFlight} (hf : s.recording.find? (fun f => f.id == s.subj.a) = some f)
include hf

theorem exec_faultRecordArrival_stale (hg : f.rcd.gen.toNat ≠ (s.tenant f.tenant).gen) :
    exec .faultRecordArrival s = .next { s with recording := s.recording.filter (fun g => g.id != f.id) } := by
  simp [exec_faultRecordArrival, execFaultRecordArrival, hf, hg]

variable (hg : f.rcd.gen.toNat = (s.tenant f.tenant).gen)
include hg

theorem exec_faultRecordArrival_full (h : 2016 ≤ (s.tenant f.tenant).fbTail - (s.tenant f.tenant).fbHead) :
    exec .faultRecordArrival s = .next ({ s with recording := s.recording.filter (fun g => g.id != f.id) }.onTenant f.tenant (fun t =>
      { t with fbOvf := true, recorded := t.recorded.filter (fun p => p != f.page) })) := by
  simp [exec_faultRecordArrival, execFaultRecordArrival, hf, hg, h]

theorem exec_faultRecordArrival_room (h : (s.tenant f.tenant).fbTail - (s.tenant f.tenant).fbHead < 2016) :
    exec .faultRecordArrival s = .next ({ s with recording := s.recording.filter (fun g => g.id != f.id) }.onTenant f.tenant (fun t =>
      { t with ring := t.ring.put (t.fbTail % 2016) f.rcd, fbTail := t.fbTail + 1 })) := by
  simp [exec_faultRecordArrival, execFaultRecordArrival, hf, hg, Nat.not_le.2 h]

end

end Sys2Proof.Machine

open Sys2Proof Sys2Proof.Machine

/-- The steps between a home and memory, by the lemma about each. -/
theorem memorySteps : Claims.MemorySteps := by
  intro s r hr
  have hself : s.req r.id = some r := by rw [State.id_of_req hr, hr]
  refine ⟨fun l z hw => ⟨_, by omega, exec_translationWalk_leaf hr hw⟩, fun n hw => exec_translationWalk_park hr hw,
    fun e he hc => ⟨_, exec_leafReturn_leaf hr he, State.cachedLeaf_keepLeaf hc _ _, by simp [State.onReq]⟩,
    fun e hl hc h => exec_memoryFill_park hr hl hc h, fun e hl hc h => ?fill,
    fun cop e v ho h0 hb hg he hs => exec_partialCombine_part hr ho h0 hb hg he hs, ?near⟩
  case fill =>
    obtain ⟨v, hv, hline⟩ := exec_memoryFill_line hr hl hc h
    exact ⟨v, _, hv, hline, rfl, rfl⟩
  case near =>
    intro c kept again word hv
    have hagain : r.op = .load → again ((s.fillCopy r).refetch r) := fun ho =>
      State.refetch_again hself ho (State.installCopy_parts _ _ _).1 (State.installCopy_parts _ _ _).2
    exact ⟨fun ho => exec_nearCacheFill_pref hr hv ho,
      fun ho h => ⟨_, exec_nearCacheFill_overtaken hr hv ho h, hagain ho⟩,
      fun q ho h hq => exec_nearCacheFill_copy hr hv ho h hq,
      fun ho h hq => ⟨fun hs => ⟨_, exec_nearCacheFill_stale hr hv ho h hq hs, hagain ho⟩,
        fun hs hf => exec_nearCacheFill_fill hr hv ho h hq hs hf⟩⟩

/-- Write-backs and fault records, by the lemma about each. -/
theorem writeBackAndRecords : Claims.WriteBackAndRecords := by
  intro s
  constructor
  · intro va x l z hx hdirty _ ht hm hd hh
    have hn := State.number_of_line hx
    have hva : x.line * 64 = va := congrArg (· * 64) hn
    refine ⟨_, { x with dirty := false }, (exec_writeBack s).trans (congrArg Host.Outcome.next (State.cleanLine_dirty hx hdirty ht hm)), ?_, rfl, rfl, ?_⟩
    · rw [← hn]
      exact State.line_putLine_same _ _
    · rw [← hva] at hd hh ⊢
      rw [State.putLine_mem]
      exact State.writeLine_mem hd hh
  · intro f hf x
    refine ⟨fun hg h => ⟨_, exec_faultRecordArrival_room hf hg h, ?_⟩, fun hg h => ⟨_, exec_faultRecordArrival_full hf hg h, ?_⟩,
      fun hg => ⟨_, exec_faultRecordArrival_stale hf hg, rfl⟩⟩
    · rw [State.tenant_onTenant]
      exact ⟨rfl, NMap.get_put_same _ _ _ _⟩
    · rw [State.tenant_onTenant]
      exact ⟨rfl, rfl⟩

/-- Settles O49: the steps that bring a line, and those that take one back. -/
theorem memoryTransfers : Obligations.MemoryTransfers := ⟨memorySteps, writeBackAndRecords⟩

end

section
/-! SUPPORT. An access of the host through BAR 2 at its home (R34, R314, R379). -/

namespace Sys2Proof.Machine

/-- The state in which an access of the host through BAR 2 has become a request at its home (R379). -/
def State.barSent (s : State) (t : Nat) (write : Bool) (va w : Nat) (d : Dword) : State :=
  { s with nextId := s.nextId + 1, reqs := s.reqs ++ [s.outsideReq t (.bar write) va w d] }

theorem exec_hostBar2Read_sent {s : State} {t off w : Nat} (hr : s.reaches t = true) (hok : s.bar2Ok t off w 8 = true) :
    exec (.hostBar2Read t off w) s = .next ((s.barSent t false ((s.tenant t).wBase.toNat + off) w 0#64).homeGlobal
      (s.outsideReq t (.bar false) ((s.tenant t).wBase.toNat + off) w 0#64)) := by
  simp only [exec_hostBar2Read, execHostBar2Read, hr, hok, Bool.not_true, Bool.false_eq_true, if_false, if_true]
  rfl

theorem exec_hostBar2Write_sent {s : State} {t off w : Nat} {d : Dword} (hr : s.reaches t = true) (hok : s.bar2Ok t off w 9 = true) :
    exec (.hostBar2Write t off w d) s = .next ((s.barSent t true ((s.tenant t).wBase.toNat + off) w d).homeGlobal
      (s.outsideReq t (.bar true) ((s.tenant t).wBase.toNat + off) w d)) := by
  simp only [exec_hostBar2Write, execHostBar2Write, hr, hok, Bool.and_self, if_true]
  rfl

section
variable {s : State} {t va w : Nat} {write : Bool} {d : Dword}

@[simp] theorem State.reqTenant_outsideReq (u : State) : u.reqTenant (s.outsideReq t (.bar write) va w d) = t := by
  simp [State.reqTenant, Req.outside, State.outsideReq, outsideCore]

theorem State.walkFrom_barSent (x node : Nat) (l : List (Nat × Option Nat)) :
    (s.barSent t write va w d).walkFrom x node l = s.walkFrom x node l := by
  induction l generalizing node with
  | nil => rfl
  | cons p r ih =>
    have he (a : Nat) : (s.barSent t write va w d).entryAt a = s.entryAt a := rfl
    have hk (e : Leaf) : (s.barSent t write va w d).leafOk e x = s.leafOk e x := rfl
    have hf (a n : Nat) : (s.barSent t write va w d).frameOk a n = s.frameOk a n := rfl
    simp only [State.walkFrom, he, hk, hf, ih]

theorem State.pageOf_barSent (x : Nat) : (s.barSent t write va w d).pageOf x = s.pageOf x := by
  have hw : (s.barSent t write va w d).walk x = s.walk x := State.walkFrom_barSent _ _ _
  have hc : (s.barSent t write va w d).cachedLeaf x = s.cachedLeaf x := rfl
  simp only [State.pageOf, State.translate, hw, hc]

/-- What the request meets is what an access of its tenant to the address meets. -/
theorem State.gate_barSent : (s.barSent t write va w d).gate
    ((s.barSent t write va w d).reqTenant (s.outsideReq t (.bar write) va w d))
    (!(s.outsideReq t (.bar write) va w d).isLoad) (s.outsideReq t (.bar write) va w d).va = s.gate t write va := by
  have hload : (!(s.outsideReq t (.bar write) va w d).isLoad) = write := by cases write <;> rfl
  have hva : (s.outsideReq t (.bar write) va w d).va = va := rfl
  have hc : (s.barSent t write va w d).cachedLeaf va = s.cachedLeaf va := rfl
  have hl (n : Nat) : (s.barSent t write va w d).line n = s.line n := rfl
  have hd (e : Leaf) : (s.barSent t write va w d).isDecode e = s.isDecode e := rfl
  have hn (n : Nat) : (s.barSent t write va w d).nlink n = s.nlink n := rfl
  have hu (n : Nat) : (s.barSent t write va w d).linkUp n = s.linkUp n := rfl
  rw [State.reqTenant_outsideReq, hload, hva]
  simp only [State.gate, State.pageOf_barSent, hc, hl, hd, hn, hu]

/-- No earlier posted write of its function under way, an access of the host waits for nothing (R314). -/
theorem State.blocked_barSent (hfirst : ∀ q ∈ s.reqs, q.core = 2 ^ 20 + t → q.op = .bar true → s.nextId ≤ q.id) :
    (s.barSent t write va w d).blocked (s.outsideReq t (.bar write) va w d) = false := by
  have hnone : (s.barSent t write va w d).reqs.any
      (fun q => q.core == outsideCore t && q.op == .bar true && decide (q.id < s.nextId)) = false := by
    rw [List.any_eq_false]
    intro q hq
    rw [State.barSent, List.mem_append, List.mem_singleton] at hq
    rcases hq with hq | rfl
    · have hid := hfirst q hq
      simp only [Bool.and_eq_true, beq_iff_eq, decide_eq_true_eq]
      rintro ⟨⟨hcore, hop⟩, hlt⟩
      exact absurd (hid hcore hop) (Nat.not_le.2 hlt)
    · simp [State.outsideReq]
  have hlbl : isPend (s.outsideReq t (.bar write) va w d).lblNow = false := by
    simp [State.outsideReq, Req.lblNow]
    decide
  simp only [State.blocked, hlbl, Bool.false_or]
  exact hnone

/-! ## An access that is not performed -/

theorem State.barFail_read (u : State) (hw : write = false) : (u.barFail (s.outsideReq t (.bar write) va w d)).hostOut =
    u.hostOut ++ [.abort t] := by
  subst hw
  simp [State.barFail, State.toHost, State.outsideReq, State.dropReq, State.reqTenant, Req.outside, outsideCore]

theorem State.barFail_write (u : State) (hw : write = true) :
    (u.barFail (s.outsideReq t (.bar write) va w d)).hostOut = u.hostOut := by
  subst hw
  rfl

theorem State.barFail_lines (u : State) (r : Req) : (u.barFail r).lines = u.lines := by
  unfold State.barFail
  split <;> rfl

/-- At a page of the host the access is not performed (R379). -/
theorem State.performHome_bar_host (u : State) {e : TEntry} (he : e.leaf.hl = true) :
    u.performHome (s.outsideReq t (.bar write) va w d) (some e) = u.barFail (s.outsideReq t (.bar write) va w d) := by
  simp [State.performHome, State.outsideReq, ReqOp.hostOk, he, State.refuse]

section
variable (hfirst : ∀ q ∈ s.reqs, q.core = 2 ^ 20 + t → q.op = .bar true → s.nextId ≤ q.id)
include hfirst

/-- At a page that is the host's, that is not mapped or that the access may not touch, it is not performed (R379; entry 66). -/
theorem State.homeGlobal_bar_fails
    (hg : (∃ e, s.gate t write va = .host e) ∨ (∃ n, s.gate t write va = .park n) ∨ s.gate t write va = .rights) :
    (s.barSent t write va w d).homeGlobal (s.outsideReq t (.bar write) va w d) =
      (s.barSent t write va w d).barFail (s.outsideReq t (.bar write) va w d) := by
  obtain ⟨e, hg⟩ | ⟨n, hg⟩ | hg := hg
  · exact State.homeGlobal_host (State.blocked_barSent hfirst) (State.gate_barSent.trans hg) rfl
  · exact State.homeGlobal_park (State.blocked_barSent hfirst) (State.gate_barSent.trans hg)
  · exact State.homeGlobal_rights (State.blocked_barSent hfirst) (State.gate_barSent.trans hg)

theorem State.homeGlobal_bar_ready {e : Option TEntry} (hg : s.gate t write va = .ready e) :
    (s.barSent t write va w d).homeGlobal (s.outsideReq t (.bar write) va w d) =
      (s.barSent t write va w d).performHome (s.outsideReq t (.bar write) va w d) e :=
  State.homeGlobal_ready (State.blocked_barSent hfirst) (State.gate_barSent.trans hg) rfl

end

section
variable {u : State} {e : TEntry} {l : Line} (he : e.leaf.hl = false) (hl : u.line (va / 64) = some l)
include he hl

/-- At a page of this module it reads its line, or writes it (R36, R379). -/
theorem State.performHome_bar_read : u.performHome (s.outsideReq t (.bar false) va w d) (some e) =
    u.barRead (s.outsideReq t (.bar false) va w d) l.words := by
  simp [State.performHome, State.outsideReq, he, hl]

theorem State.performHome_bar_write : u.performHome (s.outsideReq t (.bar true) va w d) (some e) =
    u.barWrite (s.outsideReq t (.bar true) va w d) := by
  simp [State.performHome, State.outsideReq, he, hl]

end

/-! ## Reads and writes of a line -/

theorem Req.barHere_outsideReq (h : va % 64 + w ≤ 64) : (s.outsideReq t (.bar write) va w d).barHere = w := by
  simp only [Req.barHere, State.outsideReq]
  omega

/-- A read within one line answers with the line's bytes (R379). -/
theorem State.barRead_line (u : State) (ws : List LWord) (h : va % 64 + w ≤ 64) :
    u.barRead (s.outsideReq t (.bar false) va w 0#64) ws =
      (u.dropReq s.nextId).toHost (.data t (BitVec.ofNat 64 (leNat ((List.range w).map (fun i =>
        BitVec.ofNat 8 ((ws.getD ((va + i) / 4 % 16) (0#32, 0x0000#16)).1.toNat / 2 ^ (8 * ((va + i) % 4)) % 256)))))) := by
  have hhere : (s.outsideReq t (.bar false) va w 0#64).barHere = w := Req.barHere_outsideReq h
  unfold State.barRead
  rw [hhere]
  simp [State.barNext, State.outsideReq, State.reqTenant, Req.outside, outsideCore, hTrue]

theorem State.slotWord_base (u : State) (va : Nat) : u.slotWord (va / 4 * 4) = u.slotWord va := by
  have h64 : va / 4 * 4 / 64 = va / 64 := by omega
  have h4 : va / 4 * 4 / 4 = va / 4 := by omega
  simp [State.slotWord, h64, h4]

theorem State.setSlot_base (u : State) (va : Nat) (x : Word) (h : Handle) : u.setSlot (va / 4 * 4) x h = u.setSlot va x h := by
  have h64 : va / 4 * 4 / 64 = va / 64 := by omega
  have h4 : va / 4 * 4 / 4 = va / 4 := by omega
  simp [State.setSlot, h64, h4]

/-- A write of the host within one word merges its bytes into the word; a whole word takes label TRUE, a part leaves the label (R34). -/
theorem State.hostWord_within (u : State) {va w : Nat} (data : Nat) (h : va % 4 + w ≤ 4) :
    u.hostWord va w data (va / 4 * 4) = (u.setSlot va (mergeWord (u.slotWord va).1 (va % 4) w data)
      (if w = 4 then 0x0000#16 else (u.slotWord va).2)).touched (va / 4 * 4) := by
  have hlo : max va (va / 4 * 4) = va := by omega
  have hhi : min (va + w) (va / 4 * 4 + 4) = va + w := by omega
  have hoff : va - va / 4 * 4 = va % 4 := by omega
  simp only [State.hostWord, hlo, hhi, hoff, Nat.add_sub_cancel_left, Nat.sub_self, Nat.mul_zero, Nat.pow_zero, Nat.div_one,
    State.slotWord_base, State.setSlot_base]
  rfl

theorem State.barWrite_word (u : State) (h0 : 0 < w) (h : va % 4 + w ≤ 4) : u.barWrite (s.outsideReq t (.bar true) va w d) =
    ((u.setSlot va (mergeWord (u.slotWord va).1 (va % 4) w d.toNat) (if w = 4 then 0x0000#16 else (u.slotWord va).2)).touched
      (va / 4 * 4)).dropReq s.nextId := by
  have hhere : (s.outsideReq t (.bar true) va w d).barHere = w := Req.barHere_outsideReq (by omega)
  have hone : (va % 4 + w + 3) / 4 = 1 := by omega
  unfold State.barWrite
  rw [hhere]
  simp only [State.outsideReq, hone, List.range_one, List.foldl_cons, List.foldl_nil, Nat.mul_zero, Nat.add_zero,
    State.hostWord_within u d.toNat h]
  simp [State.barNext]

section
variable (hfirst : ∀ q ∈ s.reqs, q.core = 2 ^ 20 + t → q.op = .bar true → s.nextId ≤ q.id) {e : TEntry} {l : Line}
  (he : e.leaf.hl = false) (hl : s.line (va / 64) = some l)
include hfirst he hl

theorem State.homeGlobal_bar_read (hg : s.gate t false va = .ready (some e)) (h : va % 64 + w ≤ 64) :
    (s.barSent t false va w 0#64).homeGlobal (s.outsideReq t (.bar false) va w 0#64) =
      ((s.barSent t false va w 0#64).dropReq s.nextId).toHost (.data t (BitVec.ofNat 64 (leNat ((List.range w).map (fun i =>
        BitVec.ofNat 8 ((l.words.getD ((va + i) / 4 % 16) (0#32, 0x0000#16)).1.toNat / 2 ^ (8 * ((va + i) % 4)) % 256)))))) := by
  have hline : (s.barSent t false va w 0#64).line (va / 64) = some l := hl
  rw [State.homeGlobal_bar_ready hfirst hg, State.performHome_bar_read he hline, State.barRead_line _ _ h]

/-- A write of the host within one word is in its line, which is dirty; no other word and no message to the host has come of it (R36). -/
theorem State.homeGlobal_bar_write (hg : s.gate t true va = .ready (some e)) (h16 : l.words.length = 16) (h0 : 0 < w)
    (h : va % 4 + w ≤ 4) : ∃ v x, (s.barSent t true va w d).homeGlobal (s.outsideReq t (.bar true) va w d) = v ∧ v.mem = s.mem ∧
      v.hostOut = s.hostOut ∧ v.line (va / 64) = some x ∧ x.dirty = true ∧
      v.slotWord va = (mergeWord (s.slotWord va).1 (va % 4) w d.toNat, if w = 4 then 0x0000#16 else (s.slotWord va).2) ∧
      ∀ a, a / 4 ≠ va / 4 → v.slotWord a = s.slotWord a := by
  have hline : (s.barSent t true va w d).line (va / 64) = some l := hl
  have hlines := fun (u : State) => (State.touched_parts u (va / 4 * 4)).1
  refine ⟨_, _, (State.homeGlobal_bar_ready hfirst hg).trans ((State.performHome_bar_write he hline).trans (State.barWrite_word _ h0 h)),
    ?_, ?_, (State.line_eq_of_lines (hlines _) _).trans (State.line_setSlot_same hline _ _), rfl,
    (State.slotWord_eq_of_lines (hlines _) va).trans (State.slotWord_setSlot_same hline h16 _ _), fun a ha =>
      (State.slotWord_eq_of_lines (hlines _) a).trans (State.slotWord_setSlot_ne _ ha _ _)⟩
  · simp [State.barSent]
  · exact (State.touched_parts _ _).2.2.trans (State.setSlot_parts _ _ _ _).2

end

end

end Sys2Proof.Machine

open Sys2Proof Sys2Proof.Machine

/-- The host's accesses through BAR 2: those that arrive and may be made, by what they meet at their home. -/
theorem hostAccesses : Claims.HostAccesses := by
  intro s t off w d hw0 hw8 va sent rd wr aborts discards first
  refine ⟨fun hdown => ⟨?readDown, ?writeDown⟩, fun hup => ⟨fun hno => ?readOutside, fun hno => ?writeOutside⟩,
    fun hup hok hfirst => ?reads, fun hup hok hfirst => ?writes⟩
  case readDown => simp [Claims.Does, exec_hostBar2Read, execHostBar2Read, hdown]
  case writeDown => simp [Claims.Does, exec_hostBar2Write, execHostBar2Write, hdown]
  case readOutside => exact ⟨s.toHost (.abort t), by simp [Claims.Does, exec_hostBar2Read, execHostBar2Read, hup, hno], rfl, rfl, rfl⟩
  case writeOutside => exact ⟨s, by simp [Claims.Does, exec_hostBar2Write, execHostBar2Write, hno], rfl, rfl, rfl⟩
  case reads =>
    intro g
    have hexec : exec (.hostBar2Read t off w) s = .next ((s.barSent t false va w 0#64).homeGlobal rd) := exec_hostBar2Read_sent hup hok
    have habort : (s.barSent t false va w 0#64).homeGlobal rd = (s.barSent t false va w 0#64).barFail rd → aborts := fun h =>
      ⟨_, hexec.trans (congrArg Host.Outcome.next h), State.barFail_read _ rfl, State.barFail_lines _ _, State.barFail_mem _ _⟩
    refine ⟨fun hg => habort (State.homeGlobal_bar_fails hfirst (hg.imp_right .inl)),
      fun hg => hexec.trans (congrArg Host.Outcome.next (State.homeGlobal_walk (State.blocked_barSent hfirst)
        (State.gate_barSent.trans hg))),
      fun e l hg he hl => habort ((State.homeGlobal_bar_ready hfirst hg).trans (State.performHome_bar_host _ he)), fun e l hg he hl h => ?_⟩
    exact ⟨_, hexec.trans (congrArg Host.Outcome.next (State.homeGlobal_bar_read hfirst he hl hg h)), rfl, rfl⟩
  case writes =>
    intro g
    have hexec : exec (.hostBar2Write t off w d) s = .next ((s.barSent t true va w d).homeGlobal wr) := exec_hostBar2Write_sent hup hok
    have hb : (s.barSent t true va w d).blocked wr = false := State.blocked_barSent hfirst
    refine ⟨fun hg => ⟨_, hexec.trans (congrArg Host.Outcome.next (State.homeGlobal_bar_fails hfirst hg)), State.barFail_write _ rfl,
        State.barFail_lines _ _, State.barFail_mem _ _⟩,
      fun hg => hexec.trans (congrArg Host.Outcome.next (State.homeGlobal_walk hb (State.gate_barSent.trans hg))),
      fun hg => hexec.trans (congrArg Host.Outcome.next (State.homeGlobal_wait hb (State.gate_barSent.trans hg))),
      fun e hg => hexec.trans (congrArg Host.Outcome.next (State.homeGlobal_cow hb (State.gate_barSent.trans hg) nofun)),
      fun e l hg he hl h16 hword => ?_⟩
    obtain ⟨v, x, hv, hrest⟩ := State.homeGlobal_bar_write hfirst he hl hg h16 hw0 hword
    exact ⟨v, x, hexec.trans (congrArg Host.Outcome.next hv), hrest⟩

end
section
/-! SUPPORT. What the host does to windows, queues, the fault buffer and tenants (R27, R321, R352, R356, R373, R376, R380, R382). -/

namespace Sys2Proof.Machine

/-! ## The physical window and TFLUSH -/

theorem exec_physicalWindow_write {s : State} {off w : Nat} {d : Dword} (h : s.windowOk s.pwBase.toNat = true) (hw : off + w ≤ 65536) :
    exec (.physicalWindowAccess true off w d) s = .next (s.putRam (s.pwBase.toNat + off) (leBytes w d.toNat)) := by
  simp [exec_physicalWindowAccess, execPhysicalWindowAccess, h, hw]

theorem exec_physicalWindow_read {s : State} {off w : Nat} {d : Dword} (h : s.windowOk s.pwBase.toNat = true) (hw : off + w ≤ 65536) :
    exec (.physicalWindowAccess false off w d) s =
      .next (s.toHost (.window (BitVec.ofNat 64 (leNat (Sparse.bytes s.mem (s.pwBase.toNat + off) w))))) := by
  simp [exec_physicalWindowAccess, execPhysicalWindowAccess, h, hw, State.ram]

theorem exec_physicalWindow_closed {s : State} {off w : Nat} {d : Dword} (h : s.windowOk s.pwBase.toNat = false) (write : Bool) :
    exec (.physicalWindowAccess write off w d) s = .next (if write then s else s.toHost (.window 0#64)) := by
  simp [exec_physicalWindowAccess, execPhysicalWindowAccess, h]

/-- An invalidation that is done leaves no leaf of the page at its home die, and BUSY while another is under way (R27, R376). -/
theorem exec_tflushWrite_done {s : State} (va : Dword) (h : s.subj.a = 1) : ∃ v, exec (.tflushWrite va) s = .next v ∧
    (v.tflushBusy = true ↔ ∃ x ∈ s.agenda, (∃ u, x.what = .tflushWrite u) ∧ x.who.a = 1) ∧
    (∀ e ∈ v.tcache, ¬(e.page = va.toNat / e.size ∧ e.slice / 128 = homeDie va.toNat)) := by
  refine ⟨_, by rw [exec_tflushWrite, execTflushWrite, if_pos h], ?_, fun e he => ?_⟩
  · rw [List.any_eq_true]
    refine exists_congr fun x => and_congr_right fun _ => ⟨fun hx => ?_, fun hx => ?_⟩
    · split at hx
      next u hu => exact ⟨⟨u, hu⟩, by simpa using hx⟩
      next => cases hx
    · obtain ⟨⟨u, hu⟩, ha⟩ := hx
      rw [hu]
      simpa using ha
  · have hcov : e.covers va.toNat = false := by simpa using (List.mem_filter.1 he).2
    simpa [TEntry.covers] using hcov

theorem exec_tflushWrite_begun {s : State} (va : Dword) (h : s.subj.a ≠ 1) : exec (.tflushWrite va) s =
    .next ({ s with tflushBusy := true }.plan (1 + s.freeN 0 % 64) 0 (.tflushWrite va) { a := 1 }) := by
  rw [exec_tflushWrite, execTflushWrite, if_neg h]

/-! ## Queues -/

theorem Tenant.queue_onQueue (t : Tenant) (q : Nat) (f : Queue → Queue) : (t.onQueue q f).queue q = f (t.queue q) :=
  NMap.get_put_same _ _ _ _

theorem State.queue_onQueue (s : State) (t q : Nat) (f : Queue → Queue) :
    ((s.onTenant t (fun x => x.onQueue q f)).tenant t).queue q = f ((s.tenant t).queue q) := by
  rw [State.tenant_onTenant, Tenant.queue_onQueue]

theorem Queue.off_disabled (q : Queue) : q.off.cfg.getLsbD 63 = false := by
  simp [Queue.off]

/-- A queue as its doorbell leaves it: the tail written, and turned off where that is out of bounds (R321). -/
def Queue.rung (q : Queue) (x : Dword) : Queue :=
  let q1 := { q with tail := x }
  if q1.broken then q1.off else q1

theorem Queue.rung_tail (q : Queue) (x : Dword) : (q.rung x).tail = x := by
  unfold Queue.rung
  dsimp only
  split <;> rfl

theorem Queue.rung_out_of_bounds (q : Queue) {x : Dword}
    (h : x.toNat < q.head.toNat ∨ 2 ^ (q.cfg.toNat % 32) < x.toNat - q.head.toNat) : (q.rung x).cfg.getLsbD 63 = false := by
  have hbroken : ({ q with tail := x } : Queue).broken = true := by
    simpa [Queue.broken, bits] using h
  unfold Queue.rung
  dsimp only
  rw [if_pos hbroken]
  exact Queue.off_disabled _

/-- CFG keeps three bits at its top and three in the middle as they were written, below them LOG2N of at most 16 (R321). -/
theorem cfgWrite_toNat (x : Dword) : (cfgWrite x).toNat = (x.toNat &&& 0xC000000000000700) ||| min 16 (x.toNat % 32) := by
  have hb : bits x.toNat 4 0 = x.toNat % 32 := by simp [bits]
  have hlt : min 16 (x.toNat % 32) < 2 ^ 64 := by omega
  simp only [cfgWrite, BitVec.toNat_or, BitVec.toNat_and, BitVec.toNat_ofNat, hb, Nat.mod_eq_of_lt hlt]

theorem cfgWrite_enable (x : Dword) : (cfgWrite x).getLsbD 63 = x.getLsbD 63 := by
  have hlt : min 16 (x.toNat % 32) < 2 ^ 63 := by omega
  have hbit : Nat.testBit 0xC000000000000700 63 = true := by decide
  rw [BitVec.getLsbD, cfgWrite_toNat, Nat.testBit_or, Nat.testBit_and, Nat.testBit_lt_two_pow hlt, hbit, Bool.and_true, Bool.or_false]
  rfl

theorem cfgWrite_log2n (x : Dword) : (cfgWrite x).toNat % 32 = min 16 (x.toNat % 32) := by
  have hlt : min 16 (x.toNat % 32) < 2 ^ 5 := by omega
  change (cfgWrite x).toNat % 2 ^ 5 = _
  rw [cfgWrite_toNat, Nat.or_mod_two_pow, Nat.and_mod_two_pow, Nat.mod_eq_of_lt hlt]
  simp

theorem cfgWrite_priority (x : Dword) : (cfgWrite x).toNat / 2 ^ 8 % 8 = x.toNat / 2 ^ 8 % 8 := by
  have hz : min 16 (x.toNat % 32) / 2 ^ 8 = 0 := Nat.div_eq_of_lt (by omega)
  have hall : x.toNat / 2 ^ 8 % 2 ^ 3 &&& 2 ^ 3 - 1 = x.toNat / 2 ^ 8 % 2 ^ 3 := by
    rw [Nat.and_two_pow_sub_one_eq_mod, Nat.mod_mod]
  change (cfgWrite x).toNat / 2 ^ 8 % 2 ^ 3 = _
  rw [cfgWrite_toNat, Nat.or_div_two_pow, hz, Nat.or_zero, Nat.and_div_two_pow, Nat.and_mod_two_pow]
  exact hall

theorem exec_queueDoorbell_rung {s : State} (t q : Nat) (x : Dword) (h : s.subj.a ≠ 0 ∨ s.reaches t = true) :
    exec (.queueDoorbell t q x) s = .next (s.onTenant t (fun y => y.onQueue q (fun z => z.rung x))) := by
  rw [exec_queueDoorbell, execQueueDoorbell, if_neg (by simpa [imp_iff_not_or] using h)]
  rfl

theorem exec_queueCfgWrite_written {s : State} (t q : Nat) (x : Dword) (h : s.subj.a ≠ 0 ∨ s.reaches t = true) :
    exec (.queueCfgWrite t q x) s = .next (s.onTenant t (fun y => y.onQueue q (fun z => { z with cfg := cfgWrite x }))) := by
  rw [exec_queueCfgWrite, execQueueCfgWrite, if_neg (by simpa [imp_iff_not_or] using h)]

/-! ## The state of a link -/

theorem State.onLaunch_pcie (s : State) (n : Nat) (f : Launch → Launch) : (s.onLaunch n f).pcie = s.pcie := by
  unfold State.onLaunch
  split <;> rfl

theorem State.weirAdd_pcie (s : State) (ln n : Nat) (v : BitVec 40) : (s.weirAdd ln n v).pcie = s.pcie := by
  have hcheck (u : State) : (u.weirCheck ln n).pcie = u.pcie := by
    unfold State.weirCheck
    (repeat' split) <;> simp [State.onLaunch_pcie]
  exact (hcheck _).trans (State.onLaunch_pcie _ _ _)

theorem State.stopJob_pcie (s : State) (j : Job) : (s.stopJob j).1.pcie = s.pcie := by
  unfold State.stopJob State.jobBytes
  (repeat' split) <;> simp [State.weirAdd_pcie, State.onLaunch_pcie]

theorem State.resumeJob_pcie (s : State) (j : Job) (n : Nat) : (s.resumeJob j n).pcie = s.pcie := by
  unfold State.resumeJob
  split <;> rfl

/-- Moves that stop with a link change no link's state (R373). -/
theorem State.stopHostMoves_pcie (s : State) (link : Nat) : (s.stopHostMoves link).pcie = s.pcie := by
  unfold State.stopHostMoves
  refine foldl_keeps State.pcie (fun u j => ?_) _ _
  exact (State.resumeJob_pcie _ _ _).trans (State.stopJob_pcie u j)

theorem getLsbD_setBit (x : BitVec 4) {i : Nat} (h : i < 4) : (x ||| (1#4 <<< i)).getLsbD i = true := by
  simp [h]

theorem getLsbD_clearBit (x : BitVec 4) {i : Nat} (h : i < 4) : (x &&& ~~~(1#4 <<< i)).getLsbD i = false := by
  simp [h]

theorem exec_pcieLinkStateChange_bit (s : State) {i : Nat} (up : Bool) (hi : i < 4) : ∃ v,
    exec (.pcieLinkStateChange i up) s = .next v ∧ v.pcie.getLsbD i = (if s.linksL0.getLsbD i then up else s.pcie.getLsbD i) := by
  refine ⟨_, by rw [exec_pcieLinkStateChange, execPcieLinkStateChange], ?_⟩
  cases hl : s.linksL0.getLsbD i with
  | false => simp
  | true =>
    cases up with
    | true => simpa using getLsbD_setBit s.pcie hi
    | false =>
      simp only [Bool.not_true, Bool.false_eq_true, if_false, if_true, State.stopHostMoves_pcie]
      exact getLsbD_clearBit s.pcie hi

/-! ## Failure answers -/

theorem ansPage_bits (x : Nat) : bits x 55 16 = x / 2 ^ 16 % 2 ^ 40 := rfl

theorem exec_failureAnswer_stale {s : State} {t : Nat} {g : Dword} {b : Bool} (h : b = false ∨ s.reaches t = true)
    (hg : g.toNat ≠ (s.tenant t).gen) : exec (.failureAnswer t g b) s =
      .next (if b then s.unstage t ((s.tenant t).ansPage.toNat / 2 ^ 16 % 2 ^ 40) else s) := by
  have hgo : (b && !s.reaches t) = false := by rcases h with h | h <;> simp [h]
  simp [exec_failureAnswer, execFailureAnswer, hgo, hg, ansPage_bits]

theorem exec_failureAnswer_current {s : State} {t : Nat} {g : Dword} {b : Bool} (h : b = false ∨ s.reaches t = true)
    (hg : g.toNat = (s.tenant t).gen) : exec (.failureAnswer t g b) s =
      .next ((s.unstage t ((s.tenant t).ansPage.toNat / 2 ^ 16 % 2 ^ 40)).unpark
        (fun p => p.tenant == t && (s.tenant t).ansPage.toNat / 2 ^ 16 % 2 ^ 40 * 65536 / p.size == p.va / p.size)
        (fun s r => if r.op = .sys 5 then s.refuseMove r else s.refuse r 0x08)
        (fun u j => u.jobHalt j (.bad 0x08 ((s.tenant t).ansPage.toNat / 2 ^ 16 % 2 ^ 40 * 65536)))) := by
  have hgo : (b && !s.reaches t) = false := by rcases h with h | h <;> simp [h]
  simp [exec_failureAnswer, execFailureAnswer, hgo, hg, ansPage_bits, cPageFail]

/-! ## Tenant resets -/

theorem exec_tenantReset_begun {s : State} (h0 : s.subj.b = 0) (h : (s.tenant s.subj.a).resetBusy = false) :
    exec .tenantReset s = .next ((s.onTenant s.subj.a (fun x => { x with
      resetBusy := true, queues := x.queues.map (fun (q : Nat × Queue) => (q.1, q.2.off)) })).plan
        (1 + s.freeN 0 % 64) 0 .tenantReset { a := s.subj.a, b := 1 }) := by
  simp [exec_tenantReset, execTenantReset, h0, h]

theorem exec_tenantReset_busy {s : State} (h0 : s.subj.b = 0) (h : (s.tenant s.subj.a).resetBusy = true) :
    exec .tenantReset s = .next s := by
  simp [exec_tenantReset, execTenantReset, h0, h]

theorem State.tenant_msi (s : State) (a n t : Nat) : (s.msi a n).tenant t = s.tenant t := rfl

theorem State.tenant_foldl_msi (s : State) (l : List Nat) (n t : Nat) : (l.foldl (fun s f => s.msi f n) s).tenant t = s.tenant t := by
  refine foldl_keeps (fun u : State => u.tenant t) ?_ l s
  exact fun _ _ => rfl

/-- A reset at its end: the tenant is not busy, holds no packet and no notification, and has fired vector 3 (R372, R380; entry 71). -/
theorem exec_tenantReset_ended {s : State} (h0 : s.subj.b ≠ 0) : ∃ v, exec .tenantReset s = .next v ∧
    (v.tenant s.subj.a).resetBusy = false ∧ (v.tenant s.subj.a).packets = [] ∧ (v.tenant s.subj.a).nqHead = (v.tenant s.subj.a).nqTail ∧
    (s.subj.a, 3) ∈ v.msix := by
  rw [exec_tenantReset, execTenantReset]
  simp only [h0, if_false]
  refine ⟨_, rfl, ?_⟩
  simp only [State.tenant_foldl_msi, State.tenant_msi, State.tenant_onTenant, Tenant.advance, true_and]
  simp [physicalFunctions, State.msi]

end Sys2Proof.Machine

open Sys2Proof Sys2Proof.Machine

/-- The host's steps on windows, queues, the fault buffer and tenants, by the lemma about each. -/
theorem hostSteps : Claims.HostSteps := by
  intro s
  refine ⟨fun off w d => ⟨fun h hw => ?window, fun h => ?closed⟩, fun va => ⟨fun h => exec_tflushWrite_done va h, fun h => ?flushing⟩,
    fun t q x => ⟨fun ha hr => ?down, fun h => ⟨?doorbell, ?config⟩⟩, fun t x => ?head, ?flush,
    fun t g b => ⟨fun hb hr => ?unanswered, fun h => ⟨fun hg => exec_failureAnswer_stale h hg, fun hg => exec_failureAnswer_current h hg⟩⟩,
    fun t x => ⟨fun hr => ?nqDown, fun hr => ?nqHead⟩, fun n x => ⟨fun h => ?bound, fun h => ?free⟩,
    fun i up hi => exec_pcieLinkStateChange_bit s up hi, fun h0 h => ?begun, fun h0 h => exec_tenantReset_busy h0 h,
    fun h0 => exec_tenantReset_ended h0⟩
  case window => exact ⟨⟨_, exec_physicalWindow_write h hw, rfl, rfl⟩, exec_physicalWindow_read h hw⟩
  case closed => exact ⟨exec_physicalWindow_closed h true, exec_physicalWindow_closed h false⟩
  case flushing => exact ⟨_, _, exec_tflushWrite_begun va h, rfl, rfl, State.mem_plan _ _ _ _ _, rfl, rfl⟩
  case down =>
    constructor
    · simp [Claims.Does, exec_queueDoorbell, execQueueDoorbell, ha, hr]
    · simp [Claims.Does, exec_queueCfgWrite, execQueueCfgWrite, ha, hr]
  case doorbell =>
    refine ⟨_, exec_queueDoorbell_rung t q x h, ?_, fun hx => ?_⟩ <;> rw [State.queue_onQueue]
    · exact Queue.rung_tail _ _
    · exact Queue.rung_out_of_bounds _ hx
  case config =>
    refine ⟨_, exec_queueCfgWrite_written t q x h, ?_⟩
    rw [State.queue_onQueue]
    exact ⟨cfgWrite_enable x, cfgWrite_log2n x, cfgWrite_priority x⟩
  case head =>
    refine ⟨_, exec_faultBufferHeadWrite t x s, ?_⟩
    rw [State.tenant_onTenant]
    exact apply_ite Tenant.fbHead _ _ _
  case flush =>
    refine ⟨_, exec_faultBufferFlush s, ?_⟩
    rw [State.tenant_onTenant]
    exact ⟨rfl, rfl⟩
  case unanswered => simp [Claims.Does, exec_failureAnswer, execFailureAnswer, hb, hr]
  case nqDown => simp [Claims.Does, exec_nqheadWrite, execNqheadWrite, hr]
  case nqHead =>
    refine ⟨s.onTenant t (fun y => if x.toNat ≤ y.nqTail then { y with nqHead := x.toNat } else y), ?_, ?_⟩
    · simp [Claims.Does, exec_nqheadWrite, execNqheadWrite, hr]
    · rw [State.tenant_onTenant]
      exact apply_ite Tenant.nqHead _ _ _
  case bound =>
    have hany : s.launches.any (fun p => p.2.domain == some n) = true := by simpa using h
    rw [Claims.Does, exec_directoryWrite, execDirectoryWrite, if_pos hany]
  case free =>
    have hany : ¬ s.launches.any (fun p => p.2.domain == some n) = true := by simpa using h
    refine ⟨_, by rw [Claims.Does, exec_directoryWrite, execDirectoryWrite, if_neg hany], NMap.get_put_same _ _ _ _⟩
  case begun =>
    refine ⟨_, exec_tenantReset_begun h0 h, ?_⟩
    rw [State.tenant_plan, State.tenant_onTenant]
    refine ⟨rfl, fun p hp => ?_⟩
    obtain ⟨q, -, rfl⟩ := List.mem_map.1 hp
    exact Queue.off_disabled q.2

end
section
/-! SUPPORT. The host's registers: the words at each offset of the BARs, and what a write leaves in them (R321, R352, R374 to R377, R382, R384,
R385, R389, R392, R395). -/

namespace Sys2Proof.Machine

/-! ## Offsets that no table lists -/

theorem not_within_cons {off : Nat} {r : Nat × Nat} {l : List (Nat × Nat)} (h : ¬within off (r :: l)) :
    ¬(r.1 ≤ off ∧ off < r.1 + r.2) ∧ ¬within off l :=
  ⟨fun hr => h ⟨r, List.mem_cons_self, hr⟩, fun ⟨x, hx, hoff⟩ => h ⟨x, List.mem_cons_of_mem _ hx, hoff⟩⟩

section
variable (s : State) (x : Dword) {off : Nat}

/-- The physical function's BAR 0 reads as zero where no table lists a word, and a write there takes no step (R375 to R377, R389). -/
theorem physical_unlisted (h : ¬within off
    [(0, 0x1000), (0x10000, 0x2000), (0x20000, 0x800), (0x30000, 768), (0x40000, 512), (0x80000, 16), (0x90000, 0x10000)]) :
    s.physRead off = 0#64 ∧ physWrite off x = [] := by
  obtain ⟨h0, h⟩ := not_within_cons h
  obtain ⟨h1, h⟩ := not_within_cons h
  obtain ⟨h2, h⟩ := not_within_cons h
  obtain ⟨h3, h⟩ := not_within_cons h
  obtain ⟨h4, h⟩ := not_within_cons h
  obtain ⟨h5, h⟩ := not_within_cons h
  obtain ⟨h6, -⟩ := not_within_cons h
  dsimp only at h0 h1 h2 h3 h4 h5 h6
  constructor
  · unfold State.physRead
    rw [if_neg (by omega), if_neg (by omega), if_neg (by omega), if_neg (by omega), if_neg (by omega), if_neg (by omega),
      if_neg (by omega), if_neg (by omega)]
  · unfold physWrite
    rw [if_neg (by omega), if_neg (by omega), if_neg (by omega), if_neg (by omega), if_neg (by omega), if_neg (by omega),
      if_neg (by omega)]

/-- So a tenant's virtual function (R374, R379). -/
theorem virtual_unlisted (t : Nat) (h : ¬within off [(0, 0x2000), (0x2000, 16), (0x2100, 40), (0x2200, 256), (0x2300, 16)]) :
    s.virtRead t off = 0#64 ∧ virtWrite t off x = [] := by
  obtain ⟨h0, h⟩ := not_within_cons h
  obtain ⟨h1, h⟩ := not_within_cons h
  obtain ⟨h2, h⟩ := not_within_cons h
  obtain ⟨h3, h⟩ := not_within_cons h
  obtain ⟨h4, -⟩ := not_within_cons h
  dsimp only at h0 h1 h2 h3 h4
  constructor
  · unfold State.virtRead
    dsimp only
    rw [if_neg (by omega), if_neg (by omega), if_neg (by omega)]
    split
    case h_9 => rfl
    all_goals omega
  · unfold virtWrite
    rw [if_neg (by omega), if_neg (by omega)]
    split
    case h_9 => rfl
    all_goals omega

/-- So the controller's BAR (R392, R395). -/
theorem management_unlisted (h : ¬within off [(0, 24), (0x100, 768), (0x800, 0x800)]) : s.mgmtRead off = 0#64 ∧ mgmtWrite off x = [] := by
  obtain ⟨h0, h⟩ := not_within_cons h
  obtain ⟨h1, h⟩ := not_within_cons h
  obtain ⟨h2, -⟩ := not_within_cons h
  dsimp only at h0 h1 h2
  constructor
  · unfold State.mgmtRead
    rw [if_neg (by omega), if_neg (by omega), if_neg (by omega), if_neg (by omega), if_neg (by omega)]
  · unfold mgmtWrite
    rw [if_neg (by omega), if_neg (by omega), if_neg (by omega)]

end

/-! ## Words of the tables -/

section
variable (s : State) (x : Dword)

theorem directory_word {n : Nat} (h : n < 1024) : s.physRead (0x10000 + 8 * n) = BitVec.ofNat 64 (s.dirEntry n) ∧
    physWrite (0x10000 + 8 * n) x = [(.directoryWrite n x, {})] := by
  have hn : (0x10000 + 8 * n - 0x10000) / 8 = n := by omega
  constructor
  · unfold State.physRead
    rw [if_neg (by omega), if_pos (by omega), hn]
  · unfold physWrite
    rw [if_pos (by omega), hn]

/-- A word of tenant `t`'s entry of the tenant table (R377). -/
theorem physRead_tenant {t o : Nat} (ht : t < 32) (ho : o < 64) : s.physRead (0x20000 + 64 * t + o) = (s.tenant t).tableWord o := by
  have hn : (0x20000 + 64 * t + o - 0x20000) / 64 = t := by omega
  have hm : (0x20000 + 64 * t + o) % 64 = o := by omega
  unfold State.physRead
  rw [if_neg (by omega), if_neg (by omega), if_pos (by omega), hn, hm]

theorem physWrite_tenant {t : Nat} (ht : t < 32) : physWrite (0x20000 + 64 * t) x = [(.registerWrite (.wBase t) x, {})] ∧
    physWrite (0x20000 + 64 * t + 0x30) x = [] := by
  have hn : (0x20000 + 64 * t - 0x20000) / 64 = t := by omega
  have hm : (0x20000 + 64 * t) % 64 = 0 := by omega
  have hm' : (0x20000 + 64 * t + 0x30) % 64 = 0x30 := by omega
  constructor
  · unfold physWrite
    rw [if_neg (by omega), if_pos (by omega)]
    simp only [hm, hn]
  · unfold physWrite
    rw [if_neg (by omega), if_pos (by omega)]
    simp only [hm']

/-- A word of link `n`'s entry of the link table (R389). -/
theorem physRead_link {n o : Nat} (hn : n < 16) (ho : o < 32) : s.physRead (0x40000 + 32 * n + o) = (s.nlink n).tableWord o := by
  have hd : (0x40000 + 32 * n + o - 0x40000) / 32 = n := by omega
  have hm : (0x40000 + 32 * n + o) % 32 = o := by omega
  unfold State.physRead
  rw [if_neg (by omega), if_neg (by omega), if_neg (by omega), if_neg (by omega), if_pos (by omega), hd, hm]

theorem physWrite_linkState {n : Nat} (hn : n < 16) : physWrite (0x40000 + 32 * n + 16) x = [] := by
  have hm : (0x40000 + 32 * n + 16) % 32 = 16 := by omega
  unfold physWrite
  rw [if_neg (by omega), if_neg (by omega), if_neg (by omega), if_pos (by omega)]
  simp only [hm]

theorem physWrite_window {n : Nat} (hn : n < 0x2000) :
    physWrite (0x90000 + 8 * n) x = [(.physicalWindowAccess true (8 * n) 8 x, {})] := by
  have hd : 0x90000 + 8 * n - 0x90000 = 8 * n := by omega
  unfold physWrite
  rw [if_neg (by omega), if_neg (by omega), if_neg (by omega), if_neg (by omega), if_neg (by omega), if_neg (by omega),
    if_pos (by omega), hd]

theorem hostOffsets : HostOffsets s x :=
  ⟨fun _ h => physical_unlisted s x h, fun t _ h => virtual_unlisted s x t h, fun _ h => management_unlisted s x h,
    fun _ h => directory_word s x h,
    fun _ h => ⟨physRead_tenant s (o := 0) h (by decide), physRead_tenant s h (by decide), (physWrite_tenant x h).1, (physWrite_tenant x h).2⟩,
    fun _ h => ⟨physRead_link s (o := 0) h (by decide), physRead_link s h (by decide), physWrite_linkState x h⟩,
    rfl, rfl, rfl, rfl, fun _ h => physWrite_window x h, fun _ => ⟨rfl, rfl, rfl⟩, rfl, rfl, rfl⟩

end

/-! ## Registers written -/

section
variable {s : State} {x : Dword} {t : Nat} {f : State → Prop}

/-- A register of a virtual function takes a write while its link is in L0, and none while it is not (R393; entry 115). -/
theorem registerWrite_virtual {r : HostReg} {u : State} (hw : exec (.registerWrite r x) s = .next (if !s.reaches t then s else u))
    (hf : f u) (hm : u.mem = s.mem) (hc : u.cores = s.cores) :
    (s.reaches t = true → ∃ v, exec (.registerWrite r x) s = .next v ∧ f v ∧ v.mem = s.mem ∧ v.cores = s.cores) ∧
    (s.reaches t = false → exec (.registerWrite r x) s = .next s) := by
  refine ⟨fun hr => ⟨u, ?_, hf, hm, hc⟩, fun hr => ?_⟩ <;> simp [hw, hr]

/-- One of the physical function alone takes it whatever the state of a link (R374). -/
theorem registerWrite_physical {r : HostReg} {u : State} (hv : virtualReg r = none)
    (hw : exec (.registerWrite r x) s = .next (if (virtualReg r).any (fun t => !s.reaches t) then s else u))
    (hf : f u) (hm : u.mem = s.mem) (hc : u.cores = s.cores) :
    ∃ v, exec (.registerWrite r x) s = .next v ∧ f v ∧ v.mem = s.mem ∧ v.cores = s.cores := by
  rw [hv] at hw
  exact ⟨u, hw, hf, hm, hc⟩

theorem registerWrite_nonce (h : t < 4) : exec (.registerWrite (.nonce t) x) s =
    .next { s with mailbox := { s.mailbox with nonce := setNonce s.mailbox.nonce t x.toNat } } :=
  congrArg Host.Outcome.next (if_neg (Nat.not_le.2 h))

/-- The words that the link table keeps of a link that has been changed (R389). -/
theorem State.nlink_onLink (s : State) {n : Nat} (h : n < 16) (g : NLink → NLink) : (s.onLink n g).nlink n = g (s.nlink n) :=
  vget_vset_same _ _ _ h

theorem leBytes_getElem? (n v : Nat) {i : Nat} (h : i < n) : (leBytes n v)[i]? = some (BitVec.ofNat 8 (v / 2 ^ (8 * i))) := by
  induction n generalizing v i with
  | zero => omega
  | succ n ih =>
    cases i with
    | zero => simp [leBytes]
    | succ i =>
      have hpow : v / 256 / 2 ^ (8 * i) = v / 2 ^ (8 * (i + 1)) := by
        rw [Nat.div_div_eq_div_mul, show 256 = 2 ^ 8 from rfl, ← Nat.pow_add, Nat.mul_succ, Nat.add_comm]
      rw [leBytes, List.getElem?_cons_succ, ih _ (by omega), hpow]

theorem leBytes_length (n v : Nat) : (leBytes n v).length = n := by
  induction n generalizing v with
  | zero => rfl
  | succ n ih => simp [leBytes, ih]

/-- Eight bytes of the nonce as they were written (R395). -/
theorem setNonce_getD {l : List Byte} (hl : l.length = 32) {n : Nat} (hn : n < 4) (v : Nat) {i : Nat} (hi : i < 8) :
    (setNonce l n v).getD (8 * n + i) 0#8 = BitVec.ofNat 8 (v / 2 ^ (8 * i)) := by
  have htake : (l.take (8 * n)).length = 8 * n := by
    rw [List.length_take]
    omega
  rw [setNonce, List.append_assoc, List.getD_eq_getElem?_getD, List.getElem?_append_right (by omega), htake, Nat.add_sub_cancel_left,
    List.getElem?_append_left (by rw [leBytes_length]; omega), leBytes_getElem? _ _ hi]
  rfl

end

end Sys2Proof.Machine

open Sys2Proof Sys2Proof.Machine

/-- The host's registers: those of a virtual function through its link, the others whatever the link's state. -/
theorem hostRegisters : Claims.HostRegisters := by
  intro s x t q is own
  refine ⟨hostOffsets s x, registerWrite_virtual rfl ?queueBase rfl rfl, registerWrite_virtual rfl ?ansPage rfl rfl,
    registerWrite_virtual rfl ?nqBase rfl rfl, registerWrite_virtual rfl ?nqCfg rfl rfl, registerWrite_virtual rfl ?nqStat rfl rfl,
    registerWrite_physical rfl rfl ?fbStat rfl rfl, registerWrite_virtual rfl ?puba rfl rfl, registerWrite_virtual rfl ?spBase rfl rfl,
    registerWrite_virtual rfl ?spCount rfl rfl, registerWrite_physical rfl rfl ?wBase rfl rfl,
    registerWrite_physical rfl rfl ?wCfg rfl rfl, registerWrite_physical rfl rfl ?saveBase rfl rfl,
    registerWrite_physical rfl rfl ?saveCnt rfl rfl, registerWrite_physical rfl rfl ?rThresh rfl rfl,
    registerWrite_physical rfl rfl ?aperOwner rfl rfl,
    fun ht => ⟨registerWrite_physical rfl rfl ?inBase rfl rfl, registerWrite_physical rfl rfl ?inCfg rfl rfl⟩,
    registerWrite_physical rfl rfl ?pwBase rfl rfl,
    fun ht hl => ⟨_, registerWrite_nonce ht, fun i hi => setNonce_getD hl ht _ hi, rfl, rfl⟩⟩
  case queueBase => rw [State.queue_onQueue]
  case puba =>
    rw [State.tenant_onTenant]
    exact NMap.get_put_same _ _ _ _
  case aperOwner => exact NMap.get_put_same _ _ _ _
  case inBase | inCfg => rw [State.nlink_onLink s ht]
  case pwBase => rfl
  case ansPage | nqBase | nqCfg | nqStat | fbStat | spBase | spCount | wBase | wCfg | saveBase | saveCnt | rThresh =>
    rw [State.tenant_onTenant]

/-- Settles O56: the host's accesses, its steps and its registers. -/
theorem hostSide : Obligations.HostSide := ⟨hostAccesses, hostSteps, hostRegisters⟩

end

section
/-! SUPPORT. An instruction that passes the checks before its entry's own has its entry's effect (R112, R138). -/

namespace Sys2Proof.Claims
open Sys2Proof.Machine

section
variable {i : Instr} {s u : State} {m : Meta}

theorem Issues.issue_eq (h : Issues i s m) (f : State → Eff) : issue i s f = .next (s.conclude m (f s)) :=
  issue_effect f h.info h.live (State.precheck_none h.mode h.fieldA h.fieldB h.met)

theorem goes_of {e : Eff} (he : exec i s = .next (s.conclude m e)) (h : e = .go u) : Goes i s m u := by
  subst h
  exact he

theorem jumps_of {e : Eff} {pc : Dword} {n : Nat} (he : exec i s = .next (s.conclude m e)) (h : e = .jump u pc n) :
    Jumps i s m u pc n := by
  subst h
  exact he

theorem sleeps_of {e : Eff} {w : Wait} (he : exec i s = .next (s.conclude m e)) (h : e = .sleep u w) : Sleeps i s m u w := by
  subst h
  exact he

theorem stalls_of {e : Eff} (he : exec i s = .next (s.conclude m e)) (h : e = .stall) : Stalls i s := by
  subst h
  exact he

end

end Sys2Proof.Claims
end

section
/-! SUPPORT. What a submitted sluice job queues and awaits (R48, R251, R256). -/

namespace Sys2Proof.Machine
open Sys2Proof.Claims

section
variable {s : State} {k : Ctl} {d : BitVec 5} {h : Handle} {others : List Handle} {j : Job}

theorem State.submit_full (hq : 16 ≤ (s.cluster (s.curCore / 8)).jobs.length) : s.submit k d h others j = .stall := by
  simp [State.submit, hq]

theorem State.submit_go (hq : (s.cluster (s.curCore / 8)).jobs.length < 16) (hh : s.localHeld s.curCore = false) :
    s.submit k d h others j = .go (((((s.countVoids [plainIn (h :: others)]).await (tagOf k) 4 1 [] none false [.s d]).onCluster
      (s.curCore / 8) (fun c => { c with jobs := c.jobs ++ [j] })).plan 0 2 .sluiceCapture
      { a := j.id, b := d.toNat, c := if s.check s.curCore s.curCtx h = 0xFFFA#16 then 1 else 0 })) := by
  rw [State.submit, if_neg (by simp [hh, hq])]
  rfl

end

theorem Job.withFire_eq (j : Job) (evl : BitVec 5) (eve : BitVec 1) (n : BitVec 4) (wpe : BitVec 1) :
    j.withFire evl eve n wpe = { j with evl := fireOf evl eve, weir := fireOf n wpe } := by
  simp [Job.withFire, fireOf]

theorem copyJob_issued {i : Instr} {s : State} {m : Meta} (hi : Issues i s m) (k : Ctl) (d a b : BitVec 5) (mode : Nat) :
    copyJob i s k d a b mode = .next (s.conclude m (let r := copyOf s k d a b mode; s.submit r.k r.d r.addr.2 r.others (r.job s))) := by
  rw [copyJob, hi.issue_eq]
  dsimp only [copyOf, Submission.job]
  split <;> rfl

/-- A sluice instruction submits the job of its submission. -/
theorem exec_of_submission {i : Instr} {s : State} {r : Submission} {m : Meta} (hr : submission s i = some r) (hi : Issues i s m) :
    exec i s = .next (s.conclude m (s.submit r.k r.d r.addr.2 r.others (r.job s))) := by
  unfold submission at hr
  split at hr
  case h_1 | h_2 | h_3 | h_4 | h_5 | h_6 | h_7 =>
    cases hr
    exact copyJob_issued hi _ _ _ _ _
  case h_8 =>
    split at hr
    · cases hr
    · next hw =>
      cases hr
      rw [exec_accsv, execAccsv, hi.issue_eq, if_neg hw, Job.withFire_eq]
      rfl
  case h_9 =>
    split at hr
    · cases hr
    · next hw =>
      cases hr
      rw [exec_accrs, execAccrs, hi.issue_eq, if_neg hw, Job.withFire_eq]
      rfl
  case h_10 =>
    split at hr
    · next hd =>
      cases hr
      rw [exec_lscrub, execLscrub, hi.issue_eq, if_neg (by simpa using Option.isSome_iff_ne_none.1 hd)]
      dsimp only
      rw [Job.withFire_eq]
      rfl
    · cases hr
  case h_11 => cases hr

theorem sluiceSubmit : Claims.SluiceSubmit := by
  intro s i r m hr hi _
  have he := exec_of_submission hr hi
  exact ⟨fun hq => stalls_of he (State.submit_full hq), fun hq hh => goes_of he (State.submit_go hq hh)⟩

theorem xferJob_goes {i : Instr} {s : State} {m : Meta} {k : Ctl} {d a b : BitVec 5} {n : BitVec 6} {mode : Nat}
    (he : exec i s = xferJob i s k d a b n mode) (hi : Issues i s m) (hh : s.localHeld s.curCore = false) :
    let hs := (s.srcS a).2 :: if b = 0#5 then [] else [(s.srcS b).2]
    let j : Job := { s.newJob mode (s.srcS a).1 with
                     amend := if b = 0#5 then none else some ((s.srcS b).1.setWidth 32), timeline := some n.toNat }
    let w := (s.countVoids [plainIn hs]).await (tagOf k) (16 + s.freeN 3 % 1024) 1 [] none false [.s d]
    Goes i s m ({ w with mill := w.mill ++ [j] }.plan 0 2 .millraceCapture
      { a := s.nextId, b := d.toNat, c := if s.check s.curCore s.curCtx (s.srcS a).2 = 0xFFFA#16 then 1 else 0 }) := by
  rw [Goes, he, xferJob, hi.issue_eq, if_neg (by simp [hh])]
  rfl

theorem millraceSubmit : Claims.MillraceSubmit := by
  intro s m k d a b n x hx hi hh
  simp only [List.mem_cons, List.not_mem_nil, or_false] at hx
  obtain rfl | rfl := hx <;> exact xferJob_goes rfl hi hh

end Sys2Proof.Machine

open Sys2Proof Sys2Proof.Machine

/-- Settles O39: the effect of each sluice instruction is one submission, and XFER and XFERQ share theirs. -/
theorem engineSubmissions : Obligations.EngineSubmissions := ⟨sluiceSubmit, millraceSubmit⟩

end

section
/-! SUPPORT. Addresses of register and offset, and the elements of a partial line, in the statements' integers (R39, R190). -/

namespace Sys2Proof.Machine

theorem Partial.inEra_self (p : Partial) : p.inEra p.era = p := by
  simp [Partial.inEra]

end Sys2Proof.Machine

namespace Sys2Proof.Claims
open Sys2Proof.Machine

/-- A register and a signed offset, as the machine's words and as integers. -/
theorem address_signExtend (s : State) (a : BitVec 5) {n : Nat} (off : BitVec n) :
    s.address a (off.signExtend 64) = (address s a off.toInt, poisoned s a) := by
  simp [State.address, address, poisoned, BitVec.signExtend, BitVec.ofInt_add]

theorem copCombine_eq_combined (cop : Nat) (x y : Word) : copCombine cop x y = combined cop x y := by
  unfold copCombine combined
  split <;> simp [BitVec.slt_iff_toInt_lt, BitVec.ofInt_add]

/-- REDC on element `e` of partial line `p`, whether the core has the line already or starts it here with room in the near cache. -/
theorem redc_goes {s u : State} {k : Ctl} {a b : BitVec 5} {off : BitVec 12} {m : Meta} {r : Plb} {h : Handle} {old : Option Partial}
    {p : Partial} {e : LWord} {va : Nat} (hi : Issues (.redc k a b off) s m) (hva : address s a off.toInt = va) :
    let era := s.eraNow s.curCore
    s.checkAccess .redc va 4 false (poisoned s a) = none → s.here.range va = some r →
    s.here.partials.find? (fun p => p.line == va / 64) = old → (old = none → u.partialCount (s.curCore / 8) < 64) →
    (old.getD { era := era, line := va / 64, age := s.nextId, pc := s.me.pc, ctx := s.curCtx, cop := r.cop,
                words := List.replicate 16 (copIdentity r.cop.toNat, 0x0000#16) }).inEra era = p →
    p.words.getD (va / 4 % 16) (0#32, 0x0000#16) = e →
    (s.countReads [(s.srcS a).2]).formWith [e.2, (s.srcS b).2] = some (u, h) →
      let v := combined r.cop.toNat e.1 ((s.srcS b).1.setWidth 32)
      let p' : Partial := { p with words := p.words.set (va / 4 % 16) (v.1, u.storeHandle s.curCore s.curCtx h) }
      let put (l : List Partial) := if old.isSome then l.map (fun x => if x.line = va / 64 then p' else x) else l ++ [p']
      Goes (.redc k a b off) s m ((u.bump.onHere (fun c => { c with partials := put c.partials })).onMe
        (fun x => { x with sticky := x.sticky ||| BitVec.ofNat 64 v.2 })) := by
  subst hva
  intro era hc hr ho hroom hp he hf v p' put
  have hn : (old.isNone && decide (64 ≤ u.partialCount (s.curCore / 8))) = false := by
    cases old
    · simpa using hroom rfl
    · rfl
  refine goes_of (by rw [exec_redc, execRedc, hi.issue_eq]) ?_
  simp only [address_signExtend]
  simp only [era] at hp
  simp only [hc, hr, ho, hTrue, hp, he, hf, hn, copCombine_eq_combined, Bool.false_eq_true, ↓reduceIte]
  rfl

end Sys2Proof.Claims

open Sys2Proof Sys2Proof.Machine Sys2Proof.Claims

/-- Settles O33: one lemma for the line that the core has and for the line that it starts, where the identity is the element. -/
theorem partialLines : Obligations.PartialLines := by
  intro s k a b off m r hi va s0 era done hc hr
  refine ⟨fun p u h hp hf => ?_, fun u h hp hn hf => ?_⟩
  · have hgo := redc_goes (e := (p.inEra era).words.getD (va / 4 % 16) (0#32, 0x0000#16)) hi rfl hc hr hp nofun rfl rfl hf
    simp only [Option.isSome_some, Option.getD_some, ↓reduceIte] at hgo
    exact hgo
  · have hgo := redc_goes (e := (copIdentity r.cop.toNat, 0x0000#16)) hi rfl hc hr hp (fun _ => hn) (Partial.inEra_self _)
      (List.getD_replicate _ (Nat.mod_lt _ (by decide))) hf
    simp only [Option.isSome_none, Option.getD_none, copIdentity, Bool.false_eq_true, ↓reduceIte] at hgo
    exact hgo

end

section
/-! SUPPORT. A result in flight touches its core's list of results alone; jobs are found under their numbers (R114, R251). -/

namespace Sys2Proof.Machine

/-! ## Results in flight -/

section
variable {β : Type} (part : Core → β) (h : ∀ (c : Core) ps, part { c with pend := ps } = part c) (s : State)
include h

/-- What a core holds beside its results in flight stays when one of them changes. -/
theorem State.core_onPend_part (k seq q : Nat) (f : Pend → Pend) : part ((s.onPend k seq f).core q) = part (s.core q) := by
  unfold State.onPend
  by_cases hq : q = k
  · rw [hq, State.core_onCore, h]
  · rw [State.core_onCore_ne _ _ hq]

theorem State.core_planLanding_part (k seq n q : Nat) : part ((s.planLanding k seq n).core q) = part (s.core q) := by
  unfold State.planLanding
  split
  · rfl
  · exact State.core_onPend_part part h s k seq q _

theorem State.core_arrive_part (k seq n q : Nat) (ws : List RegWrite) :
    part ((s.arrive k seq n ws).core q) = part (s.core q) := by
  unfold State.arrive
  dsimp only
  split
  · exact State.core_onPend_part part h s k seq q _
  · split
    · rw [State.core_planLanding_part part h, State.core_onPend_part part h]
    · exact State.core_onPend_part part h s k seq q _
end

theorem State.planLanding_parts (s : State) (k seq n : Nat) :
    (s.planLanding k seq n).clusters = s.clusters ∧ (s.planLanding k seq n).mill = s.mill ∧
      (s.planLanding k seq n).tenants = s.tenants := by
  unfold State.planLanding
  split <;> exact ⟨rfl, rfl, rfl⟩

theorem State.arrive_parts (s : State) (k seq n : Nat) (ws : List RegWrite) :
    (s.arrive k seq n ws).clusters = s.clusters ∧ (s.arrive k seq n ws).mill = s.mill ∧
      (s.arrive k seq n ws).tenants = s.tenants := by
  unfold State.arrive
  dsimp only
  split
  · exact ⟨rfl, rfl, rfl⟩
  · split
    · exact State.planLanding_parts _ _ _ _
    · exact ⟨rfl, rfl, rfl⟩

theorem State.arrive_findJob (s : State) (k seq n : Nat) (ws : List RegWrite) (id : Nat) :
    (s.arrive k seq n ws).findJob id = s.findJob id := by
  obtain ⟨hc, hm, -⟩ := s.arrive_parts k seq n ws
  unfold State.findJob
  rw [hc, hm]

theorem State.arrive_tenant (s : State) (k seq n : Nat) (ws : List RegWrite) (t : Nat) :
    (s.arrive k seq n ws).tenant t = s.tenant t := by
  obtain ⟨-, -, ht⟩ := s.arrive_parts k seq n ws
  unfold State.tenant
  rw [ht]

theorem State.arrive_ctxAt (s : State) (k seq n : Nat) (ws : List RegWrite) (q t : Nat) :
    (s.arrive k seq n ws).ctxAt q t = s.ctxAt q t :=
  State.core_arrive_part (fun c => c.ctx t) (fun _ _ => rfl) s k seq n q ws

theorem State.arrive_evOut (s : State) (k seq n : Nat) (ws : List RegWrite) (q : Nat) :
    ((s.arrive k seq n ws).core q).evOut = (s.core q).evOut :=
  State.core_arrive_part (·.evOut) (fun _ _ => rfl) s k seq n q ws

/-! ## Jobs -/

/-- Every job of the module, in the order in which it is looked for. -/
def State.allJobs (s : State) : List Job := s.mill ++ s.clusters.flatMap (fun c => c.2.jobs)

theorem State.findJob_eq (s : State) (id : Nat) : s.findJob id = s.allJobs.find? (fun j => j.id == id) := rfl

theorem State.id_of_findJob {s : State} {id : Nat} {j : Job} (h : s.findJob id = some j) : j.id = id := by
  simpa using List.find?_some h

theorem State.mem_of_findJob {s : State} {id : Nat} {j : Job} (h : s.findJob id = some j) : j ∈ s.allJobs :=
  List.mem_of_find?_eq_some h

theorem State.allJobs_setJob (s : State) (j : Job) :
    (s.setJob j).allJobs = s.allJobs.map (fun x => if x.id = j.id then j else x) := by
  simp [State.allJobs, State.setJob, State.mapJob, List.map_append, List.map_flatMap, List.flatMap_map]

/-- A job that is the only one of its number is the one found under it. -/
theorem State.findJob_of_mem {s : State} {j : Job} (hm : j ∈ s.allJobs) (hu : ∀ i ∈ s.allJobs, i.id = j.id → i = j) :
    s.findJob j.id = some j := by
  cases hf : s.findJob j.id with
  | none => simpa using List.find?_eq_none.1 hf j hm
  | some i => rw [hu i (State.mem_of_findJob hf) (State.id_of_findJob hf)]

theorem State.mem_allJobs_setJob {s : State} {id : Nat} {i j : Job} (h : s.findJob id = some i) (hj : j.id = id) :
    j ∈ (s.setJob j).allJobs := by
  rw [State.allJobs_setJob]
  exact List.mem_map.2 ⟨i, State.mem_of_findJob h, if_pos ((State.id_of_findJob h).trans hj.symm)⟩

theorem State.eq_of_mem_setJob {s : State} {i j : Job} (h : i ∈ (s.setJob j).allJobs) (hi : i.id = j.id) : i = j := by
  rw [State.allJobs_setJob] at h
  obtain ⟨x, -, rfl⟩ := List.mem_map.1 h
  split
  · rfl
  · next hx => simp [hx] at hi

/-- Putting an entry with the same elements as the one that it replaces leaves the elements of a map. -/
theorem NMap.mem_flatMap_put {α β : Type} (g : α → List β) {z y : α} (hz : g z = []) (m : NMap α) (k : Nat)
    (hy : g y = g (m.get k z)) (b : β) :
    b ∈ (m.put k y).flatMap (fun p => g p.2) ↔ b ∈ m.flatMap (fun p => g p.2) := by
  have hget : ∀ m : NMap α, b ∈ g (m.get k z) → b ∈ m.flatMap (fun p => g p.2) := by
    intro m
    induction m with
    | nil => simp [NMap.get, hz]
    | cons p r ih =>
      unfold NMap.get
      split <;> intro hb
      · exact List.mem_flatMap.2 ⟨p, List.mem_cons_self, hb⟩
      · exact List.mem_flatMap.2 ((List.mem_flatMap.1 (ih hb)).imp fun _ h => ⟨List.mem_cons_of_mem _ h.1, h.2⟩)
  induction m with
  | nil =>
    have hn : g y = [] := by simpa [NMap.get, hz] using hy
    simp [NMap.put, hn]
  | cons p r ih =>
    unfold NMap.put
    split
    · rw [List.flatMap_cons, List.mem_append, hy]
      exact or_iff_right_of_imp (hget (p :: r))
    · split
      · next hk =>
        have hp : g y = g p.2 := by simpa [NMap.get, hk] using hy
        simp [hp]
      · next hk =>
        have hk' : g y = g (NMap.get r k z) := by simpa [NMap.get, Ne.symm hk] using hy
        rw [List.flatMap_cons, List.flatMap_cons, List.mem_append, List.mem_append]
        exact or_congr_right (ih hk')

theorem State.mem_allJobs_onCluster {s : State} {k : Nat} {f : Cluster → Cluster} (hf : ∀ c, (f c).jobs = c.jobs) (j : Job) :
    j ∈ (s.onCluster k f).allJobs ↔ j ∈ s.allJobs := by
  unfold State.allJobs
  rw [List.mem_append, List.mem_append]
  exact or_congr_right (NMap.mem_flatMap_put (fun c : Cluster => c.jobs) (z := Cluster.zero) rfl _ _ (hf _) _)

/-- A job put back is found under its number, whatever else its cluster keeps beside its jobs. -/
theorem State.findJob_setJob {s : State} {id : Nat} {i j : Job} (h : s.findJob id = some i) (hj : j.id = id) :
    (s.setJob j).findJob id = some j :=
  hj ▸ State.findJob_of_mem (State.mem_allJobs_setJob h hj) fun _ => State.eq_of_mem_setJob

theorem State.findJob_setJob_onCluster {s : State} {id k : Nat} {i j : Job} {f : Cluster → Cluster} (h : s.findJob id = some i)
    (hj : j.id = id) (hf : ∀ c, (f c).jobs = c.jobs) : ((s.setJob j).onCluster k f).findJob id = some j :=
  hj ▸ State.findJob_of_mem ((State.mem_allJobs_onCluster hf j).2 (State.mem_allJobs_setJob h hj))
    fun i hi => State.eq_of_mem_setJob ((State.mem_allJobs_onCluster hf i).1 hi)

/-- Reading the descriptor keeps whose job it is. -/
theorem State.readDesc_parts (s : State) (j : Job) :
    (s.readDesc j).1.id = j.id ∧ (s.readDesc j).1.core = j.core ∧ (s.readDesc j).1.ctx = j.ctx := by
  unfold State.readDesc
  split <;> exact ⟨rfl, rfl, rfl⟩

end Sys2Proof.Machine
end

section
/-! SUPPORT. The steps of the sluice and the millrace engines (R48 to R54, R251 to R258). -/

namespace Sys2Proof.Machine
open Sys2Proof.Claims

section
variable {s : State} {j : Job}

/-! ## Capture -/

theorem not_pendingMode {x : Handle} (h : j.mode = 6 → isPend x = false) : (decide (j.mode = 6) && isPend x) = false := by
  by_cases hm : j.mode = 6
  · simp [h hm]
  · simp [hm]

/-- A sluice job as its capture queues it. -/
def State.sluiceQueued (s : State) (j : Job) : Job :=
  { (s.readDesc j).1 with captured := true, num := (s.ctxAt j.core j.ctx).jobLast + 1,
                          amb := s.check j.core j.ctx (s.ctxAt j.core j.ctx).ambient, mark := s.nextId }

/-- A millrace job as its capture queues it at its engine. -/
def State.millQueued (s : State) (j : Job) : Job :=
  { (s.readDesc j).1 with captured := true, started := true,
                          num := (s.tenant (s.launchTenant j.launch)).millLast.get (j.timeline.getD 0) 0 + 1,
                          amb := s.check j.core j.ctx (s.ctxAt j.core j.ctx).ambient, bank := s.engineOf (s.readDesc j).1 }

/-- A captured job counted among its core's events. -/
def State.countJob (s : State) (i : Job) : State := s.onCore i.core (fun c => { c with evOut := c.evOut + 1 })

theorem State.countJob_evOut (s : State) (i : Job) : ((s.countJob i).core i.core).evOut = (s.core i.core).evOut + 1 := by
  rw [State.countJob, State.core_onCore]

theorem State.countJob_tenant (s : State) (i : Job) (t : Nat) : (s.countJob i).tenant t = s.tenant t := rfl

theorem State.countJob_ctxAt (s : State) (i : Job) (k t : Nat) : (s.countJob i).ctxAt k t = s.ctxAt k t := by
  unfold State.countJob State.ctxAt
  by_cases h : k = i.core
  · rw [h, State.core_onCore]
    rfl
  · rw [State.core_onCore_ne _ _ h]

section
variable (hj : s.findJob s.subj.a = some j) (hc : j.captured = false)
  (ha : j.mode = 6 → isPend (s.ctxAt j.core j.ctx).ambient = false)
include hj hc ha

theorem sluiceCapture_fails {e : Nat × Nat} (he : s.captureCheck (s.readDesc j).1 (s.subj.c = 1) (s.readDesc j).2 = some e) :
    Does .sluiceCapture s (s.captureFail (s.readDesc j).1 e.1 e.2) := by
  show execSluiceCapture s = _
  simp only [execSluiceCapture, hj, hc, not_pendingMode ha, he]
  rfl

theorem sluiceCapture_queues (he : s.captureCheck (s.readDesc j).1 (s.subj.c = 1) (s.readDesc j).2 = none) :
    let i := s.sluiceQueued j
    let u := ((s.setJob i).onCtx i.core i.ctx (fun x => { x with jobLast := i.num })).countJob i
    Does .sluiceCapture s (((u.onCluster (i.core / 8) (fun c => c.stage i (s.jobRanges i))).arrive i.core i.seq 0
      [.s (BitVec.ofNat 5 s.subj.b) (BitVec.ofNat 64 i.num) i.amb]).plan 0 2 .sluiceJobStart { a := i.core / 8 }) := by
  show execSluiceCapture s = _
  simp only [execSluiceCapture, hj, hc, not_pendingMode ha, he]
  rfl

theorem sluiceCapture_numbers (he : s.captureCheck (s.readDesc j).1 (s.subj.c = 1) (s.readDesc j).2 = none) :
    ∃ v i, Does .sluiceCapture s v ∧ v.findJob s.subj.a = some i ∧ i.captured = true ∧
      i.num = (s.ctxAt j.core j.ctx).jobLast + 1 ∧ (j.ctx < 11 → (v.ctxAt j.core j.ctx).jobLast = i.num) ∧
      (v.core j.core).evOut = (s.core j.core).evOut + 1 := by
  obtain ⟨hid, hcore, hctx⟩ := s.readDesc_parts j
  refine ⟨_, s.sluiceQueued j, sluiceCapture_queues hj hc ha he, ?_, rfl, rfl, fun ht => ?_, ?_⟩
  · refine (State.arrive_findJob _ _ _ _ _ _).trans ?_
    exact State.findJob_setJob_onCluster (j := s.sluiceQueued j)
      (f := fun c => c.stage (s.sluiceQueued j) (s.jobRanges (s.sluiceQueued j))) hj (hid.trans (State.id_of_findJob hj)) fun _ => rfl
  · rw [State.ctxAt_plan, State.arrive_ctxAt]
    show ((State.countJob _ _).ctxAt _ _).jobLast = _
    rw [State.countJob_ctxAt, ← hcore, ← hctx]
    exact congrArg Ctx.jobLast (State.ctxAt_onCtx _ _ _ (hctx ▸ ht))
  · rw [State.core_plan, State.arrive_evOut, State.core_onCluster, ← hcore]
    exact (State.countJob_evOut _ (s.sluiceQueued j)).trans (by rw [State.core_onCtx]; rfl)

theorem millraceCapture_fails (hq : s.engineLoad (s.engineOf (s.readDesc j).1) < 256) {e : Nat × Nat}
    (he : s.captureCheck (s.readDesc j).1 (s.subj.c = 1) (s.readDesc j).2 = some e) :
    Does .millraceCapture s (s.captureFail (s.readDesc j).1 e.1 e.2) := by
  show execMillraceCapture s = _
  simp only [execMillraceCapture, hj, hc, not_pendingMode ha, decide_eq_false (Nat.not_le.2 hq), he]
  rfl

theorem millraceCapture_queues (hq : s.engineLoad (s.engineOf (s.readDesc j).1) < 256)
    (he : s.captureCheck (s.readDesc j).1 (s.subj.c = 1) (s.readDesc j).2 = none) :
    let i := s.millQueued j
    let t := s.launchTenant j.launch
    let u := ((s.setJob i).onTenant t (fun x => { x with millLast := x.millLast.put (j.timeline.getD 0) i.num })).countJob i
    Does .millraceCapture s ((u.arrive i.core i.seq (s.freeN 1 % 64) [.s (BitVec.ofNat 5 s.subj.b) (BitVec.ofNat 64 i.num) i.amb]).plan
      (4 + (i.bytes + 1023) / 1024 + homePath i.core i.src + s.freeN 2 % 64) 0 .millraceJobEnd { a := i.id }) := by
  show execMillraceCapture s = _
  simp only [execMillraceCapture, hj, hc, not_pendingMode ha, decide_eq_false (Nat.not_le.2 hq), he]
  rfl

theorem millraceCapture_numbers (hq : s.engineLoad (s.engineOf (s.readDesc j).1) < 256)
    (he : s.captureCheck (s.readDesc j).1 (s.subj.c = 1) (s.readDesc j).2 = none) :
    ∃ v i, Does .millraceCapture s v ∧ v.findJob s.subj.a = some i ∧ i.captured = true ∧
      i.num = (s.tenant (s.launchTenant j.launch)).millLast.get (j.timeline.getD 0) 0 + 1 ∧
      (v.tenant (s.launchTenant j.launch)).millLast.get (j.timeline.getD 0) 0 = i.num := by
  refine ⟨_, s.millQueued j, millraceCapture_queues hj hc ha hq he, ?_, rfl, rfl, ?_⟩
  · refine (State.arrive_findJob _ _ _ _ _ _).trans ?_
    exact State.findJob_setJob hj ((s.readDesc_parts j).1.trans (State.id_of_findJob hj))
  · rw [State.tenant_plan, State.arrive_tenant, State.countJob_tenant, State.tenant_onTenant]
    exact NMap.get_put_same _ _ _ _

end
end

end Sys2Proof.Machine

open Sys2Proof Sys2Proof.Machine

/-- Settles O51: the captures by their numbering lemmas, the other steps branch by branch. -/
theorem engineSteps : Obligations.EngineSteps := by
  intro s
  refine ⟨fun j hj hc ha => ⟨fun e => sluiceCapture_fails hj hc ha, sluiceCapture_numbers hj hc ha, fun hq =>
    ⟨fun e => millraceCapture_fails hj hc ha hq, millraceCapture_numbers hj hc ha hq⟩⟩, fun j hj => ⟨fun hr => ?_, fun hr => ?_⟩,
    fun j hj => ⟨fun hl hs hh hg => ⟨fun u i hw hm => ?_, fun u i h hw => ?_⟩, fun hr hl => ?_, fun hw => ?_⟩,
    fun j hj hl hs hg hc hf => ⟨fun u i hw => ?_, fun u i h hw => ?_⟩⟩
  · show ∃ n, 4 ≤ n ∧ execSluiceJobStart s = _
    simp only [execSluiceJobStart, hj, Nat.not_le.2 hr, if_false]
    exact ⟨_, by omega, rfl⟩
  · show execSluiceJobStart s = _
    simp only [execSluiceJobStart, hj, hr, if_true]
  · show execSluiceWriteLanding s = _
    simp only [execSluiceWriteLanding, hj, hl, hs, hh, hg, hw, hm]
    rfl
  · show execSluiceWriteLanding s = _
    simp only [execSluiceWriteLanding, hj, hl, hs, hh, hg, hw]
    rfl
  · show execSluiceJobComplete s = _
    simp only [execSluiceJobComplete, hj, hr, hl]
    rfl
  · show execSluiceJobComplete s = _
    have hh : (!s.stopResumed j || s.jobLands j) = true := by simpa using hw
    simp only [execSluiceJobComplete, hj, hh, if_true]
  · show execMillraceJobEnd s = _
    simp only [execMillraceJobEnd, hj, hl, hs, hg, hc, hf, hw]
    rfl
  · show execMillraceJobEnd s = _
    simp only [execMillraceJobEnd, hj, hl, hs, hg, hc, hf, hw]
    rfl

end

section
/-! SUPPORT. Numbers of consecutive bytes, and what a load of cluster memory takes of them (R2, R45, R55). -/

namespace Sys2Proof.Machine
open Sys2Proof.Claims

theorem leNat_bytes_lt (m : Sparse 8) (a n : Nat) : leNat (Sparse.bytes m a n) < 256 ^ n := by
  induction n generalizing a with
  | zero => simp [Sparse.bytes, leNat]
  | succ n ih =>
    have := ih (a + 1)
    have := (Sparse.get m a).isLt
    simp only [Sparse.bytes, leNat, Nat.pow_succ]
    omega

theorem leNat_bytes_add (m : Sparse 8) (a n k : Nat) :
    leNat (Sparse.bytes m a (n + k)) = leNat (Sparse.bytes m a n) + 256 ^ n * leNat (Sparse.bytes m (a + n) k) := by
  induction n generalizing a with
  | zero => simp [Sparse.bytes, leNat]
  | succ n ih =>
    rw [Nat.add_right_comm]
    simp only [Sparse.bytes, leNat, ih, Nat.pow_succ, show a + 1 + n = a + (n + 1) by omega]
    ring

/-- The bytes at an offset in a word are its digits from there. -/
theorem leNat_bytes_sub (m : Sparse 8) (a r n k : Nat) :
    leNat (Sparse.bytes m a (r + (n + k))) / 256 ^ r % 256 ^ n = leNat (Sparse.bytes m (a + r) n) := by
  rw [leNat_bytes_add, leNat_bytes_add, Nat.add_mul_div_left _ _ (by positivity),
    Nat.div_eq_of_lt (leNat_bytes_lt m a r), Nat.zero_add, Nat.add_mul_mod_self_left, Nat.mod_eq_of_lt (leNat_bytes_lt m _ n)]

theorem State.lword_toNat (s : State) (k o : Nat) :
    (s.lword k o).1.toNat = leNat (Sparse.bytes (s.core k).lmem (o / 4 * 4) 4) := by
  have h := leNat_bytes_lt (s.core k).lmem (o / 4 * 4) 4
  simp only [State.lword, BitVec.toNat_ofNat]
  exact Nat.mod_eq_of_lt (by simpa using h)

/-- An access of up to a word takes its bytes from the word that it lies in. -/
theorem State.pickBytes_word (s : State) (k : Nat) {o n : Nat} (hn : o % 4 + n ≤ 4) :
    (pickBytes o n (s.localPair k o).1 (s.localPair k o).2).1 % 2 ^ (8 * n) = leNat (Sparse.bytes (s.core k).lmem o n) := by
  have h8 : n ≠ 8 := by omega
  have ho : o / 4 * 4 + o % 4 = o := by omega
  have hs := leNat_bytes_sub (s.core k).lmem (o / 4 * 4) (o % 4) n (4 - (o % 4 + n))
  rw [show o % 4 + (n + (4 - (o % 4 + n))) = 4 by omega, ho] at hs
  simp only [pickBytes, h8, if_false, State.localPair, State.lword_toNat, Nat.mul_div_cancel _ (show 0 < 4 by decide)]
  rw [Nat.pow_mul, Nat.pow_mul]
  exact hs

theorem State.pickBytes_dword (s : State) (k : Nat) {o : Nat} (ho : o % 4 = 0) :
    (pickBytes o 8 (s.localPair k o).1 (s.localPair k o).2).1 = leNat (Sparse.bytes (s.core k).lmem o 8) := by
  have h4 : o / 4 * 4 = o := by omega
  have h4' : (o + 4) / 4 * 4 = o + 4 := by omega
  simp only [pickBytes, if_true, State.localPair, State.lword_toNat, h4, h4']
  rw [leNat_bytes_add _ o 4 4, show (256 : Nat) ^ 4 = 2 ^ 32 by norm_num]
  ring

theorem widthOf_cases (w : BitVec 2) : widthOf w = 1 ∨ widthOf w = 2 ∨ widthOf w = 4 ∨ widthOf w = 8 := by
  revert w
  decide

/-- The value of an aligned local load: the little-endian number of its bytes. -/
theorem State.pickBytes_aligned (s : State) (k : Nat) {o n : Nat} (hn : n = 1 ∨ n = 2 ∨ n = 4 ∨ n = 8) (ho : o % n = 0) :
    (pickBytes o n (s.localPair k o).1 (s.localPair k o).2).1 % 2 ^ (8 * n) =
      leNat (Sparse.bytes (s.core k).lmem o n) % 2 ^ (8 * n) := by
  have hlt : leNat (Sparse.bytes (s.core k).lmem o n) < 2 ^ (8 * n) := by
    rw [Nat.pow_mul]
    exact leNat_bytes_lt _ o n
  by_cases h8 : n = 8
  · subst h8
    rw [s.pickBytes_dword k (by omega)]
  · rw [s.pickBytes_word k (by obtain rfl | rfl | rfl | rfl := hn <;> omega), Nat.mod_eq_of_lt hlt]

theorem bitAt_pred_width {m n : Nat} (hn : 0 < n) (h : m < 2 ^ n) : bitAt m (n - 1) = !decide (m < 2 ^ (n - 1)) := by
  have h2 : m / 2 ^ (n - 1) < 2 := by
    rw [Nat.div_lt_iff_lt_mul (by positivity), ← Nat.pow_succ']
    simpa [Nat.sub_add_cancel hn] using h
  have hd : m / 2 ^ (n - 1) = 0 ↔ m < 2 ^ (n - 1) := Nat.div_eq_zero_iff_lt (by positivity)
  unfold bitAt
  by_cases hm : m < 2 ^ (n - 1)
  · simp [hd.2 hm, hm]
  · have : m / 2 ^ (n - 1) = 1 := Nat.le_antisymm (Nat.lt_succ_iff.1 h2) (Nat.pos_of_ne_zero (mt hd.1 hm))
    simp [this, hm]

/-- A loaded value extended by its sign bit, and as an integer. -/
theorem extendLoad_eq_extended {n : Nat} (hn : 0 < n) (h8 : n ≤ 8) (z : Bool) {v v' : Nat} (hv : v % 2 ^ (8 * n) = v' % 2 ^ (8 * n)) :
    extendLoad n z v = extended n v' z := by
  have hm : v' % 2 ^ (8 * n) < 2 ^ (8 * n) := Nat.mod_lt _ (by positivity)
  have hle : 2 ^ (8 * n) ≤ 2 ^ 64 := Nat.pow_le_pow_right (by decide) (by omega)
  simp only [extendLoad, extended, hv, bitAt_pred_width (by omega) hm, Bool.not_not]
  generalize v' % 2 ^ (8 * n) = x at hm
  by_cases hc : z = true ∨ x < 2 ^ (8 * n - 1)
  · rw [if_pos (by simpa using hc), if_pos hc]
  · rw [if_neg (by simpa using hc), if_neg hc]
    apply BitVec.eq_of_toInt_eq
    have hx : ((x + 2 ^ 64 - 2 ^ (8 * n) : Nat) : Int) = (x - 2 ^ (8 * n)) + (2 ^ 64 : Nat) := by
      rw [Nat.add_sub_assoc hle, Nat.cast_add, Nat.cast_sub hle, Nat.cast_pow 2 (8 * n)]
      ring
    rw [BitVec.toInt_ofInt, BitVec.toInt_ofNat', hx, Int.add_bmod_right]

end Sys2Proof.Machine
end

section
/-! SUPPORT. What the label unit leaves of a core and of what its loads see (R42, R92). -/

namespace Sys2Proof.Machine

section
variable {s u : State} (h : Lab s u)
include h

theorem Lab.launch (k : Nat) : (u.core k).launch = (s.core k).launch := by obtain ⟨_, _, _, e⟩ := h.cores k; rw [e]
theorem Lab.viewStamp (k : Nat) : (u.core k).viewStamp = (s.core k).viewStamp := by obtain ⟨_, _, _, e⟩ := h.cores k; rw [e]

theorem Lab.launchOf (k : Nat) : u.launchOf k = s.launchOf k := by
  unfold State.launchOf State.launch
  rw [h.launch, h.launches]

theorem Lab.domainOf (k : Nat) : u.domainOf k = s.domainOf k := by
  unfold State.domainOf
  rw [h.launchOf]

theorem Lab.lword (k o : Nat) : u.lword k o = s.lword k o := by
  simp only [State.lword, h.lmem, h.lplane]

theorem Lab.localPair (k o : Nat) : u.localPair k o = s.localPair k o := by
  unfold State.localPair
  rw [h.lword, h.lword]

theorem Lab.localHeld (k : Nat) : u.localHeld k = s.localHeld k := by
  unfold State.localHeld
  rw [h.reqs, h.late]

theorem Lab.loadAhead (k va : Nat) : u.loadAhead k va = s.loadAhead k va := by
  unfold State.loadAhead
  rw [h.reqs]

theorem Lab.nearCopy (k line : Nat) : u.nearCopy k line = s.nearCopy k line := by
  unfold State.nearCopy State.cluster
  rw [h.clusters, h.viewStamp]

theorem Lab.aper (d n : Nat) : u.aper d n = s.aper d n := by obtain ⟨_, _, _, rfl⟩ := h.rest; rfl
theorem Lab.entryAt (pa : Nat) : u.entryAt pa = s.entryAt pa := by simp only [State.entryAt, h.mem]
theorem Lab.ram (pa n : Nat) : u.ram pa n = s.ram pa n := by simp only [State.ram, h.mem]
theorem Lab.badSector (pa : Nat) : u.poisoned pa = s.poisoned pa := by simp only [State.poisoned, h.ecc]
theorem Lab.cachedLeaf (va : Nat) : u.cachedLeaf va = s.cachedLeaf va := by obtain ⟨_, _, _, rfl⟩ := h.rest; rfl
theorem Lab.root : u.root = s.root := by obtain ⟨_, _, _, rfl⟩ := h.rest; rfl
theorem Lab.domBase (n : Nat) : u.domBase n = s.domBase n := by obtain ⟨_, _, _, rfl⟩ := h.rest; rfl
theorem Lab.line (n : Nat) : u.line n = s.line n := State.line_eq_of_lines h.lines n

theorem Lab.frameOk (pa n : Nat) : u.frameOk pa n = s.frameOk pa n := by
  simp only [State.frameOk, h.aper]

theorem Lab.leafOk (l : Leaf) (va : Nat) : u.leafOk l va = s.leafOk l va := by
  simp only [State.leafOk, State.isDecode, h.aper]

theorem Lab.walkFrom (va node : Nat) (l : List (Nat × Option Nat)) : u.walkFrom va node l = s.walkFrom va node l := by
  induction l generalizing node with
  | nil => rfl
  | cons p r ih => simp only [State.walkFrom, h.entryAt, h.frameOk, h.leafOk, ih]

theorem Lab.translate (va : Nat) : u.translate va = s.translate va := by
  simp only [State.translate, State.walk, h.cachedLeaf, h.walkFrom, h.root]

theorem Lab.lineOk (l : Leaf) (n va : Nat) : u.lineOk l n va = s.lineOk l n va := by
  simp only [State.lineOk, State.mcOk, h.frameOk, h.aper]

theorem Lab.mcWord (pa : Nat) : u.mcWord pa = s.mcWord pa := by
  simp only [State.mcWord, State.decodeAt, h.aper, h.ram, h.badSector]

theorem Lab.storedLabel (l : Leaf) (n va : Nat) : u.storedLabel l n va = s.storedLabel l n va := by
  simp only [State.storedLabel, h.mcWord]

theorem Lab.fillWord (l : Leaf) (n va : Nat) : u.fillWord l n va = s.fillWord l n va := by
  unfold State.fillWord
  rw [h.mcWord, h.storedLabel]

theorem Lab.fillLine (l : Leaf) (n va : Nat) : u.fillLine l n va = s.fillLine l n va := by
  unfold State.fillLine
  simp only [h.fillWord]

theorem Lab.homeWord (va : Nat) : u.homeWord va = s.homeWord va := by
  simp only [State.homeWord, State.homeLine, h.line, h.translate, h.lineOk, h.fillLine, h.now]

theorem Lab.domEra (n : Nat) : u.domEra n = s.domEra n := by
  unfold State.domEra State.home64
  rw [h.domBase, h.homeWord, h.homeWord]

theorem Lab.readHandle (dom : Option Nat) (e : Option TEntry) (x : Handle) : u.readHandle dom e x = s.readHandle dom e x := by
  unfold State.readHandle
  simp only [h.domEra]

theorem Lab.mergeStores (k va n : Nat) (w : LWord) : u.mergeStores k va n w = s.mergeStores k va n w := by
  unfold State.mergeStores
  rw [h.reqs]

theorem Lab.copyWords (hn : u.nextId = s.nextId) (k : Nat) (q : Copy) (va : Nat) : u.copyWords k q va = s.copyWords k q va := by
  unfold State.copyWords State.copyWord
  simp only [hn, h.mergeStores, h.readHandle, h.domainOf]

theorem Lab.servingCopy (hn : u.nextId = s.nextId) (k va : Nat) : u.servingCopy k va = s.servingCopy k va := by
  unfold State.servingCopy
  simp only [h.loadAhead, h.nearCopy, h.copyWords hn]

theorem Lab.loadLatency (hn : u.nextId = s.nextId) (k va : Nat) : u.loadLatency k va = s.loadLatency k va := by
  unfold State.loadLatency
  simp only [h.servingCopy hn]
end

theorem Lab.countReads (s : State) (hs : List Handle) : Lab s (s.countReads hs) := Lab.countVoids s _

end Sys2Proof.Machine
end

section
/-! SUPPORT. Scalar loads and stores past their checks (R190, R191, R193). -/

namespace Sys2Proof.Machine
open Sys2Proof.Claims

/-- An access that passes its checks is aligned (R190). -/
theorem aligned_of_checkAccess {s : State} {acc : Acc} {va width : Nat} {lc poison : Bool}
    (h : s.checkAccess acc va width lc poison = none) : va % width = 0 := by
  have key : ∀ (b : Bool) (x y z : Eff) (w : Option Eff),
      (if poison = true then some x else if b = true then some y else if (va % width != 0) = true then some z else w) = none →
        va % width = 0 := by
    intro b x y z w h
    split_ifs at h with _ _ hn
    simpa using hn
  exact key _ _ _ _ _ h

theorem placeOf_own {k va o : Nat} (h : placeOf k va = .own o) : va = 0xFF000000000000 + o := by
  unfold placeOf at h
  split at h
  · cases h
  split at h
  · cases h
  split at h
  · cases h
  split at h
  · cases h
  next hlo =>
    dsimp only at h
    split at h
    · have ho := Place.own.inj h
      omega
    · repeat' split at h
      all_goals cases h

theorem localOf_own {k va o : Nat} (h : placeOf k va = .own o) : localOf k va = some (k, o) := by
  simp only [localOf, h]

/-- The labels of a local load: those of its words. -/
theorem State.pickBytes_labels (s : State) (k : Nat) {o n : Nat} (hn : o % n = 0) (hw : n = 1 ∨ n = 2 ∨ n = 4 ∨ n = 8) :
    (pickBytes o n (s.localPair k o).1 (s.localPair k o).2).2 =
      if n = 8 then [(s.lword k o).2, (s.lword k (o + 4)).2] else [(s.lword k o).2] := by
  have ho : o / 4 * 4 / 4 = o / 4 := by omega
  by_cases h8 : n = 8
  · subst h8
    have h4 : (o / 4 * 4 + 4) / 4 = (o + 4) / 4 := by omega
    simp [pickBytes, State.localPair, State.lword, ho, h4]
  · simp [pickBytes, State.localPair, State.lword, ho, h8]

theorem exec_of_loading {i : Instr} {r : Load} (h : loading i = some r) (s : State) :
    exec i s = loadScalar i s r.k r.d r.a r.off r.w r.z r.lc r.acq := by
  unfold loading at h
  split at h <;> cases h <;> rfl

section
variable {i : Instr} {s : State} {m : Meta} {r : Load} (hr : loading i = some r) (hi : Issues i s m)
  (hc : s.checkAccess .load (address s r.a r.off.toInt) (widthOf r.w) (r.lc == 1#1) (poisoned s r.a) = none)
  (hh : held s (address s r.a r.off.toInt) = false)
include hr hi hc hh

/-- A load with LC delivers the bytes of its core's own memory (R191). -/
theorem localLoad_goes (hl : r.lc = 1#1) {o : Nat} {u : State} {h : Handle} (ho : placeOf s.curCore (address s r.a r.off.toInt) = .own o)
    (hf : (s.countReads [(s.srcS r.a).2]).loadLabel (if widthOf r.w = 8 then [(s.lword s.curCore o).2, (s.lword s.curCore (o + 4)).2]
      else [(s.lword s.curCore o).2]) = some (u, h)) :
    Goes i s m (u.produceIn (tagOf r.k) 2 2
      [.s r.d (extended (widthOf r.w) (leNat (Sparse.bytes s.here.lmem o (widthOf r.w))) (r.z == 1#1)) h] 0 r.acq [.s r.d]) := by
  have hL := Lab.countReads s [(s.srcS r.a).2]
  have hw := widthOf_cases r.w
  have hal : o % widthOf r.w = 0 := by
    have h1 := aligned_of_checkAccess hc
    have h2 := placeOf_own ho
    obtain h | h | h | h := hw <;> rw [h] at h1 ⊢ <;> omega
  refine goes_of (by rw [exec_of_loading hr, loadScalar, hi.issue_eq]) ?_
  rw [← State.pickBytes_labels s _ hal hw] at hf
  simp only [held, localOf_own ho] at hh
  simp only [address_signExtend, hc, hL.curCore, localOf_own ho, hL.localHeld, hh, hL.localPair, hf]
  simp only [hl]
  rw [if_neg (by simp), if_pos (by simp), extendLoad_eq_extended (by omega) (by omega) _ (s.pickBytes_aligned _ hw hal)]
  rfl

theorem farLoad_goes (hl : r.lc = 0#1) :
    let va := address s r.a r.off.toInt
    let n := widthOf r.w
    let lat := s.loadLatency s.curCore va
    let w := (s.countReads [(s.srcS r.a).2]).await (tagOf r.k) lat 1 [] none r.acq [.s r.d]
    Goes i s m (w.startLoad { w.mkReq .load va n with dst := .s r.d (r.z == 1#1), seq := s.nextId } lat) := by
  have hL := Lab.countReads s [(s.srcS r.a).2]
  refine goes_of (by rw [exec_of_loading hr, loadScalar, hi.issue_eq]) ?_
  simp only [held] at hh
  simp only [address_signExtend, hc, hL.curCore, hL.localHeld, hh, hL.loadLatency (State.countReads_nextId _ _),
    State.countReads_nextId]
  simp only [hl, Bool.false_eq_true, ↓reduceIte, show ((0#1 == 1#1) = true) = False by simp]
end

theorem scalarLoads : Claims.ScalarLoads := fun _ _ _ _ hr hi _ hc hh =>
  ⟨fun hl _ _ _ ho hf => localLoad_goes hr hi hc hh hl ho hf, fun hl => farLoad_goes hr hi hc hh hl⟩

/-- ST and STREL past their checks (R191). -/
theorem storeScalar_issued {i : Instr} {s : State} {m : Meta} {a b : BitVec 5} {off : BitVec 14} {w : BitVec 2} {lc : BitVec 1}
    (hi : Issues i s m) (hc : s.checkAccess .store (address s a off.toInt) (widthOf w) (lc == 1#1) (poisoned s a) = none)
    (hh : held s (address s a off.toInt) = false) (rel : Bool) :
    storeScalar i s a b off w lc rel = .next (s.conclude m (
      let va := address s a off.toInt
      if isGlobal va && s.bufferFull s.curCore [va / 64] then .stall
      else match (s.countReads [(s.srcS a).2]).formWith [(s.srcS b).2] with
      | none => .stall
      | some (u, h) =>
        let w' := if rel then u.release else u
        .go (w'.putStore { w'.mkReq (if rel then .strel else .store) va (widthOf w) with data := (s.srcS b).1, lbl := h }))) := by
  rw [storeScalar, hi.issue_eq]
  simp only [held] at hh
  simp only [address_signExtend, hc, hh, Bool.false_eq_true, ↓reduceIte] <;> rfl

theorem red_issued {s : State} {m : Meta} {k : Ctl} {a b : BitVec 5} {off : BitVec 12} {w : BitVec 2} {op : BitVec 4}
    (hi : Issues (.red k a b off w op) s m)
    (hc : s.checkAccess .red (address s a off.toInt) (widthOf w) false (poisoned s a) = none)
    (hh : held s (address s a off.toInt) = false) :
    exec (.red k a b off w op) s = .next (s.conclude m (
      let va := address s a off.toInt
      let w' := s.countReads [(s.srcS a).2, (s.srcS b).2]
      if isGlobal va && s.bufferFull s.curCore [va / 64] then .stall
      else .go (w'.putStore { w'.mkReq (.red op.toNat) va (widthOf w) with
        data := (s.srcS b).1, more := [s.check s.curCore s.curCtx (s.srcS b).2, s.ambientNow] }))) := by
  rw [exec_red, execRed, hi.issue_eq]
  simp only [held] at hh
  simp only [address_signExtend, hc, hh, Bool.false_eq_true, ↓reduceIte]

theorem scalarStores : Claims.ScalarStores := by
  intro s i r m hr hi hwf hc hh
  have full (va : Nat) (h : isGlobal va = true → s.bufferFull s.curCore [va / 64] = false) :
      ¬(isGlobal va && s.bufferFull s.curCore [va / 64]) = true := by
    simpa using h
  unfold storing at hr
  split at hr
  case h_1 | h_2 =>
    next a b off w lc =>
    cases hr
    have he := storeScalar_issued (b := b) hi hc hh
    refine ⟨fun hg hb => stalls_of (he _) (if_pos (by simp only [hg, hb]; rfl)),
      fun hf => ⟨fun _ u h hl => goes_of (he _) ?_, nofun⟩⟩
    rw [if_neg (full _ hf), hl]
    rfl
  case h_3 =>
    cases hr
    have he := red_issued hi hc hh
    exact ⟨fun hg hb => stalls_of he (if_pos (by simp only [hg, hb]; rfl)),
      fun hf => ⟨nofun, fun _ => goes_of he (if_neg (full _ hf))⟩⟩
  case h_4 => cases hr

end Sys2Proof.Machine

open Sys2Proof Sys2Proof.Machine

/-- Settles O29: a load's value is the little-endian number of its bytes, in a word or two; a store is checked, then put. -/
theorem scalarMemory : Obligations.ScalarMemory := ⟨scalarLoads, scalarStores⟩

end

section
/-! SUPPORT. Weirs: what an arrival and a release change of the cores (R121, R259 to R264). -/

namespace Sys2Proof.Machine
open Sys2Proof.Claims

/-- What a core holds that `f` keeps stays, whichever core `f` changes. -/
theorem State.core_onCore_part {β : Type} (part : Core → β) {f : Core → Core} (h : ∀ c, part (f c) = part c) (s : State) (k q : Nat) :
    part ((s.onCore k f).core q) = part (s.core q) := by
  by_cases hq : q = k
  · rw [hq, State.core_onCore, h]
  · rw [State.core_onCore_ne _ _ hq]

theorem State.cluster_onCluster_part {β : Type} (part : Cluster → β) {f : Cluster → Cluster} (h : ∀ c, part (f c) = part c)
    (s : State) (k q : Nat) : part ((s.onCluster k f).cluster q) = part (s.cluster q) := by
  by_cases hq : q = k
  · rw [hq, State.cluster_onCluster, h]
  · rw [State.cluster_onCluster_ne _ _ hq]

theorem State.core_eq_of_cores {s u : State} (h : u.cores = s.cores) (k : Nat) : u.core k = s.core k := by
  unfold State.core
  rw [h]

theorem State.onLaunch_now (s : State) (n : Nat) (f : Launch → Launch) : (s.onLaunch n f).now = s.now := by
  unfold State.onLaunch
  split <;> rfl

theorem State.onLaunch_late (s : State) (n : Nat) (f : Launch → Launch) : (s.onLaunch n f).late = s.late := by
  unfold State.onLaunch
  split <;> rfl

theorem State.core_acquire (s : State) (k : Nat) : (s.acquire k).core k = { s.core k with viewStamp := s.now } := by
  unfold State.acquire
  rw [State.core_onCluster, State.core_onCore]

theorem State.core_acquire_ne (s : State) {k q : Nat} (h : q ≠ k) : (s.acquire k).core q = s.core q := by
  unfold State.acquire
  rw [State.core_onCluster, State.core_onCore_ne _ _ h]

theorem State.weirCheck_cores (s : State) (ln n : Nat) : (s.weirCheck ln n).cores = s.cores := by
  unfold State.weirCheck
  split
  · rfl
  · split
    · split
      · rfl
      · exact State.onLaunch_cores _ _ _
    · exact State.onLaunch_cores _ _ _

/-! ## Arrivals -/

theorem State.countArrival_core (s : State) (k ln n addend : Nat) (withdraw : Bool) :
    (s.countArrival k ln n addend withdraw).core k = { s.core k with
      arr := (s.core k).arr ||| 1#16 <<< n, gone := if withdraw then (s.core k).gone ||| 1#16 <<< n else (s.core k).gone } := by
  unfold State.countArrival State.weirAdd
  rw [State.core_eq_of_cores (State.weirCheck_cores _ _ _), State.core_eq_of_cores (State.onLaunch_cores _ _ _), State.core_onCore]

theorem getLsbD_or_bit (x : BitVec 16) {n : Nat} (hn : n < 16) : (x ||| 1#16 <<< n).getLsbD n = true := by
  simp [hn]

theorem getLsbD_clear_bit (x : BitVec 16) (n : Nat) : (x &&& ~~~(1#16 <<< n)).getLsbD n = false := by
  by_cases hn : n < 16 <;> simp [hn]

/-! ## Releases -/

/-- What a core keeps of the weirs and its phase. -/
def Core.weirPart (c : Core) : BitVec 16 × BitVec 16 × Nat × Bool × Bool × Option Nat := (c.arr, c.gone, c.viewStamp, c.pk, c.arm, c.launch)

theorem State.relabel_weirPart (s : State) (k q : Nat) (f : Handle → Handle) :
    ((s.relabel k f).core q).weirPart = (s.core q).weirPart := by
  obtain ⟨c, hc, hp⟩ : ∃ c, (s.relabel k f).cores = (s.setCore k c).cores ∧ c.weirPart = (s.core k).weirPart := ⟨_, rfl, rfl⟩
  rw [State.core_eq_of_cores hc]
  by_cases hq : q = k
  · rw [hq, State.core_setCore, hp]
  · rw [State.core_setCore_ne _ _ hq]

theorem State.newEra_weirPart (s : State) (k q : Nat) (era : BitVec 4) : ((s.newEra k era).core q).weirPart = (s.core q).weirPart :=
  (State.core_onCore_part Core.weirPart (f := fun c => c.toEra era) (fun _ => rfl) _ k q).trans (s.relabel_weirPart k q eraIn)

theorem State.takeView_weirPart (s : State) (k q : Nat) (clear : Bool) :
    ((s.takeView k clear).core q).weirPart = (s.core q).weirPart := by
  unfold State.takeView
  split
  · rfl
  · dsimp only
    split
    · refine State.core_onCore_part Core.weirPart ?_ s k q
      exact fun _ => rfl
    · rw [State.newEra_weirPart]
      refine State.core_onCore_part Core.weirPart ?_ s k q
      exact fun _ => rfl

theorem State.newEra_now (s : State) (k : Nat) (era : BitVec 4) : (s.newEra k era).now = s.now := by
  unfold State.newEra State.relabel
  rfl

theorem State.takeView_now (s : State) (k : Nat) (clear : Bool) : (s.takeView k clear).now = s.now := by
  unfold State.takeView
  split
  · rfl
  · dsimp only
    split
    · rfl
    · exact State.newEra_now _ _ _

theorem State.releaseCore_now (s : State) (ln n k : Nat) : (s.releaseCore ln n k).now = s.now := by
  unfold State.releaseCore
  split
  · rfl
  · exact State.takeView_now _ _ _

/-- A release touches its own core. -/
theorem State.releaseCore_weirPart_ne (s : State) (ln n : Nat) {k q : Nat} (h : q ≠ k) :
    ((s.releaseCore ln n k).core q).weirPart = (s.core q).weirPart := by
  unfold State.releaseCore
  split
  · rfl
  · dsimp only
    rw [State.core_onCore_ne _ _ h, State.takeView_weirPart, State.core_acquire_ne _ h, State.core_onCore_ne _ _ h]

/-- What a release makes of a member core. -/
theorem State.releaseCore_weirPart (s : State) {ln n k : Nat} (hl : (s.core k).launch = some ln)
    (hg : (s.core k).gone.getLsbD n = false) :
    ((s.releaseCore ln n k).core k).weirPart = ((s.core k).arr &&& ~~~(1#16 <<< n), (s.core k).gone, s.now,
      !(s.core k).pk && (s.core k).arm, if (s.core k).pk then (s.core k).arm else false, some ln) := by
  unfold State.releaseCore
  rw [if_neg (by simp [hl, hg])]
  dsimp only
  refine (State.core_onCore_part Core.weirPart ?_ _ _ _).trans ((State.takeView_weirPart _ _ _ _).trans ?_)
  · exact fun _ => rfl
  · rw [State.core_acquire, State.core_onCore, ← hl]
    rfl

theorem State.releaseCores_weirPart_ne (ln n : Nat) (ks : List Nat) {q : Nat} (h : q ∉ ks) (s : State) :
    ((ks.foldl (fun s k => s.releaseCore ln n k) s).core q).weirPart = (s.core q).weirPart := by
  induction ks generalizing s with
  | nil => rfl
  | cons k r ih =>
    rw [List.mem_cons, not_or] at h
    exact (ih h.2 _).trans (s.releaseCore_weirPart_ne ln n h.1)

/-- A release delivered to distinct cores makes of each what it makes of it alone. -/
theorem State.releaseCores_weirPart (ln n : Nat) {ks : List Nat} (hd : ks.Nodup) {k : Nat} (hk : k ∈ ks) (s : State)
    (hl : (s.core k).launch = some ln) (hg : (s.core k).gone.getLsbD n = false) :
    ((ks.foldl (fun s k => s.releaseCore ln n k) s).core k).weirPart = ((s.core k).arr &&& ~~~(1#16 <<< n), (s.core k).gone, s.now,
      !(s.core k).pk && (s.core k).arm, if (s.core k).pk then (s.core k).arm else false, some ln) := by
  induction ks generalizing s with
  | nil => cases hk
  | cons j r ih =>
    obtain ⟨hj, hr⟩ := List.nodup_cons.1 hd
    by_cases hjk : k = j
    · subst hjk
      exact (State.releaseCores_weirPart_ne ln n r hj _).trans (s.releaseCore_weirPart hl hg)
    · have hp := s.releaseCore_weirPart_ne ln n hjk
      simp only [Core.weirPart, Prod.mk.injEq] at hp
      obtain ⟨ha, hgo, -, hpk, harm, hla⟩ := hp
      have := ih hr ((List.mem_cons.1 hk).resolve_left hjk) (s.releaseCore ln n j) (hla.trans hl) (hgo ▸ hg)
      rw [ha, hgo, hpk, harm, State.releaseCore_now] at this
      exact this

theorem weirSteps : Claims.WeirSteps := by
  intro s u
  refine ⟨fun hl hf ho hw hn => ?_, fun hl ho => ?_, fun l hl hdue hm h0 hn hd => ?_⟩
  · refine ⟨s.countArrival u.a (u.e / 2) u.b u.c (u.e % 2 == 1), ?_, ?_, State.countArrival_mem _ _ _ _ _ _, ?_⟩
    · show execWeirArrivalCounted s = _
      simp only [execWeirArrivalCounted, u] at hl hf ho hw ⊢
      simp [hl, hf, ho, hw]
    · rw [State.countArrival_core]
      exact getLsbD_or_bit _ hn
    · rw [State.countArrival_core]
      cases u.e % 2 == 1 <;> simp [hn]
  · show execWeirArrivalCounted s = _
    simp only [execWeirArrivalCounted, u] at hl ho ⊢
    simp [hl, ho]
  · refine ⟨_, show execWeirRelease s = _ by
      simp only [execWeirRelease, u] at hl hdue hm ⊢
      simp only [hl, hdue, hm, bne_self_eq_false, Bool.not_true, Bool.or_self, Bool.false_eq_true, if_false]
      rw [if_neg (Nat.pos_iff_ne_zero.1 h0)], fun k hk hkl hkg => ?_⟩
    rw [State.core_eq_of_cores (State.weirCheck_cores _ _ _)]
    have hc := State.core_eq_of_cores (s.onLaunch_cores u.a (fun l => l.onWeir u.b (fun w => { w with due := 0 }))) k
    have hp := State.releaseCores_weirPart u.a u.b hd hk (s.onLaunch u.a (fun l => l.onWeir u.b (fun w => { w with due := 0 })))
      (hc ▸ hkl) (hc ▸ hkg)
    rw [hc, State.onLaunch_now] at hp
    simp only [Core.weirPart, Prod.mk.injEq] at hp
    obtain ⟨ha, -, hv, hpk, -⟩ := hp
    exact ⟨ha ▸ getLsbD_clear_bit _ _, hv, hpk⟩

end Sys2Proof.Machine
end

section
/-! SUPPORT. Sleepers of the event unit woken one after another, and the words of the event unit (R265 to R271). -/

namespace Sys2Proof.Machine
open Sys2Proof.Claims

theorem State.wakeAt_clusters (s : State) (p : Nat × Nat) : (s.wakeAt p).clusters = s.clusters := rfl
theorem State.wakeAt_now (s : State) (p : Nat × Nat) : (s.wakeAt p).now = s.now := rfl

theorem State.wakeAt_ctxAt_ne (s : State) {p q : Nat × Nat} (h : q ≠ p) : (s.wakeAt p).ctxAt q.1 q.2 = s.ctxAt q.1 q.2 := by
  unfold State.wakeAt
  rw [State.ctxAt_plan]
  exact State.ctxAt_onCtx_ne _ _ fun e => h (Prod.ext e.1 e.2)

theorem State.woken_wakeAt (s : State) {p : Nat × Nat} (h : p.2 < 11) : Woken s (s.wakeAt p) p := by
  refine ⟨?_, _, State.mem_plan _ _ _ _ _, rfl, rfl, rfl, rfl⟩
  unfold State.wakeAt
  rw [State.ctxAt_plan, State.ctxAt_onCtx _ _ _ h]
  rfl

/-- A context once woken stays so while others are. -/
theorem woken_after_wakeAt {s t : State} {p q : Nat × Nat} (h : Woken s t p) (hq : p ≠ q) : Woken s (t.wakeAt q) p := by
  obtain ⟨hx, x, hm, hw⟩ := h
  exact ⟨(t.wakeAt_ctxAt_ne hq).trans hx, x, mem_agendaInsert.2 (.inr hm), hw⟩

/-- Waking `p` later is waking it in the first state, where its context and the time are the same. -/
theorem woken_of_ctxAt {s u t : State} {p : Nat × Nat} (h : Woken u t p) (hx : u.ctxAt p.1 p.2 = s.ctxAt p.1 p.2) (hn : u.now = s.now) :
    Woken s t p := by
  obtain ⟨hc, x, hm, ha, hb, hw, hk⟩ := h
  rw [hx, hn] at hc
  exact ⟨hc, x, hm, ha, hb, hw, hn ▸ hk⟩

theorem woken_after_wakeAll {s t : State} {p : Nat × Nat} (h : Woken s t p) {l : List (Nat × Nat)} (hp : p ∉ l) :
    Woken s (l.foldl State.wakeAt t) p := by
  induction l generalizing t with
  | nil => exact h
  | cons q r ih =>
    rw [List.mem_cons, not_or] at hp
    exact ih (woken_after_wakeAt h hp.1) hp.2

/-- Distinct contexts woken one after another are all woken. -/
theorem State.woken_wakeAll {l : List (Nat × Nat)} (hd : l.Nodup) (hl : ∀ p ∈ l, p.2 < 11) (s : State) :
    ∀ p ∈ l, Woken s (l.foldl State.wakeAt s) p := by
  induction l generalizing s with
  | nil => nofun
  | cons q r ih =>
    obtain ⟨hq, hr⟩ := List.nodup_cons.1 hd
    intro p hp
    by_cases hpq : p = q
    · subst hpq
      exact woken_after_wakeAll (s.woken_wakeAt (hl p List.mem_cons_self)) hq
    · have hp' := (List.mem_cons.1 hp).resolve_left hpq
      exact woken_of_ctxAt (ih hr (fun p h => hl p (List.mem_cons_of_mem _ h)) (s.wakeAt q) p hp') (s.wakeAt_ctxAt_ne hpq) rfl

/-- Distinct contexts that all sleep at the barrier leave it by being woken. -/
theorem State.leaveBarrier_all {l : List (Nat × Nat)} {n : Nat} (hd : l.Nodup) (s : State)
    (hw : ∀ p ∈ l, (s.ctxAt p.1 p.2).wait = .barrier n) :
    l.foldl (fun s p => s.leaveBarrier n p) s = l.foldl State.wakeAt s := by
  induction l generalizing s with
  | nil => rfl
  | cons q r ih =>
    obtain ⟨hq, hr⟩ := List.nodup_cons.1 hd
    have h1 : s.leaveBarrier n q = s.wakeAt q := if_pos (hw q List.mem_cons_self)
    rw [List.foldl_cons, List.foldl_cons, h1]
    refine ih hr _ fun p hp => ?_
    rw [s.wakeAt_ctxAt_ne (ne_of_mem_of_not_mem hp hq)]
    exact hw p (List.mem_cons_of_mem _ hp)

/-! ## Words of the event unit -/

theorem Cluster.line_onLine (c : Cluster) {n : Nat} (f : EvLine → EvLine) (h : n < 32) :
    vget (c.onLine n f).lines n default = f (vget c.lines n default) := vget_vset_same _ _ _ h
theorem Cluster.mutex_onMutex (c : Cluster) {n : Nat} (f : EvMutex → EvMutex) (h : n < 8) :
    vget (c.onMutex n f).mutexes n default = f (vget c.mutexes n default) := vget_vset_same _ _ _ h
theorem Cluster.barrier_onBarrier (c : Cluster) {n : Nat} (f : EvBarrier → EvBarrier) (h : n < 4) :
    vget (c.onBarrier n f).barriers n default = f (vget c.barriers n default) := vget_vset_same _ _ _ h

theorem State.line_onCluster (s : State) (q : Nat) {n : Nat} (f : EvLine → EvLine) (h : n < 32) :
    vget ((s.onCluster q (fun c => c.onLine n f)).cluster q).lines n default = f (vget (s.cluster q).lines n default) := by
  rw [State.cluster_onCluster, Cluster.line_onLine _ _ h]

theorem State.mutex_onCluster (s : State) (q : Nat) {n : Nat} (f : EvMutex → EvMutex) (h : n < 8) :
    vget ((s.onCluster q (fun c => c.onMutex n f)).cluster q).mutexes n default = f (vget (s.cluster q).mutexes n default) := by
  rw [State.cluster_onCluster, Cluster.mutex_onMutex _ _ h]

theorem State.barrier_onCluster (s : State) (q : Nat) {n : Nat} (f : EvBarrier → EvBarrier) (h : n < 4) :
    vget ((s.onCluster q (fun c => c.onBarrier n f)).cluster q).barriers n default = f (vget (s.cluster q).barriers n default) := by
  rw [State.cluster_onCluster, Cluster.barrier_onBarrier _ _ h]

theorem State.cluster_eq_of_clusters {s u : State} (h : u.clusters = s.clusters) (q : Nat) : u.cluster q = s.cluster q := by
  unfold State.cluster
  rw [h]

theorem State.wakeAll_clusters (s : State) (l : List (Nat × Nat)) : (l.foldl State.wakeAt s).clusters = s.clusters :=
  foldl_keeps State.clusters (fun s p => s.wakeAt_clusters p) l s

theorem State.leaveBarrier_barriers (s : State) (n q : Nat) (p : Nat × Nat) :
    ((s.leaveBarrier n p).cluster q).barriers = (s.cluster q).barriers := by
  unfold State.leaveBarrier
  split
  · rfl
  · unfold State.passAt State.acquire
    refine State.cluster_onCluster_part (·.barriers) ?_ _ _ _
    exact fun _ => rfl

/-- Opening a barrier empties it and leaves its TARGET. -/
theorem State.openBarrier_barrier (s : State) (q : Nat) {n : Nat} (h : n < 4) :
    vget ((s.openBarrier q n).cluster q).barriers n default = { vget (s.cluster q).barriers n default with waiting := [] } := by
  unfold State.openBarrier
  dsimp only
  rw [foldl_keeps (fun s => (s.cluster q).barriers) (fun s p => s.leaveBarrier_barriers n q p) _ _]
  exact s.barrier_onCluster q _ h

theorem State.tryBarrier_target (s : State) (q : Nat) {n : Nat} (h : n < 4) :
    (vget ((s.tryBarrier q n).cluster q).barriers n default).target = (vget (s.cluster q).barriers n default).target := by
  unfold State.tryBarrier
  dsimp only
  split
  · rw [State.openBarrier_barrier _ _ h]
  · rfl

/-- The waiters of a barrier that opens are woken, each once. -/
theorem State.woken_openBarrier {s : State} {q n : Nat} {ws : List (Nat × Nat)} (hb : (vget (s.cluster q).barriers n default).waiting = ws)
    (hd : ws.Nodup) (hl : ∀ p ∈ ws, p.2 < 11 ∧ (s.ctxAt p.1 p.2).wait = .barrier n) : ∀ p ∈ ws, Woken s (s.openBarrier q n) p := by
  intro p hp
  unfold State.openBarrier
  dsimp only
  rw [hb, State.leaveBarrier_all hd (s.onCluster q (fun c => c.onBarrier n (fun e => { e with waiting := [] }))) fun p h => (hl p h).2]
  exact State.woken_wakeAll hd (fun p h => (hl p h).1) _ p hp

end Sys2Proof.Machine
end

section
/-! SUPPORT. Signals, stores of event-unit words and flume deliveries (R45, R123, R265 to R271). -/

namespace Sys2Proof.Machine
open Sys2Proof.Claims

section
variable {s : State} {u : Subj}

/-- A signal from a core of the cluster, to an event unit of its launch. -/
theorem signalEffect_own (hq : u.b = u.a / 8) (hl : (s.core (u.b * 8)).launch = some (u.f / 2)) (hc : u.c ≤ 200) :
    s.signalEffect u =
      if u.c = 0 then s.signalLine u.b u.d
      else if u.c < 100 then
        if (vget (s.cluster u.b).mutexes u.d default).owner = some (u.a, u.c - 1) then s.freeMutex u.b u.d else s
      else
        if (s.ctxAt u.a (u.c - 101)).wait != .barrier u.d || (vget (s.cluster u.b).barriers u.d default).waiting.contains (u.a, u.c - 101)
        then s
        else if (vget (s.cluster u.b).barriers u.d default).target = 0 then s.wakeAt (u.a, u.c - 101)
        else (s.onCluster u.b (fun c => c.onBarrier u.d (fun e =>
          { e with waiting := e.waiting ++ [(u.a, u.c - 101)] }))).tryBarrier u.b u.d := by
  simp only [State.signalEffect, if_neg (Nat.not_lt.2 hc), if_pos hq, hl, bne_self_eq_false, Bool.false_eq_true, if_false]
end

theorem signalLine_cases (s : State) (q : Nat) {n : Nat} (hn : n < 32) :
    let e := vget (s.cluster q).lines n default
    (e.sleepers = [] → (vget ((s.signalLine q n).cluster q).lines n default).count = min 0xFFFFFFFF (e.count + 1)) ∧
    (∀ p rest, e.sleepers = p :: rest → p.2 < 11 →
      vget ((s.signalLine q n).cluster q).lines n default = { e with sleepers := rest } ∧ Woken s (s.signalLine q n) p) := by
  intro e
  refine ⟨fun he => ?_, fun p rest he hp => ?_⟩
  · unfold State.signalLine
    rw [he]
    dsimp only
    rw [s.line_onCluster q _ hn]
  · unfold State.signalLine
    rw [he]
    dsimp only
    refine ⟨?_, State.woken_wakeAt _ hp⟩
    rw [State.cluster_eq_of_clusters (State.wakeAt_clusters _ _)]
    exact s.line_onCluster q _ hn

theorem freeMutex_cases (s : State) (q : Nat) {n : Nat} (hn : n < 8) :
    let e := vget (s.cluster q).mutexes n default
    (e.sleepers = [] → (vget ((s.freeMutex q n).cluster q).mutexes n default).owner = none) ∧
    (∀ p rest, e.sleepers = p :: rest → p.2 < 11 →
      vget ((s.freeMutex q n).cluster q).mutexes n default = { owner := some p, sleepers := rest } ∧ Woken s (s.freeMutex q n) p) := by
  intro e
  refine ⟨fun he => ?_, fun p rest he hp => ?_⟩
  · unfold State.freeMutex
    rw [he]
    dsimp only
    rw [s.mutex_onCluster q _ hn]
  · unfold State.freeMutex
    rw [he]
    dsimp only
    refine ⟨?_, State.woken_wakeAt _ hp⟩
    rw [State.cluster_eq_of_clusters (State.wakeAt_clusters _ _)]
    exact s.mutex_onCluster q _ hn

/-- A context that arrives at a barrier: it waits with the others, or all of them are released (R269). -/
theorem arriveBarrier_cases (s : State) (q : Nat) {n : Nat} (hn : n < 4) {me : Nat × Nat} :
    let e := vget (s.cluster q).barriers n default
    let v := (s.onCluster q (fun c => c.onBarrier n (fun e => { e with waiting := e.waiting ++ [me] }))).tryBarrier q n
    e.target ≠ 0 → me.2 < 11 → (s.ctxAt me.1 me.2).wait = .barrier n → me ∉ e.waiting →
    (e.waiting.length + 1 < e.target →
      vget (v.cluster q).barriers n default = { e with waiting := e.waiting ++ [me] } ∧ ∀ k c, v.ctxAt k c = s.ctxAt k c) ∧
    (e.target ≤ e.waiting.length + 1 → e.waiting.Nodup → (∀ p ∈ e.waiting, p.2 < 11 ∧ (s.ctxAt p.1 p.2).wait = .barrier n) →
      vget (v.cluster q).barriers n default = { e with waiting := [] } ∧ ∀ p ∈ e.waiting ++ [me], Woken s v p) := by
  intro e v h0 ht hw hme
  have hb := s.barrier_onCluster q (fun e => { e with waiting := e.waiting ++ [me] }) hn
  refine ⟨fun hlt => ?_, fun hge hd hl => ?_⟩
  · have hv : v = s.onCluster q (fun c => c.onBarrier n (fun e => { e with waiting := e.waiting ++ [me] })) := by
      refine if_neg ?_
      rw [hb]
      simpa [e] using fun _ => hlt
    rw [hv]
    exact ⟨hb, fun _ _ => rfl⟩
  · have hv : v = (s.onCluster q (fun c => c.onBarrier n (fun e => { e with waiting := e.waiting ++ [me] }))).openBarrier q n := by
      refine if_pos ?_
      rw [hb]
      simpa [e] using ⟨h0, hge⟩
    rw [hv]
    refine ⟨?_, State.woken_openBarrier (congrArg EvBarrier.waiting hb) ?_ ?_⟩
    · rw [State.openBarrier_barrier _ _ hn, hb]
    · exact List.nodup_append.2 ⟨hd, List.nodup_singleton _, fun a ha b hb => by
        rw [List.mem_singleton.1 hb]
        exact ne_of_mem_of_not_mem ha hme⟩
    · intro p hp
      obtain hp | hp := List.mem_append.1 hp
      · exact hl p hp
      · rw [List.mem_singleton.1 hp]
        exact ⟨ht, hw⟩

theorem signals : Claims.Signals := by
  intro s u
  have hd : execEventSignalEffect s = .next (if s.outstanding u.a u.e then s.planSignal 1 u
    else if u.f % 2 = 1 then s.planSignal (2 + pathCost (coreX u.a) (coreY u.a) (u.b % 256) (u.b / 256)) { u with e := 0, f := u.f / 2 * 2 }
    else s.signalEffect u) := rfl
  refine ⟨fun ho => hd.trans (by rw [if_pos ho]), fun ho hf => ?_, fun ho hf hq hl => ?_⟩
  · refine ⟨_, hd.trans (by rw [if_neg (by simp [ho]), if_pos hf]; rfl), rfl, rfl, ?_⟩
    dsimp only
    omega
  · have he : Does .eventSignalEffect s (s.signalEffect u) := hd.trans (by rw [if_neg (by simp [ho]), if_neg (by omega)])
    refine ⟨fun hc hn => ?_, fun t hc ht hn => ?_, fun t hc ht hn hw hme h0 => ?_⟩
    · rw [signalEffect_own hq hl (by omega), if_pos hc] at he
      obtain ⟨h1, h2⟩ := signalLine_cases s u.b hn
      exact ⟨fun hs => ⟨_, he, h1 hs⟩, fun p rest hs hp => ⟨_, he, h2 p rest hs hp⟩⟩
    · rw [signalEffect_own hq hl (by omega), if_neg (by omega), if_pos (by omega), show u.c - 1 = t by omega] at he
      obtain ⟨h1, h2⟩ := freeMutex_cases s u.b hn
      refine ⟨fun hs => ?_, fun hs hr => ?_, fun p rest hs hr hp => ?_⟩
      · rwa [if_neg hs] at he
      · rw [if_pos hs] at he
        exact ⟨_, he, h1 hr⟩
      · rw [if_pos hs] at he
        exact ⟨_, he, h2 p rest hr hp⟩
    · rw [signalEffect_own hq hl (by omega), if_neg (by omega), if_neg (by omega), show u.c - 101 = t by omega,
        if_neg (by simp [hw]; exact hme), if_neg h0] at he
      obtain ⟨h1, h2⟩ := arriveBarrier_cases s u.b hn (me := (u.a, t)) h0 ht hw hme
      exact ⟨fun hlt => ⟨_, he, h1 hlt⟩, fun hge hd hl => ⟨_, he, h2 hge hd hl⟩⟩

theorem State.ctxAt_acquire (s : State) (k q t : Nat) : (s.acquire k).ctxAt q t = s.ctxAt q t := by
  unfold State.ctxAt
  by_cases h : q = k
  · rw [h, State.core_acquire]
    rfl
  · rw [State.core_acquire_ne _ h]

theorem State.received_late (s : State) (k ln : Nat) : (s.received k ln).late = s.late := by
  unfold State.received
  split
  · rfl
  · exact State.onLaunch_late _ _ _

/-- A store of a line's COUNT wakes as many sleepers, in their order (R267). -/
theorem storeLine_wakes (s : State) (q : Nat) {n : Nat} (hn : n < 32) (v : Nat) :
    let e := vget (s.cluster q).lines n default
    let m := min v e.sleepers.length
    e.sleepers.Nodup → (∀ p ∈ e.sleepers, p.2 < 11) →
    vget ((s.storeLine q n v).cluster q).lines n default = { count := v - m, sleepers := e.sleepers.drop m } ∧
      ∀ p ∈ e.sleepers.take m, Woken s (s.storeLine q n v) p := by
  intro e m hd hl
  refine ⟨?_, fun p hp => ?_⟩
  · unfold State.storeLine
    dsimp only
    rw [State.cluster_eq_of_clusters (State.wakeAll_clusters _ _), s.line_onCluster q _ hn]
  · exact State.woken_wakeAll (hd.sublist (List.take_sublist _ _)) (fun p h => hl p (List.mem_of_mem_take h)) _ p hp

theorem eventStores : Claims.EventStores := by
  intro s u
  refine ⟨⟨_, rfl, ?_, fun ht hg => ?_⟩, fun hd hn hnd hl => ?_, fun hd hn => ?_, fun src dst off words => ⟨fun hl => ?_, fun hl => ?_⟩⟩
  · rw [State.core_onCtx, State.core_acquire]
    rfl
  · rw [State.ctxAt_onCtx _ _ _ ht, State.ctxAt_acquire, if_pos hg]
  · have he : s.eventStored = s := if_pos hd
    refine ⟨_, show execEventLineStore s = _ by rw [execEventLineStore, he], ?_⟩
    exact storeLine_wakes s u.a hn _ hnd hl
  · have he : s.eventStored = s := if_pos hd
    have hb := s.barrier_onCluster u.a (fun e => { e with target := min 88 (u.c % 256) }) hn
    refine ⟨_, show execBarrierTargetStore s = _ by rw [execBarrierTargetStore, he], ?_, fun h0 hnd hl => ?_⟩
    · split
      · rw [State.openBarrier_barrier _ _ hn, hb]
      · rw [State.tryBarrier_target _ _ hn, hb]
    · rw [if_pos (show min 88 (u.c % 256) = 0 by rw [h0, Nat.min_zero])]
      exact State.woken_openBarrier (s := s.onCluster u.a (fun c => c.onBarrier u.b (fun e => { e with target := min 88 (u.c % 256) })))
        (by rw [hb]) hnd hl
  · refine ⟨_, show execFlumeDelivery src dst off words s = _ by
      simp only [execFlumeDelivery, u] at hl ⊢
      rw [if_neg (by simp [hl])], ?_⟩
    simp only [List.map_append, List.map_map, State.received_late]
    rfl
  · refine ⟨_, show execFlumeDelivery src dst off words s = _ by
      simp only [execFlumeDelivery, u] at hl ⊢
      rw [if_pos (by simpa using hl)], State.received_late _ _ _⟩

end Sys2Proof.Machine

open Sys2Proof Sys2Proof.Machine

/-- Settles O53: a fold over distinct cores or contexts does to each what it does to it alone. -/
theorem syncSteps : Obligations.SyncSteps := ⟨weirSteps, signals, eventStores⟩

end

section
/-! SUPPORT. With its eight resolve slots free an instruction finds the labels of its results (R93, R319). -/

namespace Sys2Proof.Machine

/-- Every resolve slot of the issuing core is free. -/
def State.slotsFree (s : State) : Prop := s.here.freeSlots = 8

/-- An update that leaves the issuing core's slots alone leaves them free. -/
theorem State.slotsFree_of_slots {s u : State} (h : s.slotsFree) (hs : u.here.slots = s.here.slots) : u.slotsFree := by
  unfold slotsFree Core.freeSlots at *
  rw [hs]
  exact h

theorem State.slotsFree_onCore {s : State} (h : s.slotsFree) (k : Nat) {f : Core → Core} (hf : ∀ c, (f c).slots = c.slots) :
    (s.onCore k f).slotsFree := State.slotsFree_of_slots h (State.core_onCore_part Core.slots hf s k s.curCore)

theorem State.slotsFree_countVoids {s : State} (h : s.slotsFree) (l : List LabelIn) : (s.countVoids l).slotsFree := by
  unfold State.countVoids
  dsimp only
  split
  · exact h
  · exact State.slotsFree_onCore h _ (fun _ => rfl)

theorem State.slotsFree_countReads {s : State} (h : s.slotsFree) (l : List Handle) : (s.countReads l).slotsFree :=
  State.slotsFree_countVoids h _

theorem Core.freeSlot_isSome {c : Core} (h : c.freeSlots = 8) : ∃ n, c.freeSlot = some n := by
  have h0 : (vget c.slots 0 none).isNone = true := by
    have hall := List.filter_eq_self.1 ((List.filter_sublist (l := List.range 8)).eq_of_length (by simpa [Core.freeSlots] using h))
    exact hall 0 (by decide)
  exact Option.isSome_iff_exists.1 (List.find?_isSome.2 ⟨0, by decide, h0⟩)

theorem State.formAll_isSome {s : State} (h : s.slotsFree) (t o : Nat) (ins : List LabelIn) (store : Bool) :
    ∃ u ls, s.formAll s.curCore t o ins store = some (u, ls) := by
  have h8 : (s.core s.curCore).freeSlots = 8 := h
  unfold State.formAll
  dsimp only
  rw [if_neg (by simp only [h8]; simp)]
  exact ⟨_, _, rfl⟩

theorem State.formAll_ne_none {s : State} (h : s.slotsFree) {k : Nat} (hk : s.curCore = k) (t o : Nat) (ins : List LabelIn) (store : Bool) :
    s.formAll k t o ins store ≠ none := by
  subst hk
  obtain ⟨u, ls, hf⟩ := State.formAll_isSome h t o ins store
  rw [hf]
  nofun

/-- A combine that finds a regular slot free has its label at once. -/
theorem State.takeSlot_now {s : State} {k n : Nat} (h : (s.core k).freeSlot = some n) (t o : Nat) (i : LabelIn) (store : Bool) :
    ∃ u l, s.takeSlot k t o i store = (u, .now l) := by
  unfold State.takeSlot
  simp only [h]
  exact ⟨_, _, rfl⟩

/-- One combine alone takes a regular slot, and so has its label at once. -/
theorem State.formOne_isSome {s : State} (h : s.slotsFree) (i : LabelIn) : ∃ u l, s.formOne i = some (u, l) := by
  have h8 : (s.core s.curCore).freeSlots = 8 := h
  obtain ⟨n, hn⟩ := Core.freeSlot_isSome h8
  obtain ⟨v, x, hx⟩ := State.takeSlot_now hn s.curCtx s.nextId i false
  have hd : distinct [i] = [i] := by simp [distinct, List.eraseDups_cons]
  unfold State.formOne State.formAll
  dsimp only
  rw [if_neg (by simp only [h8]; simp), hd]
  cases hs : s.shape s.curCore s.curCtx i <;> simp [hs, hx, labelIn]

theorem State.formWith_isSome {s : State} (h : s.slotsFree) (hs : List Handle) : ∃ u l, s.formWith hs = some (u, l) :=
  State.formOne_isSome (s.slotsFree_countVoids h _) _

theorem State.formWith_ne_none {s : State} (h : s.slotsFree) (hs : List Handle) : s.formWith hs ≠ none := by
  obtain ⟨u, l, hf⟩ := State.formWith_isSome h hs
  rw [hf]
  nofun

end Sys2Proof.Machine
end

section
/-! SUPPORT. An instruction completes where its effect is to go on (R112). -/

namespace Sys2Proof.Machine
open Sys2Proof.Claims

/-- The instruction issues and its context goes on with the next one. -/
def Eff.goesOn (e : Eff) : Prop := ∃ u, e = .go u

theorem Eff.goesOn_go (u : State) : (Eff.go u).goesOn := ⟨u, rfl⟩

theorem Eff.goesOn_ite {p : Prop} [Decidable p] {a b : Eff} (ha : a.goesOn) (hb : b.goesOn) : (if p then a else b).goesOn := by
  split
  · exact ha
  · exact hb

/-- What issues goes on with the instruction behind it. -/
def GoesOn (s : State) (m : Meta) (o : Host.Outcome State Fault Refusal) : Prop :=
  ∃ u : State, o = .next (u.issued m (s.me.pc + BitVec.ofNat 64 m.len) m.ctl.gap.toNat (m.ctl.y == 1#1))

section
variable {i : Instr} {s : State} {m : Meta}

theorem issue_goesOn (hi : Issues i s m) {f : State → Eff} (h : (f s).goesOn) : GoesOn s m (issue i s f) := by
  obtain ⟨u, hu⟩ := h
  exact ⟨u, by rw [hi.issue_eq, hu]; rfl⟩

end

section
variable {s : State} (h : s.slotsFree)
include h

theorem State.resultOf_goesOn (k : Ctl) (lat : Nat) (d : BitVec 5) (v : Dword) (i : LabelIn) (flags : Nat) :
    (s.resultOf k lat d v i flags).goesOn := by
  obtain ⟨u, l, hf⟩ := State.formOne_isSome (s.slotsFree_countVoids h [i]) (s.checkedIn i [s.ambientNow])
  unfold State.resultOf
  simp only [hf]
  exact ⟨_, rfl⟩

theorem State.result_goesOn (k : Ctl) (lat : Nat) (d : BitVec 5) (v : Dword) (hs : List Handle) (flags : Nat) :
    (s.result k lat d v hs flags).goesOn := State.resultOf_goesOn h k lat d v _ flags

theorem State.vresultAt_goesOn (k : Ctl) (lo hi : Nat) (d : BitVec 5) (vm : VMod) (outs : List LaneOut) (flags : Nat)
    (sides : List RegWrite) : (s.vresultAt k lo hi d vm outs flags sides).goesOn := by
  obtain ⟨u, ls, hf⟩ := State.formAll_isSome (s.slotsFree_countVoids h (outs.map (·.2.2))) s.curCtx s.nextId
    ((outs.map (fun o => (o.1, o.2.1, s.checkedIn o.2.2 [s.ambientNow]))).map (·.2.2)) false
  have hc : (s.countVoids (outs.map (·.2.2))).curCore = s.curCore := (Lab.countVoids s _).curCore
  rw [hc] at hf
  unfold State.vresultAt
  simp only [hf]
  split <;> exact ⟨_, rfl⟩

theorem State.vresult_goesOn (k : Ctl) (lat : Nat) (d : BitVec 5) (vm : VMod) (outs : List LaneOut) (flags : Nat) :
    (s.vresult k lat d vm outs flags).goesOn := State.vresultAt_goesOn h k lat lat d vm outs flags []

theorem State.divideUnit_goesOn (hf : s.here.divFree ≤ s.now) (k : Ctl) (busy lat : Nat) (d : BitVec 5) (vm : VMod)
    (f : Nat → (Nat × Nat) × List Handle) : (s.divideUnit k busy lat d vm f).goesOn := by
  obtain ⟨u, hu⟩ := State.vresultAt_goesOn h k lat (lat + 1) d vm (s.floatOuts vm f).1 (s.floatOuts vm f).2 []
  unfold State.divideUnit
  rw [if_neg (Nat.not_lt.2 hf), hu]
  exact ⟨_, rfl⟩

end

end Sys2Proof.Machine
end

section
/-! SUPPORT. Scalar and vector results complete where their labels find slots (R93, R183 to R233). -/

namespace Sys2Proof.Machine
open Sys2Proof.Claims

section
variable {i : Instr} {s : State} {m : Meta} (hi : Issues i s m)
include hi

section
variable (h : s.slotsFree)
include h

theorem alu2_goesOn (k : Ctl) (lat : Nat) (d a b : BitVec 5) (f : Dword → Dword → Dword) : GoesOn s m (alu2 i s k lat d a b f) :=
  issue_goesOn hi (State.result_goesOn h ..)

theorem alu1_goesOn (k : Ctl) (d a : BitVec 5) (f : Dword → Dword) : GoesOn s m (alu1 i s k d a f) :=
  issue_goesOn hi (State.result_goesOn h ..)

theorem divide_goesOn (hd : s.here.sdivFree ≤ s.now) (k : Ctl) (d a b : BitVec 5) (sg : Bool) (f : Dword → Dword → Dword) :
    GoesOn s m (divide i s k d a b sg f) := by
  obtain ⟨u, l, hf⟩ := State.formWith_isSome h [(s.srcS a).2, (s.srcS b).2]
  unfold State.formWith at hf
  refine issue_goesOn hi ?_
  rw [if_neg (Nat.not_lt.2 hd)]
  simp only [hf]
  exact ⟨_, rfl⟩

theorem vint2_goesOn (k : Ctl) (d a b : BitVec 5) (vm : VMod) (f : Word → Word → Word) : GoesOn s m (vint2 i s k d a b vm f) :=
  issue_goesOn hi (State.vresult_goesOn h ..)

theorem vint1_goesOn (k : Ctl) (d a : BitVec 5) (vm : VMod) (f : Word → Word) : GoesOn s m (vint1 i s k d a vm f) :=
  issue_goesOn hi (State.vresult_goesOn h ..)

theorem permute_goesOn (k : Ctl) (d a b : BitVec 5) (vm : VMod) (src : Nat → Nat) : GoesOn s m (permute i s k d a b vm src) :=
  issue_goesOn hi (State.vresult_goesOn h ..)

end

end

section
variable {s : State} {m : Meta}

theorem vins_goesOn {k : Ctl} {d a : BitVec 5} {vm : VMod} {n : BitVec 4} (hi : Issues (.vins k d a vm n) s m) (h : s.slotsFree) :
    GoesOn s m (exec (.vins k d a vm n) s) := by
  obtain ⟨u, l, hf⟩ := State.formWith_isSome h [(s.srcS a).2]
  rw [exec_vins]
  refine issue_goesOn hi ?_
  simp only [hf]
  exact ⟨_, rfl⟩

theorem vqenc_goesOn {k : Ctl} {d a : BitVec 5} {vm : VMod} {mask : BitVec 4} {slot : BitVec 2}
    (hi : Issues (.vqenc k d a vm mask slot) s m) (h : s.slotsFree) : GoesOn s m (exec (.vqenc k d a vm mask slot) s) := by
  obtain ⟨u, l, hf⟩ := State.formWith_isSome h (s.quantisePair a vm mask).2.2.2
  rw [exec_vqenc]
  refine issue_goesOn hi ?_
  simp only [hf]
  exact ⟨_, rfl⟩

theorem fmtTrap_eq (s : State) : s.fmtTrap = s.me.fpctl.getLsbD 3 := by
  unfold State.fmtTrap bitAt
  rw [← BitVec.testBit_toNat, Nat.testBit_eq_decide_div_mod_eq]
  rfl

theorem vhdrw_goesOn {k : Ctl} {d a : BitVec 5} {vm : VMod} {slot : BitVec 2} (hi : Issues (.vhdrw k d a vm slot) s m) (h : s.slotsFree)
    (ht : headerBad ((s.srcS a).1.setWidth 16) = true → s.me.fpctl.getLsbD 3 = false) : GoesOn s m (exec (.vhdrw k d a vm slot) s) := by
  rw [exec_vhdrw]
  refine issue_goesOn hi ?_
  dsimp only
  split
  · next hb =>
    rw [if_neg (by rw [fmtTrap_eq, ht hb]; decide)]
    exact ⟨_, rfl⟩
  · exact State.vresultAt_goesOn h ..

end

/-! ## Memory -/

section
variable {s : State} {m : Meta}

/-- A local access that passes its checks is to the core's own memory (R190). -/
theorem own_of_checkAccess {acc : Acc} {va width : Nat} {poison : Bool} (h : s.checkAccess acc va width true poison = none) :
    ∃ o, placeOf s.curCore va = .own o := by
  cases hp : placeOf s.curCore va with
  | own o => exact ⟨o, rfl⟩
  | _ =>
    exfalso
    revert h
    unfold State.checkAccess
    simp only [hp]
    split <;> simp

theorem State.loadLabel_isSome (h : s.slotsFree) (hs : List Handle) : ∃ u l, s.loadLabel hs = some (u, l) := by
  unfold State.loadLabel
  dsimp only
  split
  · exact ⟨_, _, rfl⟩
  · exact State.formOne_isSome (s.slotsFree_countVoids h _) _

theorem scalarLoad_goesOn {i : Instr} {r : Load} (hr : loading i = some r) (hi : Issues i s m) (h : s.slotsFree)
    (hc : s.checkAccess .load (address s r.a r.off.toInt) (widthOf r.w) (r.lc == 1#1) (poisoned s r.a) = none)
    (hh : held s (address s r.a r.off.toInt) = false) : GoesOn s m (exec i s) := by
  obtain hl | hl := BitVec.eq_zero_or_eq_one r.lc
  · exact ⟨_, farLoad_goes hr hi hc hh hl⟩
  · obtain ⟨o, ho⟩ := own_of_checkAccess (by rw [hl] at hc; exact hc)
    obtain ⟨u, l, hf⟩ := State.loadLabel_isSome (s.slotsFree_countReads h [(s.srcS r.a).2]) _
    exact ⟨_, localLoad_goes hr hi hc hh hl ho hf⟩

theorem storing_acc {i : Instr} {r : Storing} (hr : storing s i = some r) : r.acc = .store ∨ r.acc = .red := by
  unfold storing at hr
  split at hr <;> cases hr <;> simp

theorem scalarStore_goesOn {i : Instr} {r : Storing} (hr : storing s i = some r) (hi : Issues i s m) (hw : i.wellFormed = true)
    (h : s.slotsFree) (hc : s.checkAccess r.acc r.va r.width r.lc r.poison = none) (hh : held s r.va = false)
    (hb : isGlobal r.va = true → s.bufferFull s.curCore [r.va / 64] = false) : GoesOn s m (exec i s) := by
  obtain ⟨u, l, hf⟩ := State.formWith_isSome (s.slotsFree_countReads h [(s.srcS r.a).2]) [(s.srcS r.b).2]
  obtain ⟨-, hgo⟩ := scalarStores s i r m hr hi hw hc hh
  obtain ⟨hst, hred⟩ := hgo hb
  obtain ha | ha := storing_acc hr
  · exact ⟨_, hst ha u l hf⟩
  · exact ⟨_, hred ha⟩

theorem State.startAtomic_goesOn {va width : Nat} {poison : Bool} (hc : s.checkAccess .atomic va width false poison = none)
    (hh : held s va = false) (k : Ctl) (d : BitVec 5) (op : ReqOp) (data cmp : Dword) (base : Handle) (hs : List Handle) :
    (s.startAtomic k d .atomic op va width poison data cmp base hs).goesOn := by
  unfold State.startAtomic
  unfold held at hh
  simp only [hc]
  rw [if_neg (by simp [hh])]
  split
  · split <;> exact ⟨_, rfl⟩
  · exact ⟨_, rfl⟩

theorem atomic_goesOn {i : Instr} {r : Atomic} (hr : atomic s i = some r) (hi : Issues i s m)
    (hc : s.checkAccess .atomic r.va r.width false r.poison = none) (hh : held s r.va = false) : GoesOn s m (exec i s) := by
  unfold atomic at hr
  split at hr
  · cases hr
    rw [exec_amo]
    refine issue_goesOn hi ?_
    rw [address_signExtend]
    exact State.startAtomic_goesOn hc hh ..
  · cases hr
    rw [exec_cas]
    refine issue_goesOn hi ?_
    unfold imm32
    rw [address_signExtend]
    exact State.startAtomic_goesOn hc hh ..
  · cases hr

theorem redc_goesOn {k : Ctl} {a b : BitVec 5} {off : BitVec 12} (hi : Issues (.redc k a b off) s m) (h : s.slotsFree)
    (hc : s.checkAccess .redc (address s a off.toInt) 4 false (poisoned s a) = none) : GoesOn s m (exec (.redc k a b off) s) := by
  rw [exec_redc]
  refine issue_goesOn hi ?_
  simp only [address_signExtend, hc]
  split
  · next hn =>
    exact absurd hn (State.formWith_ne_none (s.slotsFree_countReads h _) _)
  · exact ⟨_, rfl⟩

theorem pref_goesOn {k : Ctl} {a : BitVec 5} {off : BitVec 14} (hi : Issues (.pref k a off) s m) : GoesOn s m (exec (.pref k a off) s) := by
  rw [exec_pref]
  refine issue_goesOn hi ?_
  dsimp only
  split
  · exact ⟨_, rfl⟩
  · split <;> exact ⟨_, rfl⟩

theorem maintainRange_goesOn {i : Instr} (hi : Issues i s m) {a b : BitVec 5}
    (hc : s.checkRange (s.srcS a).1.toNat (s.srcS b).1.toNat (poisoned s a) = none)
    (hf : ∀ r ∈ s.reqs, r.core = s.curCore → r.isStore = true → r.away = false →
      (s.srcS a).1.toNat + (s.srcS b).1.toNat ≤ r.va ∨ r.va + r.width ≤ (s.srcS a).1.toNat) (k : Ctl) (kind : Nat) :
    GoesOn s m (maintainRange i s k a b kind) := by
  have hn : s.reqs.any (fun r => r.core == s.curCore && r.isStore && !r.away && decide ((s.srcS a).1.toNat < r.va + r.width) &&
      decide (r.va < (s.srcS a).1.toNat + (s.srcS b).1.toNat)) = false := by
    simp only [List.any_eq_false, Bool.and_eq_true, beq_iff_eq, Bool.not_eq_true', decide_eq_true_eq]
    rintro r hr ⟨⟨⟨⟨h1, h2⟩, h3⟩, h4⟩, h5⟩
    have := hf r hr h1 h2 h3
    omega
  refine issue_goesOn hi ?_
  unfold poisoned at hc
  simp only [hc]
  rw [if_neg (by simp only [hn]; decide)]
  exact ⟨_, rfl⟩

end

end Sys2Proof.Machine
end

section
/-! SUPPORT. The issuing core's slots after a release, and PUBLISH (R199). -/

namespace Sys2Proof.Machine
open Sys2Proof.Claims

theorem address_zero (s : State) (a : BitVec 5) : s.address a 0#64 = (address s a 0, poisoned s a) :=
  address_signExtend s a (0#64)

section
variable {s : State}

theorem State.slotsFree_sendPartials (h : s.slotsFree) (k t : Nat) (pc : Dword) : (s.sendPartials k t pc).slotsFree := by
  have send (ps : List Partial) (f : State → Partial → Req) (g : State → Partial → Nat) (u : State) (hu : u.slotsFree) :
      (ps.foldl (fun s p => s.send (f s p) (g s p)) u).slotsFree := by
    induction ps generalizing u with
    | nil => exact hu
    | cons p ps ih => exact ih _ hu
  exact send _ _ _ _ (State.slotsFree_onCore h k (fun _ => rfl))

theorem State.slotsFree_onMe (h : s.slotsFree) (f : Ctx → Ctx) : (s.onMe f).slotsFree :=
  State.slotsFree_of_slots h (by rw [State.here_onMe]; rfl)

theorem State.slotsFree_await (h : s.slotsFree) (tag lat left : Nat) (ws : List RegWrite) (fin : Option VqFin) (acq : Bool)
    (dst : List RegRef) : (s.await tag lat left ws fin acq dst).slotsFree := by
  have hb : s.bump.slotsFree := h
  unfold State.await State.launchPend
  dsimp only
  split
  · exact State.slotsFree_onCore hb _ (fun _ => rfl)
  · refine State.slotsFree_onMe ?_ _
    exact State.slotsFree_onCore hb _ (fun _ => rfl)

theorem State.slotsFree_markWrite (h : s.slotsFree) (k line : Nat) : (s.markWrite k line).slotsFree := h

theorem publish_goesOn {m : Meta} {k : Ctl} {d a : BitVec 5} (hi : Issues (.publish k d a) s m) (h : s.slotsFree)
    (hc : s.checkAccess .publish (address s a 0) 8 false (poisoned s a) = none) : GoesOn s m (exec (.publish k d a) s) := by
  rw [exec_publish]
  refine issue_goesOn hi ?_
  simp only [address_zero, hc]
  split
  · next hn =>
    exact absurd hn (State.formWith_ne_none (State.slotsFree_await (State.slotsFree_markWrite
      (State.slotsFree_sendPartials (s.slotsFree_countReads h _) ..) ..) ..) _)
  · exact ⟨_, rfl⟩

end
end Sys2Proof.Machine
end

section
/-! SUPPORT. Vector accesses whose lanes pass their checks complete (R220 to R233). -/

namespace Sys2Proof.Machine
open Sys2Proof.Claims

/-! ## Lanes -/

section
variable {s : State} {acc : Acc} {ls : List Nat} {addr : Address} {width : Nat} {lc : Bool}

theorem State.checkLanes_none (h : LanesPass s acc ls addr width lc) : s.checkLanes acc ls addr width lc = none :=
  List.findSome?_eq_none_iff.2 h.checks

theorem State.lanesHeld_false (h : LanesPass s acc ls addr width lc) : s.lanesHeld ls addr = false := by
  unfold State.lanesHeld
  cases hl : s.localHeld s.curCore with
  | false => rfl
  | true =>
    have hf : ∀ j ∈ ls, (localOf s.curCore (addr j).1).isSome = false := fun j hj => by simpa [held, hl] using h.free j hj
    simpa using hf

theorem address_ofInt (s : State) (a : BitVec 5) (n : Int) : s.address a (BitVec.ofInt 64 n) = (address s a n, poisoned s a) := by
  simp [State.address, address, poisoned, BitVec.ofInt_add]

theorem unitAddr_ofInt (s : State) (a : BitVec 5) (n : Int) : s.unitAddr a (BitVec.ofInt 64 n) = unit s a n := by
  unfold State.unitAddr unit
  rw [address_ofInt]

theorem unitAddr_zero (s : State) (a : BitVec 5) : s.unitAddr a 0#64 = unit s a 0 := unitAddr_ofInt s a 0

theorem strideAddr_eq (s : State) (a b : BitVec 5) : s.strideAddr a b = stride s a b := by
  unfold State.strideAddr stride
  rw [address_zero]

theorem indexAddr_eq (s : State) (a b : BitVec 5) (scale : BitVec 2) : s.indexAddr a b scale = indexed s a b scale := by
  unfold State.indexAddr indexed
  rw [address_zero]

end

/-! ## Loads and stores -/

section
variable {s : State} {m : Meta} {i : Instr} (hi : Issues i s m)
include hi

theorem loadVector_goesOn {vm : VMod} {lc : BitVec 1} {addrOf : State → LaneAddr} {addr : Address} {one : Bool} (ha : addrOf s = addr)
    (hp : LanesPass s .load (if one then (s.lanes vm).take 1 else s.lanes vm) addr 4 (lc == 1#1)) (k : Ctl) (d : BitVec 5) (lat : Nat)
    (regs : State → List Handle) (idx : Bool) : GoesOn s m (loadVector i s k d vm lc lat addrOf regs one idx) := by
  subst ha
  refine issue_goesOn hi ?_
  simp only [State.checkLanes_none hp, State.lanesHeld_false hp, Bool.false_eq_true, ↓reduceIte]
  exact Eff.goesOn_ite ⟨_, rfl⟩ (Eff.goesOn_ite ⟨_, rfl⟩ ⟨_, rfl⟩)

end

theorem State.storeItems_isSome {s : State} (h : s.slotsFree) {its : List StoreItem}
    (hb : s.bufferFull s.curCore ((its.filter (fun x => isGlobal x.1)).map (fun x => x.1 / 64)) = false) :
    ∃ u ls, s.storeItems its = some (u, ls) := by
  obtain ⟨u, ls, hf⟩ := State.formAll_isSome (s.slotsFree_countVoids h (its.map (fun x => x.2.2.2))) s.curCtx s.nextId
    ((its.map (fun x => (x.1, x.2.1, x.2.2.1, s.checkedIn x.2.2.2 [s.ambientNow]))).map (fun x => x.2.2.2)) true
  have hc : (s.countVoids (its.map (fun x => x.2.2.2))).curCore = s.curCore := (Lab.countVoids s _).curCore
  rw [hc] at hf
  unfold State.storeItems
  rw [if_neg (by simp [hb])]
  simp only [hf]
  exact ⟨_, _, rfl⟩

theorem State.storeItems_ne_none {s : State} (h : s.slotsFree) {its : List StoreItem} (hb : storesFit s (its.map Prod.fst)) :
    s.storeItems its ≠ none := by
  unfold storesFit at hb
  rw [List.filter_map, List.map_map] at hb
  obtain ⟨u, ls, hf⟩ := State.storeItems_isSome h hb
  rw [hf]
  nofun

theorem storesFit_countReads {s : State} {vas : List Nat} (h : storesFit s vas) (l : List Handle) : storesFit (s.countReads l) vas := by
  have hL := Lab.countReads s l
  unfold storesFit State.bufferFull State.bufferLines at *
  rw [hL.curCore, hL.reqs]
  exact h

theorem storeVector_goesOn {s : State} {m : Meta} {i : Instr} (hi : Issues i s m) (h : s.slotsFree) {vm : VMod} {lc : BitVec 1}
    {addrOf : State → LaneAddr} {addr : Address} (ha : addrOf s = addr) (hp : LanesPass s .store (s.lanes vm) addr 4 (lc == 1#1))
    (hb : storesFit s ((s.lanes vm).map (fun j => (addr j).1))) (v : BitVec 5) (regs : State → List Handle) :
    GoesOn s m (storeVector i s v vm lc addrOf regs) := by
  subst ha
  refine issue_goesOn hi ?_
  simp only [State.checkLanes_none hp, State.lanesHeld_false hp, Bool.false_eq_true, ↓reduceIte]
  split
  · next hn =>
    refine absurd hn (State.storeItems_ne_none (s.slotsFree_countReads h _) (storesFit_countReads ?_ _))
    rw [List.map_map]
    exact hb
  · exact ⟨_, rfl⟩

end Sys2Proof.Machine
end

section
/-! SUPPORT. Block formats complete (R228 to R233). -/

namespace Sys2Proof.Machine
open Sys2Proof.Claims

section
variable {s : State} {m : Meta}

theorem lanesOf_isB4 (ty : BitVec 3) : lanesOf (isB4 ty) = if ty = 6#3 then 4 else 8 := by
  simp [lanesOf, isB4]

theorem blocksOf_isB4 (ty : BitVec 3) : blocksOf (isB4 ty) = if ty = 6#3 then 4 else 2 := by
  simp [blocksOf, isB4]

theorem ownHalf_countReads (s : State) (l : List Handle) (va : Nat) : (s.countReads l).ownHalf va = s.ownHalf va := by
  have hL := Lab.countReads s l
  unfold State.ownHalf State.ownWord
  rw [hL.curCore]
  cases localOf s.curCore va with
  | none => rfl
  | some p => simp only [hL.lword]

/-- Where the headers of a block's register lie (R229). -/
def headers (s : State) (b : BitVec 5) : Address := fun j => ((address s b 0 + 2 * j) % 2 ^ 64, poisoned s b)

theorem headerAddr_eq (s : State) (b : BitVec 5) : s.headerAddr b = headers s b := by
  unfold State.headerAddr headers
  rw [address_zero]

theorem vqld_goesOn {k : Ctl} {d a b : BitVec 5} {vm : VMod} {lc : BitVec 1} (hi : Issues (.vqld k d a b vm lc) s m)
    (hc : LanesPass s .load (List.range 16) (unit s a 0) 4 (lc == 1#1))
    (hh : LanesPass s .load (List.range (if vm.ty = 6#3 then 4 else 2)) (headers s b) 2 (lc == 1#1))
    (hf : lc = 1#1 → s.slotsFree ∧ (s.me.fpctl.getLsbD 3 = true →
      ∀ j ∈ List.range (if vm.ty = 6#3 then 4 else 2), headerBad (s.ownHalf (headers s b j).1) = false)) :
    GoesOn s m (exec (.vqld k d a b vm lc) s) := by
  rw [← headerAddr_eq, ← blocksOf_isB4] at hh
  rw [← headerAddr_eq, ← blocksOf_isB4, ← fmtTrap_eq] at hf
  rw [exec_vqld]
  refine issue_goesOn hi ?_
  simp only [unitAddr_zero, State.checkLanes_none hc, State.checkLanes_none hh, State.lanesHeld_false hc, State.lanesHeld_false hh,
    Option.or_none, Bool.or_false, Bool.false_eq_true, ↓reduceIte]
  by_cases hl : lc = 1#1
  · obtain ⟨hs, ht⟩ := hf hl
    have hL := Lab.countReads s [(s.srcS a).2, (s.srcS b).2]
    rw [if_pos (by simp [hl]), if_neg]
    · split
      · next hn =>
        exact absurd hn (State.formAll_ne_none (State.slotsFree_countVoids (s.slotsFree_countReads hs _) _)
          (Lab.countVoids _ _).curCore _ _ _ _)
      · exact ⟨_, rfl⟩
    · have hm : (s.countReads [(s.srcS a).2, (s.srcS b).2]).fmtTrap = s.fmtTrap := by rw [fmtTrap_eq, hL.me, fmtTrap_eq]
      simp only [hm, ownHalf_countReads, Bool.and_eq_true, not_and, List.any_map, List.any_eq_true]
      rintro ⟨j, hj, hbad⟩ htr
      exact absurd hbad (by simp [ht htr j hj])
  · rw [if_neg (by simpa using hl)]
    exact ⟨_, rfl⟩

theorem vqst_goesOn {k : Ctl} {d a b c : BitVec 5} {vm : VMod} {mask : BitVec 4} (hi : Issues (.vqst k d a b c vm mask) s m)
    (h : s.slotsFree) (hc : LanesPass s .store (List.range (if vm.ty = 6#3 then 4 else 8)) (unit s a 0) 4 false)
    (hh : LanesPass s .store [0] (headers s c) 2 false)
    (hb : storesFit s ((List.range (if vm.ty = 6#3 then 4 else 8)).map (fun j => (unit s a 0 j).1) ++ [(headers s c 0).1])) :
    GoesOn s m (exec (.vqst k d a b c vm mask) s) := by
  rw [← lanesOf_isB4] at hc
  rw [← headerAddr_eq] at hh
  rw [← headerAddr_eq, ← lanesOf_isB4] at hb
  rw [exec_vqst]
  refine issue_goesOn hi ?_
  simp only [unitAddr_zero, State.checkLanes_none hc, State.checkLanes_none hh, State.lanesHeld_false hc, State.lanesHeld_false hh,
    Option.or_none, Bool.or_false, Bool.false_eq_true, ↓reduceIte]
  split
  · next hn =>
    refine absurd hn (State.storeItems_ne_none (s.slotsFree_countReads h _) (storesFit_countReads ?_ _))
    rw [List.map_append, List.map_map]
    exact hb
  · exact ⟨_, rfl⟩

end
end Sys2Proof.Machine
end

section
/-! SUPPORT. The matrix array's instructions complete, and a member of a gang sleeps until the gang joins (R125, R238, R242 to R248). -/

namespace Sys2Proof.Machine
open Sys2Proof.Claims

section
variable {s : State} {m : Meta}

theorem State.formWrites_ne_none (h : s.slotsFree) (lat : Nat) (dst : List RegRef) (outs : List (RegWrite × LabelIn)) :
    s.formWrites lat dst outs ≠ none := by
  unfold State.formWrites
  dsimp only
  split
  · next hn =>
    exact absurd hn (State.formAll_ne_none (s.slotsFree_countVoids h _) (Lab.countVoids _ _).curCore _ _ _ _)
  · nofun

theorem mzero_goesOn {k : Ctl} {d : BitVec 5} (hi : Issues (.mzero k d) s m) (hw : s.writeWaits d.toNat = false) :
    GoesOn s m (exec (.mzero k d) s) := by
  rw [exec_mzero]
  refine issue_goesOn hi ?_
  rw [if_neg (by simp [hw])]
  exact ⟨_, rfl⟩

theorem mscale_goesOn {k : Ctl} {d a : BitVec 5} {vm : VMod} (hi : Issues (.mscale k d a vm) s m) (h : s.slotsFree)
    (hw : s.writeWaits d.toNat = false) : GoesOn s m (exec (.mscale k d a vm) s) := by
  rw [exec_mscale]
  refine issue_goesOn hi ?_
  rw [if_neg (by simp [hw])]
  dsimp only
  split
  · next hn => exact absurd hn (State.formWrites_ne_none h _ _ _)
  · exact ⟨_, rfl⟩

theorem mwrv_goesOn {k : Ctl} {d a : BitVec 5} {vm : VMod} {r : BitVec 3} (hi : Issues (.mwrv k d a vm r) s m) (h : s.slotsFree)
    (hw : s.writeWaits d.toNat = false) : GoesOn s m (exec (.mwrv k d a vm r) s) := by
  rw [exec_mwrv]
  refine issue_goesOn hi ?_
  rw [if_neg (by simp [hw])]
  dsimp only
  split
  · next hn => exact absurd hn (State.formWrites_ne_none h _ _ _)
  · exact ⟨_, rfl⟩

theorem mrdv_goesOn {k : Ctl} {d a : BitVec 5} {vm : VMod} {r : BitVec 3} (hi : Issues (.mrdv k d a vm r) s m)
    (hj : s.jobOn (s.curCore / 8) 8 a.toNat = false) : GoesOn s m (exec (.mrdv k d a vm r) s) := by
  rw [exec_mrdv]
  refine issue_goesOn hi ?_
  rw [if_neg (by simp [hj])]
  exact ⟨_, rfl⟩

/-! ## Slices in memory -/

theorem sliceAddr_eq {b c : BitVec 5} {off : BitVec 32} (h : sliceOk s b c off) :
    s.sliceAddr b c off = ((address s b off.toInt, false), some (sliceAt s b c off)) := by
  obtain ⟨hp, ha, hc⟩ := h
  unfold State.sliceAddr imm32
  rw [address_signExtend]
  dsimp only
  rw [if_neg (by simp [ha, hc]), hp]
  unfold sliceAt
  simp only [hp, BitVec.ofInt_add, BitVec.ofInt_mul, BitVec.ofInt_natCast, BitVec.ofInt_toInt]

theorem sliceWords_length (k : Nat) : (sliceWords k).length = 128 := by
  simp [sliceWords]

theorem map_zipIdx_snd {α β : Type} (l : List α) (f : Nat → β) : l.zipIdx.map (fun p => f p.2) = (List.range l.length).map f := by
  rw [List.range_eq_range', ← List.zipIdx_map_snd 0 l, List.map_map]
  rfl

theorem mst_goesOn {k : Ctl} {a b c : BitVec 5} {off : BitVec 32} (hi : Issues (.mst k a b c off) s m) (h : s.slotsFree)
    (ho : sliceOk s b c off) (hc : LanesPass s .store (List.range 128) (sliceAt s b c off) 4 false)
    (hj : s.jobOn (s.curCore / 8) 8 a.toNat = false) (hb : storesFit s ((List.range 128).map (fun n => (sliceAt s b c off n).1))) :
    GoesOn s m (exec (.mst k a b c off) s) := by
  rw [exec_mst]
  refine issue_goesOn hi ?_
  simp only [sliceAddr_eq ho, State.checkLanes_none hc, State.lanesHeld_false hc, hj, Bool.or_false, Bool.false_eq_true, ↓reduceIte]
  split
  · next hn =>
    refine absurd hn (State.storeItems_ne_none (s.slotsFree_countReads h _) (storesFit_countReads ?_ _))
    have hv := map_zipIdx_snd (sliceWords s.curCore) (fun n => (sliceAt s b c off n).1)
    rw [sliceWords_length] at hv
    rw [List.map_map]
    exact (congrArg (storesFit s) hv).mpr hb
  · exact ⟨_, rfl⟩

theorem mld_goesOn {k : Ctl} {d b c : BitVec 5} {off : BitVec 32} (hi : Issues (.mld k d b c off) s m)
    (ho : sliceOk s b c off) (hc : LanesPass s .load (List.range 128) (sliceAt s b c off) 4 false)
    (hw : s.writeWaits d.toNat = false) : GoesOn s m (exec (.mld k d b c off) s) := by
  rw [exec_mld]
  refine issue_goesOn hi ?_
  simp only [sliceAddr_eq ho, State.checkLanes_none hc, State.lanesHeld_false hc, hw, Bool.or_false, Bool.false_eq_true, ↓reduceIte]
  exact ⟨_, rfl⟩

/-! ## Gangs -/

/-- A member of a gang sleeps, and its issue may be the one that joins the gang. -/
def SleepsInGang (s : State) (m : Meta) (o : Host.Outcome State Fault Refusal) : Prop :=
  ∃ u : State, o = .next (((u.issued m s.me.pc m.ctl.gap.toNat (m.ctl.y == 1#1)).onMe (fun x => { x with wait := .gang })).joinGang
    (s.curCore / 8))

theorem gangIssue_sleeps {i : Instr} (hi : Issues i s m) {o : GangOp} {regs : List RegRef} (h : memberMay s o regs) (k : Ctl) :
    SleepsInGang s m (gangIssue i s k o regs) := by
  obtain ⟨hbusy, hpend, hamb, hjob, hheld⟩ := h
  have hp : (gangReads s.curCore regs).any s.regPending = false := by simpa using hpend
  have hl : ((o.kind == 2 || o.flag == 1#1) && s.localHeld s.curCore) = false := by
    by_cases hk : o.kind = 2 ∨ o.flag = 1#1
    · simp [hheld hk]
    · simp only [not_or] at hk
      simp [hk]
  unfold gangIssue
  dsimp only
  rw [hi.issue_eq, if_neg (by simp [hbusy, hp, hamb, hjob]), if_neg (by rw [hl]; decide)]
  exact ⟨_, rfl⟩

theorem gang_sleeps {i : Instr} (hi : Issues i s m) {o : GangOp} {regs : List RegRef} (hg : gangOp i = some (o, regs))
    (h : memberMay s o regs) : SleepsInGang s m (exec i s) := by
  unfold gangOp at hg
  split at hg <;> cases hg <;> exact gangIssue_sleeps hi h _

end
end Sys2Proof.Machine
end

section
/-! SUPPORT. Transfers of control: taken they go where the manual says, not taken they go on (R173 to R177). -/

namespace Sys2Proof.Machine
open Sys2Proof.Claims

/-- The instruction issues and its context continues at `goal`. -/
def JumpsTo (m : Meta) (goal : Dword) (o : Host.Outcome State Fault Refusal) : Prop :=
  ∃ (u : State) (n : Nat), o = .next (u.issued m goal n (m.ctl.y == 1#1))

/-- A transfer does as it is taken or not. -/
def Transfers (s : State) (m : Meta) (x : Transfer) (o : Host.Outcome State Fault Refusal) : Prop :=
  (x.taken → JumpsTo m x.goal o) ∧ (¬x.taken → GoesOn s m o)

section
variable {i : Instr} {s : State} {m : Meta} (hi : Issues i s m)
include hi

theorem issue_jumpsTo {f : State → Eff} {goal : Dword} (h : ∃ u n, f s = .jump u goal n) : JumpsTo m goal (issue i s f) := by
  obtain ⟨u, n, hu⟩ := h
  exact ⟨u, m.ctl.gap.toNat + n, by rw [hi.issue_eq, hu]; rfl⟩

theorem issue_transfers_always {f : State → Eff} {p : Prop} {goal : Dword} (h : ∃ u n, f s = .jump u goal n) :
    Transfers s m ⟨p, True, goal⟩ (issue i s f) := ⟨fun _ => issue_jumpsTo hi h, fun hn => absurd trivial hn⟩

theorem issue_transfers_branch {f : State → Eff} {p q : Prop} {goal : Dword} {b : Bool} {hs : List Handle} (h : f s = s.branch b goal hs)
    (hb : b = true ↔ q) : Transfers s m ⟨p, q, goal⟩ (issue i s f) := by
  refine ⟨fun ht => issue_jumpsTo hi ⟨s.countVoids [plainIn hs], 2, ?_⟩,
    fun ht => issue_goesOn hi ⟨s.countVoids [plainIn hs], ?_⟩⟩
  · rw [h, State.branch, if_pos (hb.2 ht)]
  · rw [h, State.branch, if_neg (fun hc => ht (hb.1 hc))]

end

theorem target_eq (s : State) {n : Nat} (off : BitVec n) : s.me.pc + (off.signExtend 64 <<< 2) = target s off := by
  unfold target
  rw [BitVec.ofInt_add, BitVec.ofInt_toInt, BitVec.ofInt_mul, BitVec.mul_comm, BitVec.shiftLeft_eq_mul_twoPow]
  rfl

theorem target19_eq (s : State) (off : BitVec 19) : s.target19 off = target s off := target_eq s off
theorem target32_eq (s : State) (off : BitVec 32) : s.target32 off = target s off := target_eq s off

/-- BRC's condition over the integers (R174). -/
theorem brcTaken_iff (n : Nat) (x y : Dword) : brcTaken n x y = true ↔
    (match n with
      | 0 => x = y
      | 1 => x ≠ y
      | 2 => x.toInt < y.toInt
      | 3 => y.toInt ≤ x.toInt
      | 4 => x.toNat < y.toNat
      | _ => y.toNat ≤ x.toNat) := by
  unfold brcTaken
  split <;> simp [BitVec.slt, BitVec.ult]

section
variable {s : State} {m : Meta}

theorem jumpReg_jump {a : BitVec 5} {f : State → Option State} (h : (s.srcS a).1.toNat % 4 = 0) (hp : poisoned s a = false)
    (hf : ∀ l, f (s.countReads l) ≠ none) : ∃ u n, s.jumpReg a f = .jump u (s.srcS a).1 n := by
  unfold poisoned at hp
  unfold State.jumpReg
  dsimp only
  rw [if_neg (by simp [h]), if_neg (by simpa using hp)]
  split
  · next hn => exact absurd hn (hf _)
  · exact ⟨_, _, rfl⟩

theorem State.link_ne_none (h : s.slotsFree) (k : Ctl) : s.link k ≠ none := by
  unfold State.link
  split
  · next hn => exact absurd hn (State.formWith_ne_none h _)
  · nofun

theorem call_transfers {k : Ctl} {off : BitVec 19} (hi : Issues (.call k off) s m) (h : s.slotsFree) :
    Transfers s m ⟨s.slotsFree, True, target s off⟩ (exec (.call k off) s) := by
  rw [exec_call]
  refine issue_transfers_always hi ?_
  split
  · next hn => exact absurd hn (State.link_ne_none h k)
  · exact ⟨_, _, by rw [target19_eq]⟩

theorem loop_transfers {k : Ctl} {d : BitVec 5} {off : BitVec 19} (hi : Issues (.loop k d off) s m) (h : s.slotsFree) :
    Transfers s m ⟨s.slotsFree, BitVec.ofInt 64 ((s.srcS d).1.toInt - 1) ≠ 0#64, target s off⟩ (exec (.loop k d off) s) := by
  have hv : (s.srcS d).1 - 1#64 = BitVec.ofInt 64 ((s.srcS d).1.toInt - 1) := by
    rw [Int.sub_eq_add_neg, BitVec.ofInt_add, BitVec.ofInt_toInt, BitVec.sub_eq_add_neg]
    rfl
  obtain ⟨u, l, hf⟩ := State.formWith_isSome h [(s.srcS d).2]
  rw [exec_loop]
  refine ⟨fun ht => issue_jumpsTo hi ?_, fun ht => issue_goesOn hi ?_⟩
  · simp only [hf, hv]
    rw [if_pos (by simpa using ht), target19_eq]
    exact ⟨_, _, rfl⟩
  · simp only [hf, hv]
    rw [if_neg (by simpa using ht)]
    exact ⟨_, rfl⟩

/-- The transfers that ask for nothing but their operands (R173 to R177). -/
theorem control_transfers {i : Instr} {x : Transfer} (hi : Issues i s m) (hx : transfer s i = some x) (hw : x.when)
    (hn : ∀ k, (∀ n, i ≠ .srvFinish k n) ∧ i ≠ .srvRefuse k) : Transfers s m x (exec i s) := by
  cases i
  case br k off =>
    cases hx
    rw [exec_br]
    exact issue_transfers_always hi ⟨_, _, by rw [target19_eq]⟩
  case brc k a b cond off =>
    cases hx
    rw [exec_brc]
    exact issue_transfers_branch hi (by rw [target32_eq]) (brcTaken_iff ..)
  case brz k a off =>
    cases hx
    rw [exec_brz]
    exact issue_transfers_branch hi (by rw [target19_eq]) (by simp)
  case brnz k a off =>
    cases hx
    rw [exec_brnz]
    exact issue_transfers_branch hi (by rw [target19_eq]) (by simp)
  case brv k a off =>
    cases hx
    rw [exec_brv]
    exact issue_transfers_branch hi (by rw [if_neg (by simpa using hw), target19_eq]) Iff.rfl
  case loop k d off =>
    cases hx
    exact loop_transfers hi hw
  case call k off =>
    cases hx
    exact call_transfers hi hw
  case callr k a =>
    cases hx
    obtain ⟨h, ha, hp⟩ := hw
    rw [exec_callr]
    exact issue_transfers_always hi (jumpReg_jump ha hp (fun l => State.link_ne_none (s.slotsFree_countReads h l) k))
  case ret k =>
    cases hx
    obtain ⟨ha, hp⟩ := hw
    rw [exec_ret]
    exact issue_transfers_always hi (jumpReg_jump ha hp nofun)
  case jmpr k a =>
    cases hx
    obtain ⟨ha, hp⟩ := hw
    rw [exec_jmpr]
    exact issue_transfers_always hi (jumpReg_jump ha hp nofun)
  case srvFinish k n => exact absurd rfl ((hn k).1 n)
  case srvRefuse k => exact absurd rfl (hn k).2
  all_goals cases hx

end
end Sys2Proof.Machine
end

section
/-! SUPPORT. Contexts, system registers, weirs, events, timelines and phases: what passes, and what sleeps (R177 to R182, R188, R259 to
R276). -/

namespace Sys2Proof.Machine
open Sys2Proof.Claims

/-- The instruction issues and its context sleeps, its PC where it was. -/
def SleepsIn (s : State) (m : Meta) (w : Wait) (o : Host.Outcome State Fault Refusal) : Prop :=
  ∃ u : State, o = .next ((u.issued m s.me.pc m.ctl.gap.toNat (m.ctl.y == 1#1)).onMe (fun x => { x with wait := w }))

theorem issue_sleepsIn {i : Instr} {s : State} {m : Meta} (hi : Issues i s m) {f : State → Eff} {w : Wait} (h : ∃ u, f s = .sleep u w) :
    SleepsIn s m w (issue i s f) := by
  obtain ⟨u, hu⟩ := h
  exact ⟨u, by rw [hi.issue_eq, hu]; rfl⟩

section
variable {s : State} {m : Meta}

/-! ## Contexts and system registers -/

theorem halt_goesOn {k : Ctl} (hi : Issues (.halt k) s m) (hc : s.curCtx = 0) (hr : s.me.sr = false) (hn : s.here.noHelper = true) :
    GoesOn s m (exec (.halt k) s) := by
  rw [exec_halt]
  refine issue_goesOn hi ?_
  rw [if_neg (by simp [hc]), if_neg (by simp [hr]), if_pos hn]
  exact ⟨_, rfl⟩

theorem halt_sleepsIn {k : Ctl} (hi : Issues (.halt k) s m) (hc : s.curCtx = 0) (hr : s.me.sr = false) (hn : s.here.noHelper = false) :
    SleepsIn s m .halt (exec (.halt k) s) := by
  rw [exec_halt]
  refine issue_sleepsIn hi ⟨s, ?_⟩
  rw [if_neg (by simp [hc]), if_neg (by simp [hr]), if_neg (by simp [hn])]

theorem hend_goesOn {k : Ctl} (hi : Issues (.hend k) s m) (hc : s.curCtx ≠ 0) (hm : s.holdsMutex s.curCore s.curCtx = false) :
    GoesOn s m (exec (.hend k) s) := by
  rw [exec_hend]
  refine issue_goesOn hi ?_
  rw [if_neg hc, if_neg (by simp [hm])]
  exact ⟨_, rfl⟩

section
variable {k : Ctl} {a : BitVec 5} (hi : Issues (.hjoin k a) s m) (h1 : 1 ≤ (s.srcS a).1.toNat) (h2 : (s.srcS a).1.toNat ≤ 10)
  (h3 : (s.srcS a).1.toNat ≠ s.curCtx)
include hi h1 h2 h3

theorem hjoin_goesOn (hl : (s.here.ctx (s.srcS a).1.toNat).live = false) : GoesOn s m (exec (.hjoin k a) s) := by
  rw [exec_hjoin]
  refine issue_goesOn hi ?_
  dsimp only
  rw [if_neg (by simp; omega), if_neg (by simp [hl])]
  exact ⟨_, rfl⟩

theorem hjoin_sleepsIn (hl : (s.here.ctx (s.srcS a).1.toNat).live = true) :
    SleepsIn s m (.hjoin (s.srcS a).1.toNat) (exec (.hjoin k a) s) := by
  rw [exec_hjoin]
  refine issue_sleepsIn hi ⟨s.countVoids [plainIn [(s.srcS a).2]], ?_⟩
  dsimp only
  rw [if_neg (by simp; omega), if_pos hl]

end

theorem hstart_goesOn {k : Ctl} {d a b : BitVec 5} {off : BitVec 32} (hi : Issues (.hstart k d a b off) s m) (h : s.slotsFree)
    (hr : s.me.sr = false) (hf : s.here.freeHelper ≠ none) : GoesOn s m (exec (.hstart k d a b off) s) := by
  obtain ⟨n, hn⟩ := Option.ne_none_iff_exists'.1 hf
  rw [exec_hstart]
  refine issue_goesOn hi ?_
  simp only [hr, hn, Bool.false_eq_true, ↓reduceIte]
  split
  · next hn => exact absurd hn (State.formWith_ne_none (s.slotsFree_countReads h _) _)
  · exact ⟨_, rfl⟩

theorem srd_goesOn {k : Ctl} {d : BitVec 5} {n : BitVec 12} (hi : Issues (.srd k d n) s m) (hn : s.sysReg n.toNat ≠ none) :
    GoesOn s m (exec (.srd k d n) s) := by
  obtain ⟨v, hv⟩ := Option.ne_none_iff_exists'.1 hn
  rw [exec_srd]
  refine issue_goesOn hi ?_
  simp only [hv]
  exact ⟨_, rfl⟩

theorem swr_goesOn {k : Ctl} {a : BitVec 5} {n : BitVec 12} (hi : Issues (.swr k a n) s m)
    (hn : n = 0x008#12 ∨ n = 0x009#12 ∨ (n = 0x00A#12 ∧ isPend (s.srcS a).2 = false ∧
      ((((s.srcS a).1.setWidth 16 : Handle).toNat < 0xFFF0) ∨
        (0xFFF8 ≤ ((s.srcS a).1.setWidth 16 : Handle).toNat ∧ ((s.srcS a).1.setWidth 16 : Handle).toNat < 0xFFFC)))) :
    GoesOn s m (exec (.swr k a n) s) := by
  rw [exec_swr]
  refine issue_goesOn hi ?_
  obtain rfl | rfl | ⟨rfl, hp, hh⟩ := hn
  · exact ⟨_, rfl⟩
  · exact ⟨_, rfl⟩
  · have hv : ¬(isPend ((s.srcS a).1.setWidth 16) || isReserved ((s.srcS a).1.setWidth 16)) = true := by
      simp only [isPend, isReserved, Bool.or_eq_true, beq_iff_eq, decide_eq_true_eq]
      omega
    exact ⟨_, (if_neg (by simp [hp])).trans (if_neg hv)⟩

/-! ## Weirs -/

theorem weirFault_none {n : Nat} {v : Dword} (h : AtWeir s n v) : s.weirFault n v = none := by
  obtain ⟨hr, hw, hv, l, hl, hm⟩ := h
  unfold State.weirFault
  simp only [hr, hl, hm, hw, Bool.false_eq_true, ↓reduceIte]
  rw [if_neg (by simpa using hv)]

theorem State.weirWait_goesOn {n : Nat} (h : s.here.arr.getLsbD n = false) : (s.weirWait n).goesOn := by
  unfold State.weirWait
  rw [if_neg (by simp [h])]
  exact ⟨_, rfl⟩

theorem State.weirWait_sleep {n : Nat} (h : s.here.arr.getLsbD n = true) : s.weirWait n = .sleep s (.weir n) := by
  unfold State.weirWait
  rw [if_pos h]

theorem resumedWeir_iff {n : BitVec 4} : s.resumedWeir n.toNat = true ↔ s.me.ap = true ∧ s.me.weirN = n := by
  simp [State.resumedWeir]

theorem weir_goesOn {k : Ctl} {b : BitVec 5} {n : BitVec 4} (hi : Issues (.weir k b n) s m) (hw : AtWeir s n.toNat (s.srcS b).1)
    (hp : s.me.ap = true) (hn : s.me.weirN = n) (ha : s.here.arr.getLsbD n.toNat = false) : GoesOn s m (exec (.weir k b n) s) := by
  rw [exec_weir]
  refine issue_goesOn hi ?_
  simp only [weirFault_none hw]
  rw [if_pos (resumedWeir_iff.2 ⟨hp, hn⟩)]
  exact State.weirWait_goesOn ha

theorem weir_sleepsIn {k : Ctl} {b : BitVec 5} {n : BitVec 4} (hi : Issues (.weir k b n) s m) (hw : AtWeir s n.toNat (s.srcS b).1)
    (hp : s.me.ap = false ∨ s.me.weirN ≠ n ∨ s.here.arr.getLsbD n.toNat = true) :
    SleepsIn s m (.weir n.toNat) (exec (.weir k b n) s) := by
  rw [exec_weir]
  refine issue_sleepsIn hi ?_
  simp only [weirFault_none hw]
  split
  · next hr =>
    obtain ⟨h1, h2⟩ := resumedWeir_iff.1 hr
    have ha : s.here.arr.getLsbD n.toNat = true := by simpa [h1, h2] using hp
    exact ⟨_, State.weirWait_sleep ha⟩
  · exact ⟨_, rfl⟩

theorem weirw_goesOn {k : Ctl} {n : BitVec 4} (hi : Issues (.weirw k n) s m) (hw : AtWeir s n.toNat 0#64)
    (ha : s.here.arr.getLsbD n.toNat = false) : GoesOn s m (exec (.weirw k n) s) := by
  rw [exec_weirw]
  refine issue_goesOn hi ?_
  simp only [weirFault_none hw]
  exact State.weirWait_goesOn ha

theorem weirw_sleepsIn {k : Ctl} {n : BitVec 4} (hi : Issues (.weirw k n) s m) (hw : AtWeir s n.toNat 0#64)
    (ha : s.here.arr.getLsbD n.toNat = true) : SleepsIn s m (.weir n.toNat) (exec (.weirw k n) s) := by
  rw [exec_weirw]
  refine issue_sleepsIn hi ⟨s, ?_⟩
  simp only [weirFault_none hw]
  exact State.weirWait_sleep ha

theorem weira_goesOn {k : Ctl} {b : BitVec 5} {n : BitVec 4} (hi : Issues (.weira k b n) s m) (hw : AtWeir s n.toNat (s.srcS b).1) :
    GoesOn s m (exec (.weira k b n) s) := by
  rw [exec_weira]
  refine issue_goesOn hi ?_
  simp only [weirFault_none hw]
  exact ⟨_, rfl⟩

theorem weirx_goesOn {k : Ctl} {n : BitVec 4} (hi : Issues (.weirx k n) s m) (hw : AtWeir s n.toNat 0#64) :
    GoesOn s m (exec (.weirx k n) s) := by
  rw [exec_weirx]
  refine issue_goesOn hi ?_
  simp only [weirFault_none hw]
  exact ⟨_, rfl⟩

/-! ## Events -/

section
variable {k : Ctl} {n : BitVec 5}

theorem evwaitLine_goesOn (hi : Issues (.evwaitLine k n) s m)
    (h : 0 < (vget ((s.afterSignals (fun c => c == 0) n.toNat).cluster (s.curCore / 8)).lines n.toNat default).count) :
    GoesOn s m (exec (.evwaitLine k n) s) := by
  rw [exec_evwaitLine]
  exact issue_goesOn hi ⟨_, if_pos h⟩

theorem evwaitLine_sleepsIn (hi : Issues (.evwaitLine k n) s m)
    (h : (vget ((s.afterSignals (fun c => c == 0) n.toNat).cluster (s.curCore / 8)).lines n.toNat default).count = 0) :
    SleepsIn s m (.line n.toNat) (exec (.evwaitLine k n) s) := by
  rw [exec_evwaitLine]
  exact issue_sleepsIn hi ⟨_, if_neg (by rw [h]; decide)⟩

theorem evwaitMutex_goesOn (hi : Issues (.evwaitMutex k n) s m) (ho : s.ownsMutex s.curCore s.curCtx n.toNat = false)
    (h : (vget ((s.afterSignals (fun c => decide (0 < c) && decide (c < 100)) n.toNat).cluster (s.curCore / 8)).mutexes n.toNat
      default).owner = none) : GoesOn s m (exec (.evwaitMutex k n) s) := by
  rw [exec_evwaitMutex]
  refine issue_goesOn hi ?_
  simp only [ho, h, Bool.false_eq_true, ↓reduceIte]
  exact ⟨_, rfl⟩

theorem evwaitMutex_sleepsIn (hi : Issues (.evwaitMutex k n) s m) (ho : s.ownsMutex s.curCore s.curCtx n.toNat = false)
    (h : (vget ((s.afterSignals (fun c => decide (0 < c) && decide (c < 100)) n.toNat).cluster (s.curCore / 8)).mutexes n.toNat
      default).owner ≠ none) : SleepsIn s m (.mutex n.toNat) (exec (.evwaitMutex k n) s) := by
  obtain ⟨p, hp⟩ := Option.ne_none_iff_exists'.1 h
  rw [exec_evwaitMutex]
  refine issue_sleepsIn hi ?_
  simp only [ho, hp, Bool.false_eq_true, ↓reduceIte]
  exact ⟨_, rfl⟩

theorem evwaitBarrier_sleepsIn (hi : Issues (.evwaitBarrier k n) s m)
    (h : (vget (s.cluster (s.curCore / 8)).barriers n.toNat default).target ≠ 0) :
    SleepsIn s m (.barrier n.toNat) (exec (.evwaitBarrier k n) s) := by
  rw [exec_evwaitBarrier]
  exact issue_sleepsIn hi ⟨_, if_neg h⟩

theorem evsigMutex_goesOn (hi : Issues (.evsigMutex k n) s m) (h : s.ownsMutex s.curCore s.curCtx n.toNat = true) :
    GoesOn s m (exec (.evsigMutex k n) s) := by
  rw [exec_evsigMutex]
  exact issue_goesOn hi ⟨_, if_pos h⟩

theorem evsigLine_goesOn {a : BitVec 5} {far : BitVec 1} (hi : Issues (.evsigLine k a far n) s m)
    (h : far = 1#1 → s.phased s.curCore = false ∧
      ∃ l, s.launchOf s.curCore = some l ∧ l.holds (clusterOfId (s.srcS a).1.toNat) = true) :
    GoesOn s m (exec (.evsigLine k a far n) s) := by
  rw [exec_evsigLine]
  refine issue_goesOn hi ?_
  by_cases hf : far = 1#1
  · obtain ⟨hp, l, hl, hh⟩ := h hf
    rw [if_pos (by simp [hf])]
    simp only [hp, hl, hh, Bool.false_eq_true, ↓reduceIte, Bool.not_true]
    exact ⟨_, rfl⟩
  · rw [if_neg (by simpa using hf)]
    exact ⟨_, rfl⟩

end

/-! ## Timelines -/

theorem State.tlPass_goesOn {there : Bool} (h : there = true) (w : Wait) : (s.tlPass there w).goesOn := ⟨_, if_pos h⟩

theorem State.tlPass_sleep {there : Bool} (h : there = false) (w : Wait) : s.tlPass there w = .sleep s w := if_neg (by simp [h])

theorem tlwaitMem_goesOn {k : Ctl} {a b : BitVec 5} (hi : Issues (.tlwaitMem k a b) s m)
    (hc : s.checkAccess .tlwait (address s a 0) 8 false (poisoned s a) = none) {o : Nat}
    (ho : placeOf s.curCore (address s a 0) = .control o)
    (hv : (s.srcS b).1.toNat ≤ (s.tenant (s.tenantOf s.curCore)).mill.get ((o % 0x80000000000 - 0x1000) / 8) 0) :
    GoesOn s m (exec (.tlwaitMem k a b) s) := by
  rw [exec_tlwaitMem]
  refine issue_goesOn hi ?_
  simp only [address_zero, hc, ho]
  exact State.tlPass_goesOn (decide_eq_true hv) _

theorem tlwaitMem_sleepsIn {k : Ctl} {a b : BitVec 5} (hi : Issues (.tlwaitMem k a b) s m)
    (hc : s.checkAccess .tlwait (address s a 0) 8 false (poisoned s a) = none)
    (ho : placeOf s.curCore (address s a 0) = .global) :
    SleepsIn s m (.tlMem (address s a 0) (s.srcS b).1.toNat) (exec (.tlwaitMem k a b) s) := by
  rw [exec_tlwaitMem]
  refine issue_sleepsIn hi ?_
  simp only [address_zero, hc, ho]
  exact ⟨_, rfl⟩

section
variable {k : Ctl} {b : BitVec 5}

theorem tlwaitSluice_goesOn (hi : Issues (.tlwaitSluice k b) s m) (hj : (s.srcS b).1.toNat ≤ s.me.jobLast)
    (ht : (s.srcS b).1.toNat ≤ s.me.timeline) : GoesOn s m (exec (.tlwaitSluice k b) s) := by
  rw [exec_tlwaitSluice]
  refine issue_goesOn hi ?_
  rw [if_neg (Nat.not_lt.2 hj)]
  exact State.tlPass_goesOn (decide_eq_true ht) _

theorem tlwaitSluice_sleepsIn (hi : Issues (.tlwaitSluice k b) s m) (hj : (s.srcS b).1.toNat ≤ s.me.jobLast)
    (ht : s.me.timeline < (s.srcS b).1.toNat) : SleepsIn s m (.tlSluice (s.srcS b).1.toNat) (exec (.tlwaitSluice k b) s) := by
  rw [exec_tlwaitSluice]
  refine issue_sleepsIn hi ?_
  rw [if_neg (Nat.not_lt.2 hj)]
  exact ⟨_, State.tlPass_sleep (decide_eq_false (Nat.not_le.2 ht)) _⟩

theorem tlwaitMillrace_goesOn {n : BitVec 6} (hi : Issues (.tlwaitMillrace k b n) s m)
    (hv : (s.srcS b).1.toNat ≤ (s.tenant (s.tenantOf s.curCore)).mill.get n.toNat 0) : GoesOn s m (exec (.tlwaitMillrace k b n) s) := by
  rw [exec_tlwaitMillrace]
  exact issue_goesOn hi (State.tlPass_goesOn (decide_eq_true hv) _)

theorem tlwaitMillrace_sleepsIn {n : BitVec 6} (hi : Issues (.tlwaitMillrace k b n) s m)
    (hv : (s.tenant (s.tenantOf s.curCore)).mill.get n.toNat 0 < (s.srcS b).1.toNat) :
    SleepsIn s m (.tlMill n.toNat (s.srcS b).1.toNat) (exec (.tlwaitMillrace k b n) s) := by
  rw [exec_tlwaitMillrace]
  exact issue_sleepsIn hi ⟨_, State.tlPass_sleep (decide_eq_false (Nat.not_le.2 hv)) _⟩

theorem tlwaitUpdate_goesOn (hi : Issues (.tlwaitUpdate k b) s m) {d : Nat} (hd : s.domainOf s.curCore = some d)
    (hv : (s.srcS b).1.toNat ≤ s.domUpdate d) : GoesOn s m (exec (.tlwaitUpdate k b) s) := by
  rw [exec_tlwaitUpdate]
  refine issue_goesOn hi ?_
  simp only [hd]
  exact ⟨_, if_pos hv⟩

theorem tlwaitUpdate_sleepsIn (hi : Issues (.tlwaitUpdate k b) s m) {d : Nat} (hd : s.domainOf s.curCore = some d)
    (hv : s.domUpdate d < (s.srcS b).1.toNat) : SleepsIn s m (.tlUpdate (s.srcS b).1.toNat) (exec (.tlwaitUpdate k b) s) := by
  rw [exec_tlwaitUpdate]
  refine issue_sleepsIn hi ?_
  simp only [hd]
  exact ⟨_, if_neg (Nat.not_le.2 hv)⟩

theorem tlsig_goesOn {a : BitVec 5} (hi : Issues (.tlsig k a b) s m)
    (hc : s.checkAccess .tlsig (address s a 0) 8 false (poisoned s a) = none) : GoesOn s m (exec (.tlsig k a b) s) := by
  rw [exec_tlsig]
  refine issue_goesOn hi ?_
  simp only [address_zero, hc]
  exact ⟨_, rfl⟩

/-! ## Phases and flumes -/

theorem comm_goesOn (hi : Issues (.comm k) s m) (hp : s.here.pk = false) : GoesOn s m (exec (.comm k) s) := by
  rw [exec_comm]
  exact issue_goesOn hi ⟨_, if_neg (by simp [hp])⟩

theorem sendf_goesOn {f : BitVec 5} (hi : Issues (.sendf k b f) s m) (hf : s.here.flume f.toNat ≠ none) (hp : s.here.pk = true)
    (hs : s.here.slotTab.contains (s.phaseCyc s.curCore, f.toNat) = true) : GoesOn s m (exec (.sendf k b f) s) := by
  obtain ⟨u, hu⟩ := Option.ne_none_iff_exists'.1 hf
  rw [exec_sendf]
  refine issue_goesOn hi ?_
  simp only [hu]
  exact ⟨_, if_neg (by rw [hp, hs]; decide)⟩

end

end
end Sys2Proof.Machine
end

section
/-! SUPPORT. Domains, labels as values, holdings and the system's instructions complete (R277 to R299). -/

namespace Sys2Proof.Machine
open Sys2Proof.Claims

section
variable {s : State} {m : Meta}

/-! ## Domains and labels -/

theorem State.domPlain_goesOn {n : Nat} (hd : s.domainOf s.curCore = some n) (k : Ctl) (kind : Nat) (v : Dword) (hs : List Handle) :
    (s.domPlain k kind v hs).goesOn := by
  unfold State.domPlain
  simp only [hd]
  exact ⟨_, rfl⟩

theorem State.domResult_goesOn (h : s.slotsFree) {n : Nat} (hd : s.domainOf s.curCore = some n) (k : Ctl) (kind : Nat) (v : Dword)
    (link : Nat) (d : BitVec 5) (hs : List Handle) : (s.domResult k kind v link d hs).goesOn := by
  obtain ⟨u, l, hf⟩ := State.formWith_isSome (s.slotsFree_countVoids h [plainIn hs]) []
  unfold State.domResult
  simp only [hd, hf]
  exact ⟨_, rfl⟩

theorem lapply_goesOn {k : Ctl} {d a b : BitVec 5} {vm : VMod} {v : BitVec 1} (hi : Issues (.lapply k d a b vm v) s m) (h : s.slotsFree)
    {n : Nat} (hd : s.domainOf s.curCore = some n) (hn : s.namesFree n (s.srcS b).1 = false) :
    GoesOn s m (exec (.lapply k d a b vm v) s) := by
  rw [exec_lapply]
  refine issue_goesOn hi ?_
  simp only [hd, hn, Bool.false_eq_true, ↓reduceIte]
  exact Eff.goesOn_ite (State.vresult_goesOn h ..) (State.resultOf_goesOn h ..)

theorem amb_goesOn {k : Ctl} {a : BitVec 5} (hi : Issues (.amb k a) s m) (h : s.slotsFree) {n : Nat}
    (hd : s.domainOf s.curCore = some n) (hn : s.namesFree n (s.srcS a).1 = false) : GoesOn s m (exec (.amb k a) s) := by
  obtain ⟨u, l, hf⟩ := State.formOne_isSome (s.slotsFree_countVoids h [plainIn [(s.srcS a).2]]) (envIn [] (s.srcS a).1)
  rw [exec_amb]
  refine issue_goesOn hi ?_
  simp only [hd, hn, hf, Bool.false_eq_true, ↓reduceIte]
  exact ⟨_, rfl⟩

theorem vjoin_goesOn {k : Ctl} {d a b : BitVec 5} {vm : VMod} (hi : Issues (.vjoin k d a b vm) s m) (h : s.slotsFree)
    (hd : s.domainOf s.curCore ≠ none) : GoesOn s m (exec (.vjoin k d a b vm) s) := by
  obtain ⟨n, hn⟩ := Option.ne_none_iff_exists'.1 hd
  rw [exec_vjoin]
  refine issue_goesOn hi ?_
  simp only [hn]
  exact State.vresultAt_goesOn (s.slotsFree_countVoids h _) ..

/-- None of the labels that a label instruction reads is pending (R94). -/
def labelsKnown (s : State) (a : BitVec 5) (vm : VMod) (v : BitVec 1) : Prop :=
  if v = 1#1 then ∀ j ∈ s.lanes vm, isPend ((s.srcV a).lane j).2 = false else isPend (s.srcS a).2 = false

theorem State.labelValues_goesOn {a : BitVec 5} {vm : VMod} {v : BitVec 1} (hk : labelsKnown s a vm v) (k : Ctl) (d : BitVec 5)
    (f : Handle → Nat) : (s.labelValues k d a vm v f).goesOn := by
  unfold labelsKnown at hk
  unfold State.labelValues
  by_cases hv : v = 1#1
  · rw [if_pos hv] at hk
    rw [if_pos (by simp [hv]), if_neg (by simpa using hk)]
    exact ⟨_, rfl⟩
  · rw [if_neg hv] at hk
    rw [if_neg (by simpa using hv), if_neg (by simp [hk])]
    exact ⟨_, rfl⟩

theorem lstrip_goesOn {k : Ctl} {d a : BitVec 5} {vm : VMod} {v : BitVec 1} (hi : Issues (.lstrip k d a vm v) s m) (h : s.slotsFree)
    {n : Nat} (hd : s.domainOf s.curCore = some n) (ho : s.stripOk n = true) (hk : labelsKnown s a vm v) :
    GoesOn s m (exec (.lstrip k d a vm v) s) := by
  unfold labelsKnown at hk
  rw [exec_lstrip]
  refine issue_goesOn hi ?_
  simp only [hd, ho, Bool.not_true, Bool.false_eq_true, ↓reduceIte]
  by_cases hv : v = 1#1
  · rw [if_pos hv] at hk
    rw [if_pos (by simp [hv]), if_neg (by simpa using hk)]
    exact State.vresult_goesOn (s.slotsFree_countReads h _) ..
  · rw [if_neg hv] at hk
    rw [if_neg (by simpa using hv), if_neg (by simp [hk])]
    exact State.result_goesOn (s.slotsFree_countReads h _) ..

theorem lread_goesOn {k : Ctl} {d a : BitVec 5} {n : BitVec 2} (hi : Issues (.lread k d a n) s m) (hd : s.domainOf s.curCore ≠ none)
    (hp : isPend (s.srcS a).2 = false) : GoesOn s m (exec (.lread k d a n) s) := by
  obtain ⟨e, he⟩ := Option.ne_none_iff_exists'.1 hd
  rw [exec_lread]
  refine issue_goesOn hi ?_
  simp only [he, hp, Bool.false_eq_true, ↓reduceIte]
  exact ⟨_, rfl⟩

theorem lfence_goesOn {k : Ctl} (hi : Issues (.lfence k) s m) (hd : s.domainOf s.curCore ≠ none) : GoesOn s m (exec (.lfence k) s) := by
  obtain ⟨e, he⟩ := Option.ne_none_iff_exists'.1 hd
  rw [exec_lfence]
  refine issue_goesOn hi ?_
  simp only [he]
  exact ⟨_, rfl⟩

/-! ## Holdings -/

theorem isHolder_of {r : Bool} (h : Holder s r) : s.isHolder = true := by
  obtain ⟨h0, h8, -⟩ := h
  simp [State.isHolder, h0, h8]

theorem srvFault_none (h : Holder s true) (hv : s.me.srVerdict = false) : s.srvFault = none := by
  have hr : s.me.sr = true := h.2.2
  simp [State.srvFault, isHolder_of h, hr, hv]

theorem srreg_goesOn {k : Ctl} {a b : BitVec 5} (hi : Issues (.srreg k a b) s m) (h : Holder s false) (ha : (s.srcS a).1.toNat % 4 = 0)
    (hb : (s.srcS b).1 = 0#64 ∨ (16 ≤ (s.srcS b).1.toNat ∧ (s.srcS b).1.toNat ≤ 4096)) : GoesOn s m (exec (.srreg k a b) s) := by
  have hr : s.me.sr = false := h.2.2
  have hn : ¬((s.srcS b).1 != 0#64 && (decide ((s.srcS b).1.toNat < 16) || decide (4096 < (s.srcS b).1.toNat))) = true := by
    obtain hb | hb := hb
    · simp [hb]
    · simp only [Bool.and_eq_true, Bool.or_eq_true, decide_eq_true_eq, not_and]
      omega
  rw [exec_srreg]
  refine issue_goesOn hi ?_
  simp only [isHolder_of h, hr, ha, Bool.not_true, Bool.false_eq_true, ↓reduceIte]
  exact ⟨_, if_neg hn⟩

theorem srvSummarise_goesOn {k : Ctl} (hi : Issues (.srvSummarise k) s m) (h : Holder s true) (hv : s.me.srVerdict = false) :
    GoesOn s m (exec (.srvSummarise k) s) := by
  rw [exec_srvSummarise]
  refine issue_goesOn hi ?_
  simp only [srvFault_none h hv]
  exact ⟨_, rfl⟩

theorem release_goesOn {k : Ctl} (hi : Issues (.release k) s m) (h : Holder s false ∨ (Holder s true ∧ s.me.srVerdict = true)) :
    GoesOn s m (exec (.release k) s) := by
  have hh : s.isHolder = true := h.elim isHolder_of (fun h => isHolder_of h.1)
  have hv : ¬(s.me.sr && !s.me.srVerdict) = true := by
    obtain ⟨-, -, h⟩ | ⟨-, h⟩ := h <;> simp [h]
  rw [exec_release]
  exact issue_goesOn hi ⟨_, (if_neg (by simp [hh])).trans (if_neg hv)⟩

theorem lease_goesOn {k : Ctl} {d a b : BitVec 5} (hi : Issues (.lease k d a b) s m) (h : s.slotsFree) (hr : s.me.sr = false)
    (h0 : (s.srcS a).1 ≠ 0#64) (ha : (s.srcS a).1.toNat ≤ 1024) : GoesOn s m (exec (.lease k d a b) s) := by
  obtain ⟨u, l, hf⟩ := State.formWith_isSome h []
  have hc : ¬((s.srcS a).1 = 0#64 || decide (1024 < (s.srcS a).1.toNat)) = true := by simpa [h0] using ha
  rw [exec_lease]
  refine issue_goesOn hi ?_
  simp only [hr, hf, Bool.false_eq_true, ↓reduceIte]
  exact ⟨_, if_neg hc⟩

theorem srv_transfers {i : Instr} {x : Transfer} (hi : Issues i s m) (hx : transfer s i = some x) (hw : x.when) {k : Ctl}
    (hs : (∃ n, i = .srvFinish k n) ∨ i = .srvRefuse k) : Transfers s m x (exec i s) := by
  obtain ⟨n, rfl⟩ | rfl := hs
  · cases hx
    obtain ⟨h, hv, hn⟩ := hw
    rw [exec_srvFinish]
    refine issue_transfers_always hi ?_
    simp only [srvFault_none h hv, hn, ↓reduceIte]
    exact ⟨_, _, rfl⟩
  · cases hx
    obtain ⟨h, hv⟩ := hw
    rw [exec_srvRefuse]
    refine issue_transfers_always hi ?_
    simp only [srvFault_none h hv]
    exact ⟨_, _, rfl⟩

/-! ## System instructions -/

theorem State.sendSys_goesOn (h : s.slotsFree) (k : Ctl) (kind va : Nat) (data cmp : Dword) (d : BitVec 5) (hs : List Handle) (n : Nat) :
    (s.sendSys k kind va data cmp d hs n).goesOn := by
  obtain ⟨u, l, hf⟩ := State.formWith_isSome (s.slotsFree_countVoids h [plainIn hs]) []
  unfold State.sendSys
  simp only [hf]
  exact ⟨_, rfl⟩

theorem State.sysNow_goesOn (h : s.slotsFree) (k : Ctl) (d : BitVec 5) (v : Nat) (hs : List Handle) (least : Nat) (f : State → State) :
    (s.sysNow k d v hs least f).goesOn := by
  obtain ⟨u, l, hf⟩ := State.formWith_isSome (s.slotsFree_countVoids h [plainIn hs]) []
  unfold State.sysNow
  simp only [hf]
  exact ⟨_, rfl⟩

theorem localOperand_own {va n o : Nat} (ho : placeOf s.curCore va = .own o) (hn : va % n = 0) : s.localOperand va n = .inl o := by
  unfold State.localOperand
  simp [ho, hn]

section
variable {k : Ctl} {d a b : BitVec 5}

theorem plbset_goesOn (hi : Issues (.plbset k d a b) s m) (h : s.slotsFree) (hh : s.localHeld s.curCore = false)
    (ha : (s.srcS a).1.toNat < 2 ^ 36) {l : Launch} (hl : s.launch ((s.srcS a).1.toNat % 2 ^ 32) = some l) (ht : l.tenant = s.myTenant)
    {o : Nat} (ho : placeOf s.curCore (s.srcS b).1.toNat = .own o) (hb : (s.srcS b).1.toNat % 16 = 0)
    (hp : plbOf (leNat (Sparse.bytes s.here.lmem o 8)) (leNat (Sparse.bytes s.here.lmem (o + 8) 8)) ≠ none) :
    GoesOn s m (exec (.plbset k d a b) s) := by
  obtain ⟨p, hp⟩ := Option.ne_none_iff_exists'.1 hp
  rw [exec_plbset]
  refine issue_goesOn hi ?_
  simp only [hl, ht, localOperand_own ho hb, hh, Nat.mul_zero, Nat.add_zero, Nat.mul_one, hp, beq_self_eq_true,
    Bool.not_true, Bool.false_eq_true, ↓reduceIte]
  rw [if_neg (Nat.not_le.2 ha)]
  exact State.sysNow_goesOn h ..

theorem replay_goesOn (hi : Issues (.replay k d) s m) (h : s.slotsFree) : GoesOn s m (exec (.replay k d) s) := by
  rw [exec_replay]
  exact issue_goesOn hi (State.sendSys_goesOn (State.slotsFree_sendPartials h ..) ..)

theorem flushcode_goesOn (hi : Issues (.flushcode k d a) s m) (h : s.slotsFree) {n : Nat} (hn : s.launchOperand (s.srcS a).1 = .inl n) :
    GoesOn s m (exec (.flushcode k d a) s) := by
  rw [exec_flushcode]
  refine issue_goesOn hi ?_
  simp only [hn]
  exact State.sendSys_goesOn h ..

theorem kill_goesOn (hi : Issues (.kill k d a) s m) (h : s.slotsFree) {n : Nat} (hn : s.launchOperand (s.srcS a).1 = .inl n) :
    GoesOn s m (exec (.kill k d a) s) := by
  rw [exec_kill]
  refine issue_goesOn hi ?_
  simp only [hn]
  exact State.sysNow_goesOn h ..

theorem idle_goesOn (hi : Issues (.idle k) s m) (hp : (s.tenant s.myTenant).packets ≠ []) : GoesOn s m (exec (.idle k) s) := by
  rw [exec_idle]
  exact issue_goesOn hi ⟨_, if_neg (by simpa using hp)⟩

theorem idle_sleepsIn (hi : Issues (.idle k) s m) (hp : (s.tenant s.myTenant).packets = []) : SleepsIn s m .idle (exec (.idle k) s) := by
  rw [exec_idle]
  exact issue_sleepsIn hi ⟨_, if_pos (by simp [hp])⟩

theorem fpkt_goesOn (hi : Issues (.fpkt k d a) s m) (h : s.slotsFree) (hh : s.localHeld s.curCore = false) {o : Nat}
    (ho : placeOf s.curCore (s.srcS a).1.toNat = .own o) (ha : (s.srcS a).1.toNat % 64 = 0) : GoesOn s m (exec (.fpkt k d a) s) := by
  rw [exec_fpkt]
  refine issue_goesOn hi ?_
  simp only [localOperand_own ho ha, hh, Bool.false_eq_true, ↓reduceIte]
  split <;> exact State.sysNow_goesOn h ..

theorem resume_goesOn (hi : Issues (.resume k d a) s m) (h : s.slotsFree) (hv : (s.srcS a).1.toNat < 2 ^ 26)
    (ho : s.ownedBy (coreOfId (s.srcS a).1.toNat) s.myTenant = true) (hc : coreId (coreOfId (s.srcS a).1.toNat) = (s.srcS a).1.toNat) :
    GoesOn s m (exec (.resume k d a) s) := by
  rw [exec_resume]
  refine issue_goesOn hi ?_
  rw [if_neg (Nat.not_le.2 hv), if_neg (by simp [ho, hc])]
  exact State.sendSys_goesOn h ..

theorem qprio_goesOn (hi : Issues (.qprio k a b) s m) (ha : (s.srcS a).1.toNat < 64) (hb : (s.srcS b).1.toNat < 8) :
    GoesOn s m (exec (.qprio k a b) s) := by
  rw [exec_qprio]
  exact issue_goesOn hi ⟨_, if_neg (by simp; omega)⟩

theorem aperset_goesOn (hi : Issues (.aperset k d a b) s m) (h : s.slotsFree) (hv : (s.srcS a).1.toNat < 2 ^ 14)
    (h7 : bits (s.srcS a).1.toNat 7 6 = 0) (h13 : bits (s.srcS a).1.toNat 13 12 ≠ 3) (h48 : (s.srcS a).1.toNat % 64 < 48)
    (ht : s.aperTenant ((s.srcS a).1.toNat % 64 * 16 + bits (s.srcS a).1.toNat 11 8) = some s.myTenant) :
    GoesOn s m (exec (.aperset k d a b) s) := by
  rw [exec_aperset]
  refine issue_goesOn hi ?_
  rw [if_neg (by simp only [h7, Bool.or_eq_true, decide_eq_true_eq, bne_self_eq_false, beq_iff_eq, Bool.false_eq_true, or_false]; omega),
    if_neg (by simp only [ht, bne_self_eq_false, Bool.or_false, decide_eq_true_eq]; omega)]
  exact State.sendSys_goesOn h ..

theorem snap_goesOn (hi : Issues (.snap k d a b) s m) (h : s.slotsFree) (ha : (s.srcS a).1.toNat % 65536 = 0)
    (hb : (s.srcS b).1.toNat % 65536 = 0)
    (hl : (s.srcS b).1 = 0#64 ∨ s.leased s.myTenant (s.srcS a).1.toNat (s.srcS b).1.toNat = true) :
    GoesOn s m (exec (.snap k d a b) s) := by
  rw [exec_snap]
  refine issue_goesOn hi ?_
  rw [if_neg (by simp [smallPage, ha, hb]), if_neg (by obtain hl | hl := hl <;> simp [hl])]
  exact State.sendSys_goesOn h ..

theorem leasedTo_checks {v : Dword} (h : leasedTo s v = true) :
    ¬(!isGlobal v.toNat || !s.leased s.myTenant v.toNat 1) = true := by
  unfold leasedTo at h
  simpa [not_or] using h

theorem migrateMove_goesOn (hi : Issues (.migrateMove k d a b) s m) (h : s.slotsFree) (hl : leasedTo s (s.srcS a).1 = true) :
    GoesOn s m (exec (.migrateMove k d a b) s) := by
  rw [exec_migrateMove]
  refine issue_goesOn hi ?_
  rw [if_neg (leasedTo_checks hl)]
  exact State.sendSys_goesOn h ..

theorem migrateFlush_goesOn (hi : Issues (.migrateFlush k d a) s m) (h : s.slotsFree) (hl : leasedTo s (s.srcS a).1 = true) :
    GoesOn s m (exec (.migrateFlush k d a) s) := by
  rw [exec_migrateFlush]
  refine issue_goesOn hi ?_
  rw [if_neg (leasedTo_checks hl)]
  exact State.sendSys_goesOn h ..

end
end
end Sys2Proof.Machine
end

section
/-! SUPPORT. Every instruction completes where its entry asks it to (R112). -/

namespace Sys2Proof.Machine
open Sys2Proof.Claims

section
variable {i : Instr} {s : State} {m : Meta}

theorem submission_goesOn {r : Submission} (hi : Issues i s m) (hr : submission s i = some r) (h : sluiceOpen s) :
    GoesOn s m (exec i s) := by
  obtain ⟨hq, hh⟩ := h
  exact ⟨_, goes_of (exec_of_submission hr hi) (State.submit_go hq hh)⟩

/-- An instruction completes on the state and operands that its entry asks for: with the next one behind it. -/
theorem completes_goesOn (hi : Issues i s m) (hw : i.wellFormed = true) (h : completesWhen s i) : GoesOn s m (exec i s) := by
  cases i
  case nop | fence =>
    unfold exec
    exact issue_goesOn hi ⟨_, rfl⟩
  case add | sub | mul | mulh | mulhu | and | or | xor | shl | shr | sar | min | max | minu | maxu | slt | sltu | seq =>
    unfold exec
    exact alu2_goesOn hi h ..
  case addi | andi | ori | xori | shli | shri | sari | clz | popc | bfx =>
    unfold exec
    exact alu1_goesOn hi h ..
  case div | divu | rem | remu =>
    unfold exec
    exact divide_goesOn hi h.1 h.2 ..
  case sel | bfi | li | liw | lea | vpopm | vfirst | vext | vred | vfred | vfdot | vhdr =>
    unfold exec
    exact issue_goesOn hi (State.result_goesOn h ..)
  case vadd | vsub | vmul | vmulh | vand | vor | vxor | vshl | vshr | vsar | vmin | vmax | vminu | vmaxu | vcmp =>
    unfold exec
    exact vint2_goesOn hi h ..
  case vnot | vclz | vpopc =>
    unfold exec
    exact vint1_goesOn hi h ..
  case vsel | viota | vbcast | vmatch | vfsgn | vperm | vmv | vfadd | vfsub | vfmul | vfma | vfms | vfnma | vfmin | vfmax | vfabs | vfneg |
    vfclass | vfcmp | vfrnd | vcvt | vpack | vunpack | vqdec =>
    unfold exec
    exact issue_goesOn hi (State.vresultAt_goesOn h ..)
  case vslide | vzip | vunzip =>
    unfold exec
    exact permute_goesOn hi h ..
  case vdiv | vsqrt | vrsqrt | vrcp | vsqd =>
    unfold exec
    exact issue_goesOn hi (State.divideUnit_goesOn h.1 h.2 ..)
  case pref => exact pref_goesOn hi
  case vins => exact vins_goesOn hi h
  case vqenc => exact vqenc_goesOn hi h
  case vhdrw => exact vhdrw_goesOn hi h.1 h.2
  case hstart =>
    obtain ⟨h, hr, hf⟩ := h
    exact hstart_goesOn hi h hr hf
  case hend => exact hend_goesOn hi h.1 h.2
  case hjoin =>
    obtain ⟨h1, h2, h3, hl⟩ := h
    exact hjoin_goesOn hi h1 h2 h3 hl
  case halt =>
    obtain ⟨hc, hr, hn⟩ := h
    exact halt_goesOn hi hc hr hn
  case srd => exact srd_goesOn hi h
  case swr => exact swr_goesOn hi h
  case ld | ldacq =>
    obtain ⟨h, hr⟩ := h
    obtain ⟨hc, hh⟩ := hr _ rfl
    exact scalarLoad_goesOn rfl hi h hc hh
  case st | strel | red =>
    obtain ⟨h, hr⟩ := h
    obtain ⟨hc, hh, hb⟩ := hr _ rfl
    exact scalarStore_goesOn rfl hi hw h hc hh hb
  case amo | cas =>
    obtain ⟨hc, hh⟩ := h _ rfl
    exact atomic_goesOn rfl hi hc hh
  case redc => exact redc_goesOn hi h.1 h.2
  case publish => exact publish_goesOn hi h.1 h.2
  case rinv | rwb | rflush =>
    unfold exec
    exact maintainRange_goesOn hi h.1 h.2 ..
  case vld k d a vm lc off =>
    unfold exec
    exact loadVector_goesOn hi (unitAddr_ofInt s a _) (h _ rfl) ..
  case vlds k d a b vm lc =>
    unfold exec
    exact loadVector_goesOn hi (strideAddr_eq s a b) (h _ rfl) ..
  case vldx k d a b vm lc scale =>
    unfold exec
    exact loadVector_goesOn hi (indexAddr_eq s a b scale) (h _ rfl) ..
  case vldb k d a vm lc off =>
    unfold exec
    exact loadVector_goesOn hi (funext fun _ => address_ofInt s a _) (h _ rfl) ..
  case vst k a b vm lc off =>
    obtain ⟨h, hs⟩ := h
    obtain ⟨hp, hb⟩ := hs _ _ _ _ _ rfl
    unfold exec
    exact storeVector_goesOn hi h (unitAddr_ofInt s a _) hp hb ..
  case vsts k d a b vm lc =>
    obtain ⟨h, hs⟩ := h
    obtain ⟨hp, hb⟩ := hs _ _ _ _ _ rfl
    unfold exec
    exact storeVector_goesOn hi h (strideAddr_eq s a b) hp hb ..
  case vstx k d a b vm lc scale =>
    obtain ⟨h, hs⟩ := h
    obtain ⟨hp, hb⟩ := hs _ _ _ _ _ rfl
    unfold exec
    exact storeVector_goesOn hi h (indexAddr_eq s a b scale) hp hb ..
  case vqld =>
    obtain ⟨hc, hh, hf⟩ := h
    exact vqld_goesOn hi hc hh hf
  case vqst =>
    obtain ⟨h, hc, hh, hb⟩ := h
    exact vqst_goesOn hi h hc hh hb
  case mzero => exact mzero_goesOn hi h
  case mscale => exact mscale_goesOn hi h.1 h.2
  case mwrv => exact mwrv_goesOn hi h.1 h.2
  case mrdv => exact mrdv_goesOn hi h
  case mst =>
    obtain ⟨h, ho, hc, hj, hb⟩ := h
    exact mst_goesOn hi h ho hc hj hb
  case mld =>
    obtain ⟨ho, hc, hw⟩ := h
    exact mld_goesOn hi ho hc hw
  case mwait =>
    unfold exec
    exact issue_goesOn hi ⟨s, if_neg (by simp [show s.gangOpen s.curCore = false from h])⟩
  case cpy | cpyt | cpyu | cpyg | cpys | cpyf | cpyq => exact submission_goesOn hi rfl h
  case accsv => exact submission_goesOn hi (if_neg (by rw [h.2]; decide)) h.1
  case accrs => exact submission_goesOn hi (if_neg (by rw [h.2]; decide)) h.1
  case lscrub => exact submission_goesOn hi (if_pos (Option.isSome_iff_ne_none.2 h.2)) h.1
  case xfer | xferq => exact ⟨_, xferJob_goes rfl hi h⟩
  case weir =>
    obtain ⟨hw, hp, hn, ha⟩ := h
    exact weir_goesOn hi hw hp hn ha
  case weira => exact weira_goesOn hi h
  case weirx => exact weirx_goesOn hi h
  case weirw => exact weirw_goesOn hi h.1 h.2
  case evwaitLine => exact evwaitLine_goesOn hi h
  case evwaitMutex => exact evwaitMutex_goesOn hi h.1 h.2
  case evsigLine => exact evsigLine_goesOn hi h
  case evsigMutex => exact evsigMutex_goesOn hi h
  case tlwaitMem =>
    obtain ⟨hc, o, ho, hv⟩ := h
    exact tlwaitMem_goesOn hi hc ho hv
  case tlwaitSluice => exact tlwaitSluice_goesOn hi h.1 h.2
  case tlwaitMillrace => exact tlwaitMillrace_goesOn hi h
  case tlwaitUpdate =>
    obtain ⟨d, hd, hv⟩ := h
    exact tlwaitUpdate_goesOn hi hd hv
  case tlsig => exact tlsig_goesOn hi h
  case comm => exact comm_goesOn hi h
  case sendf =>
    obtain ⟨hf, hp, hs⟩ := h
    exact sendf_goesOn hi hf hp hs
  case anew | anewTx | assert | settle =>
    obtain ⟨h, hd⟩ := h
    obtain ⟨n, hn⟩ := Option.ne_none_iff_exists'.1 hd
    unfold exec
    exact issue_goesOn hi (State.domResult_goesOn h hn ..)
  case nogood | retract =>
    obtain ⟨n, hn⟩ := Option.ne_none_iff_exists'.1 h
    unfold exec
    exact issue_goesOn hi (State.domPlain_goesOn hn ..)
  case vjoin => exact vjoin_goesOn hi h.1 h.2
  case lfence => exact lfence_goesOn hi h
  case lapply =>
    obtain ⟨h, n, hd, hn⟩ := h
    exact lapply_goesOn hi h hd hn
  case amb =>
    obtain ⟨h, n, hd, hn⟩ := h
    exact amb_goesOn hi h hd hn
  case lget | ltest =>
    unfold exec
    exact issue_goesOn hi (State.labelValues_goesOn h ..)
  case lstrip =>
    obtain ⟨h, ⟨n, hd, ho⟩, hk⟩ := h
    exact lstrip_goesOn hi h hd ho hk
  case lread => exact lread_goesOn hi h.1 h.2
  case srreg =>
    obtain ⟨h, ha, hb⟩ := h
    exact srreg_goesOn hi h ha hb
  case srvSummarise => exact srvSummarise_goesOn hi h.1 h.2
  case release => exact release_goesOn hi h
  case lease =>
    obtain ⟨h, hr, h0, ha⟩ := h
    exact lease_goesOn hi h hr h0 ha
  case plbset =>
    obtain ⟨h, hh, ha, ⟨l, hl, ht⟩, o, ho, hb, hp⟩ := h
    exact plbset_goesOn hi h hh ha hl ht ho hb hp
  case replay => exact replay_goesOn hi h
  case flushcode =>
    obtain ⟨h, n, hn⟩ := h
    exact flushcode_goesOn hi h hn
  case kill =>
    obtain ⟨h, n, hn⟩ := h
    exact kill_goesOn hi h hn
  case idle => exact idle_goesOn hi h
  case fpkt =>
    obtain ⟨h, hh, ⟨o, ho⟩, ha⟩ := h
    exact fpkt_goesOn hi h hh ho ha
  case resume =>
    obtain ⟨h, hv, ho, hc⟩ := h
    exact resume_goesOn hi h hv ho hc
  case qprio => exact qprio_goesOn hi h.1 h.2
  case aperset =>
    obtain ⟨h, hv, h7, h13, h48, ht⟩ := h
    exact aperset_goesOn hi h hv h7 h13 h48 ht
  case snap =>
    obtain ⟨h, ha, hb, hl⟩ := h
    exact snap_goesOn hi h ha hb hl
  case migrateMove => exact migrateMove_goesOn hi h.1 h.2
  case migrateFlush => exact migrateFlush_goesOn hi h.1 h.2
  all_goals exact h.elim

/-- What waits sleeps, where it does not pass. -/
theorem sleeps_sleepsIn {p : Prop} {w : Wait} (hi : Issues i s m) (hs : sleeps s i = some (p, w)) (h : p) :
    SleepsIn s m w (exec i s) := by
  cases i
  case hjoin =>
    cases hs
    obtain ⟨h1, h2, h3, hl⟩ := h
    exact hjoin_sleepsIn hi h1 h2 h3 hl
  case halt =>
    cases hs
    obtain ⟨hc, hr, hn⟩ := h
    exact halt_sleepsIn hi hc hr hn
  case mwait =>
    cases hs
    rw [exec_mwait]
    exact issue_sleepsIn hi ⟨s, if_pos h⟩
  case weir =>
    cases hs
    exact weir_sleepsIn hi h.1 h.2
  case weirw =>
    cases hs
    exact weirw_sleepsIn hi h.1 h.2
  case evwaitLine =>
    cases hs
    exact evwaitLine_sleepsIn hi h
  case evwaitMutex =>
    cases hs
    exact evwaitMutex_sleepsIn hi h.1 h.2
  case evwaitBarrier =>
    cases hs
    exact evwaitBarrier_sleepsIn hi h
  case tlwaitMem =>
    cases hs
    exact tlwaitMem_sleepsIn hi h.1 h.2
  case tlwaitSluice =>
    cases hs
    exact tlwaitSluice_sleepsIn hi h.1 h.2
  case tlwaitMillrace =>
    cases hs
    exact tlwaitMillrace_sleepsIn hi h
  case tlwaitUpdate =>
    cases hs
    obtain ⟨d, hd, hv⟩ := h
    exact tlwaitUpdate_sleepsIn hi hd hv
  case idle =>
    cases hs
    exact idle_sleepsIn hi h
  all_goals cases hs

theorem transfer_transfers {x : Transfer} (hi : Issues i s m) (hx : transfer s i = some x) (hw : x.when) : Transfers s m x (exec i s) := by
  by_cases hs : ∃ k, (∃ n, i = .srvFinish k n) ∨ i = .srvRefuse k
  · obtain ⟨k, hk⟩ := hs
    exact srv_transfers hi hx hw hk
  · push Not at hs
    exact control_transfers hi hx hw hs
end
end Sys2Proof.Machine
end

section
/-! SUPPORT. Every instruction of a live context, and every step of the module, answers a next state (R112). -/

namespace Sys2Proof.Machine
open Sys2Proof.Claims

/-- An outcome that is a next state. -/
def Answers (o : Host.Outcome State Fault Refusal) : Prop := ∃ t, o = .next t

theorem answers_next (t : State) : Answers (.next t) := ⟨t, rfl⟩

theorem answers_ite {p : Prop} [Decidable p] {a b : Host.Outcome State Fault Refusal} (ha : Answers a) (hb : Answers b) :
    Answers (if p then a else b) := by
  split
  · exact ha
  · exact hb

/-! ## Steps of the module -/

theorem internProbe_answers (s : State) : Answers (execInternProbe s) := by
  unfold execInternProbe
  dsimp only
  split
  · refine answers_ite (answers_next _) (answers_ite (answers_next _) (answers_ite (answers_next _) ?_))
    split
    · exact answers_next _
    · refine answers_ite (answers_next _) (answers_ite (answers_next _) (answers_ite (answers_next _) (answers_next _)))
  · exact answers_next _

/-- A step of the module, which is no instruction's: where it branches, every branch ends in a next state. -/
theorem step_answers {i : Instr} (hi : i.info = none) (hw : ∀ w, i ≠ .unassignedEncoding w) (s : State) : Answers (exec i s) := by
  cases i
  case registerCacheFill | hostBar2Read | hostBar2Write | physicalWindowAccess | tflushWrite | queueDoorbell | queueCfgWrite |
    faultBufferHeadWrite | failureAnswer | nqheadWrite | pubvUpdate | directoryWrite | pcapWrite | registerWrite | attestReadPage |
    powerUp | moduleReset | flitReceive | remoteWindowAccess | remoteSlotOpen | remoteAssert | assertAck | pcieLinkStateChange |
    uncorrectableError | remoteAccessAnswer | remoteSlotAnswer | resultLanding | tagFree | gapExpiry | writeBack | eventSignalEffect |
    eventWake | eventLineStore | barrierTargetStore | eraRewriteDone | haltWake | finishDeadline | surrenderOverrun | faultReport |
    faultPacketOffer | faultBufferFlush | attestMakeReport | attestFetchKey | attestReportReady | configRequest | pcieTrainTimeout |
    nelrekStateAdvance | nelrekStateTimeout | nelrekRetry | divideUnitFree =>
    unfold exec
    exact answers_next _
  case flumeDelivery | telemetrySample | hostReadResponse | hostWriteThroughComplete | icacheFill | homeAccess | partialCombine |
    nearCacheFill | translationWalk | leafReturn | memoryFill | faultRecordArrival | labelResolve | sluiceCapture | sluiceJobStart |
    sluiceWriteLanding | sluiceJobComplete | millraceCapture | millraceJobEnd | gangStart | gangColumnComplete | mmarInboundLanding |
    weirArrivalCounted | weirRelease | holdingDeparture | domainHomeOperation | domainAnswer | helperRetire | recallDelivery |
    distributorRound | launchBind | launchEndSweep | preemption | restore | snapshotCopy | migrationCopyDone | tenantReset =>
    unfold exec
    simp only [execFlumeDelivery, execTelemetrySample, execHostReadResponse, execHostWriteThroughComplete, execIcacheFill, execHomeAccess,
      execPartialCombine, execNearCacheFill, execTranslationWalk, execLeafReturn, execMemoryFill, execFaultRecordArrival,
      execLabelResolve, execSluiceCapture, execSluiceJobStart, execSluiceWriteLanding, execSluiceJobComplete, execMillraceCapture,
      execMillraceJobEnd, execGangStart, execGangColumnComplete, execMmarInboundLanding, execWeirArrivalCounted, execWeirRelease,
      execHoldingDeparture, execDomainHomeOperation, execDomainAnswer, execHelperRetire, execRecallDelivery, execDistributorRound,
      execLaunchBind, execLaunchEndSweep, execPreemption, execRestore, execSnapshotCopy, execMigrationCopyDone, execTenantReset]
    repeat' split
    all_goals exact answers_next _
  case internProbe => exact internProbe_answers s
  case unassignedEncoding w => exact absurd rfl (hw w)
  all_goals cases hi

/-! ## Instructions -/

section
variable {i : Instr} {s : State} (hl : s.me.live = true) (hi : i.info.isSome = true)
include hl hi

/-- What issues answers, of whatever effect it is. -/
theorem issue_answers (f : State → Eff) : Answers (issue i s f) := by
  obtain ⟨m, hm⟩ := Option.isSome_iff_exists.1 hi
  exact issue_next f hm hl

theorem alu2_answers (k : Ctl) (lat : Nat) (d a b : BitVec 5) (f : Dword → Dword → Dword) : Answers (alu2 i s k lat d a b f) :=
  issue_answers hl hi _

theorem alu1_answers (k : Ctl) (d a : BitVec 5) (f : Dword → Dword) : Answers (alu1 i s k d a f) :=
  issue_answers hl hi _

theorem divide_answers (k : Ctl) (d a b : BitVec 5) (signed : Bool) (f : Dword → Dword → Dword) :
    Answers (divide i s k d a b signed f) :=
  issue_answers hl hi _

theorem loadScalar_answers (k : Ctl) (d a : BitVec 5) (off : BitVec 14) (w : BitVec 2) (z lc : BitVec 1) (acq : Bool) :
    Answers (loadScalar i s k d a off w z lc acq) :=
  issue_answers hl hi _

theorem storeScalar_answers (a b : BitVec 5) (off : BitVec 14) (w : BitVec 2) (lc : BitVec 1) (rel : Bool) :
    Answers (storeScalar i s a b off w lc rel) :=
  issue_answers hl hi _

theorem maintainRange_answers (k : Ctl) (a b : BitVec 5) (kind : Nat) : Answers (maintainRange i s k a b kind) :=
  issue_answers hl hi _

theorem vint2_answers (k : Ctl) (d a b : BitVec 5) (vm : VMod) (f : Word → Word → Word) : Answers (vint2 i s k d a b vm f) :=
  issue_answers hl hi _

theorem vint1_answers (k : Ctl) (d a : BitVec 5) (vm : VMod) (f : Word → Word) : Answers (vint1 i s k d a vm f) :=
  issue_answers hl hi _

theorem loadVector_answers (k : Ctl) (d : BitVec 5) (vm : VMod) (lc : BitVec 1) (lat : Nat) (addrOf : State → LaneAddr)
    (regs : State → List Handle) (one idx : Bool) :
    Answers (loadVector i s k d vm lc lat addrOf regs one idx) :=
  issue_answers hl hi _

theorem storeVector_answers (v : BitVec 5) (vm : VMod) (lc : BitVec 1) (addrOf : State → LaneAddr) (regs : State → List Handle) :
    Answers (storeVector i s v vm lc addrOf regs) :=
  issue_answers hl hi _

theorem permute_answers (k : Ctl) (d a b : BitVec 5) (vm : VMod) (src : Nat → Nat) : Answers (permute i s k d a b vm src) :=
  issue_answers hl hi _

theorem copyJob_answers (k : Ctl) (d a b : BitVec 5) (mode : Nat) : Answers (copyJob i s k d a b mode) :=
  issue_answers hl hi _

theorem xferJob_answers (k : Ctl) (d a b : BitVec 5) (n : BitVec 6) (mode : Nat) : Answers (xferJob i s k d a b n mode) :=
  issue_answers hl hi _

theorem gangIssue_answers (k : Ctl) (o : GangOp) (regs : List RegRef) : Answers (gangIssue i s k o regs) := by
  obtain ⟨t, ht⟩ := issue_answers hl hi _
  unfold gangIssue
  dsimp only
  rw [ht]
  exact answers_next _

theorem instruction_answers : Answers (exec i s) := by
  cases i
  case nop | halt | br | brc | brz | brnz | brv | call | callr | ret | jmpr | loop | hstart | hend | hjoin | yield | trap | brk | sel |
    bfi | li | liw | lea | srd | swr | amo | cas | red | redc | fence | pref | publish | vsel | viota | vpopm | vfirst | vmv | vbcast |
    vext | vins | vmatch | vred | vfadd | vfsub | vfmul | vfma | vfms | vfnma | vfmin | vfmax | vfabs | vfneg | vfcmp | vfclass | vdiv |
    vsqrt | vrsqrt | vrcp | vsqd | vfred | vfdot | vfsgn | vfrnd | vperm | vcvt | vpack | vunpack | vqld | vqdec | vqst | vqenc | vhdr |
    vhdrw | mzero | mst | mld | mrdv | mwrv | mscale | mwait | accsv | accrs | weir | weira | weirw | weirx | evwaitLine | evwaitMutex |
    evwaitBarrier | evsigLine | evsigMutex | tlwaitMem | tlwaitSluice | tlwaitMillrace | tlwaitUpdate | tlsig | comm | sendf | anew |
    anewTx | lapply | amb | nogood | assert | retract | vjoin | lget | lstrip | lread | ltest | lfence | settle | lscrub | srreg |
    srvFinish | srvSummarise | srvRefuse | release | lease | plbset | replay | flushcode | idle | fpkt | resume | kill | qprio | aperset |
    snap | migrateMove | migrateFlush =>
    unfold exec
    exact issue_answers hl hi _
  case add | sub | mul | mulh | mulhu | and | or | xor | shl | shr | sar | min | max | minu | maxu | slt | sltu | seq =>
    unfold exec
    exact alu2_answers hl hi ..
  case addi | andi | ori | xori | shli | shri | sari | clz | popc | bfx =>
    unfold exec
    exact alu1_answers hl hi ..
  case div | divu | rem | remu =>
    unfold exec
    exact divide_answers hl hi ..
  case ld | ldacq =>
    unfold exec
    exact loadScalar_answers hl hi ..
  case st | strel =>
    unfold exec
    exact storeScalar_answers hl hi ..
  case rinv | rwb | rflush =>
    unfold exec
    exact maintainRange_answers hl hi ..
  case vadd | vsub | vmul | vmulh | vand | vor | vxor | vshl | vshr | vsar | vmin | vmax | vminu | vmaxu | vcmp =>
    unfold exec
    exact vint2_answers hl hi ..
  case vnot | vclz | vpopc =>
    unfold exec
    exact vint1_answers hl hi ..
  case vld | vlds | vldx | vldb =>
    unfold exec
    exact loadVector_answers hl hi ..
  case vst | vsts | vstx =>
    unfold exec
    exact storeVector_answers hl hi ..
  case vslide | vzip | vunzip =>
    unfold exec
    exact permute_answers hl hi ..
  case cpy | cpyt | cpyu | cpyg | cpys | cpyf | cpyq =>
    unfold exec
    exact copyJob_answers hl hi ..
  case xfer | xferq =>
    unfold exec
    exact xferJob_answers hl hi ..
  case mma | mmar | mqst =>
    unfold exec
    exact gangIssue_answers hl hi ..
  all_goals cases hi

end

theorem exec_answers (i : Instr) (s : State) (h : s.me.live = true ∨ (i.info = none ∧ ∀ w, i ≠ .unassignedEncoding w)) :
    Answers (exec i s) := by
  cases hi : i.info with
  | some m =>
    obtain hl | ⟨hn, -⟩ := h
    · exact instruction_answers hl (by rw [hi]; rfl)
    · cases hi.symm.trans hn
  | none =>
    by_cases hw : ∃ w, i = .unassignedEncoding w
    · obtain ⟨w, rfl⟩ := hw
      obtain hl | ⟨-, hn⟩ := h
      · exact ⟨_, if_neg (by simp [hl])⟩
      · exact absurd rfl (hn w)
    · push Not at hw
      exact step_answers hi hw s

end Sys2Proof.Machine
end

section
open Sys2Proof Sys2Proof.Machine Sys2Proof.Claims

/-- Settles O12: what issues answers whatever its effect, and each form of completion is what its entry's effect is on such a state. -/
theorem nothingStops : Obligations.NothingStops := by
  refine ⟨exec_answers, fun i s m hi hw => ⟨completes_goesOn hi hw, fun x => transfer_transfers hi, fun p w => sleeps_sleepsIn hi,
    fun o regs => gang_sleeps hi, fun k n h => ?_, fun k n h => ?_, fun k n h => ?_⟩⟩
  · subst h
    rw [exec_yield, execYield, hi.issue_eq]
    rfl
  · subst h
    rw [exec_trap, execTrap, hi.issue_eq]
    rfl
  · subst h
    rw [exec_brk, execBrk, hi.issue_eq]
    rfl

end

section
/-! SUPPORT. SRD and SWR: the value of each system register, and what each write leaves (R63, R64, R87, R139 to R142, R188). -/

namespace Sys2Proof.Claims
open Sys2Proof.Machine

section
variable {i : Instr} {s : State} {m : Meta}

theorem faults_of {e : Eff} {cause : Nat} {addr : Dword} (he : exec i s = .next (s.conclude m e)) (h : e = .fault cause addr) :
    Faults i s cause addr := by
  subst h
  exact he

/-- What an instruction whose entry is `f` does once it has passed the checks before it. -/
theorem Issues.exec_eq (hi : Issues i s m) {f : State → Eff} (he : exec i s = issue i s f) :
    exec i s = .next (s.conclude m (f s)) := he.trans (hi.issue_eq f)

end

section
variable {s : State} {m : Meta} {k : Ctl}

theorem srd_goes {d : BitVec 5} {n : BitVec 12} (hi : Issues (.srd k d n) s m) {v : Nat} (hv : s.sysReg n.toNat = some v) :
    Goes (.srd k d n) s m (s.produce (tagOf k) 1 [.s d (BitVec.ofNat 64 v) 0x0000#16] 0 [.s d]) :=
  goes_of (hi.exec_eq (exec_srd k d n s)) (by rw [hv]; rfl)

theorem srd_faults {d : BitVec 5} {n : BitVec 12} (hi : Issues (.srd k d n) s m) (hv : s.sysReg n.toNat = none) :
    Faults (.srd k d n) s 0x01 0#64 :=
  faults_of (hi.exec_eq (exec_srd k d n s)) (by rw [hv]; rfl)

/-- The event counters stand in the registers from 0x020 on (R139). -/
theorem sysReg_counter (s : State) {c : Nat} (hc : c < 12) : s.sysReg (0x020 + c) = some (vget s.here.cnt c 0#64).toNat := by
  interval_cases c <;> rfl

variable {a : BitVec 5} {n : BitVec 12}

/-- SWR of a register that no write is given to (R188). -/
theorem swr_faults (hi : Issues (.swr k a n) s m) (h8 : n ≠ 0x008#12) (h9 : n ≠ 0x009#12) (hA : n ≠ 0x00A#12) :
    Faults (.swr k a n) s 0x01 0#64 := by
  refine faults_of (hi.exec_eq (exec_swr k a n s)) ?_
  have hne (x : BitVec 12) (hx : n ≠ x) : n.toNat ≠ x.toNat := fun h => hx (BitVec.eq_of_toNat_eq h)
  dsimp only
  split
  · next h => exact absurd h (hne 0x008#12 h8)
  · next h => exact absurd h (hne 0x009#12 h9)
  · next h => exact absurd h (hne 0x00A#12 hA)
  · rfl

theorem swr_sticky_goes (hi : Issues (.swr k a 0x008#12) s m) : Goes (.swr k a 0x008#12) s m
    (((s.countVoids [plainIn [(s.srcS a).2]]).onMe (fun x => { x with sticky := x.sticky &&& ~~~(s.srcS a).1 })).tagOnly k 1) :=
  goes_of (hi.exec_eq (exec_swr k a _ s)) rfl

theorem swr_fpctl_goes (hi : Issues (.swr k a 0x009#12) s m) : Goes (.swr k a 0x009#12) s m
    (((s.countVoids [plainIn [(s.srcS a).2]]).onMe (fun x => { x with fpctl := (s.srcS a).1 &&& 0xF#64 })).tagOnly k 1) :=
  goes_of (hi.exec_eq (exec_swr k a _ s)) rfl

/-- The handles that AMBIENT takes are those that are neither pending nor reserved (R80, R87). -/
theorem ambientTakes_iff (h : Handle) :
    (isPend h || isReserved h) = false ↔ h.toNat < 0xFFF0 ∨ (0xFFF8 ≤ h.toNat ∧ h.toNat < 0xFFFC) := by
  simp only [isPend, isReserved, Bool.or_eq_false_iff, beq_eq_false_iff_ne, decide_eq_false_iff_not]
  omega

section
variable (hi : Issues (.swr k a 0x00A#12) s m) (hp : isPend (s.srcS a).2 = false)
include hi hp

theorem swr_ambient_goes (hh : (isPend ((s.srcS a).1.setWidth 16) || isReserved ((s.srcS a).1.setWidth 16)) = false) :
    Goes (.swr k a 0x00A#12) s m
      (((s.countVoids [plainIn [(s.srcS a).2]]).onMe (fun x => { x with ambient := (s.srcS a).1.setWidth 16 })).tagOnly k 1) :=
  goes_of (hi.exec_eq (exec_swr k a _ s)) ((if_neg (by simp [hp])).trans (if_neg (by simp only [hh]; decide)))

theorem swr_ambient_faults (hh : (isPend ((s.srcS a).1.setWidth 16) || isReserved ((s.srcS a).1.setWidth 16)) = true) :
    Faults (.swr k a 0x00A#12) s 0x01 0#64 :=
  faults_of (hi.exec_eq (exec_swr k a _ s)) ((if_neg (by simp [hp])).trans (if_pos hh))

end
end
end Sys2Proof.Claims
end

section
open Sys2Proof Sys2Proof.Machine Sys2Proof.Claims

theorem systemRegisterRead : Claims.SystemRegisterRead := fun s _ _ _ _ hi =>
  ⟨srd_faults hi, fun _ => srd_goes hi, rfl, rfl, rfl, rfl, rfl, fun _ => sysReg_counter s, nofun, rfl⟩

theorem systemRegisterWrite : Claims.SystemRegisterWrite := by
  intro s k a n m hi
  refine ⟨?_, ?_, ?_, swr_faults hi⟩
  · rintro rfl
    exact swr_sticky_goes hi
  · rintro rfl
    exact swr_fpctl_goes hi
  · rintro rfl hp
    rw [← ambientTakes_iff, Bool.not_eq_false]
    exact ⟨swr_ambient_goes hi hp, swr_ambient_faults hi hp⟩

/-- Settles O18: a read delivers what the register's number finds, and a write is one of three, by its number. -/
theorem systemRegisters : Obligations.SystemRegisters := ⟨systemRegisterRead, systemRegisterWrite⟩

end

section
/-! SUPPORT. A joined gang operation: its start, its completion and the landing of what a neighbour sent (R67, R125, R236, R239, R241 to
R244, R248). -/

namespace Sys2Proof.Machine

/-! ## What the sends and reads of a start keep -/

/-- From `s` to `t` operations and start times stay as they are, and what has come in for an MMAR stays in its buffer. -/
structure KeepsGangs (s t : State) : Prop where
  now : t.now = s.now
  mats : ∀ n, (t.cluster n).mats = (s.cluster n).mats
  lastStart : ∀ n, (t.cluster n).lastStart = (s.cluster n).lastStart
  inbound : ∀ n, ∀ x ∈ (s.cluster n).inbound, x ∈ (t.cluster n).inbound

theorem KeepsGangs.of_clusters {s t : State} (hn : t.now = s.now) (hc : t.clusters = s.clusters) : KeepsGangs s t := by
  have h (n : Nat) : t.cluster n = s.cluster n := by unfold State.cluster; rw [hc]
  exact ⟨hn, fun n => by rw [h], fun n => by rw [h], fun n x hx => by rwa [h]⟩

theorem KeepsGangs.refl (s : State) : KeepsGangs s s := .of_clusters rfl rfl

theorem KeepsGangs.trans {s t u : State} (h : KeepsGangs s t) (h' : KeepsGangs t u) : KeepsGangs s u :=
  ⟨h'.now.trans h.now, fun n => (h'.mats n).trans (h.mats n), fun n => (h'.lastStart n).trans (h.lastStart n),
    fun n x hx => h'.inbound n x (h.inbound n x hx)⟩

theorem KeepsGangs.matOp {s t : State} (h : KeepsGangs s t) (q id : Nat) : t.matOp q id = s.matOp q id := by
  unfold State.matOp
  rw [h.mats]

theorem KeepsGangs.foldl {α : Type} {f : State → α → State} (h : ∀ s x, KeepsGangs s (f s x)) (l : List α) (s : State) :
    KeepsGangs s (l.foldl f s) := by
  induction l generalizing s with
  | nil => exact .refl s
  | cons x r ih => exact (h s x).trans (ih _)

/-- An operand more in an inbound buffer. -/
theorem keepsGangs_inbound (s : State) (w : Nat) (t : Inbound) :
    KeepsGangs s (s.onCluster w (fun c => { c with inbound := c.inbound ++ [t] })) := by
  refine ⟨rfl, fun n => ?_, fun n => ?_, fun n x hx => ?_⟩ <;> by_cases h : n = w
  · subst h; rw [State.cluster_onCluster]
  · rw [State.cluster_onCluster_ne _ _ h]
  · subst h; rw [State.cluster_onCluster]
  · rw [State.cluster_onCluster_ne _ _ h]
  · subst h; rw [State.cluster_onCluster]; exact List.mem_append_left _ hx
  · rwa [State.cluster_onCluster_ne _ _ h]

theorem keepsGangs_planInbound (s : State) (q : Nat) (o : MatOp) (t : Inbound) : KeepsGangs s (s.planInbound q o t) := .of_clusters rfl rfl

theorem keepsGangs_sendTile (s : State) (q : Nat) (o : MatOp) (dir : Nat) (w : Option Nat) : KeepsGangs s (s.sendTile q o dir w) := by
  unfold State.sendTile
  cases w with
  | none => exact .refl s
  | some w =>
    dsimp only
    split
    · exact keepsGangs_inbound s w _
    · exact (keepsGangs_inbound s w _).trans (keepsGangs_planInbound _ _ _ _)

/-- What an operation of cluster `q` sends stands in the neighbour's buffer (R243). -/
theorem mem_sendTile (s : State) (q : Nat) (o : MatOp) (dir w : Nat) :
    (⟨o.num, dir, q, o.start, o.members.map (fun m => if dir = 0 then (m.va, m.ha) else (m.vb, m.hb))⟩ : Inbound) ∈
      ((s.sendTile q o dir (some w)).cluster w).inbound := by
  have h (t : Inbound) : t ∈ ((s.onCluster w (fun c => { c with inbound := c.inbound ++ [t] })).cluster w).inbound := by
    rw [State.cluster_onCluster]
    exact List.mem_append_right _ (List.mem_singleton.2 rfl)
  unfold State.sendTile
  dsimp only
  split
  · exact h _
  · exact (keepsGangs_planInbound _ _ _ _).inbound w _ (h _)

theorem keepsGangs_rotate (s : State) (l : Launch) (q : Nat) (o : MatOp) : KeepsGangs s (s.rotate l q o) := by
  unfold State.rotate
  exact ((KeepsGangs.foldl (fun s t => keepsGangs_planInbound s q o t) _ s).trans (keepsGangs_sendTile _ _ _ _ _)).trans
    (keepsGangs_sendTile _ _ _ _ _)

/-- An MMAR that begins sends A west and B north (R243). -/
theorem mem_rotate (s : State) (l : Launch) (q : Nat) (o : MatOp) :
    (∀ w, l.neighbour q (-1) 0 = some w →
      (⟨o.num, 0, q, o.start, o.members.map (fun m => (m.va, m.ha))⟩ : Inbound) ∈ ((s.rotate l q o).cluster w).inbound) ∧
    (∀ w, l.neighbour q 0 (-1) = some w →
      (⟨o.num, 1, q, o.start, o.members.map (fun m => (m.vb, m.hb))⟩ : Inbound) ∈ ((s.rotate l q o).cluster w).inbound) := by
  unfold State.rotate
  refine ⟨fun w hw => ?_, fun w hw => ?_⟩
  · rw [hw]
    exact (keepsGangs_sendTile _ _ _ _ _).inbound w _ (mem_sendTile _ q o 0 w)
  · rw [hw]
    exact mem_sendTile _ q o 1 w

theorem keepsGangs_countReadsAt (s : State) (k t : Nat) (hs : List Handle) : KeepsGangs s (s.countReadsAt k t hs) := by
  unfold State.countReadsAt
  dsimp only
  split
  · exact .refl s
  · exact .of_clusters rfl rfl

theorem keepsGangs_readTiles (s : State) (q : Nat) (o : MatOp) : KeepsGangs s (s.readTiles q o) := by
  unfold State.readTiles
  dsimp only
  split
  · exact .of_clusters rfl rfl
  · refine KeepsGangs.trans ?_ (KeepsGangs.foldl (fun s p => keepsGangs_countReadsAt s _ _ _) _ _)
    exact .of_clusters rfl rfl

/-! ## The start -/

theorem bitAt_toNat (x : Dword) (n : Nat) : bitAt x.toNat n = x.getLsbD n := by
  unfold bitAt
  rw [← BitVec.testBit_toNat, Nat.testBit_eq_decide_div_mod_eq]
  rfl

/-- Operation `o` of cluster `q` as it has begun: its operands latched, and whether a header of them is corrupt (R239, R241). -/
def State.begunOp (s : State) (q : Nat) (o : MatOp) : MatOp :=
  { o with begun := true, start := s.now, members := s.loadTiles q o, fmt := s.tilesBad q o }

/-- The operation has begun in its cluster, and nothing of it has been sent yet. -/
def State.markBegun (s : State) (q id : Nat) (o : MatOp) : State :=
  (s.onMat q id (fun _ => s.begunOp q o)).onCluster q (fun c =>
    { c with lastStart := s.now, mmarDone := if o.op.kind = 1 then c.mmarDone + 1 else c.mmarDone })

/-- The operation has begun and an MMAR has sent its operands. -/
def State.sendBegun (s : State) (q id : Nat) (o : MatOp) : State :=
  if o.op.kind = 1 then (match s.clusterLaunch q with | none => s.markBegun q id o | some l => (s.markBegun q id o).rotate l q (s.begunOp q o))
  else s.markBegun q id o

/-- The state of a start, its completion planned (R241, R248). -/
def State.beginGang (s : State) (q id : Nat) (o : MatOp) : State :=
  let t := (s.sendBegun q id o).readTiles q (s.begunOp q o)
  if o.op.kind = 2 then t.plan 39 2 .gangColumnComplete { a := q, b := id } else t.plan 36 0 .gangColumnComplete { a := q, b := id }

section
variable {s : State} {o : MatOp} (ho : s.matOp s.subj.a s.subj.b = some o)
include ho

section
variable (hb : o.begun = false) (hl : o.lost = false)
include hb hl

theorem exec_gangStart_lost {l : Launch} (hk : o.op.kind = 1) (hc : s.clusterLaunch s.subj.a = some l) (hr : l.rotLost = true) :
    exec .gangStart s = .next (s.loseMmar s.subj.a o) := by
  rw [exec_gangStart]
  unfold execGangStart
  simp [ho, hb, hl, hk, hc, hr]

/-- An operation whose rotation group has lost no holding waits, faults for a corrupt header or begins (R67, R125, R244). -/
theorem exec_gangStart_present (hk : o.op.kind = 1 → ∃ l, s.clusterLaunch s.subj.a = some l ∧ l.rotLost = false) :
    exec .gangStart s = .next (
      if s.gangReady s.subj.a o = false then s.plan 1 1 .gangStart { a := s.subj.a, b := s.subj.b }
      else if s.tilesBad s.subj.a o = true ∧
        (s.ctxAt (s.subj.a * 8) (((o.members.head?).map (·.ctx)).getD 0)).fpctl.getLsbD 3 = true then
          s.faultMat s.subj.a o 0x0D (o.addrs.getD 0 0#64)
      else s.beginGang s.subj.a s.subj.b o) := by
  rw [exec_gangStart]
  unfold execGangStart
  dsimp only
  rw [ho]
  dsimp only
  rw [if_neg (by simp [hb, hl]), if_neg]
  · by_cases hg : s.gangReady s.subj.a o = false
    · rw [if_pos (by simp [hg]), if_pos hg]
    · rw [if_neg (by simpa using hg), if_neg hg, bitAt_toNat]
      simp only [← Bool.and_eq_true]
      split
      · rfl
      · unfold State.beginGang
        split <;> rfl
  · by_cases h : o.op.kind = 1
    · obtain ⟨l, hc, hr⟩ := hk h
      simp [hc, hr]
    · simp [h]

end

/-- The operation of the start is found as it has begun (R241). -/
theorem matOp_markBegun : (s.markBegun s.subj.a s.subj.b o).matOp s.subj.a s.subj.b = some (s.begunOp s.subj.a o) := by
  have hid : o.id = s.subj.b := by simpa using List.find?_some ho
  unfold State.matOp at ho ⊢
  unfold State.markBegun State.onMat
  rw [State.cluster_onCluster, State.cluster_onCluster]
  dsimp only
  rw [find?_map_of_key, ho]
  · simp [hid]
  · intro x
    split
    · next hx => rw [hx, ← hid]; rfl
    · rfl

end

theorem keepsGangs_sendBegun (s : State) (q id : Nat) (o : MatOp) : KeepsGangs (s.markBegun q id o) (s.sendBegun q id o) := by
  unfold State.sendBegun
  split
  · split
    · exact .refl _
    · exact keepsGangs_rotate _ _ _ _
  · exact .refl _

theorem keepsGangs_beginGang (s : State) (q id : Nat) (o : MatOp) : KeepsGangs (s.sendBegun q id o) (s.beginGang q id o) := by
  have h := keepsGangs_readTiles (s.sendBegun q id o) q (s.begunOp q o)
  unfold State.beginGang
  dsimp only
  split <;> exact h.trans (.of_clusters rfl rfl)

theorem now_sendBegun (s : State) (q id : Nat) (o : MatOp) : (s.sendBegun q id o).now = s.now := (keepsGangs_sendBegun s q id o).now

theorem lastStart_markBegun (s : State) (q id : Nat) (o : MatOp) : ((s.markBegun q id o).cluster q).lastStart = s.now := by
  unfold State.markBegun
  rw [State.cluster_onCluster]

/-- The completion of a start is planned: 36 cycles on, or for an MQST the storing of its blocks 39 cycles on (R241, R248). -/
theorem mem_agenda_beginGang (s : State) (q id : Nat) (o : MatOp) :
    ∃ x ∈ (s.beginGang q id o).agenda, x.what = .gangColumnComplete ∧ x.who = { a := q, b := id } ∧
      x.key = (if o.op.kind = 2 then 4 * (s.now + 39) + 2 else 4 * (s.now + 36)) := by
  have hn : ((s.sendBegun q id o).readTiles q (s.begunOp q o)).now = s.now :=
    (keepsGangs_readTiles _ _ _).now.trans (now_sendBegun s q id o)
  unfold State.beginGang
  dsimp only
  split
  · exact ⟨_, State.mem_plan _ _ _ _ _, rfl, rfl, by rw [hn]⟩
  · exact ⟨_, State.mem_plan _ _ _ _ _, rfl, rfl, by rw [hn]; rfl⟩

/-- An MMAR that begins has sent its operands to its west and north neighbours (R243). -/
theorem mem_inbound_beginGang {s : State} {q : Nat} {o : MatOp} {l : Launch} (id : Nat) (hk : o.op.kind = 1)
    (hc : s.clusterLaunch q = some l) :
    (∀ w, l.neighbour q (-1) 0 = some w →
      (⟨o.num, 0, q, s.now, (s.begunOp q o).members.map (fun m => (m.va, m.ha))⟩ : Inbound) ∈ ((s.beginGang q id o).cluster w).inbound) ∧
    (∀ w, l.neighbour q 0 (-1) = some w →
      (⟨o.num, 1, q, s.now, (s.begunOp q o).members.map (fun m => (m.vb, m.hb))⟩ : Inbound) ∈ ((s.beginGang q id o).cluster w).inbound) := by
  have hs : s.sendBegun q id o = (s.markBegun q id o).rotate l q (s.begunOp q o) := by
    unfold State.sendBegun
    rw [if_pos hk, hc]
  have hb := (keepsGangs_beginGang s q id o).inbound
  rw [hs] at hb
  obtain ⟨ha, hn⟩ := mem_rotate (s.markBegun q id o) l q (s.begunOp q o)
  exact ⟨fun w hw => hb w _ (ha w hw), fun w hw => hb w _ (hn w hw)⟩

/-- An operation on registers, or on a bank, is begun with the operands that its members brought (R238, R248). -/
theorem begunOp_of_registers {s : State} {q : Nat} {o : MatOp} (h : o.op.kind = 2 ∨ o.op.flag = 0#1) :
    (s.begunOp q o).members = o.members ∧ (s.begunOp q o).fmt = false := by
  have ht : o.tiles = false := by
    unfold MatOp.tiles
    rcases h with h | h <;> simp [h]
  simp [State.begunOp, State.loadTiles, State.tilesBad, ht]

/-! ## The completion, and the landing of what a neighbour sent -/

/-- Operation `o` of cluster `q` has its product in the bank, each member with the flags that its columns set (R64, R241). -/
def State.gangProduct (s : State) (q : Nat) (o : MatOp) : State :=
  o.members.zipIdx.foldl (fun u p =>
    let r := u.gangCore q o p.2 p.1
    r.1.flag p.1.core p.1.ctx (BitVec.ofNat 64 r.2 ||| (if o.fmt then 0x800#64 else 0#64))) s

/-- Operands `x` for registers have landed in the members' registers (R243). -/
def State.landRegisters (s : State) (o : MatOp) (x : Inbound) : State :=
  o.members.zipIdx.foldl (fun u p => u.inboundReg p.1 (if x.dir = 0 then o.op.a else o.op.b)
    (if x.dir = 0 then o.op.ty else o.op.tb) (x.ops.getD p.2 ([], [])).1) s

/-- The words of a tile `x` are on their way into cluster memory (R243). -/
def State.landWords (s : State) (o : MatOp) (x : Inbound) : State :=
  o.members.zipIdx.foldl (fun u p => u.inboundTile p.1
    (if x.dir = 0 then tileOf (o.addrs.getD 0 0#64) (o.addrs.getD 1 0#64) else tileOf (o.addrs.getD 2 0#64) (o.addrs.getD 3 0#64))
    (if x.dir = 0 then o.op.ty else o.op.tb) (chunkOf o.op.ty o.op.tb) p.2 (x.ops.getD p.2 ([], [])).1 (x.ops.getD p.2 ([], [])).2) s

section
variable {s : State} {o : MatOp} (ho : s.matOp s.subj.a s.subj.b = some o)
include ho

/-- An MQST stores its blocks in one step and frees its tags in the next; a product enters its bank and frees them at once (R241, R248). -/
theorem exec_gangColumnComplete_eq : exec .gangColumnComplete s = .next (
    if o.op.kind = 2 then
      if s.subj.c = 0 then (s.gangQuantise s.subj.a o).plan 1 0 .gangColumnComplete { s.subj with c := 1 }
      else (s.onMat s.subj.a s.subj.b (fun o => { o with colsDone := true })).settleMat s.subj.a s.subj.b
    else ((s.gangProduct s.subj.a o).onMat s.subj.a s.subj.b (fun o => { o with colsDone := true })).settleMat s.subj.a s.subj.b) := by
  rw [exec_gangColumnComplete]
  unfold execGangColumnComplete
  dsimp only
  rw [ho]
  dsimp only
  by_cases hk : o.op.kind = 2
  · by_cases hc : s.subj.c = 0
    · rw [if_pos (by simp [hk, hc]), if_pos hk, if_pos hc]
    · rw [if_neg (by simp [hc]), if_pos hk, if_pos hk, if_neg hc]
  · rw [if_neg (by simp [hk]), if_neg hk, if_neg hk]
    rfl

theorem exec_mmarInboundLanding_none
    (hx : (s.cluster s.subj.a).inbound.find? (fun t => t.num == o.num && t.dir == s.subj.c) = none) :
    exec .mmarInboundLanding s = .next s := by
  rw [exec_mmarInboundLanding]
  unfold execMmarInboundLanding
  dsimp only
  rw [ho]
  dsimp only
  rw [hx]

/-- Operands for registers land in one step; a tile's words are stored in one step and it has landed in the next (R243). -/
theorem exec_mmarInboundLanding_some {x : Inbound}
    (hx : (s.cluster s.subj.a).inbound.find? (fun t => t.num == o.num && t.dir == s.subj.c) = some x) :
    exec .mmarInboundLanding s = .next (
      if o.op.flag = 1#1 then
        if s.subj.d = 1 then s.landedTile s.subj.a s.subj.b x
        else (s.landWords o x).plan 1 0 .mmarInboundLanding { s.subj with d := 1 }
      else (s.landRegisters o x).landedTile s.subj.a s.subj.b x) := by
  rw [exec_mmarInboundLanding]
  unfold execMmarInboundLanding
  dsimp only
  rw [ho]
  dsimp only
  rw [hx]
  unfold State.landWords State.landRegisters
  simp only [beq_iff_eq]
  split
  · split <;> rfl
  · rfl

end
end Sys2Proof.Machine
end

section
open Sys2Proof Sys2Proof.Machine Sys2Proof.Claims

/-- Settles O52: a start is one of waiting, fault and beginning, and nothing that follows the beginning takes back what it has put down. -/
theorem gangSteps : Obligations.GangSteps := by
  intro s o l q id trap ho
  have hcol := exec_gangColumnComplete_eq ho
  refine ⟨fun hb hl hk => ?start, fun hb hl hk hc hr => exec_gangStart_lost ho hb hl hk hc hr, fun hk => ⟨fun hc => ?blocks, fun hc => ?stored⟩,
    fun hk => ?product, exec_mmarInboundLanding_none ho, fun x hx => ?inbound⟩
  case start =>
    have hstart := exec_gangStart_present ho hb hl (fun h => ⟨l, hk h⟩)
    refine ⟨fun hg => ?_, fun hg ht htr => ?_, fun hg ht => ?_⟩
    · exact hstart.trans (by rw [if_pos hg])
    · exact hstart.trans (by rw [if_neg ((Bool.not_eq_false _).mpr hg), if_pos ⟨ht, htr⟩])
    · have hkeep := (keepsGangs_sendBegun s q id o).trans (keepsGangs_beginGang s q id o)
      have hgo : ¬(s.tilesBad q o = true ∧ trap = true) := by
        rintro ⟨h1, h2⟩
        rcases ht with ht | ht
        · exact Bool.false_ne_true (ht.symm.trans h1)
        · exact Bool.false_ne_true (ht.symm.trans h2)
      obtain ⟨x, hx, hwhat, hwho, hkey⟩ := mem_agenda_beginGang s q id o
      refine ⟨s.beginGang q id o, s.begunOp q o, x, hstart.trans (by rw [if_neg ((Bool.not_eq_false _).mpr hg), if_neg hgo]),
        (hkeep.matOp q id).trans (matOp_markBegun ho), rfl, rfl, rfl, rfl, begunOp_of_registers,
        (hkeep.lastStart q).trans (lastStart_markBegun s q id o), hx, hwhat, hwho, hkey, fun h => mem_inbound_beginGang id h (hk h).1⟩
  case blocks => exact hcol.trans (by rw [if_pos hk, if_pos hc])
  case stored => exact hcol.trans (by rw [if_pos hk, if_neg hc])
  case product => exact hcol.trans (by rw [if_neg hk]; rfl)
  case inbound =>
    have hland := exec_mmarInboundLanding_some ho hx
    refine ⟨fun hf => ?_, fun hf hd => ?_, fun hf hd => ?_⟩
    · exact hland.trans (by rw [if_neg (by rw [hf]; decide)]; rfl)
    · exact hland.trans (by rw [if_pos hf, if_neg hd]; rfl)
    · exact hland.trans (by rw [if_pos hf, if_pos hd])

end

section
/-! SUPPORT. What a change of the label unit leaves of Check, and combines that have their label at once (R85, R92, R93). -/

namespace Sys2Proof.Machine
open Sys2Proof.Claims

section
variable {s u : State} (h : Lab s u)
include h

theorem Lab.home64 (va : Nat) : u.home64 va = s.home64 va := by
  unfold State.home64
  rw [h.homeWord, h.homeWord]

theorem Lab.tableEntry (n e : Nat) : u.tableEntry n e = s.tableEntry n e := by
  simp only [State.tableEntry, h.domBase, h.home64]

theorem Lab.viewOf (k t : Nat) : viewOf (u.core k) (u.ctxAt k t) = viewOf (s.core k) (s.ctxAt k t) := by
  obtain ⟨_, _, _, e⟩ := h.cores k
  unfold Machine.viewOf
  rw [h.ctxAt, e]

theorem Lab.check (k t : Nat) (x : Handle) : u.check k t x = s.check k t x := by
  unfold State.check State.checkIn
  simp only [h.domainOf, h.viewOf, h.domEra, h.tableEntry]

theorem Lab.ownWord (va : Nat) : u.ownWord va = s.ownWord va := by
  unfold State.ownWord
  simp only [h.curCore, h.curCtx, h.lword, h.check]

theorem Lab.ownHalf (va : Nat) : u.ownHalf va = s.ownHalf va := by
  unfold State.ownHalf
  rw [h.ownWord]

theorem Lab.onlyLabels : OnlyLabels s u where
  registers :=
    { general := fun k c => by rw [h.ctxAt]; exact ⟨rfl, rfl, rfl⟩
      control := fun k c => by rw [h.ctxAt]; exact ⟨rfl, rfl, rfl, rfl, rfl⟩
      accumulators := fun q => by unfold State.cluster; rw [h.clusters]; exact ⟨rfl, rfl⟩ }
  memory := ⟨h.mem, h.lines, h.ecc, fun k => ⟨h.lmem k, h.lplane k⟩⟩
  now := h.now
  current := ⟨h.curCore, h.curCtx⟩

end

/-- Lanes with one combine share it (R319). -/
theorem distinct_replicate (i : LabelIn) (n : Nat) : distinct (List.replicate (n + 1) i) = [i] := by
  simp [distinct, List.replicate_succ, List.eraseDups_cons]

/-- A combine that R93 resolves at once takes no slot. -/
theorem State.formAll_fast {s : State} {k t : Nat} {i : LabelIn} {h : Handle} (hs : s.shape k t i = .fast h) (o n : Nat) (store : Bool) :
    s.formAll k t o (List.replicate (n + 1) i) store = some (s.onCore k (fun c => c.count 5 1), [(i, .now h)]) := by
  unfold State.formAll
  rw [distinct_replicate]
  simp [hs]

/-- Where TRUE is the only label that has been formed, every combine finds TRUE. -/
theorem labelIn_true (i x : LabelIn) : labelIn [(i, .now 0x0000#16)] x = .now 0x0000#16 := by
  unfold labelIn
  by_cases h : i = x
  · simp [h]
  · simp [h, hTrue]

/-- The combine of a code word and its header, both under TRUE, is TRUE (R93). -/
theorem State.shape_true (s : State) (k t : Nat) : s.shape k t (plainIn [0x0000#16, 0x0000#16]) = .fast 0x0000#16 := rfl

end Sys2Proof.Machine
end

section
/-! SUPPORT. The block formats past their checks: VQLD, VQENC, VQST, VHDRW (R67, R71, R229, R231 to R233). -/

namespace Sys2Proof.Machine
open Sys2Proof.Claims

/-! ## The writes of a VQLD -/

theorem headerBad_getD {hdrs : List (BitVec 16)} (hg : ∀ x ∈ hdrs, headerBad x = false) (n : Nat) : headerBad (hdrs.getD n 0#16) = false := by
  rw [List.getD_eq_getElem?_getD]
  cases hn : hdrs[n]? with
  | none => decide
  | some x => exact hg x (List.mem_of_getElem? hn)

/-- Under good headers every lane has its combine (R67, R90). -/
theorem goodIns_of_good {hdrs : List (BitVec 16)} (hg : ∀ x ∈ hdrs, headerBad x = false) (w4 : Bool) {ins : List LabelIn}
    (hl : ins.length = 16) : goodIns w4 hdrs ins = ins := by
  unfold goodIns
  rw [List.filter_eq_self.2 (fun p _ => by rw [headerBad_getD hg]; rfl)]
  exact List.map_snd_zip (by simp [hl])

/-- Under good headers with every label known to be TRUE a VQLD writes the code words and headers that it read, sets no flag, and leaves
no lane for later (R67, R229). -/
theorem vqSplit_true {hdrs : List (BitVec 16)} (hg : ∀ x ∈ hdrs, headerBad x = false) (d : BitVec 5) (w4 : Bool) (f : Nat → Word)
    {ls : List (LabelIn × Label)} {ins : List LabelIn} (hls : ∀ n, labelIn ls (ins.getD n (plainIn [])) = .now 0x0000#16) :
    vqSplit d w4 ((List.range 16).map f) hdrs ls ins =
      (((List.range 16).map (fun i => .lane d i (f i) 0x0000#16) ++ (List.range 4).map (fun j => .side d j (hdrs.getD j 0#16)), 0), []) := by
  have hany : hdrs.any headerBad = false := List.any_eq_false.2 (fun x hx => by simp [hg x hx])
  have hall : ∀ l : List RegWrite, l.filter (fun w => match w with | .lane _ _ _ _ => true | _ => true) = l :=
    fun l => List.filter_eq_self.2 (fun w _ => by cases w <;> rfl)
  simp only [vqSplit, vqWrites, hls, hany, headerBad_getD hg, Bool.not_false, Option.isNone_some, Bool.and_false, List.filter_false,
    List.map_nil, List.any_nil, Option.getD_some, Bool.false_eq_true, ↓reduceIte]
  refine Prod.ext (Prod.ext ?_ rfl) rfl
  refine (hall _).trans (congrArg (· ++ _) (List.map_congr_left (fun i hi => ?_)))
  simp [List.mem_range.1 hi]

/-! ## VQLD -/

section
variable {s : State} {m : Meta} {k : Ctl} {d a b : BitVec 5} {vm : VMod} {lc : BitVec 1} (hi : Issues (.vqld k d a b vm lc) s m)
  (hc : LanesPass s .load (List.range 16) (unit s a 0) 4 (lc == 1#1))
  (hh : LanesPass s .load (List.range (if vm.ty = 6#3 then 4 else 2)) (headers s b) 2 (lc == 1#1))
include hi hc hh

/-- Without LC the code words and headers come under the tag (R229). -/
theorem vqld_awaits (hl : lc = 0#1) :
    let hs := List.range (if vm.ty = 6#3 then 4 else 2)
    let s0 := s.countReads [(s.srcS a).2, (s.srcS b).2]
    let n := ((List.range 16).map (fun j => s0.loadLatency s.curCore (unit s a 0 j).1) ++
      hs.map (fun j => s0.loadLatency s.curCore (headers s b j).1)).foldl max 0
    let s1 := s0.await (tagOf k) n (16 + hs.length) [] (some { r := d, ty := vm.ty, hdrVa := (headers s b 0).1 }) false [.v d]
    let s2 := (List.range 16).foldl (fun st j =>
      st.startLoad { st.mkReq .load (unit s a 0 j).1 4 with dst := .raw j, seq := s0.nextId } n) s1
    Goes (.vqld k d a b vm lc) s m (hs.foldl (fun st j =>
      st.startLoad { st.mkReq .load (headers s b j).1 2 with dst := .raw (16 + j), seq := s0.nextId } n) s2) := by
  rw [← blocksOf_isB4, ← headerAddr_eq] at *
  have hL := Lab.countReads s [(s.srcS a).2, (s.srcS b).2]
  refine goes_of (hi.exec_eq (exec_vqld k d a b vm lc s)) ?_
  simp only [unitAddr_zero, State.checkLanes_none hc, State.checkLanes_none hh, State.lanesHeld_false hc, State.lanesHeld_false hh,
    Option.or_none, Bool.or_false, Bool.false_eq_true, ↓reduceIte]
  rw [if_neg (by simp [hl])]
  rw [hL.curCore]

/-- With LC a corrupt header raises FORMAT under FPCTL.FMTTRAP, at its own address (R67, R229). -/
theorem vqld_faults (hl : lc = 1#1)
    (hb : ((List.range (if vm.ty = 6#3 then 4 else 2)).map (fun j => s.ownHalf (headers s b j).1)).any headerBad = true)
    (ht : s.me.fpctl.getLsbD 3 = true) : Faults (.vqld k d a b vm lc) s 0x0D (BitVec.ofNat 64 (headers s b (firstBad
      ((List.range (if vm.ty = 6#3 then 4 else 2)).map (fun j => s.ownHalf (headers s b j).1)))).1) := by
  rw [← blocksOf_isB4, ← headerAddr_eq] at *
  have hL := Lab.countReads s [(s.srcS a).2, (s.srcS b).2]
  refine faults_of (hi.exec_eq (exec_vqld k d a b vm lc s)) ?_
  simp only [unitAddr_zero, State.checkLanes_none hc, State.checkLanes_none hh, State.lanesHeld_false hc, State.lanesHeld_false hh,
    Option.or_none, Bool.or_false, Bool.false_eq_true, ↓reduceIte, hL.ownHalf, fmtTrap_eq, hL.me]
  rw [if_pos (by simp [hl]), if_pos (by simp [hb, ht])]
  rfl

/-- With LC, good headers and every label TRUE the words are read at once and are TRUE (R229). -/
theorem vqld_reads (hl : lc = 1#1)
    (hg : ∀ j ∈ List.range (if vm.ty = 6#3 then 4 else 2), headerBad (s.ownHalf (headers s b j).1) = false)
    (hw : ∀ i ∈ List.range 16, (s.ownWord (unit s a 0 i).1).2 = 0x0000#16)
    (hx : ∀ j ∈ List.range (if vm.ty = 6#3 then 4 else 2), (s.ownWord (headers s b j).1).2 = 0x0000#16) :
    ∃ v, OnlyLabels s v ∧ Goes (.vqld k d a b vm lc) s m (v.produce (tagOf k) 2
      ((List.range 16).map (fun i => .lane d i (s.ownWord (unit s a 0 i).1).1 0x0000#16) ++
       (List.range 4).map (fun j => .side d j
        (((List.range (if vm.ty = 6#3 then 4 else 2)).map (fun j => s.ownHalf (headers s b j).1)).getD j 0#16))) 0 [.v d]) := by
  rw [← blocksOf_isB4, ← headerAddr_eq] at *
  have hL := Lab.countReads s [(s.srcS a).2, (s.srcS b).2]
  have hgood : ∀ x ∈ (List.range (blocksOf (isB4 vm.ty))).map (fun j => s.ownHalf (s.headerAddr b j).1), headerBad x = false := by
    intro x hxm
    obtain ⟨j, hj, rfl⟩ := List.mem_map.1 hxm
    exact hg j hj
  have hins : (List.range 16).map (fun i => plainIn [(s.ownWord (unit s a 0 i).1).2,
      (s.ownWord (s.headerAddr b (i / lanesOf (isB4 vm.ty))).1).2]) = List.replicate (15 + 1) (plainIn [0x0000#16, 0x0000#16]) := by
    refine List.eq_replicate_iff.2 ⟨by simp, fun x hxm => ?_⟩
    obtain ⟨j, hj, rfl⟩ := List.mem_map.1 hxm
    have hj16 := List.mem_range.1 hj
    rw [hw j hj, hx _ (List.mem_range.2 (by cases isB4 vm.ty <;> simp [lanesOf, blocksOf] <;> omega))]
  have hlab := (Lab.countReads s [(s.srcS a).2, (s.srcS b).2]).trans
    (Lab.countVoids _ (List.replicate (15 + 1) (plainIn [0x0000#16, 0x0000#16])))
  refine ⟨((s.countReads [(s.srcS a).2, (s.srcS b).2]).countVoids (List.replicate (15 + 1) (plainIn [0x0000#16, 0x0000#16]))).onCore s.curCore
    (fun c => c.count 5 1), (hlab.trans (Lab.count _ _ _ _)).onlyLabels, goes_of (hi.exec_eq (exec_vqld k d a b vm lc s)) ?_⟩
  simp only [unitAddr_zero, State.checkLanes_none hc, State.checkLanes_none hh, State.lanesHeld_false hc, State.lanesHeld_false hh,
    Option.or_none, Bool.or_false, Bool.false_eq_true, ↓reduceIte, hL.ownHalf, hL.ownWord, hL.curCore, hL.curCtx, hins,
    goodIns_of_good hgood _ List.length_replicate, State.formAll_fast (State.shape_true _ _ _)]
  rw [if_pos (by simp [hl]), if_neg (by simpa using fun j hj hb => absurd hb (by simp [hg j (List.mem_range.2 hj)])),
    vqSplit_true hgood]
  · rfl
  · exact fun n => labelIn_true _ _

end

/-! ## VQENC, VQST and VHDRW -/

section
variable {s : State} {m : Meta} {k : Ctl} {d a : BitVec 5} {vm : VMod}

/-- One block of a register takes the codes and the header of a quantised pair (R71, R231). -/
theorem vqenc_goes {mask : BitVec 4} {slot : BitVec 2} {u : State} {h : Handle} (hi : Issues (.vqenc k d a vm mask slot) s m)
    (hf : s.formWith (s.quantisePair a vm mask).2.2.2 = some (u, h)) : Goes (.vqenc k d a vm mask slot) s m (u.produce (tagOf k) 12
      ((blockLanes (isB4 vm.ty) slot.toNat).map (fun i =>
        RegWrite.lane d i (BitVec.ofNat 32 ((s.quantisePair a vm mask).2.1.getD (i % lanesOf (isB4 vm.ty)) 0)) h) ++
       (RegWrite.side d slot.toNat (s.quantisePair a vm mask).1 :: if vm.ty = 6#3 then [] else [.side d 2 0#16, .side d 3 0#16]))
      (s.quantisePair a vm mask).2.2.1 [.v d]) := by
  refine goes_of (hi.exec_eq (exec_vqenc k d a vm mask slot s)) ?_
  simp only [hf]
  unfold isB4
  simp only [beq_iff_eq]

/-- The codes and the header of a quantised pair are stored, and the header is delivered (R232). -/
theorem vqst_goes {b c : BitVec 5} {mask : BitVec 4} {u : State} {ls : List (LabelIn × Label)} {h : Handle}
    (hi : Issues (.vqst k d a b c vm mask) s m)
    (hc : LanesPass s .store (List.range (if vm.ty = 6#3 then 4 else 8)) (unit s a 0) 4 false)
    (hh : LanesPass s .store [0] (headers s c) 2 false) :
    let q := s.quantisePair b vm mask
    let i := plainIn q.2.2.2
    (s.countReads [(s.srcS a).2, (s.srcS c).2]).storeItems
      ((List.range (if vm.ty = 6#3 then 4 else 8)).map (fun j => ((unit s a 0 j).1, 4, q.2.1.getD j 0, i)) ++
        [((headers s c 0).1, 2, q.1.toNat, i)]) = some (u, ls) →
    labelIn ls (s.checkedIn i [s.ambientNow]) = .now h →
    Goes (.vqst k d a b c vm mask) s m (u.produce (tagOf k) 12 [.s d (q.1.setWidth 64) h] q.2.2.1 [.s d]) := by
  intro q i hs hl
  rw [← lanesOf_isB4] at hc hs
  rw [← headerAddr_eq] at hh hs
  refine goes_of (hi.exec_eq (exec_vqst k d a b c vm mask s)) ?_
  simp only [unitAddr_zero, State.checkLanes_none hc, State.checkLanes_none hh, State.lanesHeld_false hc, State.lanesHeld_false hh,
    Option.or_none, Bool.or_false, Bool.false_eq_true, ↓reduceIte]
  rw [hs]
  dsimp only
  rw [hl]

section
variable {slot : BitVec 2} (hi : Issues (.vhdrw k d a vm slot) s m)
include hi

/-- A corrupt header raises FORMAT under FPCTL.FMTTRAP (R67, R233). -/
theorem vhdrw_faults (hb : headerBad ((s.srcS a).1.setWidth 16) = true) (ht : s.me.fpctl.getLsbD 3 = true) :
    Faults (.vhdrw k d a vm slot) s 0x0D 0#64 :=
  faults_of (hi.exec_eq (exec_vhdrw k d a vm slot s)) ((if_pos hb).trans (if_pos ((fmtTrap_eq s).trans ht)))

/-- Without FPCTL.FMTTRAP a corrupt header poisons its block's lanes and sets FMT_CORRUPT (R67, R233). -/
theorem vhdrw_poisons (hb : headerBad ((s.srcS a).1.setWidth 16) = true) (ht : s.me.fpctl.getLsbD 3 = false) :
    Goes (.vhdrw k d a vm slot) s m ((s.countVoids [plainIn [(s.srcS a).2]]).produce (tagOf k) 2
      ((blockLanes (isB4 vm.ty) slot.toNat).map (fun i => RegWrite.lane d i ((s.srcV d).lane i).1 0xFFFA#16) ++
        [.side d slot.toNat ((s.srcS a).1.setWidth 16)]) 0x800 [.v d]) :=
  goes_of (hi.exec_eq (exec_vhdrw k d a vm slot s)) ((if_pos hb).trans (if_neg (by rw [fmtTrap_eq, ht]; decide)))

/-- A valid header's label enters each lane of its block (R233). -/
theorem vhdrw_goes (hb : headerBad ((s.srcS a).1.setWidth 16) = false) {u : State} (hu : s.vresultAt k 2 2 d vm
    ((blockLanes (isB4 vm.ty) slot.toNat).map (fun i => (i, ((s.srcV d).lane i).1, plainIn [((s.srcV d).lane i).2, (s.srcS a).2]))) 0
      [.side d slot.toNat ((s.srcS a).1.setWidth 16)] = .go u) : Goes (.vhdrw k d a vm slot) s m u :=
  goes_of (hi.exec_eq (exec_vhdrw k d a vm slot s)) ((if_neg (by rw [hb]; decide)).trans hu)

end
end
end Sys2Proof.Machine
end

section
open Sys2Proof Sys2Proof.Machine Sys2Proof.Claims

theorem blockLoads : Claims.BlockLoads := by
  intro s k d a b vm lc m hi ca ha hs hc hh
  exact ⟨vqld_awaits hi hc hh, fun hl hb ht => ⟨_, vqld_faults hi hc hh hl hb ht⟩, fun hl hg _ hw hx => vqld_reads hi hc hh hl hg hw hx⟩

theorem blockWrites : Claims.BlockWrites := by
  intro s k m
  refine ⟨fun d a vm mask slot u h hi => vqenc_goes hi, fun d a b c vm mask u ls h hi => ?_,
    fun d a vm slot hi => ⟨vhdrw_faults hi, vhdrw_poisons hi, fun hb u hu => vhdrw_goes hi hb hu⟩⟩
  intro cs ca ha q i hc hh
  exact vqst_goes hi hc hh

/-- Settles O36: each form by what its entry does once its lanes have passed their checks. -/
theorem blockFormats : Obligations.BlockFormats := ⟨blockLoads, blockWrites⟩

end

section
/-! SUPPORT. Rounding a real number to a natural one, and what `cutTo` makes of a number's leading bits (R57). -/

namespace Sys2Proof.Machine

/-- The natural number `q` is the magnitude `w` of a number rounded in `mode`, `neg` the number's sign (R57). -/
def RoundsTo (mode : Nat) (neg : Bool) (w : ℝ) (q : Nat) : Prop :=
  if mode = 0 then |(q : ℝ) - w| ≤ 1 / 2 ∧ (|(q : ℝ) - w| = 1 / 2 → q % 2 = 0)
  else if mode = 2 ∧ neg = true ∨ mode = 3 ∧ neg = false then w ≤ q ∧ (q : ℝ) < w + 1
  else (q : ℝ) ≤ w ∧ w < q + 1

section
variable {mode : Nat} {neg : Bool} {w : ℝ} {q : Nat}

theorem RoundsTo.near (h : RoundsTo mode neg w q) : |(q : ℝ) - w| < 1 := by
  unfold RoundsTo at h
  split_ifs at h
  · linarith [h.1]
  · exact abs_lt.2 ⟨by linarith [h.1], by linarith [h.2]⟩
  · exact abs_lt.2 ⟨by linarith [h.2], by linarith [h.1]⟩

/-- Rounding does not pass a natural number. -/
theorem RoundsTo.le {n : Nat} (h : RoundsTo mode neg w q) (hn : w ≤ n) : q ≤ n := by
  have h1 := (abs_lt.1 h.near).2
  have h2 : (q : ℝ) < n + 1 := by linarith
  exact Nat.lt_succ_iff.1 (by exact_mod_cast h2)

theorem RoundsTo.ge {n : Nat} (h : RoundsTo mode neg w q) (hn : (n : ℝ) ≤ w) : n ≤ q := by
  have h1 := (abs_lt.1 h.near).1
  have h2 : (n : ℝ) < q + 1 := by linarith
  exact Nat.lt_succ_iff.1 (by exact_mod_cast h2)

/-- A natural number is rounded to itself. -/
theorem roundsTo_self (mode : Nat) (neg : Bool) (q : Nat) : RoundsTo mode neg q q := by
  unfold RoundsTo
  split_ifs
  · norm_num
  · exact ⟨le_refl _, by linarith⟩
  · exact ⟨le_refl _, by linarith⟩

/-- How a part below one compares with a half. -/
def HalfCmp (x : ℝ) (cmp : Nat) : Prop := (cmp = 0 ∧ x < 1 / 2) ∨ (cmp = 1 ∧ x = 1 / 2) ∨ (cmp = 2 ∧ 1 / 2 < x)

/-- A number that is nearer than a half, or a half away from an even one, is the nearest (R57). -/
theorem roundsTo_nearest (h : |(q : ℝ) - w| < 1 / 2 ∨ |(q : ℝ) - w| = 1 / 2 ∧ q % 2 = 0) : RoundsTo 0 neg w q :=
  ⟨h.elim le_of_lt (fun h => le_of_eq h.1), fun he => h.elim (fun h => absurd he (ne_of_lt h)) And.right⟩

/-- The quotient, or the next number where `roundUp` says so, is the number rounded (R57). -/
theorem roundsTo_roundUp (hm : mode < 4) {cmp : Nat} {inexact : Bool} (h0 : (q : ℝ) ≤ w) (h1 : w < q + 1) (hc : HalfCmp (w - q) cmp)
    (hi : inexact = true ↔ (q : ℝ) ≠ w) :
    RoundsTo mode neg w (if roundUp mode neg (q % 2 == 1) cmp inexact then q + 1 else q) ∧
    (inexact = true ↔ ((if roundUp mode neg (q % 2 == 1) cmp inexact then q + 1 else q : Nat) : ℝ) ≠ w) := by
  by_cases hx : (q : ℝ) = w
  · have hin : inexact = false := by simpa [hx] using hi
    have hc0 : cmp = 0 := by
      subst hx
      rcases hc with ⟨h, -⟩ | ⟨-, h⟩ | ⟨-, h⟩
      · exact h
      · norm_num at h
      · norm_num at h
    have hup : roundUp mode neg (q % 2 == 1) cmp inexact = false := by
      rw [hin, hc0]
      unfold roundUp
      split <;> simp
    rw [hup, ← hx]
    exact ⟨roundsTo_self _ _ _, by simp [hin]⟩
  · have hin : inexact = true := hi.2 hx
    have hlt : (q : ℝ) < w := lt_of_le_of_ne h0 hx
    refine ⟨?_, ⟨fun _ => ?_, fun _ => hin⟩⟩
    · subst hin
      have hcast : ((q + 1 : Nat) : ℝ) = q + 1 := Nat.cast_succ q
      obtain rfl | rfl | rfl | rfl : mode = 0 ∨ mode = 1 ∨ mode = 2 ∨ mode = 3 := by omega
      · have hdown : |(q : ℝ) - w| = w - q := by rw [abs_sub_comm]; exact abs_of_pos (sub_pos.2 hlt)
        have hup : |((q + 1 : Nat) : ℝ) - w| = 1 - (w - q) := by rw [hcast, abs_of_pos (by linarith)]; ring
        rcases hc with ⟨rfl, h⟩ | ⟨rfl, h⟩ | ⟨rfl, h⟩
        · exact roundsTo_nearest (.inl (by rw [if_neg (by simp [roundUp]), hdown]; exact h))
        · by_cases hodd : q % 2 = 1
          · exact roundsTo_nearest (.inr (by rw [if_pos (by simp [roundUp, hodd]), hup]; exact ⟨by linarith, by omega⟩))
          · exact roundsTo_nearest (.inr (by rw [if_neg (by simp [roundUp, hodd]), hdown]; exact ⟨h, by omega⟩))
        · exact roundsTo_nearest (.inl (by rw [if_pos (by simp [roundUp]), hup]; linarith))
      · exact ⟨h0, h1⟩
      · cases neg
        · exact ⟨h0, h1⟩
        · exact ⟨le_of_lt (hcast ▸ h1), hcast ▸ by linarith⟩
      · cases neg
        · exact ⟨le_of_lt (hcast ▸ h1), hcast ▸ by linarith⟩
        · exact ⟨h0, h1⟩
    · split
      · push_cast; exact ne_of_gt h1
      · exact hx

end

/-- The bits below a cut, as a part of the last bit kept: how they compare with a half, and whether there are any. -/
theorem halfCmp_cut {m sh : Nat} {v : ℝ} (hsh : 0 < sh) (h0 : (m : ℝ) ≤ v) (h1 : v < m + 1) {sticky : Bool}
    (hs : sticky = true ↔ (m : ℝ) ≠ v) :
    ((m / 2 ^ sh : Nat) : ℝ) ≤ v / 2 ^ sh ∧ v / 2 ^ sh < ((m / 2 ^ sh : Nat) : ℝ) + 1 ∧
    HalfCmp (v / 2 ^ sh - ((m / 2 ^ sh : Nat) : ℝ))
      (if m % 2 ^ sh < 2 ^ (sh - 1) then 0 else if m % 2 ^ sh = 2 ^ (sh - 1) && !sticky then 1 else 2) ∧
    ((m % 2 ^ sh != 0 || sticky) = true ↔ ((m / 2 ^ sh : Nat) : ℝ) ≠ v / 2 ^ sh) := by
  obtain ⟨k, rfl⟩ : ∃ k, sh = k + 1 := ⟨sh - 1, by omega⟩
  have hH : (0 : ℝ) < 2 ^ (k + 1) := by positivity
  have hdm : (m : ℝ) = 2 ^ (k + 1) * ((m / 2 ^ (k + 1) : Nat) : ℝ) + ((m % 2 ^ (k + 1) : Nat) : ℝ) := by
    exact_mod_cast (Nat.div_add_mod m (2 ^ (k + 1))).symm
  have hr : ((m % 2 ^ (k + 1) : Nat) : ℝ) + 1 ≤ 2 ^ (k + 1) := by exact_mod_cast Nat.mod_lt m (by positivity)
  generalize hq : m / 2 ^ (k + 1) = q at *
  generalize m % 2 ^ (k + 1) = r at *
  have hv : v / 2 ^ (k + 1) - q = (r + (v - m)) / 2 ^ (k + 1) := by field_simp; linarith
  have hpow : (2 : ℝ) ^ (k + 1) = 2 * 2 ^ k := pow_succ' 2 k
  have hr0 : (0 : ℝ) ≤ r := Nat.cast_nonneg r
  refine ⟨?_, ?_, ?_, ?_⟩
  · rw [← sub_nonneg, hv]
    exact div_nonneg (by linarith) hH.le
  · have hlt : v / 2 ^ (k + 1) - q < 1 := by
      rw [hv, div_lt_one hH]
      linarith
    linarith
  · rw [hv, Nat.add_sub_cancel]
    by_cases hlow : r < 2 ^ k
    · have hlow' : (r : ℝ) + 1 ≤ 2 ^ k := by exact_mod_cast hlow
      rw [if_pos hlow]
      exact .inl ⟨rfl, by rw [div_lt_iff₀ hH]; linarith⟩
    · have hhigh : (2 : ℝ) ^ k ≤ r := by exact_mod_cast Nat.le_of_not_lt hlow
      rw [if_neg hlow]
      by_cases htie : r = 2 ^ k ∧ sticky = false
      · have hvm : (m : ℝ) = v := by simpa [htie.2] using hs
        have hrk : (r : ℝ) = 2 ^ k := by exact_mod_cast htie.1
        rw [if_pos (by simp [htie])]
        exact .inr (.inl ⟨rfl, by rw [div_eq_iff hH.ne']; linarith⟩)
      · rw [if_neg (by simpa using htie)]
        refine .inr (.inr ⟨rfl, ?_⟩)
        rw [lt_div_iff₀ hH]
        by_cases hrk : r = 2 ^ k
        · have hlt : (m : ℝ) < v := lt_of_le_of_ne h0 (hs.1 (by simpa [hrk] using htie))
          linarith
        · have hrk' : (2 : ℝ) ^ k + 1 ≤ r := by exact_mod_cast Nat.lt_of_le_of_ne (Nat.le_of_not_lt hlow) (Ne.symm hrk)
          linarith
  · have hzero : (q : ℝ) = v / 2 ^ (k + 1) ↔ (r : ℝ) + (v - m) = 0 := by
      rw [eq_comm, ← sub_eq_zero, hv, div_eq_zero_iff, or_iff_left hH.ne']
    rw [Ne, hzero, Bool.or_eq_true, bne_iff_ne, hs]
    constructor
    · rintro (h | h) he
      · exact h (by exact_mod_cast (by linarith : (r : ℝ) = 0))
      · exact h (by linarith)
    · intro h
      by_contra hc
      push Not at hc
      exact h (by rw [hc.1, hc.2]; simp)

/-- `cutTo` rounds the number `v * 2^e`, of which `m` is the whole part of `v` and `sticky` says that there is more, to a multiple of 2^t,
where all that there is more lies below 2^t (R57). -/
theorem cutTo_rounds {mode : Nat} (hm : mode < 4) (neg : Bool) {m : Nat} {v : ℝ} (h0 : (m : ℝ) ≤ v) (h1 : v < m + 1) {sticky : Bool}
    (hs : sticky = true ↔ (m : ℝ) ≠ v) {e t : Int} (ht : t ≤ e → sticky = false) :
    RoundsTo mode neg (v * 2 ^ (e - t)) (cutTo mode neg m e t sticky).1 ∧
    ((cutTo mode neg m e t sticky).2 = true ↔ ((cutTo mode neg m e t sticky).1 : ℝ) ≠ v * 2 ^ (e - t)) := by
  unfold cutTo
  split
  · next hle =>
    have hst := ht hle
    have hvm : (m : ℝ) = v := by simpa [hst] using hs
    have hw : v * 2 ^ (e - t) = ((m * 2 ^ (e - t).toNat : Nat) : ℝ) := by
      push_cast
      rw [hvm, ← zpow_natCast, Int.toNat_of_nonneg (by omega)]
    have h := roundsTo_roundUp (neg := neg) (cmp := 0) (inexact := sticky) (q := m * 2 ^ (e - t).toNat) hm (le_of_eq hw.symm)
      (by rw [hw]; linarith) (.inl ⟨rfl, by rw [hw]; norm_num⟩) (by simp [hst, hw])
    exact h
  · next hgt =>
    have hw : v * 2 ^ (e - t) = v / 2 ^ (t - e).toNat := by
      rw [← zpow_natCast, Int.toNat_of_nonneg (by omega), div_eq_mul_inv, ← zpow_neg, neg_sub]
    obtain ⟨hlo, hhi, hc, hi⟩ := halfCmp_cut (sh := (t - e).toNat) (by omega) h0 h1 hs
    rw [hw]
    exact roundsTo_roundUp hm hlo hhi hc hi

end Sys2Proof.Machine
end

section
/-! SUPPORT. The rounded F32 of a positive real number in units of 2^-149 (R57, R58). -/

namespace Sys2Proof.Machine

/-! ## The spacing about a number -/

/-- A number between a power of two and the next has that power's exponent, or lies below one. -/
theorem log2_floor_eq {V : ℝ} {K : Int} (h0 : (2 : ℝ) ^ K ≤ V) (h1 : V < 2 ^ (K + 1)) : Nat.log2 ⌊V⌋₊ = K.toNat := by
  have hV : 0 ≤ V := le_trans (by positivity) h0
  by_cases hK : 0 ≤ K
  · obtain ⟨n, rfl⟩ := Int.eq_ofNat_of_zero_le hK
    have hlo : 2 ^ n ≤ ⌊V⌋₊ := Nat.le_floor (by push_cast; exact_mod_cast h0)
    have hhi : ⌊V⌋₊ < 2 ^ (n + 1) := (Nat.floor_lt hV).2 (by push_cast; exact_mod_cast h1)
    exact (Nat.log2_eq_iff (by have := Nat.two_pow_pos n; omega)).2 ⟨hlo, hhi⟩
  · have hV1 : V < 1 := lt_of_lt_of_le h1 (by
      rw [← zpow_zero (2 : ℝ)]
      exact zpow_le_zpow_right₀ (by norm_num) (by omega))
    rw [Nat.floor_eq_zero.2 hV1, Int.toNat_of_nonpos (by omega)]
    rfl

/-- The exponent of the spacing of the floats about `V`, in units of 2^-149 (R57). -/
noncomputable def gapExp (V : ℝ) : Nat := Nat.log2 ⌊V⌋₊ - 23

theorem lt_two_pow_log2 (V : ℝ) : V < 2 ^ (Nat.log2 ⌊V⌋₊ + 1) := by
  have h : ⌊V⌋₊ + 1 ≤ 2 ^ (Nat.log2 ⌊V⌋₊ + 1) := Nat.lt_log2_self
  have h' : ((⌊V⌋₊ : ℝ)) + 1 ≤ 2 ^ (Nat.log2 ⌊V⌋₊ + 1) := by exact_mod_cast h
  exact lt_of_lt_of_le (Nat.lt_floor_add_one V) h'

/-- Measured in the spacing about it a number has at most 24 bits before the point, and 24 where the spacing is not the least. -/
theorem scaled_lt (V : ℝ) : V / 2 ^ gapExp V < 2 ^ 24 := by
  rw [div_lt_iff₀ (by positivity), ← pow_add]
  refine lt_of_lt_of_le (lt_two_pow_log2 V) (pow_le_pow_right₀ (by norm_num) ?_)
  unfold gapExp
  omega

theorem le_scaled {V : ℝ} (hV : 0 ≤ V) (hT : 0 < gapExp V) : (2 : ℝ) ^ 23 ≤ V / 2 ^ gapExp V := by
  have hne : ⌊V⌋₊ ≠ 0 := fun h => by simp [gapExp, h] at hT
  have hlo : 2 ^ Nat.log2 ⌊V⌋₊ ≤ ⌊V⌋₊ := Nat.log2_self_le hne
  have hlo' : (2 : ℝ) ^ Nat.log2 ⌊V⌋₊ ≤ V := le_trans (by exact_mod_cast hlo) (Nat.floor_le hV)
  rw [le_div_iff₀ (by positivity), ← pow_add]
  refine le_trans (le_of_eq ?_) hlo'
  unfold gapExp at hT ⊢
  congr 1
  omega

/-! ## Rounding to F32 -/

/-- What a rounding gives that passes the greatest finite number (R57, R58). -/
def overflowed (mode : Nat) (neg : Bool) : Nat × Nat :=
  ((if neg then 2 ^ 31 else 0) + (if mode = 0 ∨ (mode = 2 ∧ neg = true) ∨ (mode = 3 ∧ neg = false) then 0x7F800000 else 0x7F7FFFFF), 0x14)

/-- `r` is the F32 of magnitude `q` spacings with its flags, where `V` units of magnitude round to `q` spacings (R57, R58). -/
structure Rounds32 (mode : Nat) (neg : Bool) (V : ℝ) (r : Nat × Nat) (q : Nat) : Prop where
  rounds : RoundsTo mode neg (V / 2 ^ gapExp V) q
  overflow : 255 * 2 ^ 23 ≤ gapExp V * 2 ^ 23 + q → r = overflowed mode neg
  value : gapExp V * 2 ^ 23 + q < 255 * 2 ^ 23 → r.1 = (if neg then 2 ^ 31 else 0) + (gapExp V * 2 ^ 23 + q)
  flags : gapExp V * 2 ^ 23 + q < 255 * 2 ^ 23 →
    (r.2 = 0 ∨ r.2 = 0x10 ∨ r.2 = 0x18) ∧ (r.2 = 0 ↔ (q : ℝ) = V / 2 ^ gapExp V) ∧ (r.2 = 0x18 → V < 2 ^ 23)

/-- The number is tiny after rounding: it lies below 2^-126 with an exponent without bounds (R58). -/
def tinyAfter (mode : Nat) (neg : Bool) (m : Nat) (e : Int) (sticky : Bool) : Bool :=
  decide (e + Nat.log2 m < -126) &&
    !(decide (e + Nat.log2 m + 1 = -126) && (cutTo mode neg m e (e + Nat.log2 m - 23) sticky).1 == 2 ^ 24)

/-- The rounding of `Fmt.round` by its cut at 2^(T - 149): the encoding is the sum of the scale's and the quotient's bits (R57, R58). -/
theorem Fmt.round_f32 (mode : Nat) (neg : Bool) (m : Nat) (e : Int) (sticky : Bool) {T : Nat}
    (ht : max (e + Nat.log2 m - 23) (-126 - 23) = (T : Int) - 149) : Fmt.f32.round mode neg m e sticky =
      (let c := cutTo mode neg m e ((T : Int) - 149) sticky
       if 255 * 2 ^ 23 ≤ T * 2 ^ 23 + c.1 then overflowed mode neg
       else ((if neg then 2 ^ 31 else 0) + (T * 2 ^ 23 + c.1),
         (if c.2 then 0x10 else 0) + (if c.2 && tinyAfter mode neg m e sticky then 8 else 0))) := by
  have ht' : max (e + (Nat.log2 m : Int) - ((23 : Nat) : Int)) (1 - ((127 : Nat) : Int) - ((23 : Nat) : Int)) = (T : Int) - 149 := by
    rw [← ht]; norm_num
  have hT : ((T : Int) - 149 + ((23 : Nat) : Int) + ((127 : Nat) : Int)).toNat = T + 1 := by omega
  have hbody (q : Nat) : (T + 1) * 2 ^ 23 + q - 2 ^ 23 = T * 2 ^ 23 + q := by omega
  unfold Fmt.round
  dsimp only [Fmt.f32]
  rw [ht', hT, hbody]
  by_cases hle : 255 * 2 ^ 23 ≤ T * 2 ^ 23 + (cutTo mode neg m e ((T : Int) - 149) sticky).1
  · refine (if_pos hle).trans (Eq.trans ?_ (if_pos hle).symm)
    unfold overflowed
    refine Prod.ext ?_ rfl
    have hc : (mode == 0 || (mode == 2 && neg) || (mode == 3 && !neg)) = true ↔
        mode = 0 ∨ mode = 2 ∧ neg = true ∨ mode = 3 ∧ neg = false := by
      simp [or_assoc]
    simp only [hc]
    split <;> rfl
  · exact (if_neg hle).trans (Eq.trans rfl (if_neg hle).symm)

section
variable {mode : Nat} (hm : mode < 4) (neg : Bool) {m : Nat} {v : ℝ} (hm0 : 0 < m) (h0 : (m : ℝ) ≤ v) (h1 : v < m + 1) {sticky : Bool}
  (hs : sticky = true ↔ (m : ℝ) ≠ v) (hbig : sticky = true → 2 ^ 24 ≤ m) (e : Int)
include hm0 h0 h1

/-- The leading bit of `v * 2^(e + 149)` is that of `m`. -/
theorem leading_bit : (2 : ℝ) ^ (e + 149 + Nat.log2 m) ≤ v * 2 ^ (e + 149) ∧ v * 2 ^ (e + 149) < 2 ^ (e + 149 + Nat.log2 m + 1) := by
  have hlo : (2 : ℝ) ^ Nat.log2 m ≤ v := le_trans (by exact_mod_cast Nat.log2_self_le (by omega)) h0
  have hhi : v < 2 ^ (Nat.log2 m + 1) := lt_of_lt_of_le h1 (by exact_mod_cast Nat.lt_log2_self (n := m))
  have hpos : (0 : ℝ) < 2 ^ (e + 149) := by positivity
  constructor
  · rw [zpow_add₀ (by norm_num), mul_comm, zpow_natCast]
    exact mul_le_mul_of_nonneg_right hlo hpos.le
  · rw [show e + 149 + (Nat.log2 m : Int) + 1 = e + 149 + ((Nat.log2 m + 1 : Nat) : Int) by push_cast; ring,
      zpow_add₀ (by norm_num) _ ((Nat.log2 m + 1 : Nat) : Int), mul_comm, zpow_natCast]
    exact mul_lt_mul_of_pos_left hhi hpos

theorem gapExp_leading : gapExp (v * 2 ^ (e + 149)) = (e + 149 + Nat.log2 m).toNat - 23 := by
  obtain ⟨hlo, hhi⟩ := leading_bit hm0 h0 h1 e
  unfold gapExp
  rw [log2_floor_eq hlo hhi]

include hm hs hbig

/-- The model's rounding is the rounding of its number (R57, R58). -/
theorem round_rounds : ∃ q, Rounds32 mode neg (v * 2 ^ (e + 149)) (Fmt.f32.round mode neg m e sticky) q := by
  set V := v * 2 ^ (e + 149) with hVdef
  have hT : gapExp V = (e + 149 + Nat.log2 m).toNat - 23 := gapExp_leading hm0 h0 h1 e
  have ht : max ((e + Nat.log2 m) - 23) (-126 - 23) = (gapExp V : Int) - 149 := by omega
  have hw : v * 2 ^ (e - ((gapExp V : Int) - 149)) = V / 2 ^ gapExp V := by
    rw [hVdef, div_eq_mul_inv, mul_assoc, ← zpow_natCast, ← zpow_neg, ← zpow_add₀ (by norm_num)]
    congr 2
    ring
  have hcut : (gapExp V : Int) - 149 ≤ e → sticky = false := by
    intro hle
    by_contra hst
    have h24 : 24 ≤ Nat.log2 m := (Nat.le_log2 (by omega)).2 (hbig (by simpa using hst))
    omega
  obtain ⟨hr, hi⟩ := cutTo_rounds hm neg h0 h1 hs hcut
  rw [hw] at hr hi
  have hround := Fmt.round_f32 mode neg m e sticky ht
  dsimp only at hround
  refine ⟨_, hr, fun hge => ?_, fun hlt => ?_, fun hlt => ?_⟩
  · rw [hround, if_pos hge]
  · rw [hround, if_neg (by omega)]
  · rw [hround, if_neg (by omega)]
    have hq : (cutTo mode neg m e ((gapExp V : Int) - 149) sticky).2 = false ↔
        ((cutTo mode neg m e ((gapExp V : Int) - 149) sticky).1 : ℝ) = V / 2 ^ gapExp V := by
      rw [← not_iff_not, Bool.not_eq_false, hi]
    rw [← hq]
    cases (cutTo mode neg m e ((gapExp V : Int) - 149) sticky).2 with
    | false => simp
    | true =>
      cases htiny : tinyAfter mode neg m e sticky with
      | false => simp
      | true =>
        have htop : e + Nat.log2 m < -126 := by
          unfold tinyAfter at htiny
          simpa using (Bool.and_eq_true_iff.1 htiny).1
        have hV := lt_of_lt_of_le (leading_bit hm0 h0 h1 e).2
          (zpow_le_zpow_right₀ (a := (2 : ℝ)) (by norm_num) (by omega : e + 149 + (Nat.log2 m : Int) + 1 ≤ 23))
        simpa using hV

end
end Sys2Proof.Machine
end

section
/-! SUPPORT. Encodings of F32 and the integers in units of 2^-149 that they stand for, and a rounded quotient of integers (R57, R58). -/

namespace Sys2Proof.Machine
open Sys2Proof.Claims

/-! ## Encodings -/

/-- The magnitude of a finite F32 in units of 2^-149. -/
def mag (x : Nat) : Nat := if x / 2 ^ 23 % 2 ^ 8 = 0 then x % 2 ^ 23 else (2 ^ 23 + x % 2 ^ 23) * 2 ^ (x / 2 ^ 23 % 2 ^ 8 - 1)

theorem units_eq (x : Nat) : units x = if x / 2 ^ 31 % 2 = 1 then -(mag x : Int) else mag x := by
  unfold units mag
  split <;> split <;> simp_all

theorem natAbs_units (x : Nat) : (units x).natAbs = mag x := by
  rw [units_eq]
  split <;> simp

/-- The encoding of `q` spacings of 2^T, `q` of 24 bits at most and of 24 where the spacing is not the least (R57). -/
theorem mag_encoded {T q : Nat} (neg : Bool) (hlo : 2 ^ 23 ≤ q ∨ T = 0) (hhi : q ≤ 2 ^ 24) (hlt : T * 2 ^ 23 + q < 255 * 2 ^ 23) :
    let x := (if neg then 2 ^ 31 else 0) + (T * 2 ^ 23 + q)
    isFinite x ∧ (x / 2 ^ 31 % 2 = if neg then 1 else 0) ∧ mag x = q * 2 ^ T := by
  intro x
  have hx : x / 2 ^ 23 % 2 ^ 8 = (T * 2 ^ 23 + q) / 2 ^ 23 ∧ x % 2 ^ 23 = (T * 2 ^ 23 + q) % 2 ^ 23 ∧
      (x / 2 ^ 31 % 2 = if neg then 1 else 0) ∧ x < 2 ^ 32 := by
    cases neg <;> simp only [x] <;> norm_num <;> omega
  obtain ⟨hexp, hman, hsign, hx32⟩ := hx
  refine ⟨⟨hx32, by omega⟩, hsign, ?_⟩
  unfold mag
  rw [hexp, hman]
  by_cases hq : q < 2 ^ 23
  · have hT : T = 0 := hlo.resolve_left (by omega)
    rw [hT, zero_mul, zero_add, if_pos (Nat.div_eq_of_lt hq), Nat.mod_eq_of_lt hq, pow_zero, mul_one]
  · by_cases hq' : q < 2 ^ 24
    · rw [if_neg (by omega), show (T * 2 ^ 23 + q) / 2 ^ 23 - 1 = T by omega, show 2 ^ 23 + (T * 2 ^ 23 + q) % 2 ^ 23 = q by omega]
    · have hqe : q = 2 ^ 24 := by omega
      rw [if_neg (by omega), show (T * 2 ^ 23 + q) / 2 ^ 23 - 1 = T + 1 by omega, show (T * 2 ^ 23 + q) % 2 ^ 23 = 0 by omega, hqe, pow_succ]
      ring

theorem le_gapExp {V : ℝ} {n : Nat} (h : (2 : ℝ) ^ (n + 23) ≤ V) : n ≤ gapExp V := by
  have hfl : 2 ^ (n + 23) ≤ ⌊V⌋₊ := Nat.le_floor (by push_cast; exact h)
  have hlog := (Nat.le_log2 (lt_of_lt_of_le (Nat.two_pow_pos _) hfl).ne').2 hfl
  exact Nat.le_sub_of_add_le hlog

section
variable {mode : Nat} {neg : Bool} {V : ℝ} {r : Nat × Nat} {q : Nat} (h : Rounds32 mode neg V r q) (hV : 0 ≤ V)
include h

theorem Rounds32.le : q ≤ 2 ^ 24 := h.rounds.le (by exact_mod_cast (scaled_lt V).le)

include hV

theorem Rounds32.ge : 2 ^ 23 ≤ q ∨ gapExp V = 0 := by
  by_cases hT : gapExp V = 0
  · exact .inr hT
  · exact .inl (h.rounds.ge (by exact_mod_cast le_scaled hV (Nat.pos_of_ne_zero hT)))

/-- A rounding that does not overflow gives the encoding of its `q` spacings. -/
theorem Rounds32.finite (hlt : gapExp V * 2 ^ 23 + q < 255 * 2 ^ 23) :
    isFinite r.1 ∧ units r.1 = if neg then -((q * 2 ^ gapExp V : Nat) : Int) else (q * 2 ^ gapExp V : Nat) := by
  obtain ⟨hf, hs, hg⟩ := mag_encoded neg (h.ge hV) h.le hlt
  rw [h.value hlt, units_eq, hg, hs]
  exact ⟨hf, by cases neg <;> simp⟩

/-- No number up to the greatest finite one overflows (R58). -/
theorem Rounds32.lt_of_le (hle : V ≤ (2 ^ 24 - 1) * 2 ^ 253) : gapExp V * 2 ^ 23 + q < 255 * 2 ^ 23 := by
  have hfl : ⌊V⌋₊ < 2 ^ 277 := (Nat.floor_lt hV).2 (by
    refine lt_of_le_of_lt hle ?_
    rw [Nat.cast_pow, Nat.cast_ofNat, show (277 : Nat) = 24 + 253 from rfl, pow_add]
    exact mul_lt_mul_of_pos_right (by norm_num) (by positivity))
  have hT : gapExp V ≤ 253 := by
    unfold gapExp
    by_cases h0 : ⌊V⌋₊ = 0
    · simp [h0]
    · have := (Nat.log2_lt h0).2 hfl
      omega
  have hq := h.le
  by_cases h253 : gapExp V = 253
  · have : q ≤ 2 ^ 24 - 1 := h.rounds.le (by
      rw [h253, div_le_iff₀ (by positivity)]
      exact le_trans hle (le_of_eq (by rw [Nat.cast_sub (Nat.one_le_two_pow), Nat.cast_pow, Nat.cast_ofNat, Nat.cast_one])))
    omega
  · omega

/-- A number from 2^128 on overflows (R58). -/
theorem Rounds32.ge_of_ge (hge : (2 : ℝ) ^ 277 ≤ V) : 255 * 2 ^ 23 ≤ gapExp V * 2 ^ 23 + q := by
  have hT : 254 ≤ gapExp V := le_gapExp (n := 254) hge
  rcases h.ge hV with hq | hq <;> omega

omit hV in
/-- The flag FP_OF says that the rounding has overflowed. -/
theorem Rounds32.overflow_iff : r.2 / 4 % 2 = 1 ↔ 255 * 2 ^ 23 ≤ gapExp V * 2 ^ 23 + q := by
  constructor
  · intro hovf
    by_contra hlt
    obtain ⟨hfl, -, -⟩ := h.flags (Nat.lt_of_not_le hlt)
    omega
  · intro hge
    simp [h.overflow hge, overflowed]

end

/-! ## A rounded quotient of integers -/

/-- `q` multiples of `G` are `P` rounded in `mode`, in integers. -/
def RoundsInt (mode : Nat) (neg : Bool) (P G : Int) (q : Nat) : Prop :=
  if mode = 0 then 2 * |q * G - P| ≤ G ∧ (2 * |q * G - P| = G → q % 2 = 0)
  else if mode = 2 ∧ neg = true ∨ mode = 3 ∧ neg = false then P ≤ q * G ∧ q * G < P + G
  else q * G ≤ P ∧ P < q * G + G

theorem natCast_eq_div_iff {q P G : Nat} (hG : 0 < G) : (q : ℝ) = (P : ℝ) / G ↔ (q : Int) * (G : Int) = P := by
  rw [eq_div_iff (by exact_mod_cast hG.ne')]
  norm_cast

theorem RoundsTo.int {mode : Nat} {neg : Bool} {P G q : Nat} (hG : 0 < G) (h : RoundsTo mode neg ((P : ℝ) / G) q) : RoundsInt mode neg P G q := by
  have hG' : (0 : ℝ) < G := by exact_mod_cast hG
  unfold RoundsTo at h
  unfold RoundsInt
  split_ifs at h ⊢
  · have hd : |(q : ℝ) - P / G| = ((|q * G - P| : Int) : ℝ) / G := by
      rw [eq_div_iff hG'.ne', ← abs_of_pos hG', ← abs_mul, sub_mul, abs_of_pos hG', div_mul_cancel₀ _ hG'.ne']
      push_cast
      rfl
    rw [hd] at h
    obtain ⟨hle, htie⟩ := h
    rw [div_le_iff₀ hG'] at hle
    refine ⟨?_, fun he => htie ?_⟩
    · have h2 : (2 : ℝ) * ((|q * G - P| : Int) : ℝ) ≤ ((G : Int) : ℝ) := by rw [Int.cast_natCast]; linarith
      exact_mod_cast h2
    · have h2 : (2 : ℝ) * ((|q * G - P| : Int) : ℝ) = ((G : Int) : ℝ) := by exact_mod_cast congrArg (Int.cast : Int → ℝ) he
      rw [Int.cast_natCast] at h2
      rw [div_eq_iff hG'.ne']
      linarith
  · obtain ⟨hle, hlt⟩ := h
    rw [div_le_iff₀ hG'] at hle
    rw [← sub_lt_iff_lt_add, lt_div_iff₀ hG', sub_mul, one_mul, sub_lt_iff_lt_add] at hlt
    exact_mod_cast And.intro hle hlt
  · obtain ⟨hle, hlt⟩ := h
    rw [le_div_iff₀ hG'] at hle
    rw [div_lt_iff₀ hG', add_mul, one_mul] at hlt
    exact_mod_cast And.intro hle hlt

/-- The rules of the four modes for a number `p` and its rounded value `X`, a multiple of `G` with the sign of `p` (R57). -/
theorem RoundsInt.modes {mode : Nat} {p X G : Int} {q : Nat} (hG : 0 ≤ G) (h : RoundsInt mode (decide (p < 0)) p.natAbs G q)
    (hX : X = if p < 0 then -(q * G) else q * G) :
    (mode = 0 → 2 * (X - p).natAbs ≤ G ∧ (2 * (X - p).natAbs = G → q % 2 = 0)) ∧
    (mode = 1 → X.natAbs ≤ p.natAbs ∧ p.natAbs < X.natAbs + G) ∧
    (mode = 2 → X ≤ p ∧ p < X + G) ∧ (mode = 3 → p ≤ X ∧ X - G < p) := by
  unfold RoundsInt at h
  have hQ : 0 ≤ (q : Int) * G := Int.mul_nonneg (Int.natCast_nonneg q) hG
  generalize (q : Int) * G = Q at h hX hQ
  refine ⟨?_, ?_, ?_, ?_⟩ <;> rintro rfl
  · obtain ⟨hle, htie⟩ := h
    have hd : ((X - p).natAbs : Int) = |Q - p.natAbs| := by
      rw [Int.abs_eq_natAbs]
      split_ifs at hX <;> omega
    rw [hd]
    exact ⟨hle, htie⟩
  · obtain ⟨hle, hlt⟩ := h
    split_ifs at hX <;> omega
  · by_cases hp : p < 0
    · obtain ⟨hle, hlt⟩ : (p.natAbs : Int) ≤ Q ∧ Q < p.natAbs + G := by simpa [hp] using h
      rw [if_pos hp] at hX
      omega
    · obtain ⟨hle, hlt⟩ : Q ≤ p.natAbs ∧ (p.natAbs : Int) < Q + G := by simpa [hp] using h
      rw [if_neg hp] at hX
      omega
  · by_cases hp : p < 0
    · obtain ⟨hle, hlt⟩ : Q ≤ p.natAbs ∧ (p.natAbs : Int) < Q + G := by simpa [hp] using h
      rw [if_pos hp] at hX
      omega
    · obtain ⟨hle, hlt⟩ : (p.natAbs : Int) ≤ Q ∧ Q < p.natAbs + G := by simpa [hp] using h
      rw [if_neg hp] at hX
      omega

/-- A rounding to F32 of the quotient of two integers is what `Rounded` says (R57, R58). -/
theorem Rounds32.rounded {mode : Nat} {p : Int} {d : Nat} (hp : p ≠ 0) (hd : 0 < d) {r : Nat × Nat} {q : Nat}
    (h : Rounds32 mode (decide (p < 0)) ((p.natAbs : ℝ) / d) r q) : Rounded mode r p d := by
  have hd' : (0 : ℝ) < d := by exact_mod_cast hd
  have hV : (0 : ℝ) ≤ (p.natAbs : ℝ) / d := by positivity
  have hT : gapExp ((p.natAbs : ℝ) / d) = Nat.log2 (p.natAbs / d) - 23 := by rw [gapExp, Nat.floor_div_eq_div]
  unfold Rounded
  intro g x ovf
  have hovf : ovf ↔ _ := h.overflow_iff
  refine ⟨fun hle hov => ?_, fun hge => hovf.2 (h.ge_of_ge hV ?_), fun hov => ?_, fun hov => ?_⟩
  · refine absurd (hovf.1 hov) (Nat.not_le_of_lt (h.lt_of_le hV ?_))
    rw [div_le_iff₀ hd']
    have hle' : (p.natAbs : ℝ) ≤ (((2 ^ 24 - 1) * 2 ^ 253 * d : Nat) : ℝ) := Nat.cast_le.2 hle
    refine le_trans hle' (le_of_eq ?_)
    rw [Nat.cast_mul, Nat.cast_mul, Nat.cast_pow, Nat.cast_sub Nat.one_le_two_pow, Nat.cast_pow, Nat.cast_one, Nat.cast_ofNat]
  · rw [le_div_iff₀ hd']
    have hge' : ((2 ^ 277 * d : Nat) : ℝ) ≤ p.natAbs := Nat.cast_le.2 hge
    refine le_trans (le_of_eq ?_) hge'
    rw [Nat.cast_mul, Nat.cast_pow, Nat.cast_ofNat]
  · rw [h.overflow (hovf.1 hov)]
    refine ⟨rfl, ?_⟩
    have hpos : 0 < p ↔ ¬p < 0 := by omega
    simp only [overflowed, decide_eq_true_eq, decide_eq_false_iff_not, hpos]
  · have hlt := Nat.lt_of_not_le (fun hge => hov (hovf.2 hge))
    obtain ⟨hfin, hx⟩ := h.finite hV hlt
    obtain ⟨hfl, hzero, htiny⟩ := h.flags hlt
    have hr := h.rounds
    have hx' : x = _ := hx
    rw [hT] at hr hzero hx'
    have hg : g = 2 ^ (Nat.log2 (p.natAbs / d) - 23) := rfl
    generalize Nat.log2 (p.natAbs / d) - 23 = T at hr hzero hx' hg
    have hw : (p.natAbs : ℝ) / d / 2 ^ T = (p.natAbs : ℝ) / ((2 ^ T * d : Nat) : ℝ) := by
      rw [div_div]; push_cast; rw [mul_comm]
    have hG : 0 < 2 ^ T * d := by positivity
    rw [hw] at hr hzero
    have hi := hr.int hG
    have hGd : ((2 ^ T * d : Nat) : Int) = g * d := by rw [hg]; push_cast; rfl
    have hxd : x * d = if p < 0 then -(q * (g * d)) else q * (g * d) := by
      rw [hx', hg]
      simp only [decide_eq_true_eq]
      split <;> push_cast <;> ring
    have hxg : x / g % 2 = 0 ↔ q % 2 = 0 := by
      have hgpos : g ≠ 0 := by rw [hg]; positivity
      have hxq : x = (if p < 0 then -(q : Int) else q) * g := by
        rw [hx', hg]
        simp only [decide_eq_true_eq]
        split <;> push_cast <;> ring
      rw [hxq, Int.mul_ediv_cancel _ hgpos]
      split <;> omega
    rw [natCast_eq_div_iff hG, hGd] at hzero
    have htiny' : r.2 = 0x18 → p.natAbs < 2 ^ 23 * d := fun hr => by
      have := htiny hr
      rw [div_lt_iff₀ hd'] at this
      have hcast : (p.natAbs : ℝ) < ((2 ^ 23 * d : Nat) : ℝ) := by rwa [Nat.cast_mul, Nat.cast_pow, Nat.cast_ofNat]
      exact Nat.cast_lt.1 hcast
    rw [hGd] at hi
    obtain ⟨hm0, hm1, hm2, hm3⟩ := hi.modes (hGd ▸ Int.natCast_nonneg _) hxd
    refine ⟨hfin, hfl, hzero.trans ?_, htiny', by rwa [hxg], hm1, hm2, hm3⟩
    rw [hxd]
    split_ifs <;> omega

end Sys2Proof.Machine
end

section
/-! SUPPORT. The finite F32 numbers in the model's form m * 2^e, and a rounding by the model as a rounded quotient of integers (R57, R58). -/

namespace Sys2Proof.Machine
open Sys2Proof.Claims

/-! ## Finite numbers -/

theorem Fmt.neg_f32 (x : Nat) : Fmt.f32.neg x = decide (x / 2 ^ 31 % 2 = 1) := rfl

theorem units_eq_neg (x : Nat) : units x = if Fmt.f32.neg x then -(mag x : Int) else mag x := by
  rw [units_eq, Fmt.neg_f32]
  simp only [decide_eq_true_eq]

/-- The form m * 2^e of a number is its magnitude in units of 2^-149. -/
theorem dyadic_f32 (x : Nat) : (Fmt.f32.dyadic x).1 < 2 ^ 24 ∧ -149 ≤ (Fmt.f32.dyadic x).2 ∧
    (Fmt.f32.dyadic x).1 * 2 ^ ((Fmt.f32.dyadic x).2 + 149).toNat = mag x := by
  have hman : x % 2 ^ 23 < 2 ^ 23 := Nat.mod_lt x (by norm_num)
  unfold mag
  by_cases hexp : x / 2 ^ 23 % 2 ^ 8 = 0
  · have hd : Fmt.f32.dyadic x = (x % 2 ^ 23, -149) := if_pos hexp
    rw [hd, if_pos hexp]
    exact ⟨by omega, le_rfl, mul_one _⟩
  · have hd : Fmt.f32.dyadic x = (2 ^ 23 + x % 2 ^ 23, ((x / 2 ^ 23 % 2 ^ 8 : Nat) : Int) - 127 - 23) := if_neg hexp
    rw [hd, if_neg hexp]
    refine ⟨by omega, by dsimp only; omega, ?_⟩
    dsimp only
    congr 2
    omega

/-- The magnitude of a finite number as a real number. -/
theorem dyadic_mag (x : Nat) : ((Fmt.f32.dyadic x).1 : ℝ) * 2 ^ ((Fmt.f32.dyadic x).2 + 149) = mag x := by
  obtain ⟨-, he, hm⟩ := dyadic_f32 x
  rw [← hm]
  push_cast
  rw [← zpow_natCast, Int.toNat_of_nonneg (by omega)]

theorem dyadic_pos {x : Nat} (h : units x ≠ 0) : 0 < (Fmt.f32.dyadic x).1 := by
  refine Nat.pos_of_ne_zero fun h0 => h ?_
  have hm := (dyadic_f32 x).2.2
  rw [h0, zero_mul] at hm
  rw [units_eq, ← hm]
  simp

theorem f32Int_units (x : Nat) : f32Int x (-149) = units x := by
  rw [units_eq_neg, ← (dyadic_f32 x).2.2]
  rfl

theorem decide_mul_neg {a b : Int} (ha : a ≠ 0) (hb : b ≠ 0) : decide (a * b < 0) = (decide (a < 0) != decide (b < 0)) := by
  rcases lt_or_gt_of_ne ha with ha | ha <;> rcases lt_or_gt_of_ne hb with hb | hb
  · simp [ha, hb, not_lt_of_gt (mul_pos_of_neg_of_neg ha hb)]
  · simp [ha, not_lt_of_gt hb, mul_neg_of_neg_of_pos ha hb]
  · simp [not_lt_of_gt ha, hb, mul_neg_of_pos_of_neg ha hb]
  · simp [not_lt_of_gt ha, not_lt_of_gt hb, not_lt_of_gt (mul_pos ha hb)]

/-- The sign of a number other than zero is its sign bit. -/
theorem neg_units {x : Nat} (h : units x ≠ 0) : Fmt.f32.neg x = decide (units x < 0) := by
  have hpos : mag x ≠ 0 := fun h0 => h (by rw [units_eq, h0]; simp)
  rw [units_eq_neg]
  cases Fmt.f32.neg x <;> simp [Nat.pos_of_ne_zero hpos]

/-- The product of two numbers by their signs and magnitudes. -/
theorem units_mul (a b : Nat) : units a * units b =
    if Fmt.f32.neg a != Fmt.f32.neg b then -((mag a * mag b : Nat) : Int) else (mag a * mag b : Nat) := by
  rw [units_eq_neg, units_eq_neg]
  cases Fmt.f32.neg a <;> cases Fmt.f32.neg b <;> simp

/-! ## A rounding of the model as a rounded quotient -/

section
variable {mode : Nat} (hm : mode < 4) {p : Int} (hp : p ≠ 0) {d : Nat} (hd : 0 < d)
include hm hp hd

/-- The number `v * 2^(e + 149)` that is rounded is the magnitude of the quotient `p / d`. -/
theorem round_rounded {m : Nat} (hm0 : 0 < m) {v : ℝ} (h0 : (m : ℝ) ≤ v) (h1 : v < m + 1) {sticky : Bool}
    (hs : sticky = true ↔ (m : ℝ) ≠ v) (hbig : sticky = true → 2 ^ 24 ≤ m) {e : Int} (hv : v * 2 ^ (e + 149) = (p.natAbs : ℝ) / d) :
    Rounded mode (Fmt.f32.round mode (decide (p < 0)) m e sticky) p d := by
  obtain ⟨q, hq⟩ := round_rounds hm (decide (p < 0)) hm0 h0 h1 hs hbig e
  rw [hv] at hq
  exact hq.rounded hp hd

theorem round_exact_rounded {m : Nat} {e : Int} (hv : (m : ℝ) * 2 ^ (e + 149) * d = p.natAbs) :
    Rounded mode (Fmt.f32.round mode (decide (p < 0)) m e false) p d := by
  have hm0 : 0 < m := by
    refine Nat.pos_of_ne_zero fun h0 => hp ?_
    rw [h0, Nat.cast_zero, zero_mul, zero_mul] at hv
    exact Int.natAbs_eq_zero.1 (by exact_mod_cast hv.symm)
  exact round_rounded hm hp hd hm0 le_rfl (lt_add_one _) (by simp) (by simp) ((eq_div_iff (by exact_mod_cast hd.ne')).2 hv)

end

theorem roundInt_rounded {mode : Nat} (hm : mode < 4) {s : Int} (hs : s ≠ 0) (i j : Nat) {e : Int} (he : e + 149 = (i : Int) - j) :
    Rounded mode (Fmt.f32.roundInt mode s e) (s * 2 ^ i) (2 ^ j) := by
  have hp : s * 2 ^ i ≠ 0 := mul_ne_zero hs (by positivity)
  have hneg : decide (s < 0) = decide (s * 2 ^ i < 0) := by
    congr 1
    exact propext ⟨fun h => mul_neg_of_neg_of_pos h (by positivity), fun h => by
      by_contra hs0
      exact absurd h (not_lt.2 (mul_nonneg (not_lt.1 hs0) (by positivity)))⟩
  unfold Fmt.roundInt
  rw [if_neg hs, hneg]
  refine round_exact_rounded hm hp (by positivity) ?_
  rw [he, zpow_sub₀ (by norm_num), Int.natAbs_mul, Int.natAbs_pow]
  push_cast
  rw [zpow_natCast, zpow_natCast]
  field_simp

end Sys2Proof.Machine
end

section
/-! SUPPORT. The classes of F32 encodings, and the sums and products of the float operations (R57 to R59, R213). -/

namespace Sys2Proof.Machine
open Sys2Proof.Claims

/-! ## Classes of encodings -/

theorem isNaN_f32 (x : Nat) : Fmt.f32.isNaN x = isNaN32 x := rfl

theorem isSNaN_f32 (x : Nat) : Fmt.f32.isSNaN x = isSignalling x := by
  have h : x % 2 ^ 23 / 2 ^ 22 = x / 2 ^ 22 % 2 := by omega
  have h' : Fmt.f32.isSNaN x = (isNaN32 x && (x % 2 ^ 23 / 2 ^ 22 == 0)) := rfl
  rw [h', h]
  rfl

theorem isInf_f32 (x : Nat) : Fmt.f32.isInf x = decide (x % 2 ^ 31 = 0x7F800000) := by
  have h : Fmt.f32.isInf x = (x / 2 ^ 23 % 2 ^ 8 == 255 && x % 2 ^ 23 == 0) := rfl
  rw [h, Bool.eq_iff_iff]
  simp only [Bool.and_eq_true, beq_iff_eq, decide_eq_true_eq]
  omega

theorem units_eq_zero {x : Nat} : units x = 0 ↔ mag x = 0 := by rw [← Int.natAbs_eq_zero, natAbs_units]

theorem isZero_f32 (x : Nat) : Fmt.f32.isZero x = decide (units x = 0) := by
  have h : Fmt.f32.isZero x = (x / 2 ^ 23 % 2 ^ 8 == 0 && x % 2 ^ 23 == 0) := rfl
  rw [h, Bool.eq_iff_iff, decide_eq_true_eq, units_eq_zero, mag]
  simp only [Bool.and_eq_true, beq_iff_eq]
  split
  · next hexp => exact and_iff_right hexp
  · next hexp => exact iff_of_false (fun h => hexp h.1) (by positivity)

/-- An encoding of an infinity. -/
def IsInf (x : Nat) : Prop := x % 2 ^ 31 = 0x7F800000

theorem IsInf.isInf {x : Nat} (h : IsInf x) : Fmt.f32.isInf x = true := (isInf_f32 x).trans (decide_eq_true h)

theorem IsInf.isNaN {x : Nat} (h : IsInf x) : isNaN32 x = false := by
  have hman : x % 2 ^ 23 = 0 := by unfold IsInf at h; omega
  simp only [isNaN32, hman, bne_self_eq_false, Bool.and_false]

theorem IsInf.isZero {x : Nat} (h : IsInf x) : Fmt.f32.isZero x = false := by
  have hexp : x / 2 ^ 23 % 2 ^ 8 = 255 := by unfold IsInf at h; omega
  rw [isZero_f32, decide_eq_false_iff_not, units_eq_zero, mag, hexp, if_neg (by decide)]
  positivity

theorem isNaN_of_isFinite {x : Nat} (h : isFinite x) : isNaN32 x = false := by
  have hexp : x / 2 ^ 23 % 2 ^ 8 ≠ 255 := h.2.ne
  simp only [isNaN32, beq_eq_false_iff_ne.2 hexp, Bool.false_and]

theorem isInf_of_isFinite {x : Nat} (h : isFinite x) : Fmt.f32.isInf x = false := by
  obtain ⟨-, hexp⟩ := h
  rw [isInf_f32, decide_eq_false_iff_not]
  omega

theorem isZero_of_units {x : Nat} (h : units x ≠ 0) : Fmt.f32.isZero x = false := (isZero_f32 x).trans (decide_eq_false h)

theorem isZero_of_units_eq {x : Nat} (h : units x = 0) : Fmt.f32.isZero x = true := (isZero_f32 x).trans (decide_eq_true h)

/-! ## NaN operands -/

theorem or_one (n : Nat) : n ||| 1 = if n % 2 = 0 then n + 1 else n := by
  have hdiv : (n ||| 1) / 2 = n / 2 := by rw [Nat.or_div_two]; simp
  have hmod : (n ||| 1) % 2 = 1 := Nat.or_mod_two_eq_one.2 (.inr rfl)
  split <;> omega

/-- A quieted NaN (R59). -/
theorem quiet_eq {x : Nat} (h : isNaN32 x) : quiet x = if isSignalling x then x + 2 ^ 22 else x := by
  have hlow : (x ||| 2 ^ 22) % 2 ^ 22 = x % 2 ^ 22 := by rw [Nat.or_mod_two_pow]; simp
  have hhigh : (x ||| 2 ^ 22) / 2 ^ 22 = x / 2 ^ 22 ||| 1 := by rw [Nat.or_div_two_pow, Nat.div_self (by positivity)]
  rw [or_one] at hhigh
  have hsig : isSignalling x = true ↔ x / 2 ^ 22 % 2 = 0 := by simp [isSignalling, h]
  simp only [hsig]
  show x ||| 2 ^ 22 = _
  split <;> split at hhigh <;> omega

theorem xor_sign {x : Nat} (h : x < 2 ^ 32) : x ^^^ 2 ^ 31 = if x / 2 ^ 31 % 2 = 1 then x - 2 ^ 31 else x + 2 ^ 31 := by
  have hlow : (x ^^^ 2 ^ 31) % 2 ^ 31 = x % 2 ^ 31 := by rw [Nat.xor_mod_two_pow]; simp
  have hhigh : (x ^^^ 2 ^ 31) / 2 ^ 31 = x / 2 ^ 31 ^^^ 1 := by rw [Nat.xor_div_two_pow, Nat.div_self (by positivity)]
  obtain hs | hs : x / 2 ^ 31 = 0 ∨ x / 2 ^ 31 = 1 := by omega
  · rw [hs, Nat.zero_xor] at hhigh
    rw [hs, if_neg (by decide)]
    omega
  · rw [hs, Nat.xor_self] at hhigh
    rw [hs, if_pos (by decide)]
    omega

theorem firstNaN_cons_nan {x : Nat} (h : isNaN32 x) (xs : List Nat) : firstNaN (x :: xs) = some (quiet x) := by
  simp [firstNaN, isNaN_f32, h]

theorem firstNaN_cons {x : Nat} (h : isNaN32 x = false) (xs : List Nat) : firstNaN (x :: xs) = firstNaN xs := by
  simp [firstNaN, isNaN_f32, h]

theorem firstNaN_nil : firstNaN [] = none := rfl

/-- The flags of an operation on the operands `l` are FP_NV exactly when one of them is a signalling NaN (R58, R59). -/
def SignalsNaN (l : List Nat) (fl : Nat) : Prop := fl = 1 ∧ (∃ x ∈ l, isSignalling x) ∨ fl = 0 ∧ ∀ x ∈ l, ¬isSignalling x

theorem snanFlag_signals (xs : List Nat) : SignalsNaN xs (snanFlag xs) := by
  by_cases h : ∃ x ∈ xs, isSignalling x
  · have hany : xs.any Fmt.f32.isSNaN = true := List.any_eq_true.2 (by simpa only [isSNaN_f32] using h)
    exact .inl ⟨if_pos hany, h⟩
  · have hany : ¬xs.any Fmt.f32.isSNaN = true := fun ha => h (by simpa only [isSNaN_f32] using List.any_eq_true.1 ha)
    exact .inr ⟨if_neg hany, fun x hx hs => h ⟨x, hx, hs⟩⟩

/-! ## Signs -/

theorem neg_eq_iff (a b : Nat) : Fmt.f32.neg a = Fmt.f32.neg b ↔ a / 2 ^ 31 % 2 = b / 2 ^ 31 % 2 := by
  rw [Fmt.neg_f32, Fmt.neg_f32, decide_eq_decide]
  omega

/-- The sign of a product or quotient (R213, R217). -/
theorem signBit_ne (a b : Nat) : Fmt.f32.signBit (Fmt.f32.neg a != Fmt.f32.neg b) = (a / 2 ^ 31 % 2 + b / 2 ^ 31 % 2) % 2 * 2 ^ 31 := by
  rw [Fmt.neg_f32, Fmt.neg_f32]
  obtain ha | ha := Nat.mod_two_eq_zero_or_one (a / 2 ^ 31) <;> obtain hb | hb := Nat.mod_two_eq_zero_or_one (b / 2 ^ 31) <;>
    rw [ha, hb] <;> rfl

theorem inf_ne (a b : Nat) : Fmt.f32.inf (Fmt.f32.neg a != Fmt.f32.neg b) = (a / 2 ^ 31 % 2 + b / 2 ^ 31 % 2) % 2 * 2 ^ 31 + 0x7F800000 := by
  rw [← signBit_ne]
  rfl

end Sys2Proof.Machine
end

section
/-! SUPPORT. Sums, products, fused sums and quotients: the exceptional operands, and the exact value rounded once (R57 to R59, R213, R217). -/

namespace Sys2Proof.Machine
open Sys2Proof.Claims

section
variable {mode a b c : Nat}

/-! ## What each operation does to numbers -/

theorem fAdd_numbers (ha : isNaN32 a = false) (hb : isNaN32 b = false) : fAdd mode a b =
    if Fmt.f32.isInf a then (if Fmt.f32.isInf b && Fmt.f32.neg a != Fmt.f32.neg b then (0x7FC00003, 1) else (a, 0))
    else if Fmt.f32.isInf b then (b, 0)
    else if Fmt.f32.isZero a && Fmt.f32.isZero b && Fmt.f32.neg a == Fmt.f32.neg b then (a, 0)
    else Fmt.f32.roundInt mode (units a + units b) (-149) := by
  unfold fAdd
  rw [firstNaN_cons ha, firstNaN_cons hb, firstNaN_nil, f32Int_units, f32Int_units]
  rfl

theorem fMul_numbers (ha : isNaN32 a = false) (hb : isNaN32 b = false) : fMul mode a b =
    if Fmt.f32.isInf a && Fmt.f32.isZero b || Fmt.f32.isZero a && Fmt.f32.isInf b then (0x7FC00004, 1)
    else if Fmt.f32.isInf a || Fmt.f32.isInf b then (Fmt.f32.inf (Fmt.f32.neg a != Fmt.f32.neg b), 0)
    else if Fmt.f32.isZero a || Fmt.f32.isZero b then (Fmt.f32.signBit (Fmt.f32.neg a != Fmt.f32.neg b), 0)
    else Fmt.f32.round mode (Fmt.f32.neg a != Fmt.f32.neg b) ((Fmt.f32.dyadic a).1 * (Fmt.f32.dyadic b).1)
      ((Fmt.f32.dyadic a).2 + (Fmt.f32.dyadic b).2) false := by
  unfold fMul
  rw [firstNaN_cons ha, firstNaN_cons hb, firstNaN_nil]
  rfl

theorem fDiv_numbers (ha : isNaN32 a = false) (hb : isNaN32 b = false) : fDiv mode a b =
    if Fmt.f32.isZero a && Fmt.f32.isZero b || Fmt.f32.isInf a && Fmt.f32.isInf b then (0x7FC00005, 1)
    else if Fmt.f32.isInf a then (Fmt.f32.inf (Fmt.f32.neg a != Fmt.f32.neg b), 0)
    else if Fmt.f32.isInf b || Fmt.f32.isZero a then (Fmt.f32.signBit (Fmt.f32.neg a != Fmt.f32.neg b), 0)
    else if Fmt.f32.isZero b then (Fmt.f32.inf (Fmt.f32.neg a != Fmt.f32.neg b), 2)
    else Fmt.f32.round mode (Fmt.f32.neg a != Fmt.f32.neg b) ((Fmt.f32.dyadic a).1 * 2 ^ 64 / (Fmt.f32.dyadic b).1)
      ((Fmt.f32.dyadic a).2 - (Fmt.f32.dyadic b).2 - 64) ((Fmt.f32.dyadic a).1 * 2 ^ 64 % (Fmt.f32.dyadic b).1 != 0) := by
  unfold fDiv
  rw [firstNaN_cons ha, firstNaN_cons hb, firstNaN_nil]
  rfl

/-! ## NaN operands come first (R59) -/

theorem fAdd_nan {x : Nat} (h : firstNaN [a, b] = some x) : fAdd mode a b = (x, snanFlag [a, b]) := by
  unfold fAdd
  rw [h]

theorem fMul_nan {x : Nat} (h : firstNaN [a, b] = some x) : fMul mode a b = (x, snanFlag [a, b]) := by
  unfold fMul
  rw [h]

theorem fDiv_nan {x : Nat} (h : firstNaN [a, b] = some x) : fDiv mode a b = (x, snanFlag [a, b]) := by
  unfold fDiv
  rw [h]

theorem fFma_nan {np nc : Bool} {x : Nat} (h : firstNaN [a, b, c] = some x) : fFma mode np nc a b c = (x, snanFlag [a, b, c]) := by
  unfold fFma
  rw [h]

theorem firstNaN_first (ha : isNaN32 a) (xs : List Nat) : firstNaN (a :: xs) = some (if isSignalling a then a + 2 ^ 22 else a) := by
  rw [firstNaN_cons_nan ha, quiet_eq ha]

/-- An operation that answers its first NaN operand. -/
theorem nanFirst_pair {f : Nat → Nat → Nat × Nat} (hf : ∀ x, firstNaN [a, b] = some x → f a b = (x, snanFlag [a, b])) :
    (isNaN32 a → (f a b).1 = (if isSignalling a then a + 2 ^ 22 else a) ∧ SignalsNaN [a, b] (f a b).2) ∧
    (¬isNaN32 a → isNaN32 b → (f a b).1 = (if isSignalling b then b + 2 ^ 22 else b) ∧ SignalsNaN [a, b] (f a b).2) := by
  refine ⟨fun hna => ?_, fun hna hnb => ?_⟩
  · rw [hf _ (firstNaN_first hna [b])]
    exact ⟨rfl, snanFlag_signals _⟩
  · rw [hf _ ((firstNaN_cons (by simpa using hna) [b]).trans (firstNaN_first hnb []))]
    exact ⟨rfl, snanFlag_signals _⟩

theorem nanFirst_triple {f : Nat → Nat → Nat → Nat × Nat} (hf : ∀ x, firstNaN [a, b, c] = some x → f a b c = (x, snanFlag [a, b, c])) :
    (isNaN32 a → (f a b c).1 = if isSignalling a then a + 2 ^ 22 else a) ∧
    (¬isNaN32 a → isNaN32 b → (f a b c).1 = if isSignalling b then b + 2 ^ 22 else b) ∧
    (¬isNaN32 a → ¬isNaN32 b → isNaN32 c → (f a b c).1 = if isSignalling c then c + 2 ^ 22 else c) ∧
    ((isNaN32 a ∨ isNaN32 b ∨ isNaN32 c) → SignalsNaN [a, b, c] (f a b c).2) := by
  have h1 (hna : isNaN32 a) := hf _ (firstNaN_first hna [b, c])
  have h2 (hna : ¬isNaN32 a) (hnb : isNaN32 b) := hf _ ((firstNaN_cons (by simpa using hna) _).trans (firstNaN_first hnb [c]))
  have h3 (hna : ¬isNaN32 a) (hnb : ¬isNaN32 b) (hnc : isNaN32 c) := hf _ ((firstNaN_cons (by simpa using hna) _).trans
    ((firstNaN_cons (by simpa using hnb) _).trans (firstNaN_first hnc [])))
  refine ⟨fun hna => by rw [h1 hna], fun hna hnb => by rw [h2 hna hnb], fun hna hnb hnc => by rw [h3 hna hnb hnc], fun h => ?_⟩
  have hflag : (f a b c).2 = snanFlag [a, b, c] := by
    by_cases hna : isNaN32 a
    · rw [h1 hna]
    · by_cases hnb : isNaN32 b
      · rw [h2 hna hnb]
      · rw [h3 hna hnb ((h.resolve_left hna).resolve_left hnb)]
  rw [hflag]
  exact snanFlag_signals _

/-! ## Differences (R59) -/

theorem fNeg_cases {x : Nat} (h : x < 2 ^ 32) : fNeg x = if x / 2 ^ 31 % 2 = 1 then x - 2 ^ 31 else x + 2 ^ 31 := xor_sign h

theorem fSub_number (hb : b < 2 ^ 32) (hn : ¬isNaN32 b) :
    fSub mode a b = fAdd mode a (if b / 2 ^ 31 % 2 = 1 then b - 2 ^ 31 else b + 2 ^ 31) := by
  rw [← fNeg_cases hb]
  exact congrArg (fAdd mode a) (if_neg hn)

theorem fSub_nan (hn : isNaN32 b) : fSub mode a b = fAdd mode a b := congrArg (fAdd mode a) (if_pos hn)

/-! ## Sums -/

theorem fAdd_inf_opposite (ha : IsInf a) (hb : IsInf b) (hn : Fmt.f32.neg a ≠ Fmt.f32.neg b) : fAdd mode a b = (0x7FC00003, 1) := by
  rw [fAdd_numbers ha.isNaN hb.isNaN, if_pos ha.isInf, if_pos (by simp [hb.isInf, hn])]

theorem fAdd_inf_same (ha : IsInf a) : fAdd mode a a = (a, 0) := by
  rw [fAdd_numbers ha.isNaN ha.isNaN, if_pos ha.isInf, if_neg (by simp)]

theorem fAdd_inf_finite (ha : IsInf a) (hb : isFinite b) : fAdd mode a b = (a, 0) := by
  rw [fAdd_numbers ha.isNaN (isNaN_of_isFinite hb), if_pos ha.isInf, if_neg (by simp [isInf_of_isFinite hb])]

theorem fAdd_finite_inf (ha : isFinite a) (hb : IsInf b) : fAdd mode a b = (b, 0) := by
  rw [fAdd_numbers (isNaN_of_isFinite ha) hb.isNaN, if_neg (by simp [isInf_of_isFinite ha]), if_pos hb.isInf]

theorem fAdd_finite (ha : isFinite a) (hb : isFinite b) : fAdd mode a b =
    if units a = 0 ∧ units b = 0 ∧ Fmt.f32.neg a = Fmt.f32.neg b then (a, 0) else Fmt.f32.roundInt mode (units a + units b) (-149) := by
  rw [fAdd_numbers (isNaN_of_isFinite ha) (isNaN_of_isFinite hb), isInf_of_isFinite ha, isInf_of_isFinite hb, isZero_f32, isZero_f32]
  simp [and_assoc]

theorem fAdd_zero (ha : isFinite a) (hb : isFinite b) (hs : units a + units b = 0) : fAdd mode a b =
    (if units a = 0 ∧ a / 2 ^ 31 % 2 = b / 2 ^ 31 % 2 then a else if mode = 2 then 2 ^ 31 else 0, 0) := by
  have hz : units a = 0 ∧ units b = 0 ∧ Fmt.f32.neg a = Fmt.f32.neg b ↔ units a = 0 ∧ a / 2 ^ 31 % 2 = b / 2 ^ 31 % 2 := by
    rw [neg_eq_iff]
    omega
  rw [fAdd_finite ha hb, hs]
  simp only [hz]
  split
  · rfl
  · unfold Fmt.roundInt Fmt.zero Fmt.signBit
    simp only [beq_iff_eq]
    rfl

theorem fAdd_rounded (hm : mode < 4) (ha : isFinite a) (hb : isFinite b) (hs : units a + units b ≠ 0) :
    Rounded mode (fAdd mode a b) (units a + units b) 1 := by
  rw [fAdd_finite ha hb, if_neg (by omega)]
  have h := roundInt_rounded hm hs 0 0 (e := -149) (by norm_num)
  rwa [pow_zero, pow_zero, mul_one] at h

/-! ## Products -/

/-- The product of two numbers m * 2^e, in the units of their product. -/
theorem mul_scales (x y : ℝ) (i j : Int) {n : Nat} {k : Int} (hk : (n : Int) = k) :
    x * y * 2 ^ (i + j + k) * 2 ^ n = x * 2 ^ (i + k) * (y * 2 ^ (j + k)) := by
  subst hk
  rw [← zpow_natCast (2 : ℝ) n, mul_assoc, ← zpow_add₀ (by norm_num), mul_mul_mul_comm, ← zpow_add₀ (by norm_num)]
  congr 2
  ring

theorem fMul_inf (ha : IsInf a) (hb : Fmt.f32.isZero b = false) (hn : isNaN32 b = false) :
    fMul mode a b = (Fmt.f32.inf (Fmt.f32.neg a != Fmt.f32.neg b), 0) := by
  rw [fMul_numbers ha.isNaN hn, if_neg (by simp [hb, ha.isZero]), if_pos (by simp [ha.isInf])]

theorem fMul_comm (ha : isNaN32 a = false) (hb : isNaN32 b = false) : fMul mode a b = fMul mode b a := by
  rw [fMul_numbers ha hb, fMul_numbers hb ha, bne_comm, Nat.mul_comm, Int.add_comm,
    Bool.or_comm (Fmt.f32.isInf a), Bool.or_comm (Fmt.f32.isZero a), Bool.or_comm (Fmt.f32.isInf a && _), Bool.and_comm,
    Bool.and_comm (Fmt.f32.isInf a)]

theorem fMul_inf_zero (ha : IsInf a) (hb : isFinite b) (hz : units b = 0) : fMul mode a b = (0x7FC00004, 1) := by
  rw [fMul_numbers ha.isNaN (isNaN_of_isFinite hb), if_pos (by simp [ha.isInf, isZero_of_units_eq hz])]

theorem fMul_zero (ha : isFinite a) (hb : isFinite b) (hz : units a * units b = 0) :
    fMul mode a b = (Fmt.f32.signBit (Fmt.f32.neg a != Fmt.f32.neg b), 0) := by
  rw [fMul_numbers (isNaN_of_isFinite ha) (isNaN_of_isFinite hb), isInf_of_isFinite ha, isInf_of_isFinite hb, isZero_f32, isZero_f32]
  simp only [Bool.false_and, Bool.and_false, Bool.or_false, Bool.false_eq_true, if_false]
  exact if_pos (by simpa using hz)

theorem fMul_rounded (hm : mode < 4) (ha : isFinite a) (hb : isFinite b) (hp : units a * units b ≠ 0) :
    Rounded mode (fMul mode a b) (units a * units b) (2 ^ 149) := by
  obtain ⟨ha0, hb0⟩ := mul_ne_zero_iff.1 hp
  rw [fMul_numbers (isNaN_of_isFinite ha) (isNaN_of_isFinite hb), isInf_of_isFinite ha, isInf_of_isFinite hb,
    isZero_of_units ha0, isZero_of_units hb0, neg_units ha0, neg_units hb0, ← decide_mul_neg ha0 hb0,
    if_neg (by decide), if_neg (by decide), if_neg (by decide)]
  refine round_exact_rounded hm hp (by positivity) ?_
  rw [Int.natAbs_mul, natAbs_units, natAbs_units, Nat.cast_mul, Nat.cast_mul, Nat.cast_pow, Nat.cast_ofNat, ← dyadic_mag a, ← dyadic_mag b]
  exact mul_scales _ _ _ _ (by norm_num)

/-! ## Fused sums -/

theorem fFma_numbers {np nc : Bool} (ha : isNaN32 a = false) (hb : isNaN32 b = false) (hc : isNaN32 c = false) : fFma mode np nc a b c =
    let sp := (Fmt.f32.neg a != Fmt.f32.neg b) != np
    let sc := Fmt.f32.neg c != nc
    let p : Int := ((Fmt.f32.dyadic a).1 * (Fmt.f32.dyadic b).1 * 2 ^ ((Fmt.f32.dyadic a).2 + (Fmt.f32.dyadic b).2 + 298).toNat : Nat)
    let q : Int := ((Fmt.f32.dyadic c).1 * 2 ^ ((Fmt.f32.dyadic c).2 + 298).toNat : Nat)
    if Fmt.f32.isInf a && Fmt.f32.isZero b || Fmt.f32.isZero a && Fmt.f32.isInf b then (0x7FC00004, 1)
    else if Fmt.f32.isInf a || Fmt.f32.isInf b then (if Fmt.f32.isInf c && sc != sp then (0x7FC00003, 1) else (Fmt.f32.inf sp, 0))
    else if Fmt.f32.isInf c then (Fmt.f32.inf sc, 0)
    else if (Fmt.f32.isZero a || Fmt.f32.isZero b) && Fmt.f32.isZero c && sp == sc then (Fmt.f32.signBit sp, 0)
    else Fmt.f32.roundInt mode ((if sp then -p else p) + (if sc then -q else q)) (-298) := by
  unfold fFma
  rw [firstNaN_cons ha, firstNaN_cons hb, firstNaN_cons hc, firstNaN_nil]
  rfl

theorem fFma_inf_zero {np nc : Bool} (hc : isNaN32 c = false)
    (h : (IsInf a ∧ isFinite b ∧ units b = 0) ∨ (IsInf b ∧ isFinite a ∧ units a = 0)) : fFma mode np nc a b c = (0x7FC00004, 1) := by
  obtain ⟨hi, hf, hz⟩ | ⟨hi, hf, hz⟩ := h
  · rw [fFma_numbers hi.isNaN (isNaN_of_isFinite hf) hc]
    exact if_pos (by simp [hi.isInf, isZero_of_units_eq hz])
  · rw [fFma_numbers (isNaN_of_isFinite hf) hi.isNaN hc]
    exact if_pos (by simp [hi.isInf, isZero_of_units_eq hz])

/-- The product of two magnitudes in units of 2^-298. -/
theorem dyadic_product (a b : Nat) :
    (Fmt.f32.dyadic a).1 * (Fmt.f32.dyadic b).1 * 2 ^ ((Fmt.f32.dyadic a).2 + (Fmt.f32.dyadic b).2 + 298).toNat = mag a * mag b := by
  obtain ⟨-, ha, hma⟩ := dyadic_f32 a
  obtain ⟨-, hb, hmb⟩ := dyadic_f32 b
  rw [← hma, ← hmb, mul_mul_mul_comm, ← pow_add]
  congr 2
  omega

theorem dyadic_addend (c : Nat) : (Fmt.f32.dyadic c).1 * 2 ^ ((Fmt.f32.dyadic c).2 + 298).toNat = mag c * 2 ^ 149 := by
  obtain ⟨-, hc, hmc⟩ := dyadic_f32 c
  rw [← hmc, mul_assoc, ← pow_add]
  congr 2
  omega

/-- The exact value of a fused sum of finite operands, in units of 2^-298 (R213). -/
def fused (np nc : Bool) (a b c : Nat) : Int :=
  (if np then -(units a * units b) else units a * units b) + (if nc then -(units c * 2 ^ 149) else units c * 2 ^ 149)

theorem fFma_finite {np nc : Bool} (ha : isFinite a) (hb : isFinite b) (hc : isFinite c) (hp : fused np nc a b c ≠ 0) :
    fFma mode np nc a b c = Fmt.f32.roundInt mode (fused np nc a b c) (-298) := by
  have hprod : (if (Fmt.f32.neg a != Fmt.f32.neg b) != np then -((mag a * mag b : Nat) : Int) else (mag a * mag b : Nat)) =
      if np then -(units a * units b) else units a * units b := by
    rw [units_mul]
    cases (Fmt.f32.neg a != Fmt.f32.neg b) <;> cases np <;> simp
  have hadd : (if Fmt.f32.neg c != nc then -((mag c * 2 ^ 149 : Nat) : Int) else (mag c * 2 ^ 149 : Nat)) =
      if nc then -(units c * 2 ^ 149) else units c * 2 ^ 149 := by
    rw [units_eq_neg, Nat.cast_mul, Nat.cast_pow, Nat.cast_ofNat]
    generalize (2 : Int) ^ 149 = g
    cases Fmt.f32.neg c <;> cases nc <;> simp
  rw [fFma_numbers (isNaN_of_isFinite ha) (isNaN_of_isFinite hb) (isNaN_of_isFinite hc), isInf_of_isFinite ha, isInf_of_isFinite hb,
    isInf_of_isFinite hc]
  dsimp only
  rw [dyadic_product, dyadic_addend, hprod, hadd, if_neg (by simp), if_neg (by simp), if_neg (by simp), if_neg ?_]
  · rfl
  · intro hz
    refine hp ?_
    simp only [isZero_f32, Bool.and_eq_true, Bool.or_eq_true, decide_eq_true_eq] at hz
    obtain ⟨⟨hab, hc0⟩, -⟩ := hz
    have hab0 : units a * units b = 0 := mul_eq_zero.2 hab
    simp [fused, hab0, hc0]

theorem fFma_rounded (hm : mode < 4) {np nc : Bool} (ha : isFinite a) (hb : isFinite b) (hc : isFinite c) (hp : fused np nc a b c ≠ 0) :
    Rounded mode (fFma mode np nc a b c) (fused np nc a b c) (2 ^ 149) := by
  rw [fFma_finite ha hb hc hp]
  have h := roundInt_rounded hm hp 0 149 (e := -298) (by norm_num)
  rwa [pow_zero, mul_one] at h

/-! ## Quotients -/

/-- The quotient of two numbers m * 2^e, `k` more bits of the dividend taken, in units of 2^-n. -/
theorem div_scales (x y : ℝ) (i j : Int) {k n : Nat} {k' n' : Int} (hk : (k : Int) = k') (hn : (n : Int) = n') :
    x * 2 ^ k / y * 2 ^ (i - j - k' + n') = x * 2 ^ (i + n') * 2 ^ n / (y * 2 ^ (j + n')) := by
  subst hk hn
  have h2 : (2 : ℝ) ≠ 0 := by norm_num
  rw [zpow_add₀ h2, zpow_sub₀ h2, zpow_sub₀ h2, zpow_add₀ h2, zpow_add₀ h2, zpow_natCast, zpow_natCast]
  field_simp

theorem fDiv_invalid (h : (isFinite a ∧ isFinite b ∧ units a = 0 ∧ units b = 0) ∨ (IsInf a ∧ IsInf b)) :
    fDiv mode a b = (0x7FC00005, 1) := by
  obtain ⟨ha, hb, ha0, hb0⟩ | ⟨ha, hb⟩ := h
  · rw [fDiv_numbers (isNaN_of_isFinite ha) (isNaN_of_isFinite hb), if_pos (by simp [isZero_of_units_eq ha0, isZero_of_units_eq hb0])]
  · rw [fDiv_numbers ha.isNaN hb.isNaN, if_pos (by simp [ha.isInf, hb.isInf])]

theorem fDiv_by_zero (ha : isFinite a) (ha0 : units a ≠ 0) (hb : isFinite b) (hb0 : units b = 0) :
    fDiv mode a b = (Fmt.f32.inf (Fmt.f32.neg a != Fmt.f32.neg b), 2) := by
  rw [fDiv_numbers (isNaN_of_isFinite ha) (isNaN_of_isFinite hb), isInf_of_isFinite ha, isInf_of_isFinite hb, isZero_of_units ha0,
    isZero_of_units_eq hb0]
  rfl

theorem fDiv_by_inf (ha : isFinite a) (hb : IsInf b) : fDiv mode a b = (Fmt.f32.signBit (Fmt.f32.neg a != Fmt.f32.neg b), 0) := by
  rw [fDiv_numbers (isNaN_of_isFinite ha) hb.isNaN, isInf_of_isFinite ha, hb.isInf, hb.isZero]
  simp

theorem fDiv_of_inf (ha : IsInf a) (hb : isFinite b) : fDiv mode a b = (Fmt.f32.inf (Fmt.f32.neg a != Fmt.f32.neg b), 0) := by
  rw [fDiv_numbers ha.isNaN (isNaN_of_isFinite hb), ha.isInf, ha.isZero, isInf_of_isFinite hb]
  simp

/-- A quotient of naturals with its remainder: the whole part, and whether there is more. -/
theorem natDiv_parts {n d : Nat} (hd : 0 < d) : ((n / d : Nat) : ℝ) ≤ (n : ℝ) / d ∧ (n : ℝ) / d < ((n / d : Nat) : ℝ) + 1 ∧
    ((n % d != 0) = true ↔ ((n / d : Nat) : ℝ) ≠ (n : ℝ) / d) := by
  have hd' : (0 : ℝ) < d := by exact_mod_cast hd
  refine ⟨Nat.cast_div_le, ?_, ?_⟩
  · rw [div_lt_iff₀ hd']
    exact_mod_cast Nat.lt_mul_of_div_lt (Nat.lt_succ_self _) hd
  · rw [bne_iff_ne, not_iff_not, eq_div_iff hd'.ne', ← Nat.cast_mul, Nat.cast_inj]
    have := Nat.div_add_mod' n d
    omega

/-- The dividend with the quotient's sign, scaled. -/
theorem quotient_sign {u w D : Int} (hD : 0 < D) (hu : u ≠ 0) :
    (if w < 0 then -(u * D) else u * D) ≠ 0 ∧ decide ((if w < 0 then -(u * D) else u * D) < 0) = (decide (u < 0) != decide (w < 0)) := by
  rcases lt_or_gt_of_ne hu with h | h
  · have huD := mul_neg_of_neg_of_pos h hD
    by_cases hw : w < 0 <;> simp [h, hw, hu, hD.ne', huD, huD.le]
  · have huD := mul_pos h hD
    by_cases hw : w < 0 <;> simp [not_lt_of_gt h, hw, hu, hD.ne', huD, huD.le]

theorem fDiv_rounded (hm : mode < 4) (ha : isFinite a) (hb : isFinite b) (ha0 : units a ≠ 0) (hb0 : units b ≠ 0) :
    Rounded mode (fDiv mode a b) (if units b < 0 then -(units a * 2 ^ 149) else units a * 2 ^ 149) (units b).natAbs := by
  obtain ⟨hp, hneg⟩ := quotient_sign (w := units b) (by positivity : (0 : Int) < 2 ^ 149) ha0
  rw [← neg_units ha0, ← neg_units hb0] at hneg
  have habs : (if units b < 0 then -(units a * 2 ^ 149) else units a * 2 ^ 149).natAbs = mag a * 2 ^ 149 := by
    rw [← natAbs_units a]
    split
    · rw [Int.natAbs_neg, Int.natAbs_mul, Int.natAbs_pow]; rfl
    · rw [Int.natAbs_mul, Int.natAbs_pow]; rfl
  have hma := dyadic_pos ha0
  have hmb := dyadic_pos hb0
  have hmb24 := (dyadic_f32 b).1
  have hd : 0 < (units b).natAbs := Int.natAbs_pos.2 hb0
  rw [fDiv_numbers (isNaN_of_isFinite ha) (isNaN_of_isFinite hb), isInf_of_isFinite ha, isInf_of_isFinite hb, isZero_of_units ha0,
    isZero_of_units hb0, ← hneg, if_neg (by decide), if_neg (by decide), if_neg (by decide), if_neg (by decide)]
  have hbig : 2 ^ 24 ≤ (Fmt.f32.dyadic a).1 * 2 ^ 64 / (Fmt.f32.dyadic b).1 := by
    rw [Nat.le_div_iff_mul_le hmb]
    nlinarith
  obtain ⟨h0, h1, hs⟩ := natDiv_parts (n := (Fmt.f32.dyadic a).1 * 2 ^ 64) hmb
  refine round_rounded hm hp hd (by omega) h0 h1 hs (fun _ => hbig) ?_
  rw [habs, natAbs_units, Nat.cast_mul, Nat.cast_mul, Nat.cast_pow, Nat.cast_pow, Nat.cast_ofNat, ← dyadic_mag a, ← dyadic_mag b]
  exact div_scales _ _ _ _ (by norm_num) (by norm_num)

/-! ## Integers -/

theorem fOfInt_rounded (hm : mode < 4) {v : Int} (hv : v ≠ 0) : Rounded mode (fOfInt mode v) (v * 2 ^ 149) 1 := by
  unfold fOfInt
  rw [if_neg hv]
  have h := roundInt_rounded hm hv 149 0 (e := 0) (by norm_num)
  rwa [pow_zero] at h

end
end Sys2Proof.Machine
end

section
/-! SUPPORT. The square root of a number rounded once: the root by bits, and why no root lies half way between two floats (R57, R217). -/

namespace Sys2Proof.Machine
open Sys2Proof.Claims

/-! ## The integer square root -/

/-- The root by bits, of which `r` is known and `k + 1` bits are open. -/
theorem isqrt_spec {n : Nat} (k r : Nat) (h0 : r * r ≤ n) (h1 : n < (r + 2 ^ (k + 1)) * (r + 2 ^ (k + 1))) :
    isqrt n k r * isqrt n k r ≤ n ∧ n < (isqrt n k r + 1) * (isqrt n k r + 1) := by
  induction k generalizing r with
  | zero =>
    unfold isqrt
    split
    · next hle => exact ⟨hle, h1⟩
    · next hgt => exact ⟨h0, Nat.lt_of_not_le hgt⟩
  | succ j ih =>
    unfold isqrt
    refine ih _ ?_ ?_
    · split
      · next hle => exact hle
      · exact h0
    · split
      · rw [add_assoc, ← two_mul, ← pow_succ']
        exact h1
      · next hgt => exact Nat.lt_of_not_le hgt

/-! ## The root of a real number rounded -/

/-- No odd number of half spacings is the root of a number of fewer bits. -/
theorem odd_square_ne {o m i j : Nat} (ho : Odd o) (hm : 0 < m) (hlt : m < o * o) : o * o * 2 ^ i ≠ m * 2 ^ j := by
  intro he
  have hco : Nat.Coprime (o * o) (2 ^ j) := Nat.Coprime.pow_right j (Nat.coprime_two_right.2 (ho.mul ho))
  have hdvd : o * o ∣ m := hco.dvd_of_dvd_mul_right ⟨2 ^ i, he.symm⟩
  exact absurd (Nat.le_of_dvd hm hdvd) (Nat.not_le_of_lt hlt)

/-- The rules of the four modes for the root of `P` and its rounded value, `q` multiples of `G`, none of which is half way (R57). -/
theorem roundsTo_sqrt {mode P q G : Nat} (hG : 0 < G) (hq : 0 < q) (htie : ∀ o, Odd o → q ≤ o → o * o * (G * G) ≠ 4 * P)
    (h : RoundsTo mode false (√P / G) q) :
    (mode = 0 → ((2 * (q * G) - G) * (2 * (q * G) - G) < (4 * P : Int)) ∧ (4 * P : Int) < (2 * (q * G) + G) * (2 * (q * G) + G)) ∧
    (mode = 1 ∨ mode = 2 → (q * G) * (q * G) ≤ (P : Int) ∧ (P : Int) < (q * G + G) * (q * G + G)) ∧
    (mode = 3 → (q * G - G) * (q * G - G) < (P : Int) ∧ (P : Int) ≤ (q * G) * (q * G)) := by
  have hG' : (0 : ℝ) < G := by exact_mod_cast hG
  have hq' : (1 : ℝ) ≤ q := by exact_mod_cast hq
  have hsq : √(P : ℝ) * √P = P := Real.mul_self_sqrt (Nat.cast_nonneg P)
  have hV : 0 ≤ √(P : ℝ) := Real.sqrt_nonneg _
  have hqG : (G : ℝ) ≤ q * G := le_mul_of_one_le_left hG'.le hq'
  obtain ⟨w, hw⟩ : ∃ w, √(P : ℝ) / G = w := ⟨_, rfl⟩
  have hVw : √(P : ℝ) = w * G := (div_eq_iff hG'.ne').1 hw
  rw [hw] at h
  refine ⟨?_, ?_, ?_⟩
  · rintro rfl
    obtain ⟨hnear, -⟩ := h
    have hfour : 4 * (P : ℝ) = 2 * √P * (2 * √P) := by rw [mul_mul_mul_comm, hsq]; norm_num
    have hne (o : Nat) (ho : Odd o) (hqo : q ≤ o) : (o : ℝ) * G ≠ 2 * √P := fun he => htie o ho hqo (by
      have hsquare : (o : ℝ) * G * (o * G) = 4 * P := by rw [he, hfour]
      have hcast : ((o * o * (G * G) : Nat) : ℝ) = ((4 * P : Nat) : ℝ) := by push_cast; linarith
      exact_mod_cast hcast)
    have hodd : Odd (2 * q - 1) := ⟨q - 1, by omega⟩
    have hpred : ((2 * q - 1 : Nat) : ℝ) = 2 * q - 1 := by rw [Nat.cast_sub (by omega)]; push_cast; ring
    have hlow := hne (2 * q - 1) hodd (by omega)
    have hhigh := hne (2 * q + 1) ⟨q, rfl⟩ (by omega)
    rw [hpred] at hlow
    push_cast at hhigh
    obtain ⟨h1, h2⟩ := abs_le.1 hnear
    have hl : (2 : ℝ) * (q * G) - G < 2 * √P := lt_of_le_of_ne (by rw [hVw]; nlinarith) (by convert hlow using 1; ring)
    have hh : 2 * √(P : ℝ) < 2 * (q * G) + G := lt_of_le_of_ne (by rw [hVw]; nlinarith) (by rw [ne_comm]; convert hhigh using 1; ring)
    have hl' := mul_self_lt_mul_self (by linarith) hl
    have hh' := mul_self_lt_mul_self (by linarith) hh
    rw [← hfour] at hl' hh'
    exact ⟨by exact_mod_cast hl', by exact_mod_cast hh'⟩
  · intro hmode
    obtain ⟨h1, h2⟩ : (q : ℝ) ≤ w ∧ w < q + 1 := by rcases hmode with rfl | rfl <;> simpa [RoundsTo] using h
    have hl := mul_self_le_mul_self (by positivity) (show (q : ℝ) * G ≤ √P by rw [hVw]; nlinarith)
    have hh := mul_self_lt_mul_self hV (show √(P : ℝ) < q * G + G by rw [hVw]; nlinarith)
    rw [hsq] at hl hh
    exact ⟨by exact_mod_cast hl, by exact_mod_cast hh⟩
  · rintro rfl
    obtain ⟨h1, h2⟩ : w ≤ q ∧ (q : ℝ) < w + 1 := by simpa [RoundsTo] using h
    have hl := mul_self_lt_mul_self (by linarith) (show (q : ℝ) * G - G < √P by rw [hVw]; nlinarith)
    have hh := mul_self_le_mul_self hV (show √(P : ℝ) ≤ q * G by rw [hVw]; nlinarith)
    rw [hsq] at hl hh
    exact ⟨by exact_mod_cast hl, by exact_mod_cast hh⟩

/-! ## The square root of an F32 -/

theorem fSqrt_zero {mode a : Nat} (hz : units a = 0) (ha : isFinite a) : fSqrt mode a = (a, 0) := by
  unfold fSqrt
  dsimp only
  rw [isNaN_f32, isNaN_of_isFinite ha, isZero_of_units_eq hz, if_neg (by decide), if_pos rfl]

theorem fSqrt_negative {mode a : Nat} (ha : isFinite a) (hn : units a < 0) : fSqrt mode a = (0x7FC00005, 1) := by
  unfold fSqrt
  dsimp only
  rw [isNaN_f32, isNaN_of_isFinite ha, isZero_of_units hn.ne, neg_units hn.ne, if_neg (by decide), if_neg (by decide),
    if_pos (decide_eq_true hn)]
  rfl

theorem fSqrt_minus_inf (mode : Nat) : fSqrt mode 0xFF800000 = (0x7FC00005, 1) := rfl

theorem fSqrt_plus_inf (mode : Nat) : fSqrt mode 0x7F800000 = (0x7F800000, 0) := rfl

/-- The form m * 4^h of a number, in units of 2^-298. -/
theorem evenDyadic_mag (a : Nat) : (evenDyadic a).1 < 2 ^ 25 ∧ (Fmt.f32.dyadic a).1 ≤ (evenDyadic a).1 ∧
    ((evenDyadic a).1 : ℝ) * 2 ^ (2 * ((evenDyadic a).2 + 149)) = mag a * 2 ^ 149 := by
  obtain ⟨hm, he, -⟩ := dyadic_f32 a
  have hmag := dyadic_mag a
  have h2 : (2 : ℝ) ≠ 0 := by norm_num
  have hscale : (mag a : ℝ) * 2 ^ 149 = (Fmt.f32.dyadic a).1 * 2 ^ ((Fmt.f32.dyadic a).2 + 298) := by
    rw [← hmag, mul_assoc, ← zpow_natCast (2 : ℝ) 149, ← zpow_add₀ h2]
    congr 2
    push_cast
    ring
  rw [hscale]
  by_cases hpar : (Fmt.f32.dyadic a).2 % 2 = 0
  · have hd : evenDyadic a = ((Fmt.f32.dyadic a).1, (Fmt.f32.dyadic a).2 / 2) := if_pos hpar
    rw [hd]
    refine ⟨by omega, le_rfl, ?_⟩
    congr 2
    omega
  · have hd : evenDyadic a = (2 * (Fmt.f32.dyadic a).1, ((Fmt.f32.dyadic a).2 - 1) / 2) := if_neg hpar
    rw [hd]
    refine ⟨by dsimp only; omega, by dsimp only; omega, ?_⟩
    rw [show (Fmt.f32.dyadic a).2 + 298 = 1 + 2 * (((Fmt.f32.dyadic a).2 - 1) / 2 + 149) by omega, zpow_add₀ h2, zpow_one]
    push_cast
    ring

/-- The magnitude of a finite number has 24 bits and trailing zeros. -/
theorem mag_form (a : Nat) : ∃ m j, m < 2 ^ 24 ∧ mag a = m * 2 ^ j :=
  ⟨_, _, (dyadic_f32 a).1, (dyadic_f32 a).2.2.symm⟩

theorem mag_lt {a : Nat} (ha : isFinite a) : mag a < 2 ^ 24 * 2 ^ 253 := by
  obtain ⟨-, hexp⟩ := ha
  have hman : a % 2 ^ 23 < 2 ^ 23 := Nat.mod_lt a (by norm_num)
  unfold mag
  split
  · exact lt_of_lt_of_le hman (by norm_num)
  · calc (2 ^ 23 + a % 2 ^ 23) * 2 ^ (a / 2 ^ 23 % 2 ^ 8 - 1) < 2 ^ 24 * 2 ^ (a / 2 ^ 23 % 2 ^ 8 - 1) :=
          Nat.mul_lt_mul_of_pos_right (by omega) (by positivity)
      _ ≤ 2 ^ 24 * 2 ^ 253 := Nat.mul_le_mul_left _ (Nat.pow_le_pow_right (by norm_num) (by omega))

/-- The exponent of the root of `P` is half of `P`'s. -/
theorem log2_floor_sqrt {P : Nat} (hP : P ≠ 0) : Nat.log2 ⌊√(P : ℝ)⌋₊ = Nat.log2 P / 2 := by
  have hlo : 2 ^ (Nat.log2 P / 2) * 2 ^ (Nat.log2 P / 2) ≤ P := by
    rw [← pow_add]
    exact le_trans (Nat.pow_le_pow_right (by norm_num) (by omega)) (Nat.log2_self_le hP)
  have hhi : P < 2 ^ (Nat.log2 P / 2 + 1) * 2 ^ (Nat.log2 P / 2 + 1) := by
    rw [← pow_add]
    exact lt_of_lt_of_le Nat.lt_log2_self (Nat.pow_le_pow_right (by norm_num) (by omega))
  have hlo' : (2 : ℝ) ^ (Nat.log2 P / 2) ≤ √P := Real.le_sqrt_of_sq_le (by rw [pow_two]; exact_mod_cast hlo)
  have hhi' : √(P : ℝ) < 2 ^ (Nat.log2 P / 2 + 1) := (Real.sqrt_lt' (by positivity)).2 (by rw [pow_two]; exact_mod_cast hhi)
  have h := log2_floor_eq (V := √(P : ℝ)) (K := (Nat.log2 P / 2 : Nat)) (by exact_mod_cast hlo') (by exact_mod_cast hhi')
  rwa [Int.toNat_natCast] at h

theorem natCast_sqrt_eq_iff {n R : Nat} : √(n : ℝ) = R ↔ R * R = n := by
  rw [Real.sqrt_eq_iff_mul_self_eq (by positivity) (by positivity), eq_comm]
  norm_cast

/-- The root of a number m * 4^h, `2 * k` more bits of it taken, in units of 2^-n. -/
theorem sqrt_scales (m : ℝ) (h : Int) {i : Nat} {k n : Int} (hi : (i : Int) = 2 * k) :
    √(m * 2 ^ i) * 2 ^ (h - k + n) = √(m * 2 ^ (2 * (h + n))) := by
  have hpow (j : Int) : √((2 : ℝ) ^ (2 * j)) = 2 ^ j := by
    rw [mul_comm, zpow_mul, zpow_ofNat]
    exact Real.sqrt_sq (by positivity)
  rw [← zpow_natCast (2 : ℝ) i, hi, Real.sqrt_mul' _ (by positivity), Real.sqrt_mul' _ (by positivity), hpow, hpow, mul_assoc,
    ← zpow_add₀ (by norm_num)]
  congr 2
  ring

/-- The model's root of a positive number is the rounding of the root (R217). -/
theorem fSqrt_rounds {mode a : Nat} (hm : mode < 4) (ha : isFinite a) (hpos : 0 < units a) :
    ∃ q, Rounds32 mode false (√((mag a * 2 ^ 149 : Nat) : ℝ)) (fSqrt mode a) q := by
  obtain ⟨hm25, hle, hscale⟩ := evenDyadic_mag a
  have hm0 := lt_of_lt_of_le (dyadic_pos hpos.ne') hle
  have hround : fSqrt mode a = Fmt.f32.round mode false (isqrt ((evenDyadic a).1 * 2 ^ 64) 48 0) ((evenDyadic a).2 - 32)
      (isqrt ((evenDyadic a).1 * 2 ^ 64) 48 0 * isqrt ((evenDyadic a).1 * 2 ^ 64) 48 0 != (evenDyadic a).1 * 2 ^ 64) := by
    unfold fSqrt
    dsimp only
    rw [isNaN_f32, isNaN_of_isFinite ha, isZero_of_units hpos.ne', neg_units hpos.ne', isInf_of_isFinite ha, if_neg (by decide), if_neg (by decide),
      if_neg (by simpa using hpos.le), if_neg (by decide)]
  rw [hround]
  generalize (evenDyadic a).1 = m at *
  generalize (evenDyadic a).2 = h at *
  have hn : m * 2 ^ 64 < (0 + 2 ^ (48 + 1)) * (0 + 2 ^ (48 + 1)) := by omega
  obtain ⟨hlo, hhi⟩ := isqrt_spec 48 0 (Nat.zero_le _) hn
  generalize isqrt (m * 2 ^ 64) 48 0 = R at *
  have hbig : 2 ^ 24 ≤ R := by
    by_contra hlt
    nlinarith
  have h0 : (R : ℝ) ≤ √((m * 2 ^ 64 : Nat) : ℝ) := Real.le_sqrt_of_sq_le (by rw [pow_two]; exact_mod_cast hlo)
  have h1 : √((m * 2 ^ 64 : Nat) : ℝ) < R + 1 := (Real.sqrt_lt' (by positivity)).2 (by rw [pow_two]; exact_mod_cast hhi)
  have hs : (R * R != m * 2 ^ 64) = true ↔ (R : ℝ) ≠ √((m * 2 ^ 64 : Nat) : ℝ) := by
    rw [bne_iff_ne, not_iff_not, eq_comm (a := (R : ℝ)), natCast_sqrt_eq_iff]
  have hV : √((m * 2 ^ 64 : Nat) : ℝ) * 2 ^ (h - 32 + 149) = √((mag a * 2 ^ 149 : Nat) : ℝ) := by
    rw [Nat.cast_mul, Nat.cast_mul, Nat.cast_pow, Nat.cast_pow, Nat.cast_ofNat, ← hscale]
    exact sqrt_scales m h (by norm_num)
  obtain ⟨q, hq⟩ := round_rounds hm false (by omega) h0 h1 hs (fun _ => hbig) (h - 32)
  exact ⟨q, hV ▸ hq⟩

/-- The root of a number is neither tiny nor too great for F32. -/
theorem sqrt_bounds {P : Nat} (h0 : 2 ^ 149 ≤ P) (h1 : P ≤ 2 ^ 253 * 2 ^ 253) :
    (2 : ℝ) ^ (1 + 23) ≤ √(P : ℝ) ∧ √(P : ℝ) ≤ (2 ^ 24 - 1) * 2 ^ 253 := by
  have h0' : ((2 ^ 149 : Nat) : ℝ) ≤ P := Nat.cast_le.2 h0
  have h1' : (P : ℝ) ≤ ((2 ^ 253 * 2 ^ 253 : Nat) : ℝ) := Nat.cast_le.2 h1
  rw [Nat.cast_mul, Nat.cast_pow, Nat.cast_ofNat, ← pow_two] at h1'
  constructor
  · refine Real.le_sqrt_of_sq_le (le_trans ?_ h0')
    norm_num
  · exact le_trans ((Real.sqrt_le_left (by positivity)).2 h1') (le_mul_of_one_le_left (by positivity) (by norm_num))

theorem mag_scaled_le {a : Nat} (ha : isFinite a) : mag a * 2 ^ 149 ≤ 2 ^ 253 * 2 ^ 253 :=
  calc mag a * 2 ^ 149 ≤ 2 ^ 24 * 2 ^ 253 * 2 ^ 149 := Nat.mul_le_mul_right _ (mag_lt ha).le
    _ = 2 ^ 24 * 2 ^ 149 * 2 ^ 253 := Nat.mul_right_comm _ _ _
    _ ≤ 2 ^ 253 * 2 ^ 253 := Nat.mul_le_mul_right _ (by norm_num)

/-- A rounded root, of a number `P` of 24 bits and trailing zeros, with the spacing 2^T about the root (R57, R58). -/
theorem Rounds32.sqrt {mode P m k q T : Nat} {r : Nat × Nat} (h : Rounds32 mode false √(P : ℝ) r q) (hT : gapExp √(P : ℝ) = T)
    (hm0 : 0 < m) (hm24 : m < 2 ^ 24) (hP : P = m * 2 ^ k)
    (hlow : (2 : ℝ) ^ (1 + 23) ≤ √(P : ℝ)) (hhigh : √(P : ℝ) ≤ (2 ^ 24 - 1) * 2 ^ 253) :
    let x := units r.1
    let g : Int := 2 ^ T
    isFinite r.1 ∧ (r.2 = 0 ∨ r.2 = 0x10) ∧ (r.2 = 0 ↔ x * x = (P : Int)) ∧
    (mode = 0 → (2 * x - g) * (2 * x - g) < 4 * (P : Int) ∧ 4 * (P : Int) < (2 * x + g) * (2 * x + g)) ∧
    (mode = 1 ∨ mode = 2 → x * x ≤ (P : Int) ∧ (P : Int) < (x + g) * (x + g)) ∧
    (mode = 3 → (x - g) * (x - g) < (P : Int) ∧ (P : Int) ≤ x * x) := by
  intro x g
  have hlt := h.lt_of_le (Real.sqrt_nonneg _) hhigh
  obtain ⟨hfin, hx⟩ := h.finite (Real.sqrt_nonneg _) hlt
  obtain ⟨hfl, hzero, htiny⟩ := h.flags hlt
  have hT1 : 1 ≤ gapExp √(P : ℝ) := le_gapExp hlow
  have hq23 : 2 ^ 23 ≤ q := (h.ge (Real.sqrt_nonneg _)).resolve_right (by omega)
  have hr := h.rounds
  rw [hT] at hx hzero hr
  have htie (o : Nat) (ho : Odd o) (hqo : q ≤ o) : o * o * (2 ^ T * 2 ^ T) ≠ 4 * P := by
    have hne := odd_square_ne (i := T + T) (j := k + 2) ho hm0 (by nlinarith)
    rwa [pow_add, pow_add, ← mul_assoc m, ← hP, Nat.mul_comm P] at hne
  have hx' : x = q * (2 ^ T : Nat) := by
    show units r.1 = _
    rw [hx, if_neg (by decide), Nat.cast_mul]
  have hg : g = (2 ^ T : Nat) := by rw [Nat.cast_pow, Nat.cast_ofNat]
  obtain ⟨hn, hd, hu⟩ := roundsTo_sqrt (mode := mode) (by positivity) (by omega) htie (by rwa [Nat.cast_pow, Nat.cast_ofNat])
  rw [← hx', ← hg] at hn hd hu
  refine ⟨hfin, ?_, ?_, hn, hd, hu⟩
  · have hnot : r.2 ≠ 0x18 := fun h18 => absurd (htiny h18) (not_lt.2 (le_trans (by norm_num) hlow))
    omega
  · have hsqrt : √(P : ℝ) = (q * 2 ^ T : Nat) ↔ q * 2 ^ T * (q * 2 ^ T) = P := natCast_sqrt_eq_iff
    rw [hzero, eq_div_iff (by positivity), eq_comm, hx', ← Nat.cast_mul, ← Nat.cast_mul, Nat.cast_inj, ← hsqrt]
    push_cast
    rfl

/-- The square root of a positive number, as the claim states it (R57, R58, R217). -/
theorem fSqrt_rounded {mode a : Nat} (hm : mode < 4) (ha : isFinite a) (hpos : 0 < units a) :
    let r := fSqrt mode a
    let x := units r.1
    let p := units a * 2 ^ 149
    let g : Int := 2 ^ (Nat.log2 p.toNat / 2 - 23)
    isFinite r.1 ∧ (r.2 = 0 ∨ r.2 = 0x10) ∧ (r.2 = 0 ↔ x * x = p) ∧
    (mode = 0 → (2 * x - g) * (2 * x - g) < 4 * p ∧ 4 * p < (2 * x + g) * (2 * x + g)) ∧
    (mode = 1 ∨ mode = 2 → x * x ≤ p ∧ p < (x + g) * (x + g)) ∧ (mode = 3 → (x - g) * (x - g) < p ∧ p ≤ x * x) := by
  have hmag : 0 < mag a := by rw [← natAbs_units a]; exact Int.natAbs_pos.2 hpos.ne'
  have hp : units a * 2 ^ 149 = ((mag a * 2 ^ 149 : Nat) : Int) := by
    rw [← natAbs_units a, Nat.cast_mul, Int.natAbs_of_nonneg hpos.le, Nat.cast_pow, Nat.cast_ofNat]
  obtain ⟨m, j, hm24, hmj⟩ := mag_form a
  have hP : mag a * 2 ^ 149 = m * 2 ^ (j + 149) := by rw [hmj, mul_assoc, ← pow_add]
  obtain ⟨q, hq⟩ := fSqrt_rounds hm ha hpos
  obtain ⟨hlow, hhigh⟩ := sqrt_bounds (Nat.le_mul_of_pos_left _ hmag) (mag_scaled_le ha)
  have hT : gapExp √((mag a * 2 ^ 149 : Nat) : ℝ) = Nat.log2 (mag a * 2 ^ 149) / 2 - 23 := by rw [gapExp, log2_floor_sqrt (by positivity)]
  intro r x p
  have hp' : p = ((mag a * 2 ^ 149 : Nat) : Int) := hp
  rw [hp', Int.toNat_natCast]
  exact hq.sqrt hT (Nat.pos_of_ne_zero fun h0 => by simp [hmj, h0] at hmag) hm24 hP hlow hhigh

end Sys2Proof.Machine
end

section
/-! SUPPORT. The lane-wise float instructions and the divide unit (R58, R205, R212 to R218). -/

namespace Sys2Proof.Claims
open Sys2Proof.Machine

theorem ctl_eq {i : Instr} {k : Ctl} {m : Meta} (hk : i.info.map Meta.ctl = some k) (h : i.info = some m) : m.ctl = k := by
  rw [h] at hk
  exact Option.some.inj hk

/-- An instruction whose effect is a lane-wise result delivers it. -/
theorem deliversLanes_of {i : Instr} {s : State} {r : Lanes} {k : Ctl} {f : State → Eff} (he : exec i s = issue i s f)
    (hf : f s = s.vresultAt k r.lat r.lat r.d r.vm (s.laneOuts r.vm r.f) r.flags r.sides) (hk : i.info.map Meta.ctl = some k) :
    DeliversLanes i s r := by
  intro m u hi _ hu
  rw [ctl_eq hk hi.info] at hu
  exact goes_of (hi.exec_eq he) (hf.trans hu)

/-- The sign bit inverted is 2^31 added modulo 2^32 (R216). -/
theorem fNeg_eq {x : Nat} (h : x < 2 ^ 32) : fNeg x = (x + 2 ^ 31) % 2 ^ 32 := by
  rw [fNeg_cases h]
  split <;> omega

/-- An instruction whose effect is an occupation of the divide unit (R205). -/
theorem divides_of {i : Instr} {s : State} {k : Ctl} {busy lat : Nat} {d : BitVec 5} {vm : VMod} {g : Nat → (Nat × Nat) × List Handle} {m : Meta}
    (hi : Issues i s m) {f : State → Eff} (he : exec i s = issue i s f) (hf : f s = s.divideUnit k busy lat d vm g)
    (hk : i.info.map Meta.ctl = some k) :
    (s.now < s.here.divFree → Stalls i s) ∧
    (s.here.divFree ≤ s.now → ∀ u, s.vresultAt m.ctl lat (lat + 1) d vm (s.floatOuts vm g).1 (s.floatOuts vm g).2 [] = .go u →
      Goes i s m ((u.onHere (fun c => { c with divFree := s.now + busy })).plan busy 0 .divideUnitFree { a := s.curCore })) := by
  rw [ctl_eq hk hi.info]
  refine ⟨fun hb => stalls_of (hi.exec_eq he) (hf.trans (if_pos hb)), fun hfree u hu => goes_of (hi.exec_eq he) (hf.trans ?_)⟩
  unfold State.divideUnit
  rw [if_neg (Nat.not_lt.2 hfree), hu]

end Sys2Proof.Claims
end

section
open Sys2Proof Sys2Proof.Machine Sys2Proof.Claims

theorem vfneg_delivers (s : State) (k : Ctl) (d a : BitVec 5) (vm : VMod) :
    DeliversLanes (.vfneg k d a vm) s (floating s 2 d vm (fone s a (fun x => ((x + 2 ^ 31) % 2 ^ 32, 0)))) := by
  refine deliversLanes_of (exec_vfneg k d a vm s) ?_ rfl
  have hneg : s.float1 a (fun x => (fNeg x, 0)) = fone s a (fun x => ((x + 2 ^ 31) % 2 ^ 32, 0)) := by
    funext j
    simp only [State.float1, fone, fNeg_eq ((s.srcV a).lane j).1.isLt]
  rw [hneg]
  rfl

theorem vectorFloat_delivers : Claims.VectorFloat := by
  intro s i r hr
  cases i
  case vfneg k d a vm => cases hr; exact vfneg_delivers s k d a vm
  case vfadd => cases hr; exact deliversLanes_of (exec_vfadd ..) rfl rfl
  case vfsub => cases hr; exact deliversLanes_of (exec_vfsub ..) rfl rfl
  case vfmul => cases hr; exact deliversLanes_of (exec_vfmul ..) rfl rfl
  case vfma => cases hr; exact deliversLanes_of (exec_vfma ..) rfl rfl
  case vfms => cases hr; exact deliversLanes_of (exec_vfms ..) rfl rfl
  case vfnma => cases hr; exact deliversLanes_of (exec_vfnma ..) rfl rfl
  case vfmin => cases hr; exact deliversLanes_of (exec_vfmin ..) rfl rfl
  case vfmax => cases hr; exact deliversLanes_of (exec_vfmax ..) rfl rfl
  case vfabs => cases hr; exact deliversLanes_of (exec_vfabs ..) rfl rfl
  case vfclass => cases hr; exact deliversLanes_of (exec_vfclass ..) rfl rfl
  case vfcmp => cases hr; exact deliversLanes_of (exec_vfcmp ..) rfl rfl
  case vfsgn => cases hr; exact deliversLanes_of (exec_vfsgn ..) rfl rfl
  case vfrnd => cases hr; exact deliversLanes_of (exec_vfrnd ..) rfl rfl
  case vcvt => cases hr; exact deliversLanes_of (exec_vcvt ..) rfl rfl
  case vpack => cases hr; exact deliversLanes_of (exec_vpack ..) rfl rfl
  case vunpack => cases hr; exact deliversLanes_of (exec_vunpack ..) rfl rfl
  case vqdec => cases hr; exact deliversLanes_of (exec_vqdec ..) rfl rfl
  all_goals cases hr

theorem vectorDivides : Claims.VectorDivides := by
  intro s i busy lat d vm g m hr hi _
  cases i
  case vdiv => cases hr; exact divides_of hi (exec_vdiv ..) rfl rfl
  case vsqrt => cases hr; exact divides_of hi (exec_vsqrt ..) rfl rfl
  case vrsqrt => cases hr; exact divides_of hi (exec_vrsqrt ..) rfl rfl
  case vrcp => cases hr; exact divides_of hi (exec_vrcp ..) rfl rfl
  case vsqd => cases hr; exact divides_of hi (exec_vsqd ..) rfl rfl
  all_goals cases hr

theorem floatValues : Claims.FloatValues := by
  intro mode a b c hm ha hb hc quieted sign inf crossed invalid
  have hinf : crossed + 0x7F800000 = Fmt.f32.inf (Fmt.f32.neg a != Fmt.f32.neg b) := (inf_ne a b).symm
  have hzero : crossed = Fmt.f32.signBit (Fmt.f32.neg a != Fmt.f32.neg b) := (signBit_ne a b).symm
  refine ⟨?nan, ?fusedNan, ?subNumber, ?subNan, ?addOpposite, ?addSame, ?addInf, fun h h' => fAdd_zero h h', fun h h' => fAdd_rounded hm h h',
    ?mulInf, ?mulInfZero, ?mulZero, fun h h' => fMul_rounded hm h h', fun np nc h h' h'' => fFma_rounded hm h h' h'',
    ?fusedInfZero, fDiv_invalid, ?divZero, ?divByInf, ?divOfInf, fun h h' => fDiv_rounded hm h h', fun h hz => fSqrt_zero hz h,
    ?sqrtNegative, fSqrt_plus_inf mode, fSqrt_rounded hm, fun v hv _ _ => fOfInt_rounded hm hv, rfl⟩
  case nan =>
    intro f hf
    refine nanFirst_pair fun x h => ?_
    simp only [List.mem_cons, List.not_mem_nil, or_false] at hf
    obtain rfl | rfl | rfl := hf
    · exact fAdd_nan h
    · exact fMul_nan h
    · exact fDiv_nan h
  case fusedNan => exact fun np nc => nanFirst_triple fun x h => fFma_nan h
  case subNumber => exact fun hnb => fSub_number hb hnb
  case subNan => exact fSub_nan
  case addOpposite =>
    intro hia hib hne
    refine fAdd_inf_opposite hia hib fun hs => hne ?_
    rw [neg_eq_iff] at hs
    have hia' : a % 2 ^ 31 = 0x7F800000 := hia
    have hib' : b % 2 ^ 31 = 0x7F800000 := hib
    omega
  case addSame =>
    rintro hia - rfl
    exact fAdd_inf_same hia
  case addInf => exact fun hia hfb => ⟨fAdd_inf_finite hia hfb, fAdd_finite_inf hfb hia⟩
  case mulInf =>
    intro hia hb'
    obtain ⟨hz, hn⟩ : Fmt.f32.isZero b = false ∧ isNaN32 b = false :=
      hb'.elim (fun h => ⟨IsInf.isZero h, IsInf.isNaN h⟩) (fun h => ⟨isZero_of_units h.2, isNaN_of_isFinite h.1⟩)
    rw [hinf, fMul_comm hn (IsInf.isNaN hia), fMul_inf hia hz hn]
    exact ⟨rfl, rfl⟩
  case mulInfZero =>
    intro hia hfb hz
    rw [fMul_comm (isNaN_of_isFinite hfb) (IsInf.isNaN hia), fMul_inf_zero hia hfb hz]
    exact ⟨rfl, rfl⟩
  case mulZero => exact fun hfa hfb hz => hzero ▸ fMul_zero hfa hfb hz
  case fusedInfZero => exact fun np nc hnc h => fFma_inf_zero (by simpa using hnc) h
  case divZero => exact fun hfa ha0 hfb hb0 => hinf ▸ fDiv_by_zero hfa ha0 hfb hb0
  case divByInf => exact fun hfa hib => hzero ▸ fDiv_by_inf hfa hib
  case divOfInf => exact fun hia hfb => hinf ▸ fDiv_of_inf hia hfb
  case sqrtNegative =>
    rintro (⟨hfa, hn⟩ | rfl)
    · exact fSqrt_negative hfa hn
    · exact fSqrt_minus_inf mode

/-- Settles O27: the lanes by each entry's effect, and each float operation by the rounding of a real number to the spacing about it. -/
theorem vectorFloats : Obligations.VectorFloats := ⟨vectorFloat_delivers, vectorDivides, floatValues⟩

end

section
/-! SUPPORT. Check case by case, and combines whose label is known at once (R80, R81, R83, R85, R93). -/

namespace Sys2Proof.Machine
open Sys2Proof.Claims

/-! ## Check -/

theorem isPend_iff (h : Handle) : isPend h = true ↔ 0xFFF0 ≤ h.toNat ∧ h.toNat < 0xFFF8 := by
  simp only [isPend, beq_iff_eq]
  omega

theorem isReserved_iff (h : Handle) : isReserved h = true ↔ 0xFFFC ≤ h.toNat := by simp [isReserved]

theorem refuted_iff (ngs : List Dword) (e : Dword) : refuted ngs e = true ↔ ∃ g ∈ ngs, g &&& e = g := by simp [refuted, subset]

section
variable {s : State} {dom : Option Nat} {v : View} {h : Handle}

theorem State.checkIn_kept (hk : h = hTrue ∨ isPend h = true) : s.checkIn dom v h = h := if_pos (by simpa using hk)

theorem State.checkIn_reserved (hr : isReserved h = true) : s.checkIn dom v h = hPoison := by
  have hn := (isReserved_iff h).1 hr
  have ht : h ≠ hTrue := by rintro rfl; simp [hTrue] at hn
  have hp : isPend h = false := by simp only [isPend, beq_eq_false_iff_ne]; omega
  simp [State.checkIn, ht, hp, hr]

/-- What is neither TRUE nor pending nor reserved is looked at further. -/
def proper (h : Handle) : Prop := (0 < h.toNat ∧ h.toNat < 0xFFF0) ∨ (0xFFF8 ≤ h.toNat ∧ h.toNat < 0xFFFC)

section
variable (hp : proper h)
include hp

theorem proper.fields : h ≠ hTrue ∧ isPend h = false ∧ isReserved h = false := by
  unfold proper at hp
  refine ⟨?_, ?_, ?_⟩
  · rintro rfl
    simp [hTrue] at hp
  · simp only [isPend, beq_eq_false_iff_ne]
    omega
  · simp only [isReserved, decide_eq_false_iff_not]
    omega

theorem State.checkIn_lost_or_poison (hl : h = hPoison ∨ h = hLost) : s.checkIn dom v h = h := by
  obtain ⟨ht, hq, hr⟩ := hp.fields
  cases dom <;> simp [State.checkIn, ht, hq, hr, hl]

section
variable (hl : ¬(h = hPoison ∨ h = hLost))
include hl

theorem State.checkIn_noDomain : s.checkIn none v h = hLost := by
  obtain ⟨ht, hq, hr⟩ := hp.fields
  simp [State.checkIn, ht, hq, hr, hl]

theorem State.checkIn_pastEra {n : Nat} (he : v.era.toNat ≠ s.domEra n) : s.checkIn (some n) v h = hLost := by
  obtain ⟨ht, hq, hr⟩ := hp.fields
  simp [State.checkIn, ht, hq, hr, hl, he]

theorem State.checkIn_void {n : Nat} (he : v.era.toNat = s.domEra n) (hv : isVoid h = true) : s.checkIn (some n) v h = h := by
  obtain ⟨ht, hq, hr⟩ := hp.fields
  simp [State.checkIn, ht, hq, hr, hl, he, hv]

theorem State.checkIn_table {n : Nat} (he : v.era.toNat = s.domEra n) (hv : isVoid h = false) : s.checkIn (some n) v h =
    if s.tableEntry n h.toNat = [] then hLost
    else if (∀ e ∈ s.tableEntry n h.toNat, refuted v.nogoods (e &&& ~~~v.asserted) = true) then hHidden else h := by
  obtain ⟨ht, hq, hr⟩ := hp.fields
  cases hes : s.tableEntry n h.toNat <;> simp [State.checkIn, ht, hq, hr, hl, he, hv, hes]

end
end
end

end Sys2Proof.Machine
end

section
open Sys2Proof Sys2Proof.Machine Sys2Proof.Claims

/-- Settles O24: a lemma for each of Check's cases. -/
theorem labelCheck : Obligations.LabelCheck := by
  intro s dom v h pending table
  have hproper : (h = hPoison ∨ h = hLost) ∨ (h = hHidden ∨ h = hOver) ∨ table → proper h := by
    rintro ((rfl | rfl) | (rfl | rfl) | ht)
    · exact .inr (by decide)
    · exact .inr (by decide)
    · exact .inr (by decide)
    · exact .inr (by decide)
    · exact .inl ht
  have hrest : h = hHidden ∨ h = hOver ∨ table → ¬(h = hPoison ∨ h = hLost) := by
    rintro (rfl | rfl | ht)
    · decide
    · decide
    · rintro (rfl | rfl) <;> exact absurd ht.2 (by decide)
  have hvoid (ht : table) : isVoid h = false := by
    have h2 := ht.2
    simp only [isVoid, Bool.and_eq_false_iff, decide_eq_false_iff_not]
    omega
  refine ⟨fun hk => State.checkIn_kept (hk.imp id (isPend_iff h).2), fun hr => State.checkIn_reserved ((isReserved_iff h).2 hr), ?_, ?_⟩
  case _ =>
    rintro rfl
    exact ⟨fun hl => State.checkIn_lost_or_poison (hproper (.inl hl)) hl,
      fun hl => State.checkIn_noDomain (hproper (.inr (or_assoc.2 hl))) (hrest hl)⟩
  case _ =>
    rintro n rfl
    refine ⟨fun hl => State.checkIn_lost_or_poison (hproper (.inl hl)) hl, fun hl => ?_,
      fun ht he => State.checkIn_pastEra (hproper (.inr (.inr ht))) (hrest (.inr (.inr ht))) he, fun ht he => ?_⟩
    · have hp := hproper (.inr (.inl hl))
      have hne := hrest (or_assoc.1 (.inl hl))
      split
      · exact State.checkIn_void hp hne ‹_› (by obtain rfl | rfl := hl <;> decide)
      · exact State.checkIn_pastEra hp hne ‹_›
    · rw [State.checkIn_table (hproper (.inr (.inr ht))) (hrest (.inr (.inr ht))) he (hvoid ht)]
      simp only [refuted_iff]
      exact ⟨fun h0 => if_pos h0, fun hne => ⟨fun ha => (if_neg hne).trans (if_pos ha), fun ha => (if_neg hne).trans (if_neg ha)⟩⟩

end

section
/-! SUPPORT. The label of a scalar or vector result (R81, R83, R88, R93, R107, R319). -/

namespace Sys2Proof.Machine
open Sys2Proof.Claims

/-! ## One label -/

theorem State.check_true (s : State) (k t : Nat) : s.check k t hTrue = hTrue := rfl

/-- TRUE and VOID handles stand for themselves in a combine with nothing but TRUE (R83). -/
theorem State.refined_of_not_table {h : Handle} (hh : isTable h = false) (s : State) (k t : Nat) : s.refined k t h = h := by
  simp [State.refined, hh]

theorem fastHandle_true {hs : List Handle} (h : ∀ x ∈ hs, x = hTrue) : fastHandle hs = some hTrue := by
  have hn : hs.filter (fun x => x != hTrue) = [] := List.filter_eq_nil_iff.2 (fun x hx => by simp [h x hx])
  simp [fastHandle, hn]

theorem fastHandle_poison {hs : List Handle} (h : hPoison ∈ hs) : fastHandle hs = some hPoison := by
  have hm : hPoison ∈ (hs.filter (fun x => x != hTrue)).eraseDups :=
    List.mem_eraseDups.2 (List.mem_filter.2 ⟨h, by decide⟩)
  simp [fastHandle, hm]

/-- A combine that R93 resolves at once by its handles alone. -/
theorem State.shape_of_fastHandle {hs : List Handle} {h : Handle} (hf : fastHandle hs = some h) (hh : isTable h = false) (s : State)
    (k t : Nat) : s.shape k t (plainIn hs) = .fast h := by
  simp [State.shape, shapeOf, plainIn, hf, State.refined_of_not_table hh]

theorem State.formOne_fast {s : State} {i : LabelIn} {h : Handle} (hs : s.shape s.curCore s.curCtx i = .fast h) :
    ∃ u, s.formOne i = some (u, h) := by
  have hf := State.formAll_fast hs s.nextId 0 false
  refine ⟨s.onCore s.curCore (fun c => c.count 5 1), ?_⟩
  unfold State.formOne
  rw [show s.formAll s.curCore s.curCtx s.nextId [i] false = _ from hf]
  simp [labelIn]

theorem Core.freeSlot_of_pos {c : Core} (h : 0 < c.freeSlots) : ∃ n, c.freeSlot = some n := by
  obtain ⟨i, hi⟩ := List.exists_mem_of_length_pos h
  obtain ⟨hm, hf⟩ := List.mem_filter.1 hi
  exact Option.isSome_iff_exists.1 (List.find?_isSome.2 ⟨i, hm, hf⟩)

/-- One combine takes one slot at most, and a regular one while any is free (R93). -/
theorem State.formOne_free {s : State} (h : 0 < s.here.freeSlots) (i : LabelIn) : ∃ u l, s.formOne i = some (u, l) := by
  have hpos : 0 < (s.core s.curCore).freeSlots := h
  obtain ⟨n, hn⟩ := Core.freeSlot_of_pos hpos
  obtain ⟨v, x, hx⟩ := State.takeSlot_now hn s.curCtx s.nextId i false
  have hd : distinct [i] = [i] := by simp [distinct, List.eraseDups_cons]
  have hneed : ([i].filter (fun i => s.shape s.curCore s.curCtx i == .slot)).length ≤ 1 := List.length_filter_le _ _
  unfold State.formOne State.formAll
  dsimp only
  rw [hd, if_neg (by simp only [Bool.and_eq_true, decide_eq_true_eq, not_and]; omega)]
  cases hs : s.shape s.curCore s.curCtx i <;> simp [hs, hx, labelIn]

theorem State.countVoids_freeSlots (s : State) (l : List LabelIn) : (s.countVoids l).here.freeSlots = s.here.freeSlots := by
  unfold State.countVoids
  dsimp only
  split
  · rfl
  · simp [Core.freeSlots]

/-! ## The labels of a vector result -/

/-- Where every combine is TRUE at once, TRUE is the only label that is formed. -/
theorem State.formAll_true {s : State} {k t : Nat} {ins : List LabelIn} (h : ∀ i ∈ ins, s.shape k t i = .fast hTrue) (o : Nat)
    (store : Bool) : ∃ u ls, s.formAll k t o ins store = some (u, ls) ∧ ∀ p ∈ ls, p.2 = .now hTrue := by
  have hd (i : LabelIn) (hi : i ∈ distinct ins) : s.shape k t i = .fast hTrue := h i (List.mem_eraseDups.1 hi)
  have hn : (distinct ins).filter (fun i => s.shape k t i == .slot) = [] := List.filter_eq_nil_iff.2 (fun i hi => by simp [hd i hi])
  unfold State.formAll
  dsimp only
  rw [hn, if_neg (by simp)]
  refine ⟨_, _, rfl, ?_⟩
  refine List.foldlRecOn (motive := fun acc : State × List (LabelIn × Label) => ∀ p ∈ acc.2, p.2 = .now hTrue) (distinct ins) _
    (by simp) (fun acc hacc i hi => ?_)
  simp only [hd i hi, List.mem_append, List.mem_singleton]
  rintro p (hp | rfl)
  · exact hacc p hp
  · rfl

section
variable {ls : List (LabelIn × Label)} (h : ∀ p ∈ ls, p.2 = .now hTrue)
include h

theorem labelIn_of_true (i : LabelIn) : labelIn ls i = .now hTrue := by
  unfold labelIn
  cases hf : ls.find? (fun p => p.1 == i) with
  | none => rfl
  | some p => exact h p (List.mem_of_find?_eq_some hf)

theorem extrasOf_true : extrasOf ls = [] := List.filterMap_eq_nil_iff.2 (fun p hp => by rw [h p hp])

theorem nowLanes_true (d : BitVec 5) (outs : List LaneOut) : nowLanes d ls outs = outs.map (fun o => .lane d o.1 o.2.1 hTrue) := by
  unfold nowLanes
  simp only [labelIn_of_true h]
  exact congrFun List.filterMap_eq_map' outs

end

theorem State.offLanes_eq (s : State) (vm : VMod) (d : BitVec 5) : s.offLanes vm d = if vm.mu = 1#1 then []
    else ((List.range 16).filter (fun i => decide (i ∉ s.lanes vm))).map (fun i => .lane d i 0#32 0x0000#16) := by
  have hf : (List.range 16).filter (fun i => !s.active vm i) = (List.range 16).filter (fun i => decide (i ∉ s.lanes vm)) :=
    List.filter_congr (fun i hi => by simp [State.lanes, List.mem_range.1 hi])
  unfold State.offLanes
  simp only [beq_iff_eq, hf]
  rfl

/-- A result all of whose labels are TRUE takes no slot, and its lanes land together. -/
theorem State.vresultAt_true {s : State} {outs : List LaneOut} (ho : ∀ o ∈ outs, ∃ hs, o.2.2 = plainIn hs ∧ ∀ h ∈ hs, h = hTrue)
    (ha : s.me.ambient = hTrue) (k : Ctl) (lat : Nat) (d : BitVec 5) (vm : VMod) (flags : Nat) (sides : List RegWrite) :
    ∃ v, OnlyLabels s v ∧ s.vresultAt k lat lat d vm outs flags sides = .go (v.produce (tagOf k) lat
      (outs.map (fun o => .lane d o.1 o.2.1 hTrue) ++ s.offLanes vm d ++ sides) flags [.v d]) := by
  have hc := Lab.countVoids s (outs.map (·.2.2))
  have hshape : ∀ i ∈ (outs.map (fun o => (o.1, o.2.1, s.checkedIn o.2.2 [s.ambientNow]))).map (·.2.2),
      (s.countVoids (outs.map (·.2.2))).shape s.curCore s.curCtx i = .fast hTrue := by
    intro i hi
    simp only [List.map_map, List.mem_map, Function.comp_apply] at hi
    obtain ⟨o, hm, rfl⟩ := hi
    obtain ⟨hs, hin, ht⟩ := ho o hm
    have hamb : s.ambientNow = hTrue := by rw [State.ambientNow, ha, State.check_true]
    rw [hin, hamb]
    refine State.shape_of_fastHandle (fastHandle_true ?_) (by decide) _ _ _
    intro x hx
    obtain hx | hx := List.mem_append.1 hx
    · obtain ⟨y, hy, rfl⟩ := List.mem_map.1 hx
      rw [ht y hy, State.check_true]
    · exact List.mem_singleton.1 hx
  obtain ⟨u, ls, hf, hls⟩ := State.formAll_true hshape s.nextId false
  refine ⟨u, (hc.trans (Lab.formAll hf)).onlyLabels, ?_⟩
  unfold State.vresultAt
  simp only [hf, nowLanes_true hls, extrasOf_true hls, List.foldl_nil, ↓reduceIte]
  simp only [List.map_map]
  rfl

end Sys2Proof.Machine
end

section
open Sys2Proof Sys2Proof.Machine Sys2Proof.Claims

theorem labelUnit : Claims.LabelUnit := by
  intro s hs
  have hc := Lab.countVoids s [plainIn hs]
  have hfast {h : Handle} (hf : fastHandle (hs.map (s.check s.curCore s.curCtx) ++ [s.ambientNow]) = some h) (hh : isTable h = false) :
      ∃ u, s.formWith hs = some (u, h) := State.formOne_fast (State.shape_of_fastHandle hf hh _ _ _)
  refine ⟨fun hpos => ?free, fun ht ha => ?true, fun h hm hp => ?poison⟩
  case free =>
    rw [← State.countVoids_freeSlots s [plainIn hs]] at hpos
    obtain ⟨u, l, hf⟩ := State.formOne_free hpos (s.checkedIn (plainIn hs) [s.ambientNow])
    exact ⟨u, l, hf, (Lab.formWith hf).onlyLabels⟩
  case true =>
    obtain ⟨u, hf⟩ := hfast (h := hTrue) (fastHandle_true (by
      intro x hx
      obtain hx | hx := List.mem_append.1 hx
      · obtain ⟨y, hy, rfl⟩ := List.mem_map.1 hx
        rw [ht y hy]
        rfl
      · rw [List.mem_singleton.1 hx, State.ambientNow, ha]
        rfl)) (by decide)
    exact ⟨u, hf, (Lab.formWith hf).onlyLabels⟩
  case poison =>
    exact hfast (h := hPoison) (fastHandle_poison (List.mem_append.2 (.inl (List.mem_map.2 ⟨h, hm, hp⟩)))) (by decide)

theorem vectorResult : Claims.VectorResult := by
  intro s k lo hi d vm outs flags sides
  refine ⟨fun hfree => State.vresultAt_goesOn hfree k lo hi d vm outs flags sides, ?_⟩
  rintro ho ha rfl
  obtain ⟨v, hv, he⟩ := State.vresultAt_true ho ha k lo d vm flags sides
  exact ⟨v, hv, by rw [he, State.offLanes_eq]; rfl⟩

/-- Settles O23: a combine of TRUE, or one that holds VOID.POISON, takes no slot, and any other takes one. -/
theorem labelForming : Obligations.LabelForming := ⟨labelUnit, vectorResult⟩

end

section
/-! SUPPORT. The domain operations and the label instructions: the effect of each, branch by branch (R278 to R285). -/

namespace Sys2Proof.Machine
open Sys2Proof.Claims

section
variable {s : State} {m : Meta} {i : Instr}

/-! ## Domain operations -/

theorem exec_domainAsk {r : DomAsk} (hr : domainAsk s i = some r) (hi : Issues i s m) :
    exec i s = .next (s.conclude m (s.domResult r.k r.kind r.v r.link r.d r.labels)) := by
  unfold domainAsk at hr
  split at hr <;> cases hr
  case _ => exact hi.exec_eq (exec_anew ..)
  case _ => exact hi.exec_eq (exec_anewTx ..)
  case _ => exact hi.exec_eq (exec_assert ..)
  case _ => exact hi.exec_eq (exec_settle ..)

section
variable (k : Ctl) (kind : Nat) (v : Dword) (hs : List Handle)

theorem State.domResult_fault (hd : s.domainOf s.curCore = none) (link : Nat) (d : BitVec 5) :
    s.domResult k kind v link d hs = .fault cIllegal 0#64 := by
  simp only [State.domResult, hd]

theorem State.domResult_go {n : Nat} (hd : s.domainOf s.curCore = some n) {u : State} {l : Handle}
    (hf : (s.countVoids [plainIn hs]).formWith [] = some (u, l)) (link : Nat) (d : BitVec 5) :
    s.domResult k kind v link d hs = .go (u.askDomain k kind v link d l n) := by
  simp only [State.domResult, hd, hf]

theorem State.domPlain_fault (hd : s.domainOf s.curCore = none) : s.domPlain k kind v hs = .fault cIllegal 0#64 := by
  simp only [State.domPlain, hd]

theorem State.domPlain_go {n : Nat} (hd : s.domainOf s.curCore = some n) :
    s.domPlain k kind v hs = .go ((s.countVoids [plainIn hs]).askDomain k kind v 0 0#5 hTrue n) := by
  simp only [State.domPlain, hd]

end

/-! ## Labels read as values -/

/-- LTEST's condition in the handles' numbers (R80, R283). -/
theorem ltestHolds_eq (n : Nat) (h : Handle) : ltestHolds n h = (match n with
    | 0 => decide (0xFFF8 ≤ h.toNat ∧ h.toNat ≤ 0xFFFB)
    | 1 => decide (h = 0x0000#16)
    | 2 => decide (h = 0xFFF8#16)
    | 3 => decide (h = 0xFFF9#16)
    | 4 => decide (h = 0xFFFA#16)
    | 5 => decide (h = 0xFFFB#16)
    | _ => decide (¬(0xFFF8 ≤ h.toNat ∧ h.toNat ≤ 0xFFFB))) := by
  have hv : isVoid h = decide (0xFFF8 ≤ h.toNat ∧ h.toNat ≤ 0xFFFB) := (Bool.decide_and _ _).symm
  have hn : (!isVoid h) = decide (¬(0xFFF8 ≤ h.toNat ∧ h.toNat ≤ 0xFFFB)) := by rw [hv, decide_not]
  match n with
  | 0 => exact hv
  | 1 | 2 | 3 | 4 | 5 => rfl
  | _ + 6 => exact hn

theorem exec_labelValue {k : Ctl} {d a : BitVec 5} {vm : VMod} {v : BitVec 1} {f : Handle → Nat}
    (hv : labelValue i = some (k, d, a, vm, v, f)) (hi : Issues i s m) :
    exec i s = .next (s.conclude m (s.labelValues k d a vm v f)) := by
  unfold labelValue at hv
  split at hv <;> cases hv
  case _ => exact hi.exec_eq (exec_lget ..)
  case _ cond =>
    rw [hi.exec_eq (exec_ltest ..)]
    exact congrArg (fun g => Host.Outcome.next (s.conclude m (s.labelValues _ _ _ _ _ g)))
      (funext fun h => congrArg (fun b : Bool => if b then 1 else 0) (ltestHolds_eq cond.toNat h))

section
variable {a : BitVec 5} (k : Ctl) (d : BitVec 5) (vm : VMod) (f : Handle → Nat)

theorem State.labelValues_stall (hp : isPend (s.srcS a).2 = true) : s.labelValues k d a vm 0#1 f = .stall :=
  (if_neg (by decide)).trans (if_pos hp)

theorem State.labelValues_scalar (hp : isPend (s.srcS a).2 = false) : s.labelValues k d a vm 0#1 f =
    .go ((s.countVoids [plainIn [(s.srcS a).2]]).produce (tagOf k) 1
      [.s d (BitVec.ofNat 64 (f (s.check s.curCore s.curCtx (s.srcS a).2))) 0x0000#16] 0 [.s d]) :=
  (if_neg (by decide)).trans (if_neg (by simp [hp]))

theorem State.labelValues_vector {vm : VMod} (hp : ∀ j ∈ s.lanes vm, isPend ((s.srcV a).lane j).2 = false) :
    s.labelValues k d a vm 1#1 f =
      .go ((s.countVoids [plainIn ((s.lanes vm).map (fun j => ((s.srcV a).lane j).2))]).produce (tagOf k) 2
        ((s.lanes vm).map (fun j =>
          .lane d j (BitVec.ofNat 32 (f (s.check s.curCore s.curCtx ((s.srcV a).lane j).2))) 0x0000#16) ++ s.offLanes vm d) 0 [.v d]) := by
  unfold State.labelValues
  rw [if_pos (by decide), if_neg (by simpa using hp)]
  simp only [List.map_map]
  rfl

end

theorem lread_faults {k : Ctl} {d a : BitVec 5} {n : BitVec 2} (hi : Issues (.lread k d a n) s m) (hd : s.domainOf s.curCore = none) :
    Faults (.lread k d a n) s 0x01 0#64 :=
  faults_of (hi.exec_eq (exec_lread ..)) (by simp only [hd]; rfl)

theorem lread_goes {k : Ctl} {d a : BitVec 5} {n : BitVec 2} (hi : Issues (.lread k d a n) s m) {dom : Nat}
    (hd : s.domainOf s.curCore = some dom) (hp : isPend (s.srcS a).2 = false) : Goes (.lread k d a n) s m
      ((s.countVoids [plainIn [(s.srcS a).2]]).produceIn (tagOf k) 2 (2 + s.freeN 0 % 64)
        [.s d (s.readEnv dom (viewOf s.here s.me) (s.check s.curCore s.curCtx (s.srcS a).2) n.toNat) 0x0000#16] 0 false [.s d]) :=
  goes_of (hi.exec_eq (exec_lread ..)) (by simp only [hd, hp]; rfl)

end

/-! ## Labels given to values -/

section
variable {s u : State} {m : Meta} {n : Nat} {k : Ctl} {d a b : BitVec 5} {vm : VMod} (hd : s.domainOf s.curCore = some n)
include hd

theorem lapply_faults {v : BitVec 1} (hi : Issues (.lapply k d a b vm v) s m) (hn : s.namesFree n (s.srcS b).1 = true) :
    Faults (.lapply k d a b vm v) s 0x01 0#64 :=
  faults_of (hi.exec_eq (exec_lapply ..)) (by simp only [hd]; exact if_pos hn)

theorem lapply_scalar_goes (hi : Issues (.lapply k d a b vm 0#1) s m) (hn : s.namesFree n (s.srcS b).1 = false)
    (hu : s.resultOf k 1 d (s.srcS a).1 (envIn [(s.srcS a).2, (s.srcS b).2] (s.srcS b).1) 0 = .go u) :
    Goes (.lapply k d a b vm 0#1) s m u :=
  goes_of (hi.exec_eq (exec_lapply ..)) (by simp only [hd, hn]; exact hu)

theorem lapply_vector_goes (hi : Issues (.lapply k d a b vm 1#1) s m) (hn : s.namesFree n (s.srcS b).1 = false)
    (hu : s.vresult k 2 d vm ((s.lanes vm).map (fun i =>
      (i, ((s.srcV a).lane i).1, envIn [((s.srcV a).lane i).2, (s.srcS b).2] (s.srcS b).1))) 0 = .go u) :
    Goes (.lapply k d a b vm 1#1) s m u :=
  goes_of (hi.exec_eq (exec_lapply ..)) (by simp only [hd, hn]; exact hu)

theorem amb_faults (hi : Issues (.amb k a) s m) (hn : s.namesFree n (s.srcS a).1 = true) : Faults (.amb k a) s 0x01 0#64 :=
  faults_of (hi.exec_eq (exec_amb ..)) (by simp only [hd]; exact if_pos hn)

theorem amb_goes {h : Handle} (hi : Issues (.amb k a) s m) (hn : s.namesFree n (s.srcS a).1 = false)
    (hf : (s.countVoids [plainIn [(s.srcS a).2]]).formOne (envIn [] (s.srcS a).1) = some (u, h)) :
    Goes (.amb k a) s m (u.onMe (fun x => { x with ambient := h })) :=
  goes_of (hi.exec_eq (exec_amb ..)) (by simp only [hd, hn, hf]; rfl)

theorem vjoin_goes (hi : Issues (.vjoin k d a b vm) s m) :
    let same (i : Nat) : Bool := ((s.srcV a).lane i).1 == (s.laneB vm b i).1
    let apart := (s.lanes vm).filter (fun i => !same i)
    (s.countVoids (apart.map (fun i => plainIn [((s.srcV a).lane i).2, (s.laneB vm b i).2]))).vresultAt k 2 2 d vm
      (((s.lanes vm).filter same).map (fun i =>
        (i, ((s.srcV a).lane i).1, { hs := [], env := none, join := some (((s.srcV a).lane i).2, (s.laneB vm b i).2) })))
      (if apart = [] then 0 else 0x100) (apart.map (fun i => .lane d i ((s.srcV a).lane i).1 0xFFF9#16)) = .go u →
        Goes (.vjoin k d a b vm) s m u := by
  intro same apart hu
  refine goes_of (hi.exec_eq (exec_vjoin ..)) ?_
  simp only [hd, List.partition_eq_filter_filter, List.isEmpty_iff]
  exact hu

section
variable (ho : s.stripOk n = true)
include ho

theorem lstrip_scalar_stalls (hi : Issues (.lstrip k d a vm 0#1) s m) (hp : isPend (s.srcS a).2 = true) :
    Stalls (.lstrip k d a vm 0#1) s :=
  stalls_of (hi.exec_eq (exec_lstrip ..)) (by simp only [hd, ho]; exact if_pos hp)

theorem lstrip_scalar_goes {h : Handle} (hi : Issues (.lstrip k d a vm 0#1) s m) (hp : isPend (s.srcS a).2 = false)
    (hf : (s.stripReads [(s.srcS a).2]).formWith (stripLabels (s.check s.curCore s.curCtx (s.srcS a).2)) = some (u, h)) :
    Goes (.lstrip k d a vm 0#1) s m (u.produce (tagOf k) 1 [.s d (s.srcS a).1 h] 0 [.s d]) := by
  refine goes_of (hi.exec_eq (exec_lstrip ..)) ?_
  simp only [hd, ho, hp]
  exact (if_neg (by decide)).trans ((if_neg (by decide)).trans ((if_neg (by decide)).trans (State.result_go 0 hf)))

theorem lstrip_vector_stalls (hi : Issues (.lstrip k d a vm 1#1) s m) (hp : ∃ i ∈ s.lanes vm, isPend ((s.srcV a).lane i).2 = true) :
    Stalls (.lstrip k d a vm 1#1) s :=
  stalls_of (hi.exec_eq (exec_lstrip ..)) (by
    simp only [hd, ho]
    exact (if_neg (by decide)).trans ((if_pos (by decide)).trans (if_pos (by simpa using hp))))

theorem lstrip_vector_goes (hi : Issues (.lstrip k d a vm 1#1) s m) (hp : ∀ i ∈ s.lanes vm, isPend ((s.srcV a).lane i).2 = false)
    (hu : (s.stripReads ((s.lanes vm).map (fun i => ((s.srcV a).lane i).2))).vresult k 2 d vm ((s.lanes vm).map (fun i =>
      (i, ((s.srcV a).lane i).1, plainIn (stripLabels (s.check s.curCore s.curCtx ((s.srcV a).lane i).2))))) 0 = .go u) :
    Goes (.lstrip k d a vm 1#1) s m u := by
  refine goes_of (hi.exec_eq (exec_lstrip ..)) ?_
  simp only [hd, ho]
  refine (if_neg (by decide)).trans ((if_pos (by decide)).trans ((if_neg (by simpa using hp)).trans ?_))
  simp only [List.map_map]
  exact hu

end

theorem lstrip_faults {v : BitVec 1} (hi : Issues (.lstrip k d a vm v) s m) (ho : s.stripOk n = false) :
    Faults (.lstrip k d a vm v) s 0x01 0#64 :=
  faults_of (hi.exec_eq (exec_lstrip ..)) (by simp only [hd, ho]; rfl)

theorem lfence_goes (hi : Issues (.lfence k) s m) : Goes (.lfence k) s m (s.onMe (fun x => { x with wait := .lfence })) :=
  goes_of (hi.exec_eq (exec_lfence ..)) (by simp only [hd])

end

end Sys2Proof.Machine
end

section
open Sys2Proof Sys2Proof.Machine Sys2Proof.Claims

/-- Settles O42: each asks through one of two effects, that with a result and that without. -/
theorem domainInstructions : Obligations.DomainInstructions := by
  intro s m
  refine ⟨fun i r hr hi _ => ⟨fun hd => ?_, fun n u l hd hf => ?_⟩, fun k a x hx hi => ?_⟩
  · exact faults_of (exec_domainAsk hr hi) (State.domResult_fault _ _ _ _ hd _ _)
  · exact goes_of (exec_domainAsk hr hi) (State.domResult_go _ _ _ _ hd hf _ _)
  · have he : exec x.1 s = .next (s.conclude m (s.domPlain k x.2 (s.srcS a).1 [(s.srcS a).2])) := by
      simp only [List.mem_cons, List.not_mem_nil, or_false] at hx
      obtain rfl | rfl := hx
      · exact hi.exec_eq (exec_nogood ..)
      · exact hi.exec_eq (exec_retract ..)
    exact ⟨fun hd => faults_of he (State.domPlain_fault _ _ _ _ hd), fun n hd => goes_of he (State.domPlain_go _ _ _ _ hd)⟩

theorem labelsAsValues : Claims.LabelsAsValues := by
  intro s m
  refine ⟨fun i k d a vm v f hv hi _ => ⟨?_, ?_, ?_⟩, fun k d a n hi => ⟨lread_faults hi, fun dom => lread_goes hi⟩⟩
  · rintro rfl hp
    exact stalls_of (exec_labelValue hv hi) (State.labelValues_stall k d vm f hp)
  · rintro rfl hp
    exact goes_of (exec_labelValue hv hi) (State.labelValues_scalar k d vm f hp)
  · rintro rfl hp
    exact goes_of (exec_labelValue hv hi) (State.labelValues_vector k d f hp)

theorem labelInstructions : Claims.LabelInstructions := by
  intro s m k n hd
  refine ⟨fun d a b vm hi => ⟨lapply_faults hd hi, fun hn u => lapply_scalar_goes hd hi hn⟩,
    fun d a b vm hi => ⟨lapply_faults hd hi, fun hn u => lapply_vector_goes hd hi hn⟩,
    fun a u h hi => ⟨amb_faults hd hi, amb_goes hd hi⟩,
    fun d a b vm hi u => vjoin_goes hd hi,
    fun d a vm hi => ⟨lstrip_faults hd hi, fun ho => lstrip_scalar_stalls hd ho hi, fun ho hp u h => lstrip_scalar_goes hd ho hi hp⟩,
    fun d a vm hi => ⟨lstrip_faults hd hi, fun ho hp => ?_, fun ho hp u => ?_⟩, lfence_goes hd⟩
  · exact lstrip_vector_stalls hd ho hi (by simpa using hp)
  · exact lstrip_vector_goes hd ho hi (by simpa using hp)

/-- Settles O43: each instruction by its entry's effect, with the domain that its launch has. -/
theorem labelsAndValues : Obligations.LabelsAndValues := ⟨labelsAsValues, labelInstructions⟩

end

section
/-! SUPPORT. The words of a domain's object in the lines of its slices (R21, R22, R36, R77): what is written there is read there, and a
line that makes way for one of them is not another of them. -/

namespace Sys2Proof.Machine

/-! ## What a write at a home can change -/

/-- `t` is `s` but for the lines of the slices and the memory behind them. -/
def Stores (s t : State) : Prop := ∃ m e l, t = { s with mem := m, ecc := e, lines := l }

theorem Stores.refl (s : State) : Stores s s := ⟨s.mem, s.ecc, s.lines, rfl⟩

theorem Stores.trans {s t u : State} (h : Stores s t) (h' : Stores t u) : Stores s u := by
  obtain ⟨_, _, _, rfl⟩ := h
  obtain ⟨m, e, l, rfl⟩ := h'
  exact ⟨m, e, l, rfl⟩

theorem Stores.foldl {α : Type} {f : State → α → State} (h : ∀ s x, Stores s (f s x)) (l : List α) (s : State) :
    Stores s (l.foldl f s) := by
  induction l generalizing s with
  | nil => exact .refl s
  | cons x r ih => exact (h s x).trans (ih _)

section
variable (s : State)

theorem Stores.putLine (x : Line) : Stores s (s.putLine x) := by
  unfold State.putLine
  split <;> exact ⟨s.mem, s.ecc, _, rfl⟩

theorem Stores.dropLine (n : Nat) : Stores s (s.dropLine n) := ⟨s.mem, s.ecc, _, rfl⟩

theorem Stores.mcPut (pa : Nat) (bs : List Byte) : Stores s (s.mcPut pa bs) := by
  unfold State.mcPut State.putRam
  split <;> exact ⟨_, _, s.lines, rfl⟩

theorem Stores.writeLine (l : Leaf) (z : Nat) (x : Line) : Stores s (s.writeLine l z x) := by
  have hdata : Stores s (if l.hl then s else s.mcPut (l.phys z (x.line * 64)) (x.words.flatMap (fun w => leBytes 4 w.1.toNat))) := by
    split
    · exact .refl s
    · exact .mcPut s _ _
  unfold State.writeLine
  split
  · exact .refl s
  · dsimp only
    split
    · exact hdata.trans (.mcPut _ _ _)
    · exact hdata

theorem Stores.cleanLine (n : Nat) : Stores s (s.cleanLine n) := by
  unfold State.cleanLine
  split
  · exact .refl s
  · split
    · exact .refl s
    · split
      · exact .putLine s _
      · refine (Stores.trans (.writeLine s _ _ _) (.foldl (fun t m => ?_) _ _)).trans (.putLine _ _)
        split
        · exact .writeLine t _ _ _
        · exact .refl t

theorem Stores.addLine (x : Line) : Stores s (s.addLine x) := by
  unfold State.addLine
  dsimp only
  split
  · split
    · exact ((Stores.cleanLine s _).trans (.dropLine _ _)).trans (.putLine _ _)
    · exact .putLine s x
  · exact .putLine s x

theorem Stores.homePoke (va : Nat) (w : Word) (h : Handle) : Stores s (s.homePoke va w h) := by
  unfold State.homePoke
  split
  · exact .refl s
  · exact .addLine s _

theorem Stores.put64 (va v : Nat) : Stores s (s.put64 va v) := (Stores.homePoke s _ _ _).trans (.homePoke _ _ _ _)

end

section
variable {s t : State} (h : Stores s t)
include h

theorem Stores.domBase (n : Nat) : t.domBase n = s.domBase n := by obtain ⟨_, _, _, rfl⟩ := h; rfl
theorem Stores.now : t.now = s.now := by obtain ⟨_, _, _, rfl⟩ := h; rfl
theorem Stores.domOps : t.domOps = s.domOps := by obtain ⟨_, _, _, rfl⟩ := h; rfl
theorem Stores.links : t.links = s.links := by obtain ⟨_, _, _, rfl⟩ := h; rfl

end

/-! ## Lines that stay -/

theorem State.writeLine_lines (s : State) (l : Leaf) (z : Nat) (x : Line) : (s.writeLine l z x).lines = s.lines := by
  have hput (u : State) (pa : Nat) (bs : List Byte) : (u.mcPut pa bs).lines = u.lines := by
    unfold State.mcPut State.putRam
    split <;> rfl
  unfold State.writeLine
  dsimp only
  split
  · rfl
  · split <;> split <;> simp only [hput]

/-- A line is cleaned in its place: the same lines stand there, one of them no longer dirty. -/
theorem State.cleanLine_lines (s : State) (n : Nat) :
    (s.cleanLine n).lines = s.lines ∨ ∃ x, s.line n = some x ∧ (s.cleanLine n).lines = (s.putLine { x with dirty := false }).lines := by
  have hput (u : State) (y : Line) (hu : u.lines = s.lines) : (u.putLine y).lines = (s.putLine y).lines := by
    unfold State.putLine
    rw [hu]
    split <;> rfl
  unfold State.cleanLine
  split
  · exact .inl rfl
  · next x hx =>
    split
    · exact .inl rfl
    · refine .inr ⟨x, hx, ?_⟩
      split
      · rfl
      · refine hput _ _ ?_
        refine (foldl_keeps State.lines (fun t m => ?_) _ _).trans (State.writeLine_lines s _ _ _)
        split
        · exact State.writeLine_lines t _ _ _
        · rfl

theorem State.mem_putLine {s : State} {x y : Line} (h : y ∈ (s.putLine x).lines) : y = x ∨ y ∈ s.lines := by
  unfold State.putLine at h
  split at h
  · obtain ⟨z, hz, rfl⟩ := List.mem_map.1 h
    split
    · exact .inl rfl
    · exact .inr hz
  · obtain hs | hx := List.mem_append.1 h
    · exact .inr hs
    · exact .inl (List.mem_singleton.1 hx)

/-- Making a line present brings no other line, and no word of another line. -/
theorem State.mem_addLine {s : State} {x y : Line} (h : y ∈ (s.addLine x).lines) :
    y = x ∨ ∃ z ∈ s.lines, y.line = z.line ∧ y.words = z.words := by
  have hplace (hy : y ∈ (s.putLine x).lines) : y = x ∨ ∃ z ∈ s.lines, y.line = z.line ∧ y.words = z.words :=
    (State.mem_putLine hy).imp id (fun hs => ⟨y, hs, rfl, rfl⟩)
  unfold State.addLine at h
  dsimp only at h
  split at h
  · split at h
    · next v _ =>
      refine (State.mem_putLine h).imp id (fun hd => ?_)
      have hc := (List.mem_filter.1 hd).1
      obtain he | ⟨z, hz, he⟩ := State.cleanLine_lines s v.line
      · exact ⟨y, he ▸ hc, rfl, rfl⟩
      · rw [he] at hc
        obtain rfl | hs := State.mem_putLine hc
        · exact ⟨z, List.mem_of_find?_eq_some hz, rfl, rfl⟩
        · exact ⟨y, hs, rfl, rfl⟩
    · exact hplace h
  · exact hplace h

section
variable {s : State} {n : Nat}

theorem State.line_cleanLine_ne {k : Nat} (h : n ≠ k) : (s.cleanLine k).line n = s.line n := by
  obtain he | ⟨x, hx, he⟩ := State.cleanLine_lines s k
  · exact State.line_eq_of_lines he n
  · rw [State.line_eq_of_lines he, State.line_putLine_ne]
    have hk : x.line = k := State.number_of_line hx
    exact fun hn => h (hn.trans hk)

theorem State.line_dropLine_ne {k : Nat} (h : n ≠ k) : (s.dropLine k).line n = s.line n := by
  unfold State.dropLine State.line
  rw [List.find?_filter]
  refine congrFun (congrArg _ (funext fun l => ?_)) _
  by_cases hl : l.line = n
  · simp [hl, h]
  · simp [hl]

/-- A line of another slice does not make way (R36). -/
theorem State.line_addLine_ne {x : Line} (h : homeSlice (n * 64) ≠ homeSlice (x.line * 64)) : (s.addLine x).line n = s.line n := by
  have hne : n ≠ x.line := fun he => h (by rw [he])
  unfold State.addLine
  dsimp only
  split
  · split
    · next v hv =>
      have hvs := (List.mem_filter.1 (List.mem_of_getElem? hv)).2
      simp only [Bool.and_eq_true, beq_iff_eq] at hvs
      have hnv : n ≠ v.line := fun he => h (by rw [he]; exact hvs.1.2)
      rw [State.line_putLine_ne _ hne, State.line_dropLine_ne hnv, State.line_cleanLine_ne hnv]
    · exact State.line_putLine_ne _ hne
  · exact State.line_putLine_ne _ hne

end

/-! ## A doubleword of a present line -/

section
variable {s : State} {va : Nat} {x : Line}

theorem State.homePoke_of_line (hx : s.line (va / 64) = some x) (w : Word) (h : Handle) :
    s.homePoke va w h = s.addLine { x with words := x.words.set (va / 4 % 16) (w, h), dirty := true, used := s.now } := by
  simp only [State.homePoke, State.homeLine, hx]

theorem State.line_homePoke (hx : s.line (va / 64) = some x) (w : Word) (h : Handle) : (s.homePoke va w h).line (va / 64) =
    some { x with words := x.words.set (va / 4 % 16) (w, h), dirty := true, used := s.now } := by
  rw [State.homePoke_of_line hx, ← State.number_of_line hx]
  exact State.line_addLine_same _ _

theorem State.line_homePoke_ne {n : Nat} (hx : s.line (va / 64) = some x) (hn : homeSlice (n * 64) ≠ homeSlice (va / 64 * 64))
    (w : Word) (h : Handle) : (s.homePoke va w h).line n = s.line n := by
  rw [State.homePoke_of_line hx]
  exact State.line_addLine_ne (by rw [State.number_of_line hx]; exact hn)

variable (h8 : va % 8 = 0)
include h8

theorem State.home64_of_line (hx : s.line (va / 64) = some x) : s.home64 va =
    (x.words.getD (va / 4 % 16) (0#32, 0#16)).1.toNat + (x.words.getD (va / 4 % 16 + 1) (0#32, 0#16)).1.toNat * 2 ^ 32 := by
  have h1 : (va + 4) / 64 = va / 64 := by omega
  have h2 : (va + 4) / 4 % 16 = va / 4 % 16 + 1 := by omega
  simp only [State.home64, State.homeWord, State.homeLine, h1, h2, hx, Option.map_some]

/-- A doubleword written: its two words stand in its line. -/
theorem State.line_put64 (hx : s.line (va / 64) = some x) (v : Nat) : ∃ y, (s.put64 va v).line (va / 64) = some y ∧
    y.words = (x.words.set (va / 4 % 16) (BitVec.ofNat 32 v, 0#16)).set (va / 4 % 16 + 1) (BitVec.ofNat 32 (v / 2 ^ 32), 0#16) := by
  have h1 : (va + 4) / 64 = va / 64 := by omega
  have h2 : (va + 4) / 4 % 16 = va / 4 % 16 + 1 := by omega
  have hp := State.line_homePoke hx (BitVec.ofNat 32 v) 0#16
  rw [← h1] at hp
  have hq := State.line_homePoke hp (BitVec.ofNat 32 (v / 2 ^ 32)) 0#16
  rw [h1, h2] at hq
  exact ⟨_, hq, rfl⟩

theorem State.line_put64_ne {n : Nat} (hx : s.line (va / 64) = some x) (hn : homeSlice (n * 64) ≠ homeSlice (va / 64 * 64)) (v : Nat) :
    (s.put64 va v).line n = s.line n := by
  have h1 : (va + 4) / 64 = va / 64 := by omega
  have hp := State.line_homePoke hx (BitVec.ofNat 32 v) 0#16
  rw [← h1] at hp
  rw [State.put64, State.line_homePoke_ne hp (by rw [h1]; exact hn), State.line_homePoke_ne hx hn]

theorem State.home64_put64_same (hx : s.line (va / 64) = some x) (h16 : x.words.length = 16) (v : Nat) :
    (s.put64 va v).home64 va = v % 2 ^ 64 := by
  have hlt : va / 4 % 16 + 1 < 16 := by omega
  obtain ⟨y, hy, hw⟩ := State.line_put64 h8 hx v
  rw [State.home64_of_line h8 hy, hw]
  simp [List.getD_eq_getElem?_getD, h16, hlt, show va / 4 % 16 < 16 by omega]
  omega

/-- Another doubleword of the same line stays. -/
theorem State.home64_put64_line {vb : Nat} (hb8 : vb % 8 = 0) (hl : vb / 64 = va / 64) (hne : vb ≠ va) (hx : s.line (va / 64) = some x)
    (v : Nat) : (s.put64 va v).home64 vb = s.home64 vb := by
  obtain ⟨y, hy, hw⟩ := State.line_put64 h8 hx v
  rw [State.home64_of_line hb8 (hl ▸ hy), State.home64_of_line hb8 (hl ▸ hx), hw]
  have h1 : va / 4 % 16 ≠ vb / 4 % 16 := by omega
  have h2 : va / 4 % 16 + 1 ≠ vb / 4 % 16 := by omega
  have h3 : va / 4 % 16 ≠ vb / 4 % 16 + 1 := by omega
  simp [List.getD_eq_getElem?_getD, List.getElem?_set_ne, h1, h2, h3]

end

theorem State.home64_lt (s : State) (va : Nat) : s.home64 va < 2 ^ 64 := by
  unfold State.home64
  split
  · next lo hi _ _ => have := lo.1.isLt; have := hi.1.isLt; omega
  · decide

/-! ## The object of a domain (R76, R77) -/

/-- Two of the first sixteen lines of an object that begins on 64 KiB stand in two slices (R22). -/
theorem homeSlice_of_object {b i j : Nat} (hb : b % 65536 = 0) (hi : i < 16) (hj : j < 16) (h : i ≠ j) :
    homeSlice ((b / 64 + i) * 64) ≠ homeSlice ((b / 64 + j) * 64) := by
  have hlow {k : Nat} (hk : k < 16) : bits ((b / 64 + k) * 64) 12 6 = k := by unfold bits; omega
  have hdie : homeDie ((b / 64 + i) * 64) = homeDie ((b / 64 + j) * 64) := by unfold homeDie bits; omega
  have h1 : bits ((b / 64 + i) * 64) 19 13 = bits ((b / 64 + j) * 64) 19 13 := by unfold bits; omega
  have h2 : bits ((b / 64 + i) * 64) 26 20 = bits ((b / 64 + j) * 64) 26 20 := by unfold bits; omega
  have h3 : bits ((b / 64 + i) * 64) 33 27 = bits ((b / 64 + j) * 64) 33 27 := by unfold bits; omega
  have h4 : bits ((b / 64 + i) * 64) 40 34 = bits ((b / 64 + j) * 64) 40 34 := by unfold bits; omega
  have h5 : bits ((b / 64 + i) * 64) 47 41 = bits ((b / 64 + j) * 64) 47 41 := by unfold bits; omega
  have h6 : bits ((b / 64 + i) * 64) 49 48 = bits ((b / 64 + j) * 64) 49 48 := by unfold bits; omega
  unfold homeSlice sectorOf
  rw [hlow hi, hlow hj, hdie, h1, h2, h3, h4, h5, h6]
  intro he
  simp only [Nat.add_left_cancel_iff, Nat.xor_left_inj] at he
  exact h he

/-- Line `i` of domain `n`'s object is present. -/
def State.hasLine (s : State) (n i : Nat) : Prop := ∃ x, s.line (s.domBase n / 64 + i) = some x ∧ x.words.length = 16

/-- The doubleword at offset `o` of domain `n`'s object. -/
def State.word (s : State) (n o : Nat) : Nat := s.home64 (s.domBase n + o)

/-- A doubleword of domain `n`'s object written. -/
def State.putWord (s : State) (n o v : Nat) : State := s.put64 (s.domBase n + o) v

theorem State.domBase_aligned (s : State) (n : Nat) : s.domBase n % 65536 = 0 := by simp [State.domBase]

theorem Stores.putWord (s : State) (n o v : Nat) : Stores s (s.putWord n o v) := .put64 s _ _

theorem State.hasLine_of_lines {s t : State} {n i : Nat} (h : s.hasLine n i) (hl : t.lines = s.lines) (hb : t.domBase n = s.domBase n) :
    t.hasLine n i := by
  obtain ⟨x, hx, h16⟩ := h
  exact ⟨x, by rw [State.line_eq_of_lines hl, hb]; exact hx, h16⟩

section
variable {s : State} {n : Nat}

/-- A doubleword of a present line is read from the line, whatever else a state holds. -/
theorem State.word_of_lines {t : State} {o : Nat} (h : s.hasLine n (o / 64)) (ho : o % 8 = 0) (hl : t.lines = s.lines)
    (hb : t.domBase n = s.domBase n) : t.word n o = s.word n o := by
  obtain ⟨x, hx, -⟩ := h
  have hal := s.domBase_aligned n
  have hdiv : s.domBase n / 64 + o / 64 = (s.domBase n + o) / 64 := by omega
  rw [hdiv] at hx
  unfold State.word
  rw [hb, State.home64_of_line (by omega) hx, State.home64_of_line (by omega) ((State.line_eq_of_lines hl _).trans hx)]

variable {o : Nat} (ho : o % 8 = 0) (ho' : o < 1024) (h : s.hasLine n (o / 64)) (v : Nat)
include ho ho' h

theorem State.hasLine_putWord {i : Nat} (hi : i < 16) (h' : s.hasLine n i) : (s.putWord n o v).hasLine n i := by
  obtain ⟨x, hx, h16⟩ := h
  obtain ⟨y, hy, hy16⟩ := h'
  have hal := s.domBase_aligned n
  have hdiv : s.domBase n / 64 + o / 64 = (s.domBase n + o) / 64 := by omega
  have hx' := hdiv ▸ hx
  unfold State.hasLine
  rw [(Stores.putWord s n o v).domBase]
  by_cases he : i = o / 64
  · obtain ⟨z, hz, hw⟩ := State.line_put64 (by omega) hx' v
    exact ⟨z, by rw [he, hdiv]; exact hz, by rw [hw]; simpa using h16⟩
  · refine ⟨y, ?_, hy16⟩
    rw [State.putWord, State.line_put64_ne (by omega) hx' (by rw [← hdiv]; exact homeSlice_of_object hal hi (by omega) he)]
    exact hy

/-- What is written in a domain's object is read there, and its other doublewords stay. -/
theorem State.word_putWord {p : Nat} (hp : p % 8 = 0) (hp' : p < 1024) (h' : s.hasLine n (p / 64)) :
    (s.putWord n o v).word n p = if p = o then v % 2 ^ 64 else s.word n p := by
  obtain ⟨x, hx, h16⟩ := h
  obtain ⟨y, hy, -⟩ := h'
  have hal := s.domBase_aligned n
  have hdiv : s.domBase n / 64 + o / 64 = (s.domBase n + o) / 64 := by omega
  have hdiv' : s.domBase n / 64 + p / 64 = (s.domBase n + p) / 64 := by omega
  rw [hdiv] at hx
  rw [hdiv'] at hy
  unfold State.word
  rw [(Stores.putWord s n o v).domBase]
  unfold State.putWord
  split
  · next he => rw [he, State.home64_put64_same (by omega) hx h16]
  · next he =>
    by_cases hl : p / 64 = o / 64
    · exact State.home64_put64_line (by omega) (by omega) (by omega) (by omega) hx v
    · have hy' := (State.line_put64_ne (n := (s.domBase n + p) / 64) (by omega) hx
        (by rw [← hdiv, ← hdiv']; exact homeSlice_of_object hal (by omega) (by omega) hl) v).trans hy
      rw [State.home64_of_line (by omega) hy', State.home64_of_line (by omega) hy]

end

end Sys2Proof.Machine
end

section
/-! SUPPORT. The operations on a domain's object, each by the doublewords that it leaves (R77 to R79, R97, R98). -/

namespace Sys2Proof.Machine
open Sys2Proof.Claims

/-! ## Numbers of slot sets -/

theorem bitAt_eq_testBit (v i : Nat) : bitAt v i = v.testBit i := by
  rw [Nat.testBit_eq_decide_div_mod_eq, bitAt, Bool.beq_eq_decide_eq]

theorem slotBit_toNat {k : Nat} (hk : k < 64) : (slotBit k).toNat = 2 ^ k := by
  have hlt : 2 ^ k < 2 ^ 64 := Nat.pow_lt_pow_right (by omega) hk
  rw [slotBit, BitVec.toNat_shiftLeft, Nat.shiftLeft_eq, BitVec.toNat_ofNat, Nat.one_mod_eq_one.2 (by decide), Nat.one_mul, Nat.mod_eq_of_lt hlt]

theorem slotBit_eq_ofNat {k : Nat} (hk : k < 64) : slotBit k = BitVec.ofNat 64 (2 ^ k) :=
  BitVec.eq_of_toNat_eq (by
    rw [slotBit_toNat hk, BitVec.toNat_ofNat, Nat.mod_eq_of_lt (Nat.pow_lt_pow_right (by omega) hk)])

section
variable {a k : Nat} (ha : a < 2 ^ 64) (hk : k < 64)
include ha hk

theorem toNat_or_slotBit : (BitVec.ofNat 64 a ||| slotBit k).toNat = a ||| 2 ^ k := by
  rw [BitVec.toNat_or, slotBit_toNat hk, BitVec.toNat_ofNat, Nat.mod_eq_of_lt ha]

theorem slotBit_subset (hb : a.testBit k = true) : BitVec.ofNat 64 a &&& slotBit k = slotBit k := by
  refine BitVec.eq_of_toNat_eq ?_
  rw [BitVec.toNat_and, slotBit_toNat hk, BitVec.toNat_ofNat, Nat.mod_eq_of_lt ha, Nat.and_two_pow, hb]
  simp

omit ha in
theorem slotBit_disjoint (hb : a.testBit k = false) : slotBit k &&& ~~~BitVec.ofNat 64 a = slotBit k := by
  refine BitVec.eq_of_getLsbD_eq fun i hi => ?_
  rw [BitVec.getLsbD_and, BitVec.getLsbD_not, slotBit_eq_ofNat hk, BitVec.getLsbD_ofNat, BitVec.getLsbD_ofNat, Nat.testBit_two_pow]
  by_cases he : k = i
  · subst he
    simp [hi, hb]
  · simp [he]

/-- A slot set without one of its slots. -/
theorem toNat_clear_slotBit (hb : a.testBit k = true) : (BitVec.ofNat 64 a &&& ~~~slotBit k).toNat = a - 2 ^ k := by
  have hsub := slotBit_subset ha hk hb
  have hle : slotBit k ≤ BitVec.ofNat 64 a := by
    rw [BitVec.le_def, ← hsub, BitVec.toNat_and]
    exact Nat.and_le_left
  have hdis : (BitVec.ofNat 64 a &&& ~~~slotBit k) &&& slotBit k = 0#64 := by
    rw [BitVec.and_assoc, BitVec.and_comm (~~~slotBit k), BitVec.and_not_self]
    exact BitVec.and_zero
  have hsum : (BitVec.ofNat 64 a &&& ~~~slotBit k) + slotBit k = BitVec.ofNat 64 a := by
    rw [BitVec.add_eq_or_of_and_eq_zero _ _ hdis]
    refine BitVec.eq_of_getLsbD_eq fun i hi => ?_
    have hi' := congrArg (fun x : Dword => x.getLsbD i) hsub
    simp only [BitVec.getLsbD_and, BitVec.getLsbD_or, BitVec.getLsbD_not] at hi' ⊢
    cases hx : (BitVec.ofNat 64 a).getLsbD i <;> cases hy : (slotBit k).getLsbD i <;> simp_all
  rw [eq_comm, ← BitVec.sub_eq_iff_eq_add] at hsum
  rw [← hsum, BitVec.toNat_sub_of_le hle, slotBit_toNat hk, BitVec.toNat_ofNat, Nat.mod_eq_of_lt ha]

end

/-! ## What the home keeps beside the object -/

/-- What the answer of a home rests on: the time, where the objects lie, and which operations there are. -/
structure Served (s t : State) : Prop where
  now : t.now = s.now
  base : ∀ n, t.domBase n = s.domBase n
  ops : t.domOps.map DomOp.id = s.domOps.map DomOp.id

theorem Served.refl (s : State) : Served s s := ⟨rfl, fun _ => rfl, rfl⟩

theorem Served.trans {s t u : State} (h : Served s t) (h' : Served t u) : Served s u :=
  ⟨h'.now.trans h.now, fun n => (h'.base n).trans (h.base n), h'.ops.trans h.ops⟩

theorem Stores.served {s t : State} (h : Stores s t) : Served s t := ⟨h.now, h.domBase, by rw [h.domOps]⟩

/-- What `wakeUpdate` leaves alone of a home. -/
def State.homePart (s : State) : Nat × NMap Dword × List Nat × List Line × List (Nat × Nat) :=
  (s.now, s.directory, s.domOps.map DomOp.id, s.lines, s.aborted)

theorem State.homePart_newEra (s : State) (k : Nat) (era : BitVec 4) : (s.newEra k era).homePart = s.homePart := by
  have hops : (s.domOps.map (fun o => if o.core = k then { o with lbl := eraIn o.lbl } else o)).map DomOp.id = s.domOps.map DomOp.id := by
    rw [List.map_map]
    refine List.map_congr_left fun o _ => ?_
    rw [Function.comp_apply]
    split <;> rfl
  exact congrArg (fun l => (s.now, s.directory, l, s.lines, s.aborted)) hops

theorem State.homePart_takeView (s : State) (k : Nat) (clear : Bool) : (s.takeView k clear).homePart = s.homePart := by
  unfold State.takeView
  split
  · rfl
  · dsimp only
    split
    · rfl
    · rw [State.homePart_newEra]
      rfl

theorem State.homePart_wakeUpdate (s : State) (n : Nat) : (s.wakeUpdate n).homePart = s.homePart := by
  unfold State.wakeUpdate
  refine foldl_keeps State.homePart (fun t p => ?_) _ _
  split
  · exact State.homePart_takeView (t.acquire p.1) p.1 false
  · rfl

theorem State.lines_wakeUpdate (s : State) (n : Nat) : (s.wakeUpdate n).lines = s.lines := congrArg (fun p => p.2.2.2.1) (s.homePart_wakeUpdate n)

theorem State.domBase_of_directory {s t : State} (h : t.directory = s.directory) (n : Nat) : t.domBase n = s.domBase n := by
  unfold State.domBase State.dirEntry
  rw [h]

theorem Served.wakeUpdate (s : State) (n : Nat) : Served s (s.wakeUpdate n) where
  now := congrArg (·.1) (s.homePart_wakeUpdate n)
  base := State.domBase_of_directory (congrArg (·.2.1) (s.homePart_wakeUpdate n))
  ops := congrArg (·.2.2.1) (s.homePart_wakeUpdate n)

theorem Served.answerOp (s : State) (o : DomOp) : Served s (s.answerOp o) where
  now := rfl
  base _ := rfl
  ops := by
    refine (List.map_map).trans (List.map_congr_left fun x _ => ?_)
    rw [Function.comp_apply]
    split
    · next h => exact h.symm
    · rfl

/-- The answer of an operation that the home has performed. -/
theorem Served.answeredAs {s t : State} (h : Served s t) {o y : DomOp} (ho : o ∈ s.domOps) (hid : y.id = o.id) (hcore : y.core = o.core)
    (hdom : y.dom = o.dom) : AnsweredAs s (t.answerOp y) o y := by
  constructor
  · obtain ⟨x, hx, he⟩ := List.mem_map.1 (h.ops ▸ List.mem_map_of_mem (f := DomOp.id) ho)
    exact List.mem_map.2 ⟨x, hx, if_pos (he.trans hid.symm)⟩
  · refine ⟨_, State.mem_plan _ _ _ _ _, rfl, hid, ?_⟩
    show 4 * (t.now + (1 + homePath y.core (t.domBase y.dom))) + 0 = _
    rw [h.now, h.base, hcore, hdom]
    omega

/-! ## The doublewords that an operation leaves -/

/-- `t` holds domain `n`'s object with `f` at its offsets, as far as `s` has its lines. -/
structure ObjectAs (s t : State) (n : Nat) (f : Nat → Nat) : Prop where
  served : Served s t
  keeps : ∀ i, i < 16 → s.hasLine n i → t.hasLine n i
  word : ∀ p, p % 8 = 0 → p < 1024 → s.hasLine n (p / 64) → t.word n p = f p

theorem ObjectAs.refl (s : State) (n : Nat) : ObjectAs s s n (s.word n) := ⟨.refl s, fun _ _ => id, fun _ _ _ _ => rfl⟩

section
variable {s t : State} {n : Nat} {f : Nat → Nat} (h : ObjectAs s t n f)
include h

/-- What changes neither the lines nor what the answer rests on leaves the object. -/
theorem ObjectAs.of_lines {u : State} (hs : Served t u) (hl : u.lines = t.lines) : ObjectAs s u n f where
  served := h.served.trans hs
  keeps i hi hh := State.hasLine_of_lines (h.keeps i hi hh) hl (hs.base n)
  word p h8 hp hh := (State.word_of_lines (h.keeps _ (by omega) hh) h8 hl (hs.base n)).trans (h.word p h8 hp hh)

theorem ObjectAs.putWord {o : Nat} (ho : o % 8 = 0) (ho' : o < 1024) (hl : s.hasLine n (o / 64)) (v : Nat) :
    ObjectAs s (t.putWord n o v) n (Function.update f o (v % 2 ^ 64)) where
  served := h.served.trans (Stores.putWord t n o v).served
  keeps i hi hh := State.hasLine_putWord ho ho' (h.keeps _ (by omega) hl) v hi (h.keeps i hi hh)
  word p h8 hp hh := by
    rw [State.word_putWord ho ho' (h.keeps _ (by omega) hl) v h8 hp (h.keeps _ (by omega) hh), Function.update_apply, h.word p h8 hp hh]

theorem ObjectAs.unpair (k : Nat) : ObjectAs s (t.unpair n k) n f := h.of_lines ⟨rfl, fun _ => rfl, rfl⟩ rfl

theorem ObjectAs.domTick (hl : s.hasLine n 0) : ObjectAs s (t.domTick n) n (Function.update f 8 ((f 8 + 1) % 2 ^ 64)) := by
  have hw : t.domUpdate n = f 8 := h.word 8 rfl (by omega) hl
  have hp := h.putWord (o := 8) rfl (by omega) hl ((t.domUpdate n + 1) % 2 ^ 64)
  rw [Nat.mod_mod, hw] at hp
  unfold State.domTick
  rw [hw]
  exact hp.of_lines (Served.wakeUpdate _ n) (State.lines_wakeUpdate _ n)

theorem ObjectAs.answerOp (o : DomOp) : ObjectAs s (t.answerOp o) n f := h.of_lines (Served.answerOp t o) rfl

end

/-! ## Nogood lists -/

/-- Every line of domain `n`'s nogood list, and that of its count, is present. -/
def State.hasNogoods (s : State) (n : Nat) : Prop := s.hasLine n 0 ∧ ∀ i, i < 8 → s.hasLine n (4 + i)

/-- The nogood list in an object (R77). -/
def nogoodsOf (f : Nat → Nat) : List Dword := (List.range (min 64 (f 0x28))).map (fun i => BitVec.ofNat 64 (f (0x100 + 8 * i)))

theorem State.domNogoods_eq (s : State) (n : Nat) : s.domNogoods n = nogoodsOf (s.word n) := by
  refine List.map_congr_left fun i _ => ?_
  simp only [State.word, Nat.add_assoc]

theorem nogoodsOf_congr {f g : Nat → Nat} (hc : f 0x28 = g 0x28) (h : ∀ p, 0x100 ≤ p → f p = g p) : nogoodsOf f = nogoodsOf g := by
  unfold nogoodsOf
  rw [hc]
  exact List.map_congr_left fun i _ => by rw [h _ (by omega)]

theorem ObjectAs.domNogoods {s t : State} {n : Nat} {f : Nat → Nat} (h : ObjectAs s t n f) (hl : s.hasNogoods n) :
    t.domNogoods n = nogoodsOf f := by
  obtain ⟨h0, h4⟩ := hl
  rw [State.domNogoods_eq]
  unfold nogoodsOf
  rw [h.word 0x28 rfl (by omega) h0]
  refine List.map_congr_left fun i hi => ?_
  have hi' : i < 64 := by have := List.mem_range.1 hi; omega
  have hdiv : (0x100 + 8 * i) / 64 = 4 + i / 8 := by omega
  rw [h.word _ (by omega) (by omega) (by rw [hdiv]; exact h4 _ (by omega))]

theorem ObjectAs.putList {s t : State} {n : Nat} {f : Nat → Nat} (h : ObjectAs s t n f) (hl : s.hasNogoods n) (l : List Dword) (k : Nat)
    (hk : k + l.length ≤ 64) : ∃ g, ObjectAs s ((l.zipIdx k).foldl (fun s p => s.put64 (s.domBase n + 0x100 + 8 * p.2) p.1.toNat) t) n g ∧
      (∀ p, p < 0x100 + 8 * k → g p = f p) ∧ ∀ i, ∀ x ∈ l[i]?, g (0x100 + 8 * (k + i)) = x.toNat := by
  induction l generalizing t f k with
  | nil => exact ⟨f, h, fun _ _ => rfl, by simp⟩
  | cons x r ih =>
    rw [List.length_cons] at hk
    have hdiv : (0x100 + 8 * k) / 64 = 4 + k / 8 := by omega
    have hput := h.putWord (o := 0x100 + 8 * k) (by omega) (by omega) (by rw [hdiv]; exact hl.2 _ (by omega)) x.toNat
    obtain ⟨g, hg, hlow, hnew⟩ := ih hput (k + 1) (by omega)
    refine ⟨g, ?_, fun p hp => ?_, fun i y hy => ?_⟩
    · rw [List.zipIdx_cons, List.foldl_cons]
      simpa only [State.putWord, Nat.add_assoc] using hg
    · rw [hlow p (by omega), Function.update_of_ne (by omega)]
    · cases i with
      | zero =>
        obtain rfl : x = y := by simpa using hy
        rw [Nat.add_zero, hlow _ (by omega), Function.update_self, Nat.mod_eq_of_lt x.isLt]
      | succ i =>
        rw [show k + (i + 1) = k + 1 + i by omega]
        exact hnew i y (by simpa using hy)

/-- A nogood list written, with its count; the words before the count stay. -/
theorem ObjectAs.putNogoods {s t : State} {n : Nat} {f : Nat → Nat} (h : ObjectAs s t n f) (hl : s.hasNogoods n) {l : List Dword}
    (hlen : l.length ≤ 64) : ∃ g, ObjectAs s (t.putNogoods n l) n g ∧ (∀ p, p < 0x28 → g p = f p) ∧ nogoodsOf g = l := by
  obtain ⟨g, hg, hlow, hnew⟩ := (h.putWord (o := 0x28) rfl (by omega) hl.1 l.length).putList hl l 0 (by omega)
  refine ⟨g, hg, fun p hp => ?_, ?_⟩
  · rw [hlow p (by omega), Function.update_of_ne (by omega)]
  · have hcount : min 64 (g 0x28) = l.length := by
      rw [hlow _ (by omega), Function.update_self]
      omega
    refine List.ext_getElem (by simp [nogoodsOf, hcount]) fun i hi hi' => ?_
    have hx := hnew i l[i] (by simp [hi'])
    rw [Nat.zero_add] at hx
    simp [nogoodsOf, hx]

end Sys2Proof.Machine
end

section
/-! SUPPORT. What the home of a domain does with each operation (R78, R79, R97, R98, R278, R281). -/

namespace Sys2Proof.Machine
open Sys2Proof.Claims

/-! ## The words of a domain after a change -/

section
variable {s t : State} {n : Nat} {f : Nat → Nat}

theorem State.word_zero (s : State) (n : Nat) : s.word n 0 = s.home64 (s.domBase n) := by rw [State.word, Nat.add_zero]

/-- The words of a domain that stand in the object's first line. -/
theorem ObjectAs.words (h : ObjectAs s t n f) (h0 : s.hasLine n 0) : t.domOpen n = f 0x20 ∧ t.domAsserted n = f 0x10 ∧
    t.domRetracted n = f 0x18 ∧ t.domNgCount n = f 0x28 ∧ t.domUpdate n = f 8 ∧ t.domEra n = f 0 % 16 := by
  have hw (p : Nat) (h8 : p % 8 = 0) (hp : p < 64) : t.word n p = f p := h.word p h8 (by omega) (by rwa [Nat.div_eq_of_lt hp])
  have he := hw 0 rfl (by omega)
  rw [State.word_zero] at he
  refine ⟨hw 0x20 rfl (by omega), hw 0x10 rfl (by omega), hw 0x18 rfl (by omega), hw 0x28 rfl (by omega), hw 8 rfl (by omega), ?_⟩
  rw [State.domEra, he, bits]
  omega

theorem ObjectAs.domainIs (h : ObjectAs s t n f) (h0 : s.hasLine n 0) (hera : f 0 = s.word n 0)
    (hupd : f 8 = (s.domUpdate n + 1) % 2 ^ 64) : DomainIs s t n (f 0x20) (f 0x10) (f 0x18) := by
  obtain ⟨hopen, hasserted, hretracted, -, hu, he⟩ := h.words h0
  obtain ⟨-, -, -, -, -, hs⟩ := (ObjectAs.refl s n).words h0
  exact ⟨hopen, hasserted, hretracted, hu.trans hupd, by rw [he, hera, hs]⟩

/-- An answer sent leaves the words. -/
theorem ObjectAs.domainIs_answerOp (h : ObjectAs s t n f) (h0 : s.hasLine n 0) {a b c : Nat} (his : DomainIs s t n a b c) (y : DomOp) :
    DomainIs s (t.answerOp y) n a b c := by
  obtain ⟨hopen, hasserted, hretracted, -, hu, he⟩ := h.words h0
  obtain ⟨hopen', hasserted', hretracted', -, hu', he'⟩ := (h.answerOp y).words h0
  rw [DomainIs, hopen, hasserted, hretracted, hu, he] at his
  rwa [DomainIs, hopen', hasserted', hretracted', hu', he']

theorem ObjectAs.domNogoods_answerOp (h : ObjectAs s t n f) (hl : s.hasNogoods n) (y : DomOp) :
    (t.answerOp y).domNogoods n = t.domNogoods n := ((h.answerOp y).domNogoods hl).trans (h.domNogoods hl).symm

theorem State.domOpen_lt (s : State) (n : Nat) : s.domOpen n < 2 ^ 64 := s.home64_lt _
theorem State.domAsserted_lt (s : State) (n : Nat) : s.domAsserted n < 2 ^ 64 := s.home64_lt _
theorem State.domRetracted_lt (s : State) (n : Nat) : s.domRetracted n < 2 ^ 64 := s.home64_lt _

theorem State.lowestFree_lt {k : Nat} (h : s.lowestFree n = some k) : k < 64 := List.mem_range.1 (List.mem_of_find?_eq_some h)

variable (h0 : s.hasLine n 0) {k : Nat} (hk : k < 64)
include h0 hk

theorem State.openSlot_is : ∃ f, ObjectAs s (s.openSlot n k) n f ∧
    DomainIs s (s.openSlot n k) n (s.domOpen n ||| 2 ^ k) (s.domAsserted n) (s.domRetracted n) := by
  have hlt : s.domOpen n ||| 2 ^ k < 2 ^ 64 := Nat.or_lt_two_pow (s.domOpen_lt n) (Nat.pow_lt_pow_right (by omega) hk)
  have hobj := ((ObjectAs.refl s n).putWord (o := 0x20) rfl (by omega) h0
    (BitVec.ofNat 64 (s.domOpen n) ||| slotBit k).toNat).domTick h0
  rw [toNat_or_slotBit (s.domOpen_lt n) hk, Nat.mod_eq_of_lt hlt] at hobj
  have hopen : s.openSlot n k = (s.putWord n 0x20 (s.domOpen n ||| 2 ^ k)).domTick n := by
    unfold State.openSlot
    rw [toNat_or_slotBit (s.domOpen_lt n) hk]
    rfl
  rw [hopen]
  exact ⟨_, hobj, hobj.domainIs h0 rfl rfl⟩

theorem State.assertSlot_is (hb : (s.domOpen n).testBit k = true) : ∃ f, ObjectAs s (s.assertSlot n k) n f ∧
    DomainIs s (s.assertSlot n k) n (s.domOpen n - 2 ^ k) (s.domAsserted n ||| 2 ^ k) (s.domRetracted n) := by
  have hlt : s.domAsserted n ||| 2 ^ k < 2 ^ 64 := Nat.or_lt_two_pow (s.domAsserted_lt n) (Nat.pow_lt_pow_right (by omega) hk)
  have hclear := (ObjectAs.refl s n).putWord (o := 0x20) rfl (by omega) h0 (s.domOpen n - 2 ^ k)
  have hset := ((hclear.putWord (o := 0x10) rfl (by omega) h0 (s.domAsserted n ||| 2 ^ k)).unpair k).domTick h0
  rw [Nat.mod_eq_of_lt hlt, Nat.mod_eq_of_lt (Nat.lt_of_le_of_lt (Nat.sub_le _ _) (s.domOpen_lt n))] at hset
  have hassert : s.assertSlot n k =
      (((s.putWord n 0x20 (s.domOpen n - 2 ^ k)).putWord n 0x10 (s.domAsserted n ||| 2 ^ k)).unpair n k).domTick n := by
    have ha : (s.putWord n 0x20 (s.domOpen n - 2 ^ k)).domAsserted n = s.domAsserted n := hclear.word 0x10 rfl (by omega) h0
    unfold State.assertSlot
    rw [toNat_clear_slotBit (s.domOpen_lt n) hk hb]
    dsimp only
    rw [show (s.put64 (s.domBase n + 0x20) (s.domOpen n - 2 ^ k)).domAsserted n = s.domAsserted n from ha,
      toNat_or_slotBit (s.domAsserted_lt n) hk]
    rfl
  rw [hassert]
  exact ⟨_, hset, hset.domainIs h0 rfl rfl⟩

end

/-! ## Nogoods recorded (R79) -/

section
variable {s : State} {n : Nat} {e m : Dword} {but : Option Nat} (hm : e &&& ~~~BitVec.ofNat 64 (s.domAsserted n) = m)
include hm

theorem State.recordAt_illegal (h : m = 0#64 ∨ m &&& s.domFree n ≠ 0#64) : s.recordAt n e but = .inl 0x01 := by
  simp [State.recordAt, hm, h, cIllegal]

variable (hok : m ≠ 0#64) (hfree : m &&& s.domFree n = 0#64)
include hok hfree

theorem State.recordAt_stands (h : m &&& BitVec.ofNat 64 (s.domRetracted n) ≠ 0#64 ∨ ∃ g ∈ s.domNogoods n, g &&& m = g) :
    s.recordAt n e but = .inr s := by
  rw [← refuted_iff] at h
  simp [State.recordAt, hm, hok, hfree, h]

variable (hret : m &&& BitVec.ofNat 64 (s.domRetracted n) = 0#64) (hnew : ∀ g ∈ s.domNogoods n, g &&& m ≠ g)
include hret hnew

theorem State.recordAt_new : s.recordAt n e but =
    (let l := insertSorted m ((s.domNogoods n).filter (fun g => !subset m g))
     if 64 - s.pairedOpen n but < l.length then .inl 0x0A else .inr (s.putNogoods n l)) := by
  have href : refuted (s.domNogoods n) m = false := by
    rw [Bool.eq_false_iff, Ne, refuted_iff]
    exact fun ⟨g, hg, he⟩ => hnew g hg he
  simp [State.recordAt, hm, hok, hfree, hret, href, recordNogood, cNogoodFull]

end

/-- `u` is `s` with `l` as domain `n`'s nogood list, its words before the count as they were. -/
def Records (s u : State) (n : Nat) (l : List Dword) : Prop :=
  ∃ g, ObjectAs s u n g ∧ (∀ p, p < 0x28 → g p = s.word n p) ∧ nogoodsOf g = l

theorem Records.refl (s : State) (n : Nat) : Records s s n (s.domNogoods n) :=
  ⟨_, .refl s n, fun _ _ => rfl, (s.domNogoods_eq n).symm⟩

theorem Records.putNogoods {s : State} {n : Nat} (hl : s.hasNogoods n) {l : List Dword} (h : l.length ≤ 64) :
    Records s (s.putNogoods n l) n l := (ObjectAs.refl s n).putNogoods hl h

/-- A change of a word before the count leaves the nogood list. -/
theorem nogoodsOf_update {f : Nat → Nat} {o : Nat} (ho : o < 0x28) (v : Nat) : nogoodsOf (Function.update f o v) = nogoodsOf f :=
  nogoodsOf_congr (Function.update_of_ne (by omega) _ _) (fun _ hp => Function.update_of_ne (by omega) _ _)

section
variable {s u : State} {n : Nat} {l : List Dword} (h : Records s u n l) (hl : s.hasNogoods n)
include h hl

theorem Records.tick : (u.domTick n).domNogoods n = l ∧ (∃ f, ObjectAs s (u.domTick n) n f) ∧
    DomainIs s (u.domTick n) n (s.domOpen n) (s.domAsserted n) (s.domRetracted n) := by
  obtain ⟨g, hg, hlow, rfl⟩ := h
  have ht := hg.domTick hl.1
  have hupd : g 8 = s.domUpdate n := hlow 8 (by omega)
  have hera : g 0 = s.word n 0 := hlow 0 (by omega)
  refine ⟨(ht.domNogoods hl).trans (nogoodsOf_update (by omega) _), ⟨_, ht⟩, ?_⟩
  have his := ht.domainIs hl.1 (by simp [hera]) (by simp [hupd])
  simpa [show g 0x20 = s.domOpen n from hlow 0x20 (by omega), show g 0x10 = s.domAsserted n from hlow 0x10 (by omega),
    show g 0x18 = s.domRetracted n from hlow 0x18 (by omega)] using his

/-- An open slot that is retracted after its nogood (R78, R97). -/
theorem Records.close {k : Nat} (hk : k < 64) (hb : (s.domOpen n).testBit k = true)
    (hr : s.recordAt n (slotBit k) (some k) = .inr u) : ∃ v, s.retractSlot n k = .inr v ∧ v.domNogoods n = l ∧ (∃ f, ObjectAs s v n f) ∧
      DomainIs s v n (s.domOpen n - 2 ^ k) (s.domAsserted n) (s.domRetracted n ||| 2 ^ k) := by
  obtain ⟨g, hg, hlow, rfl⟩ := h
  have hlt : s.domRetracted n ||| 2 ^ k < 2 ^ 64 := Nat.or_lt_two_pow (s.domRetracted_lt n) (Nat.pow_lt_pow_right (by omega) hk)
  have hclear := hg.putWord (o := 0x20) rfl (by omega) hl.1 (s.domOpen n - 2 ^ k)
  have hset := ((hclear.putWord (o := 0x18) rfl (by omega) hl.1 (s.domRetracted n ||| 2 ^ k)).unpair k).domTick hl.1
  rw [Nat.mod_eq_of_lt hlt, Nat.mod_eq_of_lt (Nat.lt_of_le_of_lt (Nat.sub_le _ _) (s.domOpen_lt n))] at hset
  have hopen : u.domOpen n = s.domOpen n := (hg.word 0x20 rfl (by omega) hl.1).trans (hlow 0x20 (by omega))
  have hret : (u.put64 (u.domBase n + 0x20) (s.domOpen n - 2 ^ k)).domRetracted n = s.domRetracted n :=
    (hclear.word 0x18 rfl (by omega) hl.1).trans ((Function.update_of_ne (by omega) _ _).trans (hlow 0x18 (by omega)))
  refine ⟨_, ?_, (hset.domNogoods hl).trans ?_, ⟨_, hset⟩, ?_⟩
  · unfold State.retractSlot
    simp only [hr, hopen, toNat_clear_slotBit (s.domOpen_lt n) hk hb, hret, toNat_or_slotBit (s.domRetracted_lt n) hk]
    rfl
  · simp only [nogoodsOf_update (show 8 < 0x28 by omega), nogoodsOf_update (show 0x18 < 0x28 by omega),
      nogoodsOf_update (show 0x20 < 0x28 by omega)]
  · have his := hset.domainIs hl.1 (by simp [hlow 0 (by omega)]) (by simp [hlow 8 (by omega)]; rfl)
    simpa [show g 0x10 = s.domAsserted n from hlow 0x10 (by omega)] using his

end

end Sys2Proof.Machine
end

section
/-! SUPPORT. SETTLE at the home of a domain: its words, and the label table set to zero (R98, R281). -/

namespace Sys2Proof.Machine
open Sys2Proof.Claims

/-- Every line in a range of addresses holds zeros under TRUE. -/
def State.zeroed (s : State) (lo hi : Nat) : Prop :=
  ∀ x ∈ s.lines, lo ≤ x.line * 64 → x.line * 64 < hi → ∀ w ∈ x.words, w = (0#32, 0x0000#16)

theorem State.zeroed_answerOp {s : State} {lo hi : Nat} (h : s.zeroed lo hi) (y : DomOp) : (s.answerOp y).zeroed lo hi := h

/-- A line of `zeroRange`: emptied in the range, as it was outside. -/
def zeroLine (va n : Nat) (l : Line) : Line :=
  if va ≤ l.line * 64 && decide (l.line * 64 < va + n) then { l with words := l.words.map (fun _ => (0#32, hTrue)) } else l

theorem zeroLine_line (va n : Nat) (l : Line) : (zeroLine va n l).line = l.line := by
  unfold zeroLine
  split <;> rfl

section
variable (s : State) (va n : Nat)

theorem State.zeroRange_parts : (s.zeroRange va n).lines = s.lines.map (zeroLine va n) ∧ Served s (s.zeroRange va n) := by
  have hkeeps {β : Type} (part : State → β) (hm : ∀ (t : State) m, part { t with mem := m } = part t) :
      part (s.zeroRange va n) = part { s with lines := s.lines.map (zeroLine va n) } := by
    refine foldl_keeps part (fun t i => ?_) _ _
    split
    · rfl
    · exact hm t _
  exact ⟨hkeeps State.lines (fun _ _ => rfl), hkeeps State.now (fun _ _ => rfl),
    State.domBase_of_directory (hkeeps State.directory (fun _ _ => rfl)), congrArg _ (hkeeps State.domOps (fun _ _ => rfl))⟩

theorem State.zeroed_zeroRange : (s.zeroRange va n).zeroed va (va + n) := by
  intro x hx hlo hhi w hw
  rw [(s.zeroRange_parts va n).1] at hx
  obtain ⟨l, -, rfl⟩ := List.mem_map.1 hx
  rw [zeroLine_line] at hlo hhi
  rw [zeroLine, if_pos (by simp [hlo, hhi])] at hw
  obtain ⟨-, -, rfl⟩ := List.mem_map.1 hw
  rfl

theorem State.line_zeroRange {k : Nat} (hk : k * 64 < va ∨ va + n ≤ k * 64) : (s.zeroRange va n).line k = s.line k := by
  unfold State.line
  rw [(s.zeroRange_parts va n).1, find?_map_of_key _ (fun l => by rw [zeroLine_line])]
  cases hf : s.lines.find? (fun l => l.line == k) with
  | none => rfl
  | some l =>
    have hl : l.line = k := by simpa using List.find?_some hf
    rw [Option.map_some, zeroLine, if_neg (by simp only [Bool.and_eq_true, decide_eq_true_eq, hl]; omega)]

end

/-- A doubleword written in a present line outside the range brings nothing into it. -/
theorem State.zeroed_put64 {s : State} {lo hi a : Nat} (h : s.zeroed lo hi) {x : Line} (hx : s.line (a / 64) = some x) (h8 : a % 8 = 0)
    (ha : a < lo) (v : Nat) : (s.put64 a v).zeroed lo hi := by
  have hpoke {t : State} {b : Nat} (ht : t.zeroed lo hi) (hb : b / 64 = a / 64) {z : Line} (hz : t.line (b / 64) = some z) (w : Word) :
      (t.homePoke b w 0#16).zeroed lo hi := by
    have hzl : z.line = b / 64 := State.number_of_line hz
    rw [State.homePoke_of_line hz]
    intro y hy hlo hhi
    obtain rfl | ⟨q, hq, hl, hw⟩ := State.mem_addLine hy
    · dsimp only at hlo
      omega
    · rw [hl] at hlo hhi
      rw [hw]
      exact ht q hq hlo hhi
  have h4 : (a + 4) / 64 = a / 64 := by omega
  have hp := State.line_homePoke hx (BitVec.ofNat 32 v) 0#16
  rw [← h4] at hp
  exact hpoke (hpoke h rfl hx _) h4 hp _

theorem ObjectAs.zeroRange {s t : State} {n : Nat} {f : Nat → Nat} (h : ObjectAs s t n f) (m : Nat) :
    ObjectAs s (t.zeroRange (s.domBase n + 0x10000) m) n f where
  served := h.served.trans (t.zeroRange_parts _ m).2
  keeps i hi hh := by
    obtain ⟨x, hx, h16⟩ := h.keeps i hi hh
    have hb := (t.zeroRange_parts (s.domBase n + 0x10000) m).2.base n
    have hal := s.domBase_aligned n
    refine ⟨x, ?_, h16⟩
    rw [hb, State.line_zeroRange _ _ _ (by rw [h.served.base]; omega)]
    exact hx
  word p h8 hp hh := by
    obtain ⟨x, hx, -⟩ := h.keeps _ (by omega) hh
    have hb := (t.zeroRange_parts (s.domBase n + 0x10000) m).2.base n
    have hal := s.domBase_aligned n
    have hdiv : t.domBase n / 64 + p / 64 = (t.domBase n + p) / 64 := by rw [h.served.base]; omega
    rw [hdiv] at hx
    have hx' := (State.line_zeroRange t (s.domBase n + 0x10000) m (k := (t.domBase n + p) / 64)
      (by rw [h.served.base]; omega)).trans hx
    rw [← h.word p h8 hp hh, State.word, hb, State.home64_of_line (by rw [h.served.base]; omega) hx', State.word,
      State.home64_of_line (by rw [h.served.base]; omega) hx]

theorem ObjectAs.put64 {s t : State} {n : Nat} {f : Nat → Nat} (h : ObjectAs s t n f) {o : Nat} (ho : o % 8 = 0) (ho' : o < 1024)
    (hl : s.hasLine n (o / 64)) (v : Nat) : ObjectAs s (t.put64 (s.domBase n + o) v) n (Function.update f o (v % 2 ^ 64)) := by
  have hp := h.putWord ho ho' hl v
  rwa [State.putWord, h.served.base] at hp

/-- A domain with its slots, its nogoods and its label table cleared, before its era changes. -/
def State.cleared (s : State) (n : Nat) : State :=
  ((((s.put64 (s.domBase n + 0x20) 0).put64 (s.domBase n + 0x10) 0).put64 (s.domBase n + 0x18) 0).put64
    (s.domBase n + 0x28) 0).zeroRange (s.domBase n + 0x10000) 0x200000

/-- The slots that a link's loss retracted, forgotten with a domain's era. -/
def State.forget (s : State) (n : Nat) : State := { s with aborted := s.aborted.filter (fun p => p.1 != n) }

theorem Served.forget (s : State) (n : Nat) : Served s (s.forget n) := ⟨rfl, fun _ => rfl, rfl⟩

theorem State.lines_forget (s : State) (n : Nat) : (s.forget n).lines = s.lines := rfl

/-- A domain cleared, with `e` as the word that holds its era. -/
def State.begun (s : State) (n e : Nat) : State := ((s.cleared n).put64 (s.domBase n) e).forget n

theorem State.settleDomain_eq (s : State) (n : Nat) : s.settleDomain n =
    (s.begun n ((s.cleared n).home64 (s.domBase n) / 16 * 16 + ((s.cleared n).domEra n + 1) % 16)).domTick n := rfl

section
variable {s : State} {n : Nat} (h0 : s.hasLine n 0)
include h0

theorem State.cleared_object : ∃ f, ObjectAs s (s.cleared n) n f ∧ f 0 = s.home64 (s.domBase n) ∧ f 8 = s.domUpdate n ∧ f 0x10 = 0 ∧
    f 0x18 = 0 ∧ f 0x20 = 0 ∧ f 0x28 = 0 := by
  have h1 := (ObjectAs.refl s n).put64 (o := 0x20) rfl (by omega) h0 0
  have h2 := h1.put64 (o := 0x10) rfl (by omega) h0 0
  have h3 := h2.put64 (o := 0x18) rfl (by omega) h0 0
  have h4 := h3.put64 (o := 0x28) rfl (by omega) h0 0
  exact ⟨_, h4.zeroRange 0x200000, by simp [State.word_zero], by simp [State.word, State.domUpdate], by simp, by simp, by simp, by simp⟩

/-- Nothing but the era's word and UPDATE changes after that. -/
theorem State.begun_object (e : Nat) : ∃ f, ObjectAs s ((s.begun n e).domTick n) n f ∧ f 0 = e % 2 ^ 64 ∧
    f 8 = (s.domUpdate n + 1) % 2 ^ 64 ∧ f 0x10 = 0 ∧ f 0x18 = 0 ∧ f 0x20 = 0 ∧ f 0x28 = 0 := by
  obtain ⟨f, hf, -, h8, h10, h18, h20, h28⟩ := State.cleared_object h0
  have hput := hf.put64 (o := 0) rfl (by omega) h0 e
  rw [Nat.add_zero] at hput
  have hbegun := (hput.of_lines (Served.forget _ n) (State.lines_forget _ n)).domTick h0
  exact ⟨_, hbegun, by simp, by simp [h8], by simp [h10], by simp [h18], by simp [h20], by simp [h28]⟩

theorem State.begun_zeroed (e : Nat) : ((s.begun n e).domTick n).zeroed (s.domBase n + 0x10000) (s.domBase n + 0x10000 + 0x200000) := by
  obtain ⟨f, hf, -⟩ := State.cleared_object h0
  obtain ⟨x, hx, -⟩ := hf.keeps 0 (by omega) h0
  have hput := hf.put64 (o := 0) rfl (by omega) h0 e
  rw [Nat.add_zero] at hput
  obtain ⟨y, hy, -⟩ := hput.keeps 0 (by omega) h0
  have hal := s.domBase_aligned n
  rw [hf.served.base, Nat.add_zero] at hx
  rw [hput.served.base, Nat.add_zero] at hy
  have h1 : (s.begun n e).zeroed (s.domBase n + 0x10000) (s.domBase n + 0x10000 + 0x200000) := by
    have h := State.zeroed_put64 (State.zeroed_zeroRange _ _ _) hx (by omega) (by omega) e
    rwa [State.zeroed, ← State.lines_forget _ n] at h
  have hb : (s.begun n e).domBase n = s.domBase n := ((Served.forget _ n).base n).trans (hput.served.base n)
  have hdiv : (s.domBase n + 8) / 64 = s.domBase n / 64 := by omega
  have hy' : (s.begun n e).line ((s.domBase n + 8) / 64) = some y := by
    rw [hdiv, ← hy, State.line, State.begun, State.lines_forget, ← State.line]
  have h2 := State.zeroed_put64 h1 hy' (by omega) (by omega) (((s.begun n e).domUpdate n + 1) % 2 ^ 64)
  unfold State.domTick State.zeroed
  rwa [hb, State.lines_wakeUpdate]

/-- SETTLE begins the next era with every slot free, no nogood and an empty label table (R98). -/
theorem State.settleDomain_object : ∃ f, ObjectAs s (s.settleDomain n) n f ∧ f 0x20 = 0 ∧ f 0x10 = 0 ∧ f 0x18 = 0 ∧ f 0x28 = 0 ∧
    f 0 % 16 = (s.domEra n + 1) % 16 ∧ f 8 = (s.domUpdate n + 1) % 2 ^ 64 := by
  obtain ⟨f, hf, hera, -⟩ := State.cleared_object h0
  have hw := hf.word 0 rfl (by omega) h0
  rw [State.word_zero, hf.served.base, hera] at hw
  rw [State.settleDomain_eq, State.domEra, hf.served.base, hw]
  obtain ⟨g, hg, h0', h8, h10, h18, h20, h28⟩ := State.begun_object h0
    (s.home64 (s.domBase n) / 16 * 16 + (bits (s.home64 (s.domBase n)) 3 0 + 1) % 16)
  refine ⟨g, hg, h20, h10, h18, h28, ?_, h8⟩
  rw [h0', State.domEra]
  omega

theorem State.settleDomain_zeroed : (s.settleDomain n).zeroed (s.domBase n + 0x10000) (s.domBase n + 0x210000) := by
  have h := State.begun_zeroed h0 (((s.cleared n).home64 (s.domBase n)) / 16 * 16 + ((s.cleared n).domEra n + 1) % 16)
  rwa [Nat.add_assoc, ← State.settleDomain_eq] at h

end

end Sys2Proof.Machine
end

section
/-! SUPPORT. DOMAIN_HOME_OPERATION, one kind of operation at a time (R78, R79, R98, R278, R280, R281). -/

namespace Sys2Proof.Machine
open Sys2Proof.Claims

/-- NOGOOD and RETRACT at the home, as `DomainHome` says it: `m` recorded, standing already, or without room (R79). -/
def Recorded (s : State) (o : DomOp) (m : Dword) (but : Option Nat) (more : State → Prop) : Prop :=
  let l := insertSorted m ((s.domNogoods o.dom).filter (fun g => !subset m g))
  (∀ i, i < 8 → s.hasLine o.dom (4 + i)) →
  (m &&& BitVec.ofNat 64 (s.domRetracted o.dom) ≠ 0#64 ∨ (∃ g ∈ s.domNogoods o.dom, g &&& m = g) →
    ∃ v, Does .domainHomeOperation s v ∧ v.domNogoods o.dom = s.domNogoods o.dom ∧ more v) ∧
  (m &&& BitVec.ofNat 64 (s.domRetracted o.dom) = 0#64 → (∀ g ∈ s.domNogoods o.dom, g &&& m ≠ g) →
    (64 - s.pairedOpen o.dom but < l.length → ∃ v, Does .domainHomeOperation s v ∧ v.lines = s.lines ∧ v.mem = s.mem ∧
      AnsweredAs s v o { o with fault := some (0x0A, 0#64) }) ∧
    (l.length ≤ 64 - s.pairedOpen o.dom but → ∃ v, Does .domainHomeOperation s v ∧ v.domNogoods o.dom = l ∧ more v))

theorem State.hasLine_zero {s : State} {n : Nat} (h : ∃ x, s.line (s.domBase n / 64) = some x ∧ x.words.length = 16) : s.hasLine n 0 := h

theorem State.hasLine_of_there {s : State} {n i : Nat} (h : ∃ x, s.line (s.domBase n / 64 + 4 + i) = some x ∧ x.words.length = 16) :
    s.hasLine n (4 + i) := by rwa [State.hasLine, ← Nat.add_assoc]

theorem State.hasNogoods_of {s : State} {n : Nat} (h0 : s.hasLine n 0) (h : ∀ i, i < 8 → s.hasLine n (4 + i)) : s.hasNogoods n := ⟨h0, h⟩

theorem slotBit_ne_zero {k : Nat} (hk : k < 64) : slotBit k ≠ 0#64 := fun h =>
  absurd ((slotBit_toNat hk).symm.trans (congrArg BitVec.toNat h)) (Nat.two_pow_pos k).ne'

/-- An open slot is not free. -/
theorem slotBit_not_free {s : State} {n k : Nat} (hk : k < 64) (ho : (s.domOpen n).testBit k = true) : slotBit k &&& s.domFree n = 0#64 := by
  have hsub := slotBit_subset (s.domOpen_lt n) hk ho
  rw [State.domFree, ← hsub]
  refine BitVec.eq_of_getLsbD_eq fun i hi => ?_
  simp only [BitVec.getLsbD_and, BitVec.getLsbD_or, BitVec.getLsbD_not, BitVec.getLsbD_zero, hi, decide_true, Bool.true_and]
  cases (BitVec.ofNat 64 (s.domOpen n)).getLsbD i <;> simp

section
variable {s : State} {o : DomOp} (hf : s.domOps.find? (fun o => o.id == s.subj.a) = some o)
include hf

theorem domainHome_absent (hr : s.resident (s.domBase o.dom) = false) :
    Does .domainHomeOperation s (s.plan 64 0 .domainHomeOperation s.subj) := by
  simp [Does, exec_domainHomeOperation, execDomainHomeOperation, hf, hr]

/-- An answer that leaves every word as it was. -/
theorem homeAnswer_plain {y : DomOp} (hd : Does .domainHomeOperation s (s.answerOp y)) (hid : y.id = o.id) (hcore : y.core = o.core)
    (hdom : y.dom = o.dom) : ∃ v, Does .domainHomeOperation s v ∧ v.lines = s.lines ∧ v.mem = s.mem ∧ AnsweredAs s v o y :=
  ⟨_, hd, rfl, rfl, (Served.refl s).answeredAs (List.mem_of_find?_eq_some hf) hid hcore hdom⟩

theorem homeAnswer_lines {y : DomOp} (hd : Does .domainHomeOperation s (s.answerOp y)) (hid : y.id = o.id) (hcore : y.core = o.core)
    (hdom : y.dom = o.dom) : ∃ v, Does .domainHomeOperation s v ∧ v.lines = s.lines ∧ AnsweredAs s v o y :=
  ⟨_, hd, rfl, (Served.refl s).answeredAs (List.mem_of_find?_eq_some hf) hid hcore hdom⟩

theorem recorded_of {e m : Dword} {but : Option Nat} {more : State → Prop} (h0 : s.hasLine o.dom 0)
    (hm : e &&& ~~~BitVec.ofNat 64 (s.domAsserted o.dom) = m) (hok : m ≠ 0#64) (hfree : m &&& s.domFree o.dom = 0#64)
    (hfail : s.recordAt o.dom e but = .inl 0x0A → Does .domainHomeOperation s (s.answerOp { o with fault := some (0x0A, 0#64) }))
    (hrec : ∀ u l, s.hasNogoods o.dom → s.recordAt o.dom e but = .inr u → Records s u o.dom l →
      ∃ v, Does .domainHomeOperation s v ∧ v.domNogoods o.dom = l ∧ more v) : Recorded s o m but more := by
  intro h4
  have hl := State.hasNogoods_of h0 h4
  refine ⟨fun h => hrec _ _ hl (State.recordAt_stands hm hok hfree h) (.refl s _), fun hret hnew => ?_⟩
  have hat := State.recordAt_new (but := but) hm hok hfree hret hnew
  refine ⟨fun hroom => ?_, fun hroom => ?_⟩
  · exact homeAnswer_plain hf (hfail (hat.trans (if_pos hroom))) rfl rfl rfl
  · exact hrec _ _ hl (hat.trans (if_neg (by omega))) (.putNogoods hl (by omega))

variable (hr : s.resident (s.domBase o.dom) = true)
include hr

theorem domainHome_performs : (o.kind = 0 → Does .domainHomeOperation s (s.homeAnew o)) ∧
    (o.kind = 2 → Does .domainHomeOperation s (s.homeNogood o)) ∧ (o.kind = 3 → Does .domainHomeOperation s (s.homeAssert o)) ∧
    (o.kind = 4 → Does .domainHomeOperation s (s.homeRetract o)) ∧ (o.kind = 5 → Does .domainHomeOperation s (s.homeSettle o)) := by
  refine ⟨?_, ?_, ?_, ?_, ?_⟩ <;> intro hk <;> simp [Does, exec_domainHomeOperation, execDomainHomeOperation, hf, hr, hk]

/-! ### ANEW -/

theorem domainHome_anew_full (hk : o.kind = 0) (hl : s.lowestFree o.dom = none) :
    ∃ v, Does .domainHomeOperation s v ∧ v.lines = s.lines ∧ AnsweredAs s v o { o with res := 0xFFFFFFFFFFFFFFFF#64 } := by
  have hd := (domainHome_performs hf hr).1 hk
  simp only [State.homeAnew, hl] at hd
  exact homeAnswer_lines hf hd rfl rfl rfl

theorem domainHome_anew_opens (h0 : s.hasLine o.dom 0) {i : Nat} (hk : o.kind = 0) (hl : s.lowestFree o.dom = some i) :
    ∃ v, Does .domainHomeOperation s v ∧
      DomainIs s v o.dom (s.domOpen o.dom ||| 2 ^ i) (s.domAsserted o.dom) (s.domRetracted o.dom) ∧
      AnsweredAs s v o { o with res := BitVec.ofNat 64 i } := by
  have hd := (domainHome_performs hf hr).1 hk
  obtain ⟨f, hobj, his⟩ := State.openSlot_is h0 (State.lowestFree_lt hl)
  simp only [State.homeAnew, hl] at hd
  rw [if_pos hk] at hd
  exact ⟨_, hd, hobj.domainIs_answerOp h0 his _,
      hobj.served.answeredAs (List.mem_of_find?_eq_some hf) rfl rfl rfl⟩

/-! ### NOGOOD and RETRACT -/

theorem domainHome_nogood_refused (hk : o.kind = 2) {m : Dword} (hm : o.val &&& ~~~BitVec.ofNat 64 (s.domAsserted o.dom) = m)
    (h : m = 0#64 ∨ m &&& s.domFree o.dom ≠ 0#64) : ∃ v, Does .domainHomeOperation s v ∧ v.lines = s.lines ∧ v.mem = s.mem ∧
      AnsweredAs s v o { o with fault := some (0x01, 0#64) } := by
  have hd := (domainHome_performs hf hr).2.1 hk
  simp only [State.homeNogood, State.recordAt_illegal hm h] at hd
  exact homeAnswer_plain hf hd rfl rfl rfl

theorem domainHome_nogood_records (h0 : s.hasLine o.dom 0) (hk : o.kind = 2) {m : Dword}
    (hm : o.val &&& ~~~BitVec.ofNat 64 (s.domAsserted o.dom) = m) (hok : m ≠ 0#64) (hfree : m &&& s.domFree o.dom = 0#64) :
    Recorded s o m none (fun v => DomainIs s v o.dom (s.domOpen o.dom) (s.domAsserted o.dom) (s.domRetracted o.dom) ∧
      AnsweredAs s v o { o with change := [.nogood ((s.domUpdate o.dom + 1) % 2 ^ 64) m] }) := by
  have hd := (domainHome_performs hf hr).2.1 hk
  refine recorded_of hf h0 hm hok hfree (fun hrec => ?_) (fun u l hl hrec hu => ?_)
  · simpa only [State.homeNogood, hrec] using hd
  · obtain ⟨hlist, ⟨f, hobj⟩, his⟩ := hu.tick hl
    obtain ⟨-, -, -, hupd, -⟩ := id his
    simp only [State.homeNogood, hrec, hm, hupd] at hd
    exact ⟨_, hd, (hobj.domNogoods_answerOp hl _).trans hlist, hobj.domainIs_answerOp h0 his _,
      hobj.served.answeredAs (List.mem_of_find?_eq_some hf) rfl rfl rfl⟩

theorem domainHome_retract_refused (hk : o.kind = 4) (h : 64 ≤ o.val.toNat ∨ (s.domOpen o.dom).testBit o.val.toNat = false) :
    ∃ v, Does .domainHomeOperation s v ∧ v.lines = s.lines ∧ v.mem = s.mem ∧ AnsweredAs s v o { o with fault := some (0x01, 0#64) } := by
  have hd := (domainHome_performs hf hr).2.2.2.1 hk
  simp only [State.homeRetract, bitAt_eq_testBit] at hd
  rw [if_pos (by simpa using h)] at hd
  exact homeAnswer_plain hf hd rfl rfl rfl

theorem domainHome_retract_records (h0 : s.hasLine o.dom 0) (hk : o.kind = 4) (h64 : o.val.toNat < 64)
    (ho : (s.domOpen o.dom).testBit o.val.toNat = true) (ha : (s.domAsserted o.dom).testBit o.val.toNat = false) :
    Recorded s o (BitVec.ofNat 64 (2 ^ o.val.toNat)) (some o.val.toNat) (fun v =>
      DomainIs s v o.dom (s.domOpen o.dom - 2 ^ o.val.toNat) (s.domAsserted o.dom) (s.domRetracted o.dom ||| 2 ^ o.val.toNat) ∧
      AnsweredAs s v o { o with change := [.nogood ((s.domUpdate o.dom + 1) % 2 ^ 64) (BitVec.ofNat 64 (2 ^ o.val.toNat))] }) := by
  have hd := (domainHome_performs hf hr).2.2.2.1 hk
  simp only [State.homeRetract, bitAt_eq_testBit] at hd
  rw [if_neg (by simp [ho, h64])] at hd
  rw [← slotBit_eq_ofNat h64]
  refine recorded_of hf h0 (slotBit_disjoint h64 ha) (slotBit_ne_zero h64) (slotBit_not_free h64 ho) (fun hrec => ?_)
    (fun u l hl hrec hu => ?_)
  · simpa only [State.retractSlot, hrec] using hd
  · obtain ⟨v, hv, hlist, ⟨f, hobj⟩, his⟩ := hu.close hl h64 ho hrec
    obtain ⟨-, -, -, hupd, -⟩ := id his
    simp only [hv, hupd] at hd
    exact ⟨_, hd, (hobj.domNogoods_answerOp hl _).trans hlist, hobj.domainIs_answerOp h0 his _,
      hobj.served.answeredAs (List.mem_of_find?_eq_some hf) rfl rfl rfl⟩

end

end Sys2Proof.Machine
end

section
/-! SUPPORT. ASSERT and SETTLE at the home of a domain, and its operations together (R98, R103, R278, R280, R281). -/

namespace Sys2Proof.Machine
open Sys2Proof.Claims

section
variable {s : State} {o : DomOp} (hf : s.domOps.find? (fun o => o.id == s.subj.a) = some o)
  (hr : s.resident (s.domBase o.dom) = true)
include hf hr

/-! ### ASSERT -/

section
variable (hk : o.kind = 3)
include hk

theorem domainHome_assert_out_of_range (h : 64 ≤ o.val.toNat) : ∃ v, Does .domainHomeOperation s v ∧ v.lines = s.lines ∧ v.mem = s.mem ∧
    AnsweredAs s v o { o with fault := some (0x01, 0#64) } := by
  have hd := (domainHome_performs hf hr).2.2.1 hk
  rw [State.homeAssert, if_pos h] at hd
  exact homeAnswer_plain hf hd rfl rfl rfl

variable (h64 : o.val.toNat < 64)
include h64

theorem domainHome_assert_aborted (ha : (o.dom, o.val.toNat) ∈ s.aborted) : ∃ v, Does .domainHomeOperation s v ∧ v.lines = s.lines ∧
    AnsweredAs s v o { o with res := 1#64 } := by
  have hd := (domainHome_performs hf hr).2.2.1 hk
  rw [State.homeAssert, if_neg (by omega), if_pos (by simpa using ha)] at hd
  exact homeAnswer_lines hf hd rfl rfl rfl

variable (ha : (o.dom, o.val.toNat) ∉ s.aborted)
include ha

theorem domainHome_assert_not_open (ho : (s.domOpen o.dom).testBit o.val.toNat = false) : ∃ v, Does .domainHomeOperation s v ∧
    v.lines = s.lines ∧ v.mem = s.mem ∧ AnsweredAs s v o { o with fault := some (0x01, 0#64) } := by
  have hd := (domainHome_performs hf hr).2.2.1 hk
  rw [State.homeAssert, if_neg (by omega), if_neg (by simpa using ha), if_pos (by simp [bitAt_eq_testBit, ho])] at hd
  exact homeAnswer_plain hf hd rfl rfl rfl

variable (ho : (s.domOpen o.dom).testBit o.val.toNat = true)
include ho

theorem domainHome_assert_alone (h0 : s.hasLine o.dom 0) (hp : s.pairOf o.dom o.val.toNat = none) :
    ∃ v, Does .domainHomeOperation s v ∧
      DomainIs s v o.dom (s.domOpen o.dom - 2 ^ o.val.toNat) (s.domAsserted o.dom ||| 2 ^ o.val.toNat) (s.domRetracted o.dom) ∧
      AnsweredAs s v o { o with res := 0#64, change := [.assert ((s.domUpdate o.dom + 1) % 2 ^ 64) o.val.toNat] } := by
  have hd := (domainHome_performs hf hr).2.2.1 hk
  obtain ⟨f, hobj, his⟩ := State.assertSlot_is h0 h64 ho
  obtain ⟨-, -, -, hupd, -⟩ := id his
  rw [State.homeAssert, if_neg (by omega), if_neg (by simpa using ha), if_neg (by simp [bitAt_eq_testBit, ho])] at hd
  simp only [hp, hupd] at hd
  exact ⟨_, hd, hobj.domainIs_answerOp h0 his _, hobj.served.answeredAs (List.mem_of_find?_eq_some hf) rfl rfl rfl⟩

theorem domainHome_assert_paired {l p : Nat} (hp : s.pairOf o.dom o.val.toNat = some (l, p)) : ∃ v : State, Does .domainHomeOperation s
    (v.toLink l (.assertSlot l p)) ∧ v.lines = s.lines ∧ { o with slot := some o.val.toNat, link := l } ∈ v.domOps := by
  have hd := (domainHome_performs hf hr).2.2.1 hk
  rw [State.homeAssert, if_neg (by omega), if_neg (by simpa using ha), if_neg (by simp [bitAt_eq_testBit, ho])] at hd
  simp only [hp] at hd
  exact ⟨_, hd, rfl, List.mem_map.2 ⟨o, List.mem_of_find?_eq_some hf, if_pos rfl⟩⟩

end

/-! ### SETTLE -/

section
variable (hk : o.kind = 5)
include hk

theorem domainHome_settle_open (ho : s.domOpen o.dom ≠ 0) : ∃ v, Does .domainHomeOperation s v ∧ v.lines = s.lines ∧
    AnsweredAs s v o { o with res := 1#64 } := by
  have hd := (domainHome_performs hf hr).2.2.2.2 hk
  rw [State.homeSettle] at hd
  dsimp only at hd
  rw [if_pos (by simpa using ho)] at hd
  exact homeAnswer_lines hf hd rfl rfl rfl

variable (ho : s.domOpen o.dom = 0)
include ho

theorem domainHome_settle_live (hlive : s.domLive o.dom ((s.domEra o.dom + 1) % 16) ≠ 0) : ∃ v, Does .domainHomeOperation s v ∧
    v.lines = s.lines ∧ AnsweredAs s v o { o with res := 2#64 } := by
  have hd := (domainHome_performs hf hr).2.2.2.2 hk
  rw [State.homeSettle] at hd
  dsimp only at hd
  rw [if_neg (by simpa using ho), if_pos (by simpa using hlive)] at hd
  exact homeAnswer_lines hf hd rfl rfl rfl

variable (hlive : s.domLive o.dom ((s.domEra o.dom + 1) % 16) = 0)
include hlive

theorem domainHome_settle_waits (hout : s.outstanding o.core o.id = true) :
    Does .domainHomeOperation s (s.plan 1 0 .domainHomeOperation { a := o.id }) := by
  have hd := (domainHome_performs hf hr).2.2.2.2 hk
  rw [State.homeSettle] at hd
  dsimp only at hd
  rwa [if_neg (by simpa using ho), if_neg (by simpa using hlive), if_pos hout] at hd

theorem domainHome_settle_begins (h0 : s.hasLine o.dom 0) (hout : s.outstanding o.core o.id = false) :
    ∃ v, Does .domainHomeOperation s v ∧ v.domOpen o.dom = 0 ∧ v.domAsserted o.dom = 0 ∧ v.domRetracted o.dom = 0 ∧
      v.domNgCount o.dom = 0 ∧ v.domEra o.dom = (s.domEra o.dom + 1) % 16 ∧ v.domUpdate o.dom = (s.domUpdate o.dom + 1) % 2 ^ 64 ∧
      v.zeroed (s.domBase o.dom + 0x10000) (s.domBase o.dom + 0x210000) ∧
      AnsweredAs s v o { o with res := 0#64,
                                change := [.settle ((s.domUpdate o.dom + 1) % 2 ^ 64) (BitVec.ofNat 4 ((s.domEra o.dom + 1) % 16))] } := by
  have hd := (domainHome_performs hf hr).2.2.2.2 hk
  obtain ⟨f, hobj, h20, h10, h18, h28, he, h8⟩ := State.settleDomain_object h0
  obtain ⟨-, -, -, -, hupd, hera⟩ := hobj.words h0
  rw [State.homeSettle] at hd
  dsimp only at hd
  rw [if_neg (by simpa using ho), if_neg (by simpa using hlive), if_neg (by simp [hout]), State.eraOf, hera, hupd, he, h8] at hd
  obtain ⟨hopen, hasserted, hretracted, hcount, hupd', hera'⟩ := (hobj.answerOp _).words h0
  exact ⟨_, hd, hopen.trans h20, hasserted.trans h10, hretracted.trans h18, hcount.trans h28, hera'.trans he, hupd'.trans h8,
    State.zeroed_answerOp (State.settleDomain_zeroed h0) _, hobj.served.answeredAs (List.mem_of_find?_eq_some hf) rfl rfl rfl⟩

end

end

theorem domainHome : Claims.DomainHome := by
  intro s o hf
  refine ⟨domainHome_absent hf, fun hr hline _ => ?_⟩
  have h0 := State.hasLine_zero hline
  refine ⟨fun i hk => domainHome_anew_opens hf hr h0 hk, domainHome_anew_full hf hr, fun hk => ?_, fun hk => ?_, fun hk => ?_, fun hk => ?_⟩
  · refine ⟨domainHome_nogood_refused hf hr hk rfl, fun hok hfree hlines => ?_⟩
    exact domainHome_nogood_records hf hr h0 hk rfl hok hfree (fun i hi => State.hasLine_of_there (hlines i hi))
  · exact ⟨domainHome_assert_out_of_range hf hr hk, domainHome_assert_aborted hf hr hk, domainHome_assert_not_open hf hr hk,
      fun h64 ha ho => domainHome_assert_alone hf hr hk h64 ha ho h0, fun l p h64 ha ho => domainHome_assert_paired hf hr hk h64 ha ho⟩
  · refine ⟨domainHome_retract_refused hf hr hk, fun h64 ho ha _ hlines => ?_⟩
    exact domainHome_retract_records hf hr h0 hk h64 ho ha (fun i hi => State.hasLine_of_there (hlines i hi))
  · refine ⟨domainHome_settle_open hf hr hk, domainHome_settle_live hf hr hk, fun ho hlive => ⟨domainHome_settle_waits hf hr hk ho hlive,
      fun hout => ?_⟩⟩
    exact domainHome_settle_begins hf hr hk ho hlive h0 hout

end Sys2Proof.Machine
end

section
/-! SUPPORT. The label unit's steps (R91 to R94): a probe of a formed list, and a slot that resolves. -/

namespace Sys2Proof.Machine
open Sys2Proof.Claims

/-! ## Probes -/

theorem internProbe_looks {s : State} {x : Slot} {n : Nat} {l : List Dword} {rest : List (List Dword)}
    (hs : (s.core s.subj.a).slotAt s.subj.b = some x) (hn : s.domainOf s.subj.a = some n) (hready : x.ready = s.subj.d)
    (hgot : x.got = none) (hlost : x.lost = false) (hlater : (s.core s.subj.a).probesLater s.subj.b x = false)
    (hres : s.resident (s.domBase n + 0x10000) = true) (htodo : x.todo = l :: rest) :
    Does .internProbe s (
      let u := s.subj
      let y : Slot := { x with todo := [l] }
      let q := probeAt (internStart l) u.c
      if s.tableEntry n q == l then s.slotDone u.a u.b y (BitVec.ofNat 16 q) false false
      else if s.tableEntry n q == [] || decide (31 ≤ u.c) then (s.intern n l).1.slotDone u.a u.b y (s.intern n l).2.1 (s.intern n l).2.2 false
      else (s.onCore u.a (fun c => c.setSlot u.b (some y))).plan (1 + homePath u.a (s.domBase n + 0x10000 + 32 * q)) 0 .internProbe
        { u with c := u.c + 1 }) := by
  obtain ⟨ctx, fill, inp, ready, started, began, order, seen, todo, got, lost⟩ := x
  dsimp only at hready hgot hlost htodo
  subst hready htodo hgot hlost
  simp only [Does, exec_internProbe, execInternProbe, hs, hn, hlater, hres, bne_self_eq_false, Option.isSome_none, Bool.or_self,
    Bool.false_eq_true, ↓reduceIte, Bool.not_true, List.isEmpty_cons, apply_ite Host.Outcome.next]

/-! ## What a slot that resolves leaves of the registers (R93) -/

section
variable (s : State) (k : Nat)

theorem Core.setSlot_ctxs (c : Core) (i : Nat) (x : Option Slot) : (c.setSlot i x).ctxs = c.ctxs := by
  obtain ⟨sl, ex, h⟩ := c.setSlot_fields i x
  rw [h]

theorem State.startSlots_ctxs : ((s.startSlots k).core k).ctxs = (s.core k).ctxs := by
  refine foldl_keeps (fun t : State => (t.core k).ctxs) (fun t p => ?_) _ _
  dsimp only
  rw [State.core_plan, State.core_onCore]
  exact (t.core k).setSlot_ctxs _ _

theorem State.lanesWritten_sreg (t : Nat) {u : Nat} (hu : u < 11) (r : BitVec 5) :
    ((s.lanesWritten k t).ctxAt k u).sreg r = (s.ctxAt k u).sreg r := by
  unfold State.lanesWritten
  dsimp only
  split
  · rfl
  · by_cases ht : u = t
    · subst ht
      rw [State.ctxAt_onCtx _ _ _ hu]
      split <;> rfl
    · rw [State.ctxAt_onCtx_ne _ _ (by simp [ht])]

theorem State.relabel_sreg (f : Handle → Handle) {t : Nat} (ht : t < 11) {r : BitVec 5} (hr : r ≠ 0#5) :
    ((s.relabel k f).ctxAt k t).sreg r = (((s.ctxAt k t).sreg r).1, f ((s.ctxAt k t).sreg r).2) := by
  obtain ⟨c, hc, hx⟩ : ∃ c, (s.relabel k f).cores = (s.setCore k c).cores ∧
      c.ctxs = (s.core k).ctxs.map (fun x => { x with
        sl := x.sl.map f, ambient := f x.ambient, savAmb := f x.savAmb,
        vr := x.vr.map (fun v => { v with labels := v.labels.map f }) }) := ⟨_, rfl, rfl⟩
  rw [State.ctxAt, State.core_eq_of_cores hc, State.core_setCore, Core.ctx, hx, State.ctxAt, Core.ctx]
  simp [vget, Vector.getElem?_eq_getElem ht, Ctx.sreg, hr]

theorem Core.learn_ctxs (c : Core) (i : LabelIn) (h : Handle) : (c.learn i h).ctxs = c.ctxs := by
  unfold Core.learn
  split <;> rfl

end

/-- The handle `h` in place of pending label `n` (R93). -/
def resolved (n : Nat) (h l : Handle) : Handle := if l = BitVec.ofNat 16 (0xFFF0 + n) then h else l

/-- The core once slot `n`, which held `x`, is free. -/
def Core.freed (c : Core) (n : Nat) (x : Slot) (h : Handle) : Core :=
  let c1 := c.setSlot n none
  if x.lost || !cacheable (c.ctx x.ctx) || x.seen != c.view then c1 else c1.learn x.inp h

theorem Core.freed_ctxs (c : Core) (n : Nat) (x : Slot) (h : Handle) : (c.freed n x h).ctxs = c.ctxs := by
  unfold Core.freed
  dsimp only
  split
  · exact c.setSlot_ctxs n none
  · rw [Core.learn_ctxs, Core.setSlot_ctxs]

section
variable {s : State} {x : Slot} {h : Handle}

theorem labelResolve_does (hs : (s.core s.subj.a).slotAt s.subj.b = some x) (hgot : x.got = some h) (hready : x.ready = s.subj.d)
    (hn : s.subj.b < 8) : Does .labelResolve s
      (((((s.onCore s.subj.a (fun c => c.freed s.subj.b x h)).relabel s.subj.a (resolved s.subj.b h)).lanesWritten s.subj.a x.ctx)).startSlots
        s.subj.a) := by
  simp only [Does, exec_labelResolve, execLabelResolve, hs, hgot, hready, bne_self_eq_false, Bool.false_eq_true, ↓reduceIte, hn]
  rfl

/-- What the registers of a core hold once its slot has resolved. -/
theorem resolved_sreg (s : State) (k n q : Nat) (x : Slot) (h : Handle) {t : Nat} (ht : t < 11) {r : BitVec 5} (hr : r ≠ 0#5) :
    ((((((s.onCore k (fun c => c.freed n x h)).relabel k (resolved n h)).lanesWritten k q)).startSlots k).ctxAt k t).sreg r =
      (((s.ctxAt k t).sreg r).1, resolved n h ((s.ctxAt k t).sreg r).2) := by
  rw [State.ctxAt, Core.ctx, State.startSlots_ctxs, ← Core.ctx, ← State.ctxAt, State.lanesWritten_sreg _ _ _ ht,
    State.relabel_sreg _ _ _ ht hr, State.ctxAt, State.core_onCore, Core.ctx, Core.freed_ctxs, ← Core.ctx, ← State.ctxAt]

end

theorem Ctx.sreg_zero (x : Ctx) : x.sreg 0#5 = (0#64, hTrue) := rfl

theorem labelSlots : Claims.LabelSlots := by
  intro s
  refine ⟨fun x n l rest hs hn hready hgot hlost hlater hres htodo => ?_, fun x h hs hgot hready hn _ => ?_⟩
  · have hd := internProbe_looks hs hn hready hgot hlost hlater hres htodo
    refine ⟨fun hq => ?_, fun hq he hc => ?_, fun hq he => ?_⟩
    · simpa [hq] using hd
    · simpa [hq, he, Nat.not_le.2 hc] using hd
    · simpa [hq, he] using hd
  · refine ⟨_, labelResolve_does hs hgot hready hn, by simp, fun t ht r => ?_⟩
    by_cases hr : r = 0#5
    · subst hr
      simp [Ctx.sreg_zero]
    · rw [resolved_sreg _ _ _ _ _ _ ht hr]
      simp [hr, resolved]

end Sys2Proof.Machine
end

section
/-! SUPPORT. The answer of a domain operation at its core (R96, R100, R278, R280, R281). -/

namespace Sys2Proof.Machine
open Sys2Proof.Claims

theorem eraIn_eq (h : Handle) : eraIn h =
    if h = 0x0000#16 ∨ h = 0xFFFA#16 ∨ (0xFFF0 ≤ h.toNat ∧ h.toNat < 0xFFF8) then h else 0xFFFB#16 := by
  rw [eraIn, lostIn]
  by_cases hp : isPend h = true
  · rw [if_pos hp, if_pos (.inr (.inr ((isPend_iff h).1 hp)))]
  · have hp' : ¬(0xFFF0 ≤ h.toNat ∧ h.toNat < 0xFFF8) := fun he => hp ((isPend_iff h).2 he)
    simp only [hp, hp', Bool.or_eq_true, decide_eq_true_eq, or_false, Bool.false_eq_true, ↓reduceIte]
    rfl

theorem State.arrive_domOps (s : State) (k seq n : Nat) (ws : List RegWrite) : (s.arrive k seq n ws).domOps = s.domOps := by
  have hplan (t : State) : (t.planLanding k seq n).domOps = t.domOps := by
    unfold State.planLanding
    split <;> rfl
  unfold State.arrive
  dsimp only
  split
  · rfl
  · split
    · rw [hplan]
      rfl
    · rfl

/-! ## A change in the context that asked -/

/-- A context under a new era of its own domain (R100, R281). -/
def Ctx.aged (x : Ctx) (era : BitVec 4) : Ctx :=
  { x with era := era, sl := x.sl.map eraIn, ambient := eraIn x.ambient, vr := x.vr.map (fun v => { v with labels := v.labels.map eraIn }) }

/-- A context that has taken change `c` of its domain (R96, R281). -/
def Ctx.taken (x : Ctx) (c : Change) : Ctx :=
  let y := { x with overlay := x.overlay ++ [c] }
  match c with
  | .settle _ era => y.aged era
  | _ => y

theorem Ctx.taken_overlay (x : Ctx) (c : Change) : (x.taken c).overlay = x.overlay ++ [c] := by
  cases c <;> rfl

/-- The labels of a context under the era that change `c` begins, if it is a SETTLE. -/
def State.agedBy (s : State) (k t : Nat) : Change → State
  | .settle _ era => s.settleCtx k t era
  | _ => s

section
variable (s : State) (k : Nat)

theorem State.ctxAt_settleCtx {t : Nat} (ht : t < 11) (era : BitVec 4) : (s.settleCtx k t era).ctxAt k t = (s.ctxAt k t).aged era := by
  rw [State.ctxAt, State.settleCtx, State.core_onCore]
  exact Core.ctx_setCtx _ _ ht

theorem State.ctxAt_settleCtx_ne {t u : Nat} (hu : u ≠ t) (era : BitVec 4) : (s.settleCtx k t era).ctxAt k u = s.ctxAt k u := by
  rw [State.ctxAt, State.settleCtx, State.core_onCore]
  exact Core.ctx_setCtx_ne _ _ (Ne.symm hu)

theorem State.view_settleCtx (t : Nat) (era : BitVec 4) : ((s.settleCtx k t era).core k).view = (s.core k).view := by
  rw [State.settleCtx, State.core_onCore]
  rfl

/-- A change that the core's view holds already leaves everything as it is. -/
theorem State.takeChange_held {t : Nat} {c : Change} (h : c.upd ≤ (s.core k).view.update) : s.takeChange k t c = s := if_pos h

theorem State.takeChange_new {t : Nat} {c : Change} (h : (s.core k).view.update < c.upd) :
    s.takeChange k t c = (s.onCtx k t (fun x => { x with overlay := x.overlay ++ [c] })).agedBy k t c := by
  unfold State.takeChange
  rw [if_neg (Nat.not_le.2 h)]
  cases c <;> rfl

theorem State.ctxAt_takeChange {t : Nat} (ht : t < 11) {c : Change} (h : (s.core k).view.update < c.upd) :
    (s.takeChange k t c).ctxAt k t = (s.ctxAt k t).taken c := by
  rw [State.takeChange_new s k h]
  cases c with
  | settle u era => exact (State.ctxAt_settleCtx _ _ ht era).trans (congrArg (Ctx.aged · era) (State.ctxAt_onCtx _ _ _ ht))
  | nogood u n => exact State.ctxAt_onCtx _ _ _ ht
  | assert u i => exact State.ctxAt_onCtx _ _ _ ht

theorem State.ctxAt_takeChange_ne {t u : Nat} (hu : u ≠ t) (c : Change) : (s.takeChange k t c).ctxAt k u = s.ctxAt k u := by
  have hctx (f : Ctx → Ctx) : (s.onCtx k t f).ctxAt k u = s.ctxAt k u := State.ctxAt_onCtx_ne _ _ (by simp [hu])
  by_cases h : c.upd ≤ (s.core k).view.update
  · rw [State.takeChange_held s k h]
  · rw [State.takeChange_new s k (Nat.not_le.1 h)]
    cases c with
    | settle _ era => exact (State.ctxAt_settleCtx_ne _ _ hu era).trans (hctx _)
    | nogood _ _ => exact hctx _
    | assert _ _ => exact hctx _

theorem State.view_takeChange (t : Nat) (c : Change) : ((s.takeChange k t c).core k).view = (s.core k).view ∧
    (s.takeChange k t c).domOps = s.domOps := by
  have hview (f : Ctx → Ctx) : ((s.onCtx k t f).core k).view = (s.core k).view := by rw [State.core_onCtx]; rfl
  by_cases h : c.upd ≤ (s.core k).view.update
  · rw [State.takeChange_held s k h]
    exact ⟨rfl, rfl⟩
  · rw [State.takeChange_new s k (Nat.not_le.1 h)]
    cases c with
    | settle _ era => exact ⟨(State.view_settleCtx _ _ t era).trans (hview _), rfl⟩
    | nogood _ _ => exact ⟨hview _, rfl⟩
    | assert _ _ => exact ⟨hview _, rfl⟩

end

/-! ## DOMAIN_ANSWER -/

/-- A domain operation leaves the list of those under way. -/
def State.dropOp (s : State) (n : Nat) : State := { s with domOps := s.domOps.filter (fun x => x.id != n) }

theorem State.ctxAt_dropOp (s : State) (n k t : Nat) : (s.dropOp n).ctxAt k t = s.ctxAt k t := rfl

theorem State.ne_of_mem_dropOp {s : State} {n : Nat} {y : DomOp} (h : y ∈ (s.dropOp n).domOps) : y.id ≠ n := by
  simpa using (List.mem_filter.1 h).2

section
variable {s : State} {o : DomOp} (hf : s.domOps.find? (fun o => o.id == s.subj.a) = some o)
include hf

theorem domainAnswer_plain (hfault : o.fault = none) (hk : o.kind < 2) (hc : o.change = []) : Does .domainAnswer s
    ((s.dropOp o.id).arrive o.core o.seq 0 [.s o.reg o.res o.lbl]) := by
  simp [Does, exec_domainAnswer, execDomainAnswer, hf, hfault, hk, hc, State.dropOp]

/-- One change arrives, and the context goes on (R96, R280, R281). -/
theorem domainAnswer_change (hfault : o.fault = none) (hk : 2 ≤ o.kind) {c : Change} (hc : o.change = [c]) : ∃ l, Does .domainAnswer s
    ((((s.dropOp o.id).takeChange o.core o.ctx c).arrive o.core o.seq 0
      [.s o.reg o.res l]).onCtx o.core o.ctx (fun x => { x with wait := .none })) := by
  simp only [Does, exec_domainAnswer, execDomainAnswer, hf, hfault, hc, List.foldl_cons, List.foldl_nil, if_neg (Nat.not_lt.2 hk)]
  exact ⟨_, rfl⟩

theorem domainAnswer_fault {f : Nat × Dword} (hfault : o.fault = some f) : Does .domainAnswer s
    ((s.dropOp o.id).domFault o f) := by
  simp [Does, exec_domainAnswer, execDomainAnswer, hf, hfault, State.dropOp]

end

/-- A core's local memory with its labels. -/
def Core.localPart (c : Core) : Sparse 8 × Sparse 16 := (c.lmem, c.lplane)

/-- What a refused operation leaves: a precise fault, its context standing at the instruction (R280, R343). -/
theorem State.domFault_leaves (s : State) {o : DomOp} (ht : o.ctx < 11) (f : Nat × Dword) :
    ((s.domFault o f).ctxAt o.core o.ctx).wait = .none ∧ ((s.domFault o f).ctxAt o.core o.ctx).hist = o.hist ∧ SameMemory s (s.domFault o f) ∧
    ((s.domFault o f).core o.core).held = holdReport (s.core o.core).held
      { arrived := s.now, cause := f.1, ctx := o.ctx, pc := o.pc, addr := f.2, resume := some o.pc } ∧
    ∃ y ∈ (s.domFault o f).agenda, y.what = .faultReport ∧ y.who.a = o.core := by
  have hlocal (k : Nat) : ((s.domFault o f).core k).localPart = (s.core k).localPart := by
    have hcore {g : Core → Core} (hg : ∀ c, (g c).localPart = c.localPart) (t : State) :
        ((t.onCore o.core g).core k).localPart = (t.core k).localPart := State.core_onCore_part Core.localPart hg t o.core k
    unfold State.domFault
    dsimp only
    rw [State.core_plan]
    refine (hcore (fun _ => ?_) _).trans ((hcore (fun _ => ?_) _).trans (hcore (fun _ => ?_) s)) <;> rfl
  have hctx : ∃ x : Ctx, (s.domFault o f).ctxAt o.core o.ctx = { x with hist := o.hist, wait := .none } := by
    unfold State.domFault
    dsimp only
    rw [State.ctxAt_plan, State.ctxAt, State.core_onCore]
    exact ⟨_, State.ctxAt_onCtx _ _ _ ht⟩
  obtain ⟨x, hx⟩ := hctx
  refine ⟨by rw [hx], by rw [hx], ⟨rfl, rfl, rfl, fun k => Prod.mk.inj (hlocal k)⟩, ?_, _, State.mem_plan _ _ _ _ _, rfl, rfl⟩
  unfold State.domFault
  dsimp only
  rw [State.core_plan, State.core_onCore, State.core_onCtx, State.core_onCore]
  rfl

/-- What a change that arrives leaves (R96, R100, R281). -/
theorem State.answerChange_leaves (s : State) {o : DomOp} (ht : o.ctx < 11) (c : Change) (ws : List RegWrite) :
    let v := ((s.takeChange o.core o.ctx c).arrive o.core o.seq 0 ws).onCtx o.core o.ctx (fun x => { x with wait := .none })
    v.ctxAt o.core o.ctx = { (s.takeChange o.core o.ctx c).ctxAt o.core o.ctx with wait := .none } ∧
    (∀ t, t ≠ o.ctx → v.ctxAt o.core t = s.ctxAt o.core t) ∧ (v.core o.core).view = (s.core o.core).view ∧ v.domOps = s.domOps := by
  have hview : (((s.takeChange o.core o.ctx c).arrive o.core o.seq 0 ws).core o.core).view = (s.core o.core).view :=
    (State.core_arrive_part (·.view) (fun _ _ => rfl) _ _ _ _ _ ws).trans (s.view_takeChange o.core o.ctx c).1
  refine ⟨?_, fun t htne => ?_, ?_, ?_⟩
  · rw [State.ctxAt_onCtx _ _ _ ht, State.arrive_ctxAt]
  · rw [State.ctxAt_onCtx_ne _ _ (by simp [htne]), State.arrive_ctxAt, State.ctxAt_takeChange_ne _ _ htne]
  · rw [State.core_onCtx, ← hview]
    rfl
  · exact (State.arrive_domOps _ _ _ _ ws).trans (s.view_takeChange o.core o.ctx c).2

theorem domainAnswers : Claims.DomainAnswers := by
  intro s o hf ht
  refine ⟨domainAnswer_plain hf, fun c hfault hk hc => ?_, fun f hfault => ⟨_, domainAnswer_fault hf hfault, ?_⟩, _, rfl, ?_⟩
  · obtain ⟨l, hd⟩ := domainAnswer_change hf hfault hk hc
    obtain ⟨hctx, hothers, hview, hops⟩ := (s.dropOp o.id).answerChange_leaves ht c [.s o.reg o.res l]
    refine ⟨_, hd, by rw [hctx], fun y hy => State.ne_of_mem_dropOp (hops ▸ hy), hothers, hview, fun hold => ?_, fun hnew => ?_⟩
    · rw [hctx, State.takeChange_held (s.dropOp o.id) o.core hold, State.ctxAt_dropOp]
    · rw [State.ctxAt_takeChange (s.dropOp o.id) o.core ht hnew, State.ctxAt_dropOp] at hctx
      refine ⟨by rw [hctx, Ctx.taken_overlay], fun u e he => ?_⟩
      subst he
      rw [hctx]
      exact ⟨rfl, eraIn_eq _, fun r => Vector.getElem?_map.trans (congrArg (Option.map · _) (funext eraIn_eq))⟩
  · obtain ⟨hwait, hhist, hmem, hheld, hplan⟩ := State.domFault_leaves (s.dropOp o.id) ht f
    exact ⟨hwait, hhist, ⟨hmem.mem, hmem.lines, hmem.ecc, hmem.cluster⟩, hheld, hplan⟩
  · rw [State.core_onCore]

end Sys2Proof.Machine
end

section
open Sys2Proof Sys2Proof.Machine Sys2Proof.Claims

/-- Settles O54: a probe by its branch, a resolved slot by the one map over the registers (`resolved_sreg`); the home's operations by the
doublewords that each leaves in the domain's object (`ObjectAs`), and the answer by the context that takes its change. -/
theorem labelSteps : Obligations.LabelSteps := ⟨labelSlots, domainHome, domainAnswers⟩

end

section
/-! SUPPORT. The operations on a link, each by what it leaves of the link's record and of the flits sent (R386 to R388). -/

namespace Sys2Proof.Machine
open Sys2Proof.Claims

/-! ## Flits -/

theorem sealFlit_whole (header : BitVec 64) (p : List Byte) : flitWhole (sealFlit header p) = true := by
  have hlen : ((p ++ List.replicate 240 0#8).take 240).length = 240 := by
    rw [List.length_take, List.length_append, List.length_replicate]
    omega
  rw [flitWhole, sealFlit]
  simp only [hlen, beq_self_eq_true, Bool.and_self]

theorem NLink.header_lt (l : NLink) {lane : Nat} (h : lane < 8) (seq : Nat) (nak : Bool) :
    lane + seq % 4096 * 2 ^ 3 + (l.rxSeq + 4095) % 4096 * 2 ^ 15 + (if nak then 2 ^ 27 else 0) + l.stop.toNat * 2 ^ 28 < 2 ^ 64 := by
  have hstop := l.stop.isLt
  split <;> omega

theorem NLink.header_toNat (l : NLink) {lane : Nat} (h : lane < 8) (seq : Nat) (nak : Bool) : (l.header lane seq nak).toNat =
    lane + seq % 4096 * 2 ^ 3 + (l.rxSeq + 4095) % 4096 * 2 ^ 15 + (if nak then 2 ^ 27 else 0) + l.stop.toNat * 2 ^ 28 :=
  (BitVec.toNat_ofNat _ _).trans (Nat.mod_eq_of_lt (l.header_lt h seq nak))

/-- The fields of a header (R387). -/
theorem NLink.header_fields (l : NLink) {lane : Nat} (h : lane < 8) (seq : Nat) (nak : Bool) :
    let x := (l.header lane seq nak).toNat
    x % 8 = lane ∧ x / 2 ^ 3 % 2 ^ 12 = seq % 4096 ∧ x / 2 ^ 15 % 2 ^ 12 = (l.rxSeq + 4095) % 4096 ∧ x.testBit 27 = nak ∧
      x / 2 ^ 28 % 2 ^ 8 = l.stop.toNat := by
  have hstop := l.stop.isLt
  dsimp only
  rw [l.header_toNat h, Nat.testBit_eq_decide_div_mod_eq]
  cases nak
  · simp only [Bool.false_eq_true, ↓reduceIte, decide_eq_false_iff_not]
    omega
  · simp only [↓reduceIte, decide_eq_true_eq]
    omega

theorem LinkMsg.lane_lt (m : LinkMsg) : m.lane < 8 := by
  unfold LinkMsg.lane
  split
  · split
    · omega
    · split <;> omega
  · omega
  · omega

/-- The flit of a message: its link, its message, whole, with the number and the lane in its header (R387, R388). -/
theorem State.flitOf_fields (s : State) (n seq : Nat) (m : LinkMsg) : (s.flitOf n seq m).link = n ∧ (s.flitOf n seq m).msg = some m ∧
    flitWhole (s.flitOf n seq m).flit = true ∧ (s.flitOf n seq m).flit.header.toNat / 2 ^ 3 % 2 ^ 12 = seq % 4096 ∧
    (s.flitOf n seq m).flit.header.toNat % 8 = m.lane := by
  obtain ⟨hlane, hseq, -⟩ := (s.nlink n).header_fields m.lane_lt seq false
  exact ⟨rfl, rfl, sealFlit_whole _ _, hseq, hlane⟩

/-- Flits on their way to the peers. -/
def State.sendFlits (s : State) (fs : List LinkFlit) : State := { s with linkOut := s.linkOut ++ fs }

theorem State.nlink_sendFlits (s : State) (fs : List LinkFlit) (n : Nat) : (s.sendFlits fs).nlink n = s.nlink n := rfl

/-! ## Messages sent -/

/-- The messages of a link that leave, each with its sequence number (R387). -/
def NLink.leaving (l : NLink) : List (Nat × LinkMsg) :=
  (takeFlits l.stopIn (128 - l.replayBuf.length) l.sendq).1.zipIdx.map (fun p => ((l.txSeq + p.2) % 4096, p.1))

/-- A link once they have left. -/
def NLink.pumped (l : NLink) : NLink :=
  let r := takeFlits l.stopIn (128 - l.replayBuf.length) l.sendq
  { l with sendq := r.2, txSeq := (l.txSeq + r.1.length) % 4096, replayBuf := l.replayBuf ++ l.leaving }

section
variable {s : State} {n : Nat}

theorem State.pump_eq (hs : (s.nlink n).sends = true) : s.pump n =
    (s.onLink n NLink.pumped).sendFlits ((s.nlink n).leaving.map (fun p => s.flitOf n p.1 p.2)) := if_neg (by simp [hs])

theorem State.toLink_down (hs : (s.nlink n).sends = false) (m : LinkMsg) : s.toLink n m = s := if_neg (by simp [hs])

theorem State.toLink_up (hs : (s.nlink n).sends = true) (m : LinkMsg) :
    s.toLink n m = (s.onLink n (fun l => { l with sendq := l.sendq ++ [m] })).pump n := if_pos hs

/-- Neither the time nor the steps to come change. -/
theorem State.toLink_parts (s : State) (n : Nat) (m : LinkMsg) : (s.toLink n m).now = s.now ∧ (s.toLink n m).agenda = s.agenda := by
  cases hs : (s.nlink n).sends
  · rw [State.toLink_down hs]
    exact ⟨rfl, rfl⟩
  · rw [State.toLink_up hs]
    unfold State.pump
    dsimp only
    split <;> exact ⟨rfl, rfl⟩

variable (hn : n < 16)
include hn

theorem State.nlink_pump (hs : (s.nlink n).sends = true) : (s.pump n).nlink n = (s.nlink n).pumped := by
  rw [State.pump_eq hs, State.nlink_sendFlits, State.nlink_onLink s hn]

/-- The link of a message that is sent. -/
theorem State.nlink_toLink (hs : (s.nlink n).sends = true) (m : LinkMsg) :
    (s.toLink n m).nlink n = NLink.pumped { s.nlink n with sendq := (s.nlink n).sendq ++ [m] } := by
  have hl := State.nlink_onLink s hn (fun l => { l with sendq := l.sendq ++ [m] })
  rw [State.toLink_up hs, State.nlink_pump hn (by rw [hl]; exact hs), hl]

theorem State.linkOut_toLink (hs : (s.nlink n).sends = true) (m : LinkMsg) : ∃ t : State, (s.toLink n m).linkOut =
    s.linkOut ++ (NLink.leaving { s.nlink n with sendq := (s.nlink n).sendq ++ [m] }).map (fun p => t.flitOf n p.1 p.2) := by
  have hl := State.nlink_onLink s hn (fun l => { l with sendq := l.sendq ++ [m] })
  rw [State.toLink_up hs, State.pump_eq (by rw [hl]; exact hs), hl]
  exact ⟨_, rfl⟩

end

/-- What leaves of a queue of one message. -/
theorem takeFlits_one (stop : BitVec 8) (room : Nat) (m : LinkMsg) : takeFlits stop room [m] =
    if room = 0 ∨ stop.getLsbD m.lane = true then ([], [m]) else ([m], []) := by
  cases room with
  | zero => rfl
  | succ r =>
    cases h : stop.getLsbD m.lane <;> cases r <;> simp [takeFlits, h]

section
variable {s : State} {n : Nat} (hn : n < 16) (m : LinkMsg) (hs : (s.nlink n).sends = true) (hq : (s.nlink n).sendq = [])
include hn hs hq

/-- A message that leaves at once, under the next number (R387). -/
theorem State.toLink_sent (hroom : (s.nlink n).replayBuf.length < 128) (hstop : (s.nlink n).stopIn.getLsbD m.lane = false) :
    (∃ t : State, (s.toLink n m).linkOut = s.linkOut ++ [t.flitOf n ((s.nlink n).txSeq % 4096) m]) ∧
      ((s.toLink n m).nlink n).replayBuf = (s.nlink n).replayBuf ++ [((s.nlink n).txSeq % 4096, m)] ∧
      ((s.toLink n m).nlink n).txSeq = ((s.nlink n).txSeq + 1) % 4096 := by
  have htake : takeFlits (s.nlink n).stopIn (128 - (s.nlink n).replayBuf.length) [m] = ([m], []) := by
    rw [takeFlits_one, if_neg]
    simp only [hstop, Bool.false_eq_true, or_false]
    omega
  obtain ⟨t, ht⟩ := State.linkOut_toLink hn hs m
  rw [State.nlink_toLink hn hs]
  rw [hq, List.nil_append] at ht ⊢
  refine ⟨⟨t, ht.trans ?_⟩, ?_, ?_⟩ <;> simp [NLink.leaving, NLink.pumped, htake]

/-- A message that waits for its lane or for a place in the replay buffer (R387, R388). -/
theorem State.toLink_waits (h : 128 ≤ (s.nlink n).replayBuf.length ∨ (s.nlink n).stopIn.getLsbD m.lane = true) :
    (s.toLink n m).linkOut = s.linkOut ∧ ((s.toLink n m).nlink n).sendq = [m] ∧
      ((s.toLink n m).nlink n).replayBuf = (s.nlink n).replayBuf := by
  have htake : takeFlits (s.nlink n).stopIn (128 - (s.nlink n).replayBuf.length) [m] = ([], [m]) := by
    rw [takeFlits_one, if_pos (h.imp (by omega) id)]
  obtain ⟨t, ht⟩ := State.linkOut_toLink hn hs m
  rw [State.nlink_toLink hn hs]
  rw [hq, List.nil_append] at ht ⊢
  refine ⟨ht.trans ?_, ?_, ?_⟩ <;> simp [NLink.leaving, NLink.pumped, htake]

end

end Sys2Proof.Machine
end

section
/-! SUPPORT. A link's training (R386, R389, R391). -/

namespace Sys2Proof.Machine
open Sys2Proof.Claims

/-- The step that ends a state whose limit has passed. -/
def State.limitStep (s : State) (n us : Nat) : Todo :=
  { key := 4 * (s.now + s.micros us), what := .nelrekStateTimeout, who := { a := n, b := s.now } }

theorem State.nlink_plan (s : State) (d p : Nat) (i : Instr) (w : Subj) (n : Nat) : (s.plan d p i w).nlink n = s.nlink n := rfl

/-- A link's record as it enters EXCHANGE. -/
def NLink.toExchange (l : NLink) (now : Nat) : NLink :=
  { l with state := .exchange, entered := now, domain := bits l.inCfg.toNat 49 40, peer := none }

/-- A link that enters EXCHANGE, before it sends. -/
def State.exchanging (s : State) (n : Nat) : State :=
  (s.onLink n (fun l => { l with state := .exchange, entered := s.now })).onLink n
    (fun l => { l with domain := bits l.inCfg.toNat 49 40, peer := none })

theorem State.enterExchange_eq (s : State) (n : Nat) : s.enterLink n .exchange =
    ((s.exchanging n).toLink n (.caps ((s.exchanging n).linkCaps n))).plan (s.micros 10) 0 .nelrekStateTimeout { a := n, b := s.now } := rfl

/-- A link's record as it leaves for DOWN, its pairs aside (R386). -/
def NLink.fallen (now : Nat) (l : NLink) : NLink :=
  { l with
    state := .down, entered := now, downs := (l.downs + 1) % 2 ^ 16, rxSeq := 0, txSeq := 0, replayBuf := [], replays := 0,
    stop := 0#8, stopIn := 0#8, rxCount := Vector.replicate 8 0, sendq := [], peer := none }

/-- A link leaves for DOWN: the flits that it had taken are not read. -/
def State.fallen (s : State) (n : Nat) : State :=
  { s.onLink n (NLink.fallen s.now) with agenda := s.agenda.filter (fun x => !drains n x) }

theorem State.nlink_fallen (s : State) (n : Nat) : (s.fallen n).nlink n = (s.onLink n (NLink.fallen s.now)).nlink n := rfl

theorem State.linkDown_eq {s : State} {n : Nat} (h : (s.nlink n).state ≠ .active) :
    s.linkDown n = (s.fallen n).plan (1 + (s.fallen n).freeN n) 0 .nelrekRetry { a := n } := by
  unfold State.linkDown
  dsimp only
  rw [if_neg h]
  rfl

section
variable (s : State) {n : Nat} (hn : n < 16)
include hn

theorem State.nlink_enterLink {st : NState} (hst : st ≠ .exchange) :
    (s.enterLink n st).nlink n = { s.nlink n with state := st, entered := s.now } := by
  unfold State.enterLink
  dsimp only
  rw [if_neg hst]
  cases limitOf st with
  | none => exact State.nlink_onLink s hn _
  | some us => exact (State.nlink_plan _ _ _ _ _ _).trans (State.nlink_onLink s hn _)

omit hn in
/-- A state with a limit leaves for DOWN when it passes. -/
theorem State.enterLink_limit {st : NState} {us : Nat} (h : limitOf st = some us) : s.limitStep n us ∈ (s.enterLink n st).agenda := by
  have hplan (t : State) (ht : t.now = s.now) :
      s.limitStep n us ∈ (t.plan (s.micros us) 0 .nelrekStateTimeout { a := n, b := s.now }).agenda := by
    have hm := State.mem_plan t (s.micros us) 0 .nelrekStateTimeout { a := n, b := s.now }
    rwa [ht] at hm
  unfold State.enterLink
  dsimp only
  rw [h]
  refine hplan _ ?_
  split
  · exact (State.toLink_parts _ n _).1
  · rfl

theorem State.nlink_exchanging : (s.exchanging n).nlink n = (s.nlink n).toExchange s.now := by
  rw [State.exchanging, State.nlink_onLink _ hn, State.nlink_onLink _ hn, NLink.toExchange]

theorem State.exchanging_sends : ((s.exchanging n).nlink n).sends = true := by
  rw [s.nlink_exchanging hn]
  rfl

/-- EXCHANGE fixes the inbound domain that INCFG names (R391). -/
theorem State.nlink_enterExchange : ((s.enterLink n .exchange).nlink n).state = .exchange ∧ ((s.enterLink n .exchange).nlink n).entered = s.now ∧
    ((s.enterLink n .exchange).nlink n).domain = (s.nlink n).inCfg.toNat / 2 ^ 40 % 2 ^ 10 ∧
    ((s.enterLink n .exchange).nlink n).peer = none := by
  rw [State.enterExchange_eq, State.nlink_plan, State.nlink_toLink hn (s.exchanging_sends hn), s.nlink_exchanging hn]
  exact ⟨rfl, rfl, rfl, rfl⟩

/-- EXCHANGE sends the capability flit (R386). -/
theorem State.linkOut_enterExchange (hq : (s.nlink n).sendq = []) (hb : (s.nlink n).replayBuf = []) (hstop : (s.nlink n).stopIn = 0#8) :
    ∃ f c, (s.enterLink n .exchange).linkOut = s.linkOut ++ [f] ∧ f.link = n ∧ f.msg = some (.caps c) ∧
      c.identity = Config.moduleIdentity ∧ c.number = n ∧ c.domain = (s.nlink n).inCfg.toNat / 2 ^ 40 % 2 ^ 10 := by
  have hl := s.nlink_exchanging hn
  obtain ⟨⟨t, ht⟩, -⟩ := State.toLink_sent hn (.caps ((s.exchanging n).linkCaps n)) (s.exchanging_sends hn) (by rw [hl]; exact hq)
    (by rw [hl]; simp [NLink.toExchange, hb]) (by rw [hl]; simp [NLink.toExchange, hstop])
  refine ⟨_, _, ht, rfl, rfl, rfl, rfl, ?_⟩
  rw [State.linkCaps, hl]
  rfl

/-- A link that is not in ACTIVE goes to DOWN; it trains again later (R386). -/
theorem State.linkDown_idle (h : (s.nlink n).state ≠ .active) : ((s.linkDown n).nlink n).state = .down ∧
    ((s.linkDown n).nlink n).downs = ((s.nlink n).downs + 1) % 2 ^ 16 ∧ ∃ x ∈ (s.linkDown n).agenda, x.what = .nelrekRetry ∧ x.who.a = n := by
  have hl := State.nlink_onLink s hn (NLink.fallen s.now)
  rw [State.linkDown_eq h]
  refine ⟨?_, ?_, _, State.mem_plan _ _ _ _ _, rfl, rfl⟩ <;> rw [State.nlink_plan, State.nlink_fallen, hl] <;> rfl

end

theorem NLink.exchanged_iff (l : NLink) : l.exchanged = true ↔ l.state = .exchange ∧ l.peer ≠ none ∧ l.replayBuf = [] ∧ l.sendq = [] := by
  simp [NLink.exchanged, Option.isSome_iff_ne_none, and_assoc]

theorem limitOf_isSome (st : NState) : (limitOf st).isSome = true ↔ st = .equalise ∨ st = .deskew ∨ st = .exchange := by
  cases st <;> simp [limitOf]

/-- An advance by the state that the link is in (R386). -/
theorem nelrekStateAdvance_does {s : State} (hn : s.subj.a < 16) (hr : s.railOff = false) :
    ((s.nlink s.subj.a).state = .detect → Does .nelrekStateAdvance s (s.enterLink s.subj.a .equalise)) ∧
    ((s.nlink s.subj.a).state = .equalise → Does .nelrekStateAdvance s (s.enterLink s.subj.a .deskew)) ∧
    ((s.nlink s.subj.a).state = .deskew → Does .nelrekStateAdvance s (s.enterLink s.subj.a .exchange)) ∧
    ((s.nlink s.subj.a).state = .exchange → (s.nlink s.subj.a).exchanged = true →
      Does .nelrekStateAdvance s (s.enterLink s.subj.a .active)) ∧
    ((s.nlink s.subj.a).state = .exchange → (s.nlink s.subj.a).exchanged = false → Does .nelrekStateAdvance s s) ∧
    ((s.nlink s.subj.a).state = .active → Does .nelrekStateAdvance s (s.linkDown s.subj.a)) := by
  have hrun : (decide (16 ≤ s.subj.a) || s.railOff) = false := by simp [hr, hn]
  refine ⟨?_, ?_, ?_, ?_, ?_, ?_⟩ <;> intro h <;>
    simp +contextual only [Does, exec_nelrekStateAdvance, execNelrekStateAdvance, hrun, h, Bool.false_eq_true, ↓reduceIte, implies_true]

theorem nelrekStateTimeout_passes {s : State} (h : (limitOf (s.nlink s.subj.a).state).isSome = true)
    (he : (s.nlink s.subj.a).entered = s.subj.b) : Does .nelrekStateTimeout s (s.linkDown s.subj.a) := by
  simp [Does, exec_nelrekStateTimeout, execNelrekStateTimeout, h, he]

theorem training : Claims.Training := by
  intro s
  dsimp only
  intro hn
  have hlimit {st : NState} {us : Nat} (h : limitOf st = some us) := s.enterLink_limit (n := s.subj.a) h
  refine ⟨fun hr => ?_, NLink.exchanged_iff _, fun hst => ⟨fun he => ?_, fun he => ?_⟩, fun hst => ?_⟩
  · obtain ⟨hdet, heq, hdes, hex, hwait, hact⟩ := nelrekStateAdvance_does hn hr
    refine ⟨fun h => ⟨_, ⟨hdet h, ?_, ?_⟩, hlimit rfl⟩, fun h => ⟨_, ⟨heq h, ?_, ?_⟩, hlimit rfl⟩, fun h => ?_,
      fun h he => ⟨_, ⟨hex h he, ?_, ?_⟩, ?_⟩, hwait, hact⟩
    case refine_5 =>
      obtain ⟨hstate, hentered, hdomain, hpeer⟩ := s.nlink_enterExchange hn
      refine ⟨_, ⟨hdes h, hstate, hentered⟩, hlimit rfl, hdomain, hpeer, fun hq hb hstop => ?_⟩
      rw [hdomain]
      exact s.linkOut_enterExchange hn hq hb hstop
    all_goals rw [s.nlink_enterLink hn (by decide)]
  · rcases hst with h | h | h <;> exact ⟨_, nelrekStateTimeout_passes ((limitOf_isSome _).2 (by simp [h])) he, s.linkDown_idle hn (by simp [h])⟩
  · simp [Does, exec_nelrekStateTimeout, execNelrekStateTimeout, he]
  · refine ⟨s.enterLink s.subj.a .detect, by simp [Does, exec_nelrekRetry, execNelrekRetry, hst], ?_⟩
    rw [s.nlink_enterLink hn (by decide)]

end Sys2Proof.Machine
end

section
/-! SUPPORT. Flits that arrive on a link (R387, R388). -/

namespace Sys2Proof.Machine
open Sys2Proof.Claims

/-! ## STOP -/

section
variable (stop : BitVec 8) {lane : Nat} (h : lane < 8)
include h

theorem stopAt_full {free : Nat} (hf : free ≤ 8) : (stopAt stop lane free).getLsbD lane = true := by
  rw [stopAt, if_pos hf]
  simp [h]

theorem stopAt_free {free : Nat} (hf : 32 ≤ free) : (stopAt stop lane free).getLsbD lane = false := by
  rw [stopAt, if_neg (by omega), if_pos hf]
  simp [h]

omit h in
theorem stopAt_other (free : Nat) {i : Nat} (hi : i < 8) (hne : i ≠ lane) : (stopAt stop lane free).getLsbD i = stop.getLsbD i := by
  have hbit : (1#8 <<< lane).getLsbD i = false := by
    rw [BitVec.getLsbD_shiftLeft]
    simp only [BitVec.getLsbD_one]
    simp
    omega
  unfold stopAt
  split
  · rw [BitVec.getLsbD_or, hbit, Bool.or_false]
  · split
    · rw [BitVec.getLsbD_and, BitVec.getLsbD_not, hbit]
      simp [hi]
    · rfl

end

/-! ## Headers and replies -/

theorem NLink.sends_iff (l : NLink) : l.sends = true ↔ l.state = .active ∨ l.state = .exchange := by
  simp [NLink.sends]

theorem flitWhole_iff (f : Flit) :
    flitWhole f = true ↔ f.payload.length = 240 ∧ f.crc = crc64 (leBytes 8 f.header.toNat ++ f.payload) := by
  rw [flitWhole, Bool.and_eq_true, beq_iff_eq, beq_iff_eq, eq_comm (a := f.crc)]

theorem State.nlink_reply (s : State) (n : Nat) (nak : Bool) (k : Nat) : (s.reply n nak).nlink k = s.nlink k := rfl

/-- A flit that carries its header alone (R387; entry 16). -/
theorem State.reply_is (s : State) (n : Nat) (nak : Bool) : ∃ x, s.reply n nak = { s with linkOut := s.linkOut ++ [x] } ∧ x.link = n ∧
    x.msg = none ∧ flitWhole x.flit = true ∧ x.flit.header.getLsbD 27 = nak ∧
    x.flit.header.toNat / 2 ^ 15 % 2 ^ 12 = ((s.nlink n).rxSeq + 4095) % 4096 ∧
    x.flit.header.toNat / 2 ^ 28 % 2 ^ 8 = (s.nlink n).stop.toNat := by
  obtain ⟨-, -, hack, hnak, hstop⟩ := (s.nlink n).header_fields (lane := 3) (by omega) ((s.nlink n).txSeq + 4095) nak
  exact ⟨_, rfl, rfl, rfl, sealFlit_whole _ _, hnak, hack, hstop⟩

/-! ## A flit taken -/

/-- The record of a link that has taken a flit of a lane (R387, R388). -/
theorem State.nlink_takeFlit (s : State) {n : Nat} (hn : n < 16) (f : Flit) : ∃ p, (s.takeFlit n f).nlink n = { s.nlink n with
    rxSeq := ((s.nlink n).rxSeq + 1) % 4096
    rxCount := vset (s.nlink n).rxCount (f.header.toNat % 8) (vget (s.nlink n).rxCount (f.header.toNat % 8) 0 + 1)
    stop := stopAt (s.nlink n).stop (f.header.toNat % 8) (64 - (vget (s.nlink n).rxCount (f.header.toNat % 8) 0 + 1))
    peer := p } := by
  unfold State.takeFlit
  dsimp only
  rw [State.nlink_reply, State.nlink_plan, State.nlink_onLink _ hn]
  exact ⟨_, rfl⟩

theorem State.takeFlit_leaves (s : State) {n : Nat} (hn : n < 16) (f : Flit) :
    let l := s.nlink n
    let lane := f.header.toNat % 8
    let v := s.takeFlit n f
    let held := vget l.rxCount lane 0 + 1
    (v.nlink n).rxSeq = (l.rxSeq + 1) % 4096 ∧ vget (v.nlink n).rxCount lane 0 = held ∧ (56 ≤ held → (v.nlink n).stop.getLsbD lane = true) ∧
    (∀ i, i < 8 → i ≠ lane → vget (v.nlink n).rxCount i 0 = vget l.rxCount i 0 ∧ (v.nlink n).stop.getLsbD i = l.stop.getLsbD i) ∧
    ∃ x ∈ v.agenda, x.what = .flitReceive n f ∧ x.who.a = 1 ∧ x.who.b = lane ∧ x.key ≤ 4 * (s.now + 64) := by
  dsimp only
  have hlane : f.header.toNat % 8 < 8 := Nat.mod_lt _ (by omega)
  obtain ⟨p, hl⟩ := s.nlink_takeFlit hn f
  rw [hl]
  refine ⟨rfl, vget_vset_same _ _ _ hlane, fun h => stopAt_full _ hlane (by omega), fun i hi hne => ⟨vget_vset_ne _ _ _ (Ne.symm hne),
    stopAt_other _ _ hi hne⟩, _, State.mem_plan _ _ _ _ _, rfl, rfl, rfl, ?_⟩
  have htime : (1 + s.freeN (f.header.toNat % 8) % 64) ≤ 64 := by omega
  exact Nat.mul_le_mul_left 4 (Nat.add_le_add_left htime s.now)

/-! ## A flit read -/

/-- The record of a link of whose lane a flit is read. -/
def NLink.read (lane : Nat) (l : NLink) : NLink :=
  { l with
    rxCount := vset l.rxCount lane (vget l.rxCount lane 0 - 1), stop := stopAt l.stop lane (64 - (vget l.rxCount lane 0 - 1)) }

/-- The state before a flit's message takes effect: its place is free, and the peer learns of STOP. -/
def State.freed (s : State) (n : Nat) : State :=
  let s1 := s.onLink n (NLink.read s.subj.b)
  if ((s.nlink n).read s.subj.b).stop = (s.nlink n).stop then s1 else s1.reply n false

theorem State.readFlit_eq {s : State} {n : Nat} {f : Flit}
    (hfirst : ∀ x ∈ s.agenda, drains n x = true → x.who.b = s.subj.b → s.subj.c ≤ x.who.c) : s.readFlit n f =
    (match Config.readPayload f.payload with
     | none => s.freed n
     | some i => if s.subj.d = 0 && peerStep n i then (s.freed n).plan 0 0 i {} else s.freed n) := by
  have hany : s.agenda.any (fun x => drains n x && x.who.b == s.subj.b && decide (x.who.c < s.subj.c)) = false := by
    rw [Bool.eq_false_iff, Ne, List.any_eq_true]
    rintro ⟨x, hx, h⟩
    simp only [Bool.and_eq_true, beq_iff_eq, decide_eq_true_eq] at h
    obtain ⟨⟨hd, hb⟩, hc⟩ := h
    exact absurd hc (Nat.not_lt.2 (hfirst x hx hd hb))
  unfold State.readFlit
  dsimp only
  rw [hany]
  rfl

theorem State.nlink_freed (s : State) {n : Nat} (hn : n < 16) : (s.freed n).nlink n = (s.nlink n).read s.subj.b := by
  unfold State.freed
  dsimp only
  split
  · exact State.nlink_onLink s hn _
  · rw [State.nlink_reply, State.nlink_onLink s hn]

theorem State.now_freed (s : State) (n : Nat) : (s.freed n).now = s.now := by
  unfold State.freed
  dsimp only
  split <;> rfl

/-- A flit's place is free once it is read, and its message's step is due in the same cycle. -/
theorem State.readFlit_leaves {s : State} {n : Nat} (hn : n < 16) {f : Flit} (hb : s.subj.b < 8)
    (hfirst : ∀ x ∈ s.agenda, drains n x = true → x.who.b = s.subj.b → s.subj.c ≤ x.who.c) :
    vget ((s.readFlit n f).nlink n).rxCount s.subj.b 0 = vget (s.nlink n).rxCount s.subj.b 0 - 1 ∧
    (vget (s.nlink n).rxCount s.subj.b 0 - 1 ≤ 32 → ((s.readFlit n f).nlink n).stop.getLsbD s.subj.b = false) ∧
    (∀ i, Config.readPayload f.payload = some i → s.subj.d = 0 → peerStep n i = true →
      ∃ x ∈ (s.readFlit n f).agenda, x.what = i ∧ x.key = 4 * s.now) := by
  have hl : (s.readFlit n f).nlink n = (s.nlink n).read s.subj.b := by
    rw [State.readFlit_eq hfirst, ← s.nlink_freed hn]
    split
    · rfl
    · split <;> rfl
  rw [hl]
  refine ⟨vget_vset_same _ _ _ hb, fun h => stopAt_free _ hb (by omega), fun i hi hd hp => ?_⟩
  rw [State.readFlit_eq hfirst, hi]
  simp only [hd, hp, decide_true, Bool.and_self, ↓reduceIte]
  refine ⟨_, State.mem_plan _ _ _ _ _, rfl, ?_⟩
  dsimp only
  rw [s.now_freed]
  omega

/-! ## FLIT_RECEIVE -/

theorem bits_seq (h : Nat) : bits h 14 3 = h / 2 ^ 3 % 2 ^ 12 := rfl

theorem flitReceive_off {s : State} {n : Nat} {f : Flit} (h : (s.nlink n).sends = false ∨ s.railOff = true) :
    Does (.flitReceive n f) s s := by
  simp [Does, exec_flitReceive, execFlitReceive, h]

section
variable {s : State} {n : Nat} {f : Flit} (hs : (s.nlink n).sends = true) (hr : s.railOff = false)
include hs hr

theorem flitReceive_reads (ha : s.subj.a = 1) : Does (.flitReceive n f) s (s.readFlit n f) := by
  simp [Does, exec_flitReceive, execFlitReceive, hs, hr, ha]

variable (ha : s.subj.a ≠ 1)
include ha

theorem flitReceive_damaged (hw : flitWhole f = false) : Does (.flitReceive n f) s (s.reply n true) := by
  simp [Does, exec_flitReceive, execFlitReceive, hs, hr, ha, hw]

variable (hw : flitWhole f = true)
include hw

theorem flitReceive_whole : Does (.flitReceive n f) s (
    if f.header.toNat / 2 ^ 3 % 2 ^ 12 = (s.nlink n).rxSeq then (s.takeFlit n f).takeHeader n f.header.toNat
    else if f.header.toNat / 2 ^ 3 % 2 ^ 12 = ((s.nlink n).rxSeq + 4095) % 4096 then s.takeHeader n f.header.toNat
    else (s.reply n true).takeHeader n f.header.toNat) := by
  simp only [Does, exec_flitReceive, execFlitReceive, hs, hr, ha, hw, bits_seq, Bool.not_true, Bool.or_self, Bool.false_eq_true, ↓reduceIte]
  rfl

theorem flitReceive_due (h : f.header.toNat / 2 ^ 3 % 2 ^ 12 = (s.nlink n).rxSeq) :
    Does (.flitReceive n f) s ((s.takeFlit n f).takeHeader n f.header.toNat) := by
  have hd := flitReceive_whole hs hr ha hw
  rwa [if_pos h] at hd

variable (hne : f.header.toNat / 2 ^ 3 % 2 ^ 12 ≠ (s.nlink n).rxSeq)
include hne

theorem flitReceive_repeated (h : f.header.toNat / 2 ^ 3 % 2 ^ 12 = ((s.nlink n).rxSeq + 4095) % 4096) :
    Does (.flitReceive n f) s (s.takeHeader n f.header.toNat) := by
  have hd := flitReceive_whole hs hr ha hw
  rwa [if_neg hne, if_pos h] at hd

theorem flitReceive_gap (h : f.header.toNat / 2 ^ 3 % 2 ^ 12 ≠ ((s.nlink n).rxSeq + 4095) % 4096) :
    Does (.flitReceive n f) s ((s.reply n true).takeHeader n f.header.toNat) := by
  have hd := flitReceive_whole hs hr ha hw
  rwa [if_neg hne, if_neg h] at hd

end

theorem flitsIn : Claims.FlitsIn := by
  intro s n f hn
  exact ⟨NLink.sends_iff _, flitReceive_off, fun hs hr ha => ⟨flitReceive_damaged hs hr ha, flitReceive_due hs hr ha,
    flitReceive_repeated hs hr ha, flitReceive_gap hs hr ha⟩, flitWhole_iff f, s.reply_is n, s.takeFlit_leaves hn f,
    fun hs hr ha hb hfirst => ⟨_, flitReceive_reads hs hr ha, State.readFlit_leaves hn hb hfirst⟩⟩

end Sys2Proof.Machine
end

section
/-! SUPPORT. The replay buffer, and what a header says about it (R387, R388). -/

namespace Sys2Proof.Machine
open Sys2Proof.Claims

/-- What stays of the replay buffer once the flits up to number `ack` are acknowledged. -/
def NLink.unacked (l : NLink) (ack : Nat) : List (Nat × LinkMsg) :=
  if l.replayBuf.any (fun q => q.1 == ack) then (l.replayBuf.dropWhile (fun q => q.1 != ack)).drop 1 else l.replayBuf

/-- How often the first flit of the buffer has been sent again in a row. -/
def NLink.again (l : NLink) (ack : Nat) : Nat := if (l.unacked ack).head? = l.replayBuf.head? then l.replays else 0

/-- A link's record once it has read a header. -/
def NLink.headed (h : Nat) (l : NLink) : NLink :=
  { l with
    replayBuf := l.unacked (h / 2 ^ 15 % 2 ^ 12), replays := l.again (h / 2 ^ 15 % 2 ^ 12), stopIn := BitVec.ofNat 8 (h / 2 ^ 28) }

theorem NLink.unacked_of_split {l : NLink} {gone kept : List (Nat × LinkMsg)} {q : Nat × LinkMsg} (hl : l.replayBuf = gone ++ q :: kept)
    (hgone : ∀ p ∈ gone, p.1 ≠ q.1) : l.unacked q.1 = kept := by
  have hany : (gone ++ q :: kept).any (fun p => p.1 == q.1) = true := by simp
  rw [NLink.unacked, hl, if_pos hany, List.dropWhile_append_of_pos (fun p hp => by simpa using hgone p hp)]
  simp

theorem NLink.unacked_of_ne {l : NLink} {ack : Nat} (h : ∀ q ∈ l.replayBuf, q.1 ≠ ack) : l.unacked ack = l.replayBuf :=
  if_neg (by
    rw [List.any_eq_true]
    rintro ⟨q, hq, he⟩
    exact h q hq (beq_iff_eq.1 he))

section
variable (s : State) (n h : Nat)

theorem stopBits (h : Nat) : BitVec.ofNat 8 (bits h 35 28) = BitVec.ofNat 8 (h / 2 ^ 28) := by
  refine BitVec.eq_of_toNat_eq ?_
  rw [BitVec.toNat_ofNat, BitVec.toNat_ofNat, bits]
  omega

theorem State.takeHeader_headed : s.onLink n (fun l => { l with
      replayBuf := (s.nlink n).unacked (bits h 26 15), replays := (s.nlink n).again (bits h 26 15),
      stopIn := BitVec.ofNat 8 (bits h 35 28) }) = s.onLink n (NLink.headed h) := by
  rw [stopBits]
  rfl

/-- What a header does: the link learns from it, and then the rest is sent again, or the link falls, or it sends on (R387). -/
theorem State.takeHeader_eq : s.takeHeader n h =
    (let t := s.onLink n (NLink.headed h)
     let buf := (s.nlink n).unacked (h / 2 ^ 15 % 2 ^ 12)
     let again := (s.nlink n).again (h / 2 ^ 15 % 2 ^ 12)
     if h.testBit 27 && !buf.isEmpty then
       if 8 ≤ again + 1 then t.linkDown n
       else
         let u := t.onLink n (fun l => { l with replays := again + 1 })
         u.sendFlits (buf.map (fun q => u.flitOf n q.1 q.2))
     else (t.activate n).pump n) := by
  rw [← State.takeHeader_headed, ← bitAt_eq_testBit]
  rfl

end

section
variable {s : State} {n : Nat} (hn : n < 16) {h : Nat}
include hn

/-- A header without NAK, on a link that it does not make ACTIVE (R387, R388). -/
theorem State.takeHeader_ack {kept : List (Nat × LinkMsg)} (hkept : (s.nlink n).unacked (h / 2 ^ 15 % 2 ^ 12) = kept)
    (hnak : h.testBit 27 = false) (hs : (s.nlink n).sends = true) (hex : (s.nlink n).state = .exchange → kept ≠ [])
    (hq : (s.nlink n).sendq = []) :
    ((s.takeHeader n h).nlink n).replayBuf = kept ∧ ((s.takeHeader n h).nlink n).stopIn = BitVec.ofNat 8 (h / 2 ^ 28) := by
  have hl := State.nlink_onLink s hn (NLink.headed h)
  have hidle : (((s.onLink n (NLink.headed h)).nlink n).exchanged) = false := by
    rw [hl, Bool.eq_false_iff, Ne, NLink.exchanged_iff]
    rintro ⟨hstate, -, hempty, -⟩
    exact hex hstate (hkept.symm.trans hempty)
  have hpump : (s.takeHeader n h).nlink n = ((s.nlink n).headed h).pumped := by
    rw [State.takeHeader_eq]
    simp only [hnak, Bool.false_and, Bool.false_eq_true, ↓reduceIte, State.activate, hidle]
    rw [State.nlink_pump hn (by rw [hl]; exact hs), hl]
  have hbuf : ((s.nlink n).headed h).replayBuf = kept := hkept
  have hqueue : ((s.nlink n).headed h).sendq = [] := hq
  have hnone (stop : BitVec 8) (room : Nat) : takeFlits stop room [] = ([], []) := by
    cases room <;> rfl
  rw [hpump]
  refine ⟨?_, rfl⟩
  simp [NLink.pumped, NLink.leaving, hbuf, hqueue, hnone]

/-- A link's record once its replay buffer has been sent again. -/
theorem State.takeHeader_again (hnak : h.testBit 27 = true) (hbuf : (s.nlink n).unacked (h / 2 ^ 15 % 2 ^ 12) ≠ [])
    (hagain : (s.nlink n).again (h / 2 ^ 15 % 2 ^ 12) < 7) :
    ((s.takeHeader n h).nlink n).replayBuf = (s.nlink n).unacked (h / 2 ^ 15 % 2 ^ 12) ∧
    ((s.takeHeader n h).nlink n).replays = (s.nlink n).again (h / 2 ^ 15 % 2 ^ 12) + 1 ∧
    ∃ t : State, (s.takeHeader n h).linkOut = s.linkOut ++ ((s.nlink n).unacked (h / 2 ^ 15 % 2 ^ 12)).map (fun q => t.flitOf n q.1 q.2) := by
  have hcond : (h.testBit 27 && !((s.nlink n).unacked (h / 2 ^ 15 % 2 ^ 12)).isEmpty) = true := by
    rw [hnak, Bool.true_and, Bool.not_eq_true', List.isEmpty_eq_false_iff]
    exact hbuf
  rw [State.takeHeader_eq]
  dsimp only
  rw [if_pos hcond, if_neg (by omega), State.nlink_sendFlits, State.nlink_onLink _ hn, State.nlink_onLink _ hn]
  exact ⟨rfl, rfl, _, rfl⟩

theorem State.takeHeader_falls (hnak : h.testBit 27 = true) (hbuf : (s.nlink n).unacked (h / 2 ^ 15 % 2 ^ 12) ≠ [])
    (hagain : 7 ≤ (s.nlink n).again (h / 2 ^ 15 % 2 ^ 12)) :
    ∃ w : State, s.takeHeader n h = w.linkDown n ∧ w.mem = s.mem ∧ w.domOps = s.domOps ∧ (w.nlink n).pairs = (s.nlink n).pairs := by
  have hcond : (h.testBit 27 && !((s.nlink n).unacked (h / 2 ^ 15 % 2 ^ 12)).isEmpty) = true := by
    rw [hnak, Bool.true_and, Bool.not_eq_true', List.isEmpty_eq_false_iff]
    exact hbuf
  refine ⟨s.onLink n (NLink.headed h), ?_, rfl, rfl, ?_⟩
  · rw [State.takeHeader_eq]
    dsimp only
    rw [if_pos hcond, if_pos (by omega)]
  · rw [State.nlink_onLink s hn]
    rfl

end

section
variable {s : State} {n : Nat} (hn : n < 16)
include hn

theorem flitsOut_leaves (m : LinkMsg) (hs : (s.nlink n).sends = true) (hq : (s.nlink n).sendq = []) (htx : (s.nlink n).txSeq < 4096)
    (hroom : (s.nlink n).replayBuf.length < 128) (hstop : (s.nlink n).stopIn.getLsbD m.lane = false) :
    ∃ f, (s.toLink n m).linkOut = s.linkOut ++ [f] ∧ f.msg = some m ∧ flitWhole f.flit = true ∧
      f.flit.header.toNat / 2 ^ 3 % 2 ^ 12 = (s.nlink n).txSeq ∧ f.flit.header.toNat % 8 = m.lane ∧
      ((s.toLink n m).nlink n).replayBuf = (s.nlink n).replayBuf ++ [((s.nlink n).txSeq, m)] ∧
      ((s.toLink n m).nlink n).txSeq = ((s.nlink n).txSeq + 1) % 4096 := by
  obtain ⟨⟨t, hout⟩, hreplay, hseq⟩ := State.toLink_sent hn m hs hq hroom hstop
  rw [Nat.mod_eq_of_lt htx] at hout hreplay
  obtain ⟨-, hmsg, hwhole, hnum, hlane⟩ := t.flitOf_fields n (s.nlink n).txSeq m
  rw [Nat.mod_eq_of_lt htx] at hnum
  exact ⟨_, hout, hmsg, hwhole, hnum, hlane, hreplay, hseq⟩

theorem flitsOut_again {kept : List (Nat × LinkMsg)} {h : Nat} (hkept : (s.nlink n).unacked (h / 2 ^ 15 % 2 ^ 12) = kept)
    (hnak : h.testBit 27 = true) (hne : kept ≠ []) (hhead : kept.head? ≠ (s.nlink n).replayBuf.head?) :
    ((s.takeHeader n h).nlink n).replayBuf = kept ∧ ((s.takeHeader n h).nlink n).replays = 1 ∧
      ∃ fs, (s.takeHeader n h).linkOut = s.linkOut ++ fs ∧ fs.map LinkFlit.msg = kept.map (fun q => some q.2) ∧
        fs.map (fun f => f.flit.header.toNat / 2 ^ 3 % 2 ^ 12) = kept.map (fun q => q.1 % 4096) := by
  have hagain : (s.nlink n).again (h / 2 ^ 15 % 2 ^ 12) = 0 := by rw [NLink.again, hkept, if_neg hhead]
  obtain ⟨hreplay, hcount, t, hout⟩ := State.takeHeader_again hn hnak (hkept.symm ▸ hne) (by omega)
  rw [hkept] at hreplay hout
  have hmsg (q : Nat × LinkMsg) : (t.flitOf n q.1 q.2).msg = some q.2 := rfl
  have hnum (q : Nat × LinkMsg) : (t.flitOf n q.1 q.2).flit.header.toNat / 2 ^ 3 % 2 ^ 12 = q.1 % 4096 := by
    obtain ⟨-, -, -, h, -⟩ := t.flitOf_fields n q.1 q.2
    exact h
  refine ⟨hreplay, hcount.trans (by rw [hagain]), _, hout, ?_, ?_⟩
  · simp only [List.map_map, Function.comp_def, hmsg]
  · simp only [List.map_map, Function.comp_def, hnum]

theorem flitsOut_unanswered {h : Nat} (hnak : h.testBit 27 = true) (hbuf : (s.nlink n).replayBuf ≠ [])
    (hnone : ∀ q ∈ (s.nlink n).replayBuf, q.1 ≠ h / 2 ^ 15 % 2 ^ 12) :
    ((s.nlink n).replays < 7 → ((s.takeHeader n h).nlink n).replayBuf = (s.nlink n).replayBuf ∧
      ((s.takeHeader n h).nlink n).replays = (s.nlink n).replays + 1) ∧
    (7 ≤ (s.nlink n).replays → ∃ w : State, s.takeHeader n h = w.linkDown n ∧ w.mem = s.mem ∧ w.domOps = s.domOps ∧
      (w.nlink n).pairs = (s.nlink n).pairs) := by
  have hkeep := NLink.unacked_of_ne hnone
  have hagain : (s.nlink n).again (h / 2 ^ 15 % 2 ^ 12) = (s.nlink n).replays := by rw [NLink.again, hkeep, if_pos rfl]
  refine ⟨fun hlt => ?_, fun hle => State.takeHeader_falls hn hnak (hkeep.symm ▸ hbuf) (hagain.symm ▸ hle)⟩
  obtain ⟨hreplay, hcount, -⟩ := State.takeHeader_again hn hnak (hkeep.symm ▸ hbuf) (hagain.symm ▸ hlt)
  exact ⟨hreplay.trans hkeep, hcount.trans (by rw [hagain])⟩

end

theorem flitsOut : Claims.FlitsOut := by
  intro s n hn
  refine ⟨fun m hs hq htx => ⟨flitsOut_leaves hn m hs hq htx, State.toLink_waits hn m hs hq⟩, fun m hs => State.toLink_down hs m,
    fun kept gone q hl hgone h hack => ?_, fun h => flitsOut_unanswered hn⟩
  have hkept := NLink.unacked_of_split hl hgone
  rw [← hack] at hkept
  exact ⟨fun hnak hs _ hex hq => State.takeHeader_ack hn hkept hnak hs hex hq, flitsOut_again hn hkept⟩

end Sys2Proof.Machine
end

section
/-! SUPPORT. Paired slots, carried assertions, and the answers of a peer (R103, R389 to R391). -/

namespace Sys2Proof.Machine
open Sys2Proof.Claims

/-! ## REMOTE_SLOT_OPEN and REMOTE_SLOT_ANSWER -/

/-- Is the inbound domain of a link open to the peer's requests for slots (R76, R389, R391)? -/
theorem slotOpen_valid_iff (l : NLink) (e : Nat) : (!bitAt l.inCfg.toNat 63 || !bitAt e 63) = false ↔
    l.inCfg.getLsbD 63 = true ∧ e.testBit 63 = true := by
  rw [bitAt_toNat, bitAt_eq_testBit]
  simp

section
variable {s : State} {n p : Nat} (hact : (s.nlink n).state = .active)
include hact

theorem remoteSlotOpen_invalid (h : ¬((s.nlink n).inCfg.getLsbD 63 = true ∧ (s.dirEntry (s.nlink n).domain).testBit 63 = true)) :
    Does (.remoteSlotOpen n p) s (s.toLink n (.slotAnswer n p false 0)) := by
  rw [← slotOpen_valid_iff, Bool.not_eq_false] at h
  simp [Does, exec_remoteSlotOpen, execRemoteSlotOpen, hact, h]

variable (hv : (s.nlink n).inCfg.getLsbD 63 = true ∧ (s.dirEntry (s.nlink n).domain).testBit 63 = true)
  (hr : s.resident (s.domBase (s.nlink n).domain) = true)
include hv hr

theorem remoteSlotOpen_none (h : s.lowestFree (s.nlink n).domain = none) :
    Does (.remoteSlotOpen n p) s (s.toLink n (.slotAnswer n p false 0)) := by
  rw [← slotOpen_valid_iff] at hv
  simp [Does, exec_remoteSlotOpen, execRemoteSlotOpen, hact, hv, hr, h]

variable {k : Nat} (hk : s.lowestFree (s.nlink n).domain = some k)
include hk

theorem remoteSlotOpen_opens (hpairs : (s.nlink n).pairs.length < 64)
    (hroom : s.domNgCount (s.nlink n).domain ≤ 64 - (s.pairedOpen (s.nlink n).domain none + 1)) :
    Does (.remoteSlotOpen n p) s (((s.openSlot (s.nlink n).domain k).onLink n (fun l => { l with
      pairs := l.pairs ++ [((s.nlink n).domain, k, p)] })).toLink n (.slotAnswer n p true k)) := by
  rw [← slotOpen_valid_iff] at hv
  have hfit : (decide (64 ≤ (s.nlink n).pairs.length) ||
      decide (64 - (s.pairedOpen (s.nlink n).domain none + 1) < s.domNgCount (s.nlink n).domain)) = false := by
    rw [decide_eq_false (by omega), decide_eq_false (by omega), Bool.or_false]
  simp only [Does, exec_remoteSlotOpen, execRemoteSlotOpen, hact, hv, hr, hk, hfit, bne_self_eq_false, Bool.not_true, Bool.false_eq_true,
    ↓reduceIte]

theorem remoteSlotOpen_full (h : 64 ≤ (s.nlink n).pairs.length ∨
      64 - (s.pairedOpen (s.nlink n).domain none + 1) < s.domNgCount (s.nlink n).domain) :
    Does (.remoteSlotOpen n p) s (s.toLink n (.slotAnswer n p false 0)) := by
  rw [← slotOpen_valid_iff] at hv
  have hfull : (decide (64 ≤ (s.nlink n).pairs.length) ||
      decide (64 - (s.pairedOpen (s.nlink n).domain none + 1) < s.domNgCount (s.nlink n).domain)) = true := by
    rw [Bool.or_eq_true, decide_eq_true_iff, decide_eq_true_iff]
    exact h
  simp only [Does, exec_remoteSlotOpen, execRemoteSlotOpen, hact, hv, hr, hk, hfull, bne_self_eq_false, Bool.not_true, Bool.false_eq_true,
    ↓reduceIte]

end

section
variable {s : State} {n id p k : Nat} {o : DomOp}
  (hf : s.domOps.find? (fun o => o.id == id && o.kind == 1 && o.link == n) = some o) (hk : o.slot = some k)
include hf hk

theorem remoteSlotAnswer_pairs : Does (.remoteSlotAnswer n id true p) s
    ((s.onLink n (fun l => { l with pairs := l.pairs ++ [(o.dom, k, p)] })).answerOp { o with slot := none, res := BitVec.ofNat 64 k }) := by
  simp [Does, exec_remoteSlotAnswer, execRemoteSlotAnswer, hf, hk]

theorem remoteSlotAnswer_frees : Does (.remoteSlotAnswer n id false p) s
    ((s.closeSlot o.dom k).answerOp { o with slot := none, res := 0xFFFFFFFFFFFFFFFF#64 }) := by
  simp [Does, exec_remoteSlotAnswer, execRemoteSlotAnswer, hf, hk, allOnes64]

end

/-! ## REMOTE_ASSERT and ASSERT_ACK -/

theorem remoteAssert_asserts {s : State} {n k : Nat} {p : Nat × Nat × Nat} (hact : (s.nlink n).state = .active)
    (hp : (s.nlink n).assertedPair k = some p) (hr : s.resident (s.domBase p.1) = true) :
    Does (.remoteAssert n k) s ((s.assertSlot p.1 k).toLink n (.assertAck n k)) := by
  simp [Does, exec_remoteAssert, execRemoteAssert, hact, hp, hr]

/-- Is an operation the ASSERT that the peer acknowledges for its slot `k`? -/
def State.ackOf (s : State) (n k : Nat) (o : DomOp) : Bool :=
  o.kind == 3 && o.link == n && (match o.slot with
    | none => false
    | some j => (s.nlink n).pairs.contains (o.dom, j, k))

theorem assertAck_asserts {s : State} {n k i : Nat} {o : DomOp} (hf : s.domOps.find? (s.ackOf n k) = some o) (hi : o.slot = some i) :
    Does (.assertAck n k) s ((s.assertSlot o.dom i).answerOp
      { o with slot := none, res := 0#64, change := [.assert ((s.assertSlot o.dom i).domUpdate o.dom) i] }) := by
  rw [Does, exec_assertAck]
  unfold execAssertAck
  dsimp only
  split
  case _ h => cases hf.symm.trans h
  case _ o' h =>
    obtain rfl : o = o' := Option.some.inj (hf.symm.trans h)
    rw [hi, Option.getD_some]

/-! ## REMOTE_ACCESS_ANSWER -/

section
variable {s : State} {id : Nat} {ws : List (Word × List Dword × Handle)} {r : Req} {n : Nat} (hreq : s.req id = some r) (hl : r.link = some n)
include hreq hl

theorem remoteAccessAnswer_fails : Does (.remoteAccessAnswer id false ws) s
    ((s.onReq id (fun q => { q with link := none })).parkReq { r with link := none } 2) := by
  simp [Does, exec_remoteAccessAnswer, execRemoteAccessAnswer, hreq, hl]

theorem remoteAccessAnswer_completes : Does (.remoteAccessAnswer id true ws) s (
    let y := s.onReq id (fun q => { q with link := none })
    let x := y.inWords (y.reqDomain r) ws
    x.1.answered { r with link := none } x.2) := by
  simp [Does, exec_remoteAccessAnswer, execRemoteAccessAnswer, hreq, hl, State.reqDomain]

end

/-- An answer by the kind of the request (R389). -/
theorem State.answered_eq (s : State) (r : Req) (ws : List LWord) :
    (r.op = .store ∨ r.op = .strel ∨ r.op = .tlsig → s.answered { r with link := none } ws = s.dropReq r.id) ∧
    (r.op = .load ∨ r.op = .pref → s.answered { r with link := none } ws = (s.onReq r.id (fun q => { q with
       words := ws, data := BitVec.ofNat 64 s.now, cmp := (s.writersOf (r.core / 8) (r.va / 64)).setWidth 64, away := true })).plan
         (homePath r.core r.va) 0 .nearCacheFill { a := r.id }) ∧
    (∀ m a, r.op = .peer m a → s.answered { r with link := none } ws = (s.dropReq r.id).passOn m a r.va ws) := by
  refine ⟨?_, ?_, fun m a h => ?_⟩
  · rintro (h | h | h) <;> simp [State.answered, h]
  · rintro (h | h) <;> simp [State.answered, h]
  · simp [State.answered, h]

/-! ## What a link's end leaves of a domain operation -/

/-- Had the link not sent the assertion of slot `k` when it left ACTIVE? -/
def State.unsent (s : State) (n : Nat) (q : List LinkMsg) (dom k : Nat) : Bool :=
  (s.pairOf dom k).any (fun p => q.contains (.assertSlot n p.2))

/-- The state once a slot is retracted, where it can be. -/
def State.retracted (s : State) (dom k : Nat) : State := (s.retractSlot dom k).elim (fun _ => s) id

theorem State.unsent_iff (s : State) (n : Nat) (q : List LinkMsg) (dom k : Nat) : s.unsent n q dom k = true ↔
    ∃ p, s.pairOf dom k = some p ∧ LinkMsg.assertSlot n p.2 ∈ q := by
  rw [State.unsent, Option.any_eq_true]
  simp only [List.contains_iff_mem]

section
variable {s : State} {n k : Nat} {q : List LinkMsg} {o : DomOp} (hk : o.slot = some k) (hl : o.link = n)
include hk hl

theorem State.dropDomOp_anew (h : o.kind = 1) : s.dropDomOp n q o =
    (s.closeSlot o.dom k).answerOp { o with slot := none, res := 0xFFFFFFFFFFFFFFFF#64 } := by
  simp [State.dropDomOp, hk, hl, h, allOnes64]

theorem State.dropDomOp_assert (h : o.kind ≠ 1) : ∃ (w : State) (c : List Change) (x : Dword), s.dropDomOp n q o =
      w.answerOp { o with slot := none, change := c, res := x } ∧
    ((∃ p, s.pairOf o.dom k = some p ∧ LinkMsg.assertSlot n p.2 ∈ q) → x = 1#64) ∧
    (¬(∃ p, s.pairOf o.dom k = some p ∧ LinkMsg.assertSlot n p.2 ∈ q) → x = 2#64) := by
  rw [← State.unsent_iff]
  refine ⟨s.retracted o.dom k, [.nogood ((s.retracted o.dom k).domUpdate o.dom) (slotBit k)], if s.unsent n q o.dom k then 1#64 else 2#64, ?_,
    fun hu => if_pos hu, fun hu => if_neg hu⟩
  cases hp : s.pairOf o.dom k <;> cases hr : s.retractSlot o.dom k <;>
    simp [State.dropDomOp, hk, hl, h, hp, hr, State.unsent, State.retracted]

end

theorem pairedSlots : Claims.PairedSlots := by
  intro s
  refine ⟨fun n p hact => ⟨remoteSlotOpen_invalid hact, fun hv hr => ⟨remoteSlotOpen_none hact hv hr, fun k hk =>
    ⟨remoteSlotOpen_opens hact hv hr hk, remoteSlotOpen_full hact hv hr hk⟩⟩⟩, fun n k p => remoteAssert_asserts,
    fun n k o i hf hi => ⟨_, assertAck_asserts hf hi⟩, fun n id ok p o k hf hk => ?_, fun id ws r n hreq hl => ?_, fun n q o k hk hl => ?_⟩
  · refine ⟨fun h => ?_, fun h => ?_⟩ <;> subst h
    · exact remoteSlotAnswer_pairs hf hk
    · exact remoteSlotAnswer_frees hf hk
  · have hd := remoteAccessAnswer_completes (ws := ws) hreq hl
    obtain ⟨hstore, hload, hpeer⟩ := State.answered_eq
      ((s.onReq id (fun q => { q with link := none })).inWords ((s.onReq id (fun q => { q with link := none })).reqDomain r) ws).1 r
      ((s.onReq id (fun q => { q with link := none })).inWords ((s.onReq id (fun q => { q with link := none })).reqDomain r) ws).2
    exact ⟨remoteAccessAnswer_fails hreq hl, fun h => hstore h ▸ hd, fun h => hload h ▸ hd, fun m a h => hpeer m a h ▸ hd⟩
  · exact ⟨State.dropDomOp_anew hk hl, State.dropDomOp_assert hk hl⟩

end Sys2Proof.Machine
end

section
/-! SUPPORT. A peer's accesses through the inbound window (R34, R389). -/

namespace Sys2Proof.Machine
open Sys2Proof.Claims

theorem peerReads_iff (a : RemoteAccess) : peerReads a = true ↔ a.kind = 0 ∨ a.kind = 3 ∨ (16 ≤ a.kind ∧ a.kind < 32) := by
  simp [peerReads, or_assoc]

/-- What the inbound window lets through (R389). -/
theorem NLink.allows_iff (l : NLink) (a : RemoteAccess) : l.allows a = true ↔ l.inCfg.getLsbD 63 = true ∧
    a.off + a.width ≤ l.inCfg.toNat % 2 ^ 40 ∧
    (a.kind = 0 ∨ a.kind = 3 ∨ (16 ≤ a.kind ∧ a.kind < 32) → l.inCfg.getLsbD 62 = true) ∧
    (a.kind ≠ 0 → l.inCfg.getLsbD 61 = true) ∧ (a.envs ≠ [] ∨ isVoid a.void = true → l.inCfg.getLsbD 60 = true) := by
  have hsize : bits l.inCfg.toNat 39 0 = l.inCfg.toNat % 2 ^ 40 := by
    rw [bits]
    omega
  have hlabel : ((a.envs.isEmpty && !isVoid a.void) = true) ↔ ¬(a.envs ≠ [] ∨ isVoid a.void = true) := by simp
  rw [← peerReads_iff, NLink.allows]
  simp only [Bool.and_eq_true, decide_eq_true_eq, hsize, bitAt_toNat, Bool.or_eq_true, Bool.not_eq_true', hlabel, peerWrites,
    bne_eq_false_iff_eq, and_assoc, imp_iff_not_or, Bool.not_eq_true, ne_eq, not_not]

/-- The address that a peer's access names (R389). -/
def State.peerVa (s : State) (n : Nat) (acc : RemoteAccess) : Nat := (s.nlink n).inBase.toNat + acc.off

/-- The request of a peer's access. -/
def State.peerReq (s : State) (n : Nat) (acc : RemoteAccess) : Req :=
  s.outsideReq (s.peerTenant n (s.peerVa n acc)) (.peer n acc) (s.peerVa n acc) acc.width acc.data

/-- The state that holds it. -/
def State.peerSent (s : State) (n : Nat) (acc : RemoteAccess) : State := { s with nextId := s.nextId + 1, reqs := s.reqs ++ [s.peerReq n acc] }

section
variable {s : State} {n : Nat} {acc : RemoteAccess}

theorem remoteWindowAccess_off (h : (s.nlink n).state ≠ .active ∨ s.railOff = true) : Does (.remoteWindowAccess n acc) s s := by
  simp [Does, exec_remoteWindowAccess, execRemoteWindowAccess, h]

variable (hact : (s.nlink n).state = .active) (hr : s.railOff = false)
include hact hr

theorem remoteWindowAccess_fails (h : (s.nlink n).allows acc = false ∨ 0xC0000000000000 ≤ s.peerVa n acc) :
    Does (.remoteWindowAccess n acc) s (s.toLink n (.answer n false [])) := by
  have hno : (!(s.nlink n).allows acc || !isGlobal (s.peerVa n acc)) = true := by simpa [isGlobal] using h
  rw [State.peerVa] at hno
  simp only [Does, exec_remoteWindowAccess, execRemoteWindowAccess, hact, hr, hno, bne_self_eq_false, Bool.or_self, Bool.false_eq_true,
    ↓reduceIte, State.answerPeer]

theorem remoteWindowAccess_goes (ha : (s.nlink n).allows acc = true) (hva : s.peerVa n acc < 0xC0000000000000) :
    Does (.remoteWindowAccess n acc) s ((s.peerSent n acc).homeGlobal (s.peerReq n acc)) := by
  have hyes : (!(s.nlink n).allows acc || !isGlobal (s.peerVa n acc)) = false := by simp [isGlobal, ha, hva]
  rw [State.peerVa] at hyes
  simp only [Does, exec_remoteWindowAccess, execRemoteWindowAccess, hact, hr, hyes, bne_self_eq_false, Bool.or_self, Bool.false_eq_true,
    ↓reduceIte]
  rfl

end

/-! ## At its home -/

section
variable (s u : State) (n : Nat) (acc : RemoteAccess)

theorem State.reqTenant_peerReq : u.reqTenant (s.peerReq n acc) = s.peerTenant n (s.peerVa n acc) := by
  simp [State.reqTenant, State.peerReq, Req.outside, State.outsideReq, outsideCore]

/-- A peer's access waits for no other request. -/
theorem State.blocked_peerReq : u.blocked (s.peerReq n acc) = false := by
  simp [State.blocked, State.peerReq, State.outsideReq, Req.lblNow, isPend]

/-- The gate of a peer's access. -/
theorem State.gate_peerReq : u.gate (u.reqTenant (s.peerReq n acc)) (!(s.peerReq n acc).isLoad) (s.peerReq n acc).va =
    u.gate (s.peerTenant n (s.peerVa n acc)) (acc.kind != 0) (s.peerVa n acc) := by
  rw [State.reqTenant_peerReq]
  rfl

end

section
variable {s u : State} {n : Nat} {acc : RemoteAccess} {e : Option TEntry} (he : ∀ x, e = some x → x.leaf.hl = false)
include he

theorem any_hl_eq_false : e.any (fun x => x.leaf.hl) = false := by
  cases e with
  | none => rfl
  | some x => exact he x rfl

/-- Performed on a line of this module it is answered with its words (R389). -/
theorem State.performHome_peerReq {w : State} {ws : List (Word × List Dword × Handle)}
    (hw : (u.peerLabel (s.peerReq n acc)).1.peerEffect n e (s.peerVa n acc) acc (u.peerLabel (s.peerReq n acc)).2 = some (w, ws)) :
    u.performHome (s.peerReq n acc) e = (w.dropReq (s.peerReq n acc).id).toLink n (.answer n true ws) := by
  have hany := any_hl_eq_false he
  have hhome : u.performHome (s.peerReq n acc) e = u.performPeer (s.peerReq n acc) n acc e := by
    unfold State.performHome
    simp only [hany, Bool.and_false, Bool.false_eq_true, ↓reduceIte]
    rfl
  have hva : (s.peerReq n acc).va = s.peerVa n acc := rfl
  rw [hhome]
  unfold State.performPeer
  simp only [hva, hw, hany, Bool.and_false, Bool.false_eq_true, ↓reduceIte, State.answerPeer]

end

/-- A read answers with the words in the peer's labels (R389, R391). -/
theorem State.peerEffect_read (u : State) (n : Nat) (e : Option TEntry) (va : Nat) {acc : RemoteAccess} (hk : acc.kind = 0) (h : Handle) :
    u.peerEffect n e va acc h =
      some (u, (List.range (max 1 (acc.width / 4))).map (fun i => u.outWord n (u.linkDomain n) e (va + 4 * i))) := if_pos hk

/-- A word written under TRUE is written as it is (R34). -/
theorem State.peerEffect_write (u : State) (n : Nat) (e : Option TEntry) (va : Nat) {acc : RemoteAccess} (hk : acc.kind = 1)
    (hwidth : acc.width = 4) : u.peerEffect n e va acc 0x0000#16 = some ((u.setSlot va (acc.data.setWidth 32) 0x0000#16).touched va, []) := by
  simp [State.peerEffect, State.peerStore, State.putHere, State.accept, hk, hwidth, hTrue]

section
variable {u : State} {va : Nat}

theorem State.slotWord_written {x : Line} (hx : u.line (va / 64) = some x) (h16 : x.words.length = 16) (w : Word) :
    ((u.setSlot va w 0x0000#16).touched va).slotWord va = (w, 0x0000#16) :=
  (State.slotWord_eq_of_lines (State.touched_parts _ va).1 va).trans (State.slotWord_setSlot_same hx h16 w _)

theorem State.slotWord_written_ne (u : State) {a : Nat} (h : a / 4 ≠ va / 4) (w : Word) :
    ((u.setSlot va w 0x0000#16).touched va).slotWord a = u.slotWord a :=
  (State.slotWord_eq_of_lines (State.touched_parts _ va).1 a).trans (State.slotWord_setSlot_ne u h w _)

end

theorem peerAccesses : Claims.PeerAccesses := by
  intro s n acc
  refine ⟨NLink.allows_iff _ _, remoteWindowAccess_off, fun hact hr => remoteWindowAccess_fails hact hr, fun hact hr ha hva => ?_⟩
  have hd := remoteWindowAccess_goes hact hr ha hva
  have hb := s.blocked_peerReq (s.peerSent n acc) n acc
  have hg := s.gate_peerReq (s.peerSent n acc) n acc
  refine ⟨fun h => ?_, fun k h => ?_, fun h => ?_, fun e w ws h he hw => ?_, fun e _ _ => ⟨fun hk => State.peerEffect_read _ n e _ hk _,
    fun hk hwidth _ _ x hx h16 => ⟨_, State.peerEffect_write _ n e _ hk hwidth, ?_, ?_, fun a hne => ?_⟩⟩⟩
  · rwa [State.homeGlobal_walk hb (hg.trans h)] at hd
  · rwa [State.homeGlobal_park hb (hg.trans h)] at hd
  · rw [State.homeGlobal_rights hb (hg.trans h)] at hd
    exact ⟨_, hd, rfl⟩
  · rwa [State.homeGlobal_ready hb (hg.trans h) rfl, State.performHome_peerReq (u := s.peerSent n acc) he hw] at hd
  · exact State.slotWord_written (u := s.peerSent n acc) hx h16 _
  · exact (State.touched_mem _ _).trans (State.setSlot_mem _ _ _ _)
  · exact (State.slotWord_written_ne _ hne _).trans (State.slotWord_eq_of_lines rfl a)

end Sys2Proof.Machine
end

section
open Sys2Proof Sys2Proof.Machine Sys2Proof.Claims

/-- Settles O58: training by what a link's record is after each step; flits in by STOP and the header's fields; flits out by what leaves of
the queue and stays in the replay buffer; a peer's access by the gate's outcome; pairs and answers by their step. -/
theorem linkSteps : Obligations.LinkSteps := ⟨training, flitsIn, flitsOut, peerAccesses, pairedSlots⟩

end
